-- ==== Sys2Proof/Word.lean ====
section
/-! DEFINITION. Word: the word types of the model and their plainest arithmetic. -/

namespace Sys2Proof

/-- One byte of memory. -/
abbrev Byte := BitVec 8

/-- The value of a register: every register is 64 bits wide (R6). -/
abbrev Word64 := BitVec 64

/-- A raw plate command: 32 bytes read as one little-endian word (R4, R95). -/
abbrev CmdWord := BitVec 256

/-- A raw descriptor: 64 bytes read as one little-endian word (R4, R283). -/
abbrev DescWord := BitVec 512

/-- Bits `[lo + w - 1 : lo]` of a number (R4: bit 0 is least significant). -/
def bitsOf (x lo w : Nat) : Nat := (x >>> lo) % 2 ^ w

/-- Bit `i` of a number. -/
def bitOf (x i : Nat) : Bool := x.testBit i

/-- `x` with bits `[lo + w - 1 : lo]` replaced by `v mod 2^w`. -/
def putBits (x lo w v : Nat) : Nat :=
  x - ((bitsOf x lo w) <<< lo) + ((v % 2 ^ w) <<< lo)

/-- The two's-complement reading of the low `w` bits of `x`. -/
def signedOf (x w : Nat) : Int :=
  let y := x % 2 ^ w
  if y < 2 ^ (w - 1) then (y : Int) else (y : Int) - (2 ^ w : Nat)

/-- The low `w` bits of an integer, as a number. -/
def unsignedOf (x : Int) (w : Nat) : Nat := (x % ((2 ^ w : Nat) : Int)).toNat

/-- R7: a `w`-bit count field whose stated range is 1 to 2^w holds 2^w as 0. -/
def countOf (x w : Nat) : Nat := if x % 2 ^ w = 0 then 2 ^ w else x % 2 ^ w

/-- Little-endian bytes of a number (R4). -/
def leBytes : Nat → Nat → List Nat
  | 0, _ => []
  | n + 1, x => x % 256 :: leBytes n (x / 256)

/-- The number spelled by little-endian bytes (R4). -/
def ofLe : List Nat → Nat
  | [] => 0
  | b :: bs => b % 256 + 256 * ofLe bs

/-- `⌈a / b⌉`. -/
def ceilDiv (a b : Nat) : Nat := (a + b - 1) / b

/-- `x` raised to the next multiple of `m`. -/
def roundUp (x m : Nat) : Nat := ceilDiv x m * m

/-- Addition that sticks at a maximum. -/
def satAdd (x d top : Nat) : Nat := if x + d ≤ top then x + d else top

/-- Exclusive or of numbers below `2^w`. -/
def xorNat (a b : Nat) : Nat := a ^^^ b

end Sys2Proof
end

