-- ==== Sys2Proof/Syntax.lean ====
section
/-! DEFINITION. Syntax: the commands of the block, one constructor for each row of the spec's table of operations and
events, with the operands each carries from outside. -/

namespace Sys2Proof

/-- A plate command as a sequencer issues it: the plate, its position in the plate program, its 32 bytes (R95). -/
structure PlateCmd where
  plate : Nat
  index : Nat
  word : CmdWord
  deriving DecidableEq, Repr

/-- One direction of one UCIe module: `up` is the direction toward ZD on links 1 and 2, toward CD0 on link 0. -/
structure UciePort where
  link : Nat
  module : Nat
  up : Bool
  deriving DecidableEq, Repr

/-- R26: a header cell, field by field.
FLAGS: bit 0 ERR, bit 1 RETRY, bit 2 POISON, bit 3 SYS. -/
structure UcieHdr where
  typ : Nat
  flags : Nat
  len : Nat
  cls : Nat
  part : Nat
  tag : Nat
  addr : Nat
  word : Nat
  deriving DecidableEq, Repr

/-- R328: a TIME message: strobe number, RATE and LOAD. -/
structure TimeMsg where
  strobe : Nat
  rate : Int
  load : Bool
  deriving DecidableEq, Repr

/-- What a background read found in a line: no error, a corrected one, or an uncorrectable one. -/
inductive Ecc where
  | clean | corrected | bad
  deriving DecidableEq, Repr

/-- A PTP Sync as received: sequence number, origin stamp (one-step), receive stamp, two-step flag; stamps in ns. -/
structure SyncMsg where
  seq : Nat
  t1 : Nat
  rx : Nat
  twoStep : Bool
  deriving DecidableEq, Repr

/-- A PTP Announce: timescale, stepsRemoved, clockClass, clockAccuracy, currentUtcOffset (R332). -/
structure AnnMsg where
  ptpScale : Bool
  steps : Nat
  clockClass : Nat
  clockAccuracy : Nat
  utcOffset : Nat
  deriving DecidableEq, Repr

/-- A received LLDPDU (R351): is the Santozor TLV there, and what it holds; its time to live in seconds. -/
structure LldpMsg where
  isEngine : Bool
  chassis : Nat
  system : Nat
  engine : Nat
  half : Nat
  job : Nat
  ttl : Nat
  deriving DecidableEq, Repr

/-- What the port finds out about a received CBT frame (R359), and its header fields (R357): the results of the FCS,
MACsec, address and CRC-32C checks and of check 4, the ECN mark, CLASS, the partitions, the engines and EPOCH. -/
structure CbtHdr where
  fcsOk : Bool
  macsecOk : Bool
  addrOk : Bool
  crcOk : Bool
  wellFormed : Bool
  ecn : Bool
  cls : Nat
  srcPart : Nat
  dstPart : Nat
  srcEngine : Nat
  dstEngine : Nat
  epoch : Nat
  deriving DecidableEq, Repr

/-- A received CBT DATA block (R357). -/
structure CbtMsg where
  hdr : CbtHdr
  seq : Nat
  msg : Nat
  offset : Nat
  last : Bool
  poison : Bool
  expo : Nat
  attempt : Nat
  body : List Byte
  deriving DecidableEq, Repr

/-- A received CBT ACK (R360), its partitions and engines as its header holds them. -/
structure CbtAckMsg where
  hdr : CbtHdr
  cum : Nat
  bitmap : Nat
  deriving DecidableEq, Repr

/-- A whole Carrier message delivered to a partition, header and body (R372), with its CBT attempt and whether a block
of it was POISON. -/
structure CarrMsg where
  attempt : Nat
  poison : Bool
  body : List Byte
  deriving DecidableEq, Repr

/-- A PAIR or CONTROL message (R412). -/
structure PairMsg where
  attempt : Nat
  flags : Nat
  srcRank : Nat
  dstRank : Nat
  expo : Nat
  seq : Nat
  body : List Byte
  deriving DecidableEq, Repr

/-- What R409 compares at the partner. -/
structure PartnerView where
  role : Bool
  mode : Nat
  digest : Nat
  goldId : Nat
  deriving DecidableEq, Repr

/-- Results of a step wedge calibration (R421): a half with its new latencies, and out-of-limit items, a UCIe module by link
and number. -/
structure WedgeResult where
  half : Nat
  txLat : Nat
  rxLat : Nat
  fecHigh : Bool
  ucieLow : Option (Nat × Nat)
  voltLow : Bool
  pllOff : Bool
  deriving DecidableEq, Repr

/-- What the boot code finds for one bank: is the lid latch open, is the vault sound, the verified image's SVN in
each bank, or none, and the digests of the loader or firmware it loads and of the microcode images CD0, CD1, ZD. -/
structure BootScan where
  lidOpen : Bool
  vaultOk : Bool
  bankA : Option Nat
  bankB : Option Nat
  digest : Nat
  ucode : List Nat
  deriving DecidableEq, Repr

/-- What the slow power loop reads (R459): the hottest junction, has one been above 115 °C for 1 ms, the 100 ms mean of
the input power, and each partition's estimated power (W). -/
structure SlowLoop where
  tjC : Nat
  overTemp : Bool
  p100W : Nat
  partW : List Nat
  deriving DecidableEq, Repr

/-- How a Vetas command came in: over the out-of-band network with a verified operator, or over I3C, with its
sequence number. -/
structure VetasCtx where
  i3c : Bool
  seq : Nat
  deriving DecidableEq, Repr

/-- A firmware component offered over PLDM. -/
structure FwComp where
  svn : Nat
  sigOk : Bool
  digest : Nat
  deriving DecidableEq, Repr

/-- A POST of a front-end stream (R302): path as its opcode (0 for an unknown path), headers and body. -/
structure PostReq where
  stream : Nat
  opc : Nat
  deadline : Nat
  context : Nat
  flags : Nat
  target : Nat
  ttl : Nat
  body : List Byte
  deriving DecidableEq, Repr


/-- The commands of the block: one constructor for each row of the spec's table of operations and
events; those without operands stand last. [DESIGN CHOICE, log entry 74] -/
inductive Instr where
  /-- REGISTER_WRITE (R8). -/
  | registerWrite (addr : Nat) (size : Nat) (val : Word64)
  /-- NOP (R27). -/
  | nopMsg (at_ : UciePort)
  /-- RD_REQ (R27). -/
  | rdReq (at_ : UciePort) (h : UcieHdr)
  /-- RD_CPL (R30). -/
  | rdCpl (at_ : UciePort) (h : UcieHdr) (data : List Byte)
  /-- WR (R30). -/
  | wr (at_ : UciePort) (h : UcieHdr) (data : List Byte)
  /-- WR_ACK (R30). -/
  | wrAck (at_ : UciePort) (h : UcieHdr)
  /-- DOORBELL (R281). -/
  | doorbell (at_ : UciePort) (h : UcieHdr) (data : List Byte)
  /-- EVENT (R393). -/
  | event (at_ : UciePort) (h : UcieHdr) (data : List Byte)
  /-- CREDIT (R29). -/
  | credit (at_ : UciePort) (c0 c1 c2 : Nat)
  /-- TIME (R328). -/
  | time (die : Nat) (m : TimeMsg)
  /-- CELL_ALIGNMENT_LOST (R31). -/
  | cellAlignmentLost (at_ : UciePort)
  /-- UCIE_RETRAIN_COMPLETE (R31). -/
  | ucieRetrainComplete (link module : Nat) (repaired : Nat)
  /-- UCIE_RETRAIN_TIMEOUT (R32). -/
  | ucieRetrainTimeout (link module : Nat)
  /-- UCIE_MESSAGE_SEND (R29). -/
  | ucieMessageSend (link : Nat) (up : Bool) (h : UcieHdr) (data : List Byte)
  /-- GRAIN_LOAD (R98). -/
  | grainLoad (c : PlateCmd)
  /-- GRAIN_PASS (R99). -/
  | grainPass (c : PlateCmd)
  /-- PROMOTION (R82). -/
  | promotion (plate group strip : Nat)
  /-- GRAIN_LOAD_KEYS (R100). -/
  | grainLoadKeys (c : PlateCmd)
  /-- ACC_OPEN (R88). -/
  | accOpen (c : PlateCmd)
  /-- ACC_PROMOTE (R82). -/
  | accPromote (c : PlateCmd)
  /-- ACC_DRAIN (R90). -/
  | accDrain (c : PlateCmd)
  /-- ACC_QUANT (R92). -/
  | accQuant (c : PlateCmd)
  /-- ACC_CLOSE (R88). -/
  | accClose (c : PlateCmd)
  /-- ACC_DEBUG_READ (R104). -/
  | accDebugRead (c : PlateCmd)
  /-- SAFE_GEMM (R115). -/
  | safeGemm (c : PlateCmd)
  /-- SAFE_ROWOP (R117). -/
  | safeRowop (c : PlateCmd)
  /-- SAFE_LOWRANK (R119). -/
  | safeLowrank (c : PlateCmd)
  /-- BURN_SCAN (R123). -/
  | burnScan (c : PlateCmd)
  /-- BURN_DECIDE (R124). -/
  | burnDecide (c : PlateCmd)
  /-- BURN_APPLY (R127). -/
  | burnApply (c : PlateCmd)
  /-- BURN_PRODUCT (R128). -/
  | burnProduct (c : PlateCmd)
  /-- BURN_BRANCH (R129). -/
  | burnBranch (c : PlateCmd)
  /-- AGIT_ROTATE (R135). -/
  | agitRotate (c : PlateCmd)
  /-- TRAY_COPY (R157). -/
  | trayCopy (c : PlateCmd)
  /-- TRAY_GATHER (R158). -/
  | trayGather (c : PlateCmd)
  /-- TRAY_BCAST (R159). -/
  | trayBcast (c : PlateCmd)
  /-- TRAY_FILL (R160). -/
  | trayFill (c : PlateCmd)
  /-- TRAY_POWER (R161). -/
  | trayPower (c : PlateCmd)
  /-- TRAY_PWR_SLEEP (R164). -/
  | trayPwrSleep (plate : Nat) (mask : Word64)
  /-- TRAY_PWR_WAKE (R165). -/
  | trayPwrWake (plate : Nat) (mask : Word64)
  /-- BANK_ISOLATED (R164). -/
  | bankIsolated (plate bank : Nat)
  /-- TRAY_PD_ABORT (R164). -/
  | trayPdAbort (plate bank : Nat)
  /-- BANK_AWAKE (R165). -/
  | bankAwake (plate bank : Nat)
  /-- WASH_TRAY_READ (R167). -/
  | washTrayRead (plate off : Nat) (ecc : Ecc)
  /-- WASH_FORCED (R167). -/
  | washForced (plate off : Nat) (ecc : Ecc)
  /-- WASH_WRITE_BACK (R167). -/
  | washWriteBack (plate off : Nat)
  /-- SEM_TIMEOUT (R149). -/
  | semTimeout (plate index : Nat)
  /-- DODGE_SPMM (R180). -/
  | dodgeSpmm (c : PlateCmd)
  /-- DODGE_CHECK (R190). -/
  | dodgeCheck (c : PlateCmd)
  /-- ENL_FETCH (R195). -/
  | enlFetch (c : PlateCmd)
  /-- ENL_DEVELOP (R201). -/
  | enlDevelop (c : PlateCmd)
  /-- ENL_MERGE (R204). -/
  | enlMerge (c : PlateCmd)
  /-- LAT_PLIST (R231). -/
  | latPlist (c : PlateCmd)
  /-- LAT_WRITE (R232). -/
  | latWrite (c : PlateCmd)
  /-- LAT_ADMIT (R222). -/
  | latAdmit (part : Nat) (w : CmdWord)
  /-- LAT_PARK (R244). -/
  | latPark (part : Nat) (w : CmdWord)
  /-- LAT_PARK_MOVE_END (R244). -/
  | latParkMoveEnd (slot : Nat) (ok : Bool)
  /-- PARKED_EXPIRY (R245). -/
  | parkedExpiry (part : Nat)
  /-- LAT_RESUME (R246). -/
  | latResume (part : Nat) (w : CmdWord)
  /-- LAT_END (R247). -/
  | latEnd (part : Nat) (w : CmdWord)
  /-- LAT_END_CANCEL (R247). -/
  | latEndCancel (part : Nat) (w : CmdWord)
  /-- LOUPE_SAMPLE (R238). -/
  | loupeSample (c : PlateCmd)
  /-- EXPOSURE_TICK (R251). -/
  | exposureTick (part : Nat)
  /-- EXPOSURE_RELEASE (R251). -/
  | exposureRelease (part : Nat)
  /-- ADMISSION_CUTOFF (R252). -/
  | admissionCutoff (part : Nat)
  /-- EXPOSURE_COMMIT (R255). -/
  | exposureCommit (part : Nat)
  /-- PART_CREATE (R259). -/
  | partCreate (part : Nat)
  /-- PART_START (R260). -/
  | partStart (part : Nat)
  /-- PART_STOP (R260). -/
  | partStop (part : Nat)
  /-- PART_DESTROY (R260). -/
  | partDestroy (part : Nat)
  /-- CONTEXT_START (R265). -/
  | contextStart (ctx : Nat)
  /-- QUANTUM_EXPIRY (R264). -/
  | quantumExpiry (ctx : Nat)
  /-- SWAP_DECISION (R269). -/
  | swapDecision (part : Nat)
  /-- SWAP_COMPLETE (R267). -/
  | swapComplete (ctx : Nat)
  /-- PLATE_COMMAND_FETCH (R261). -/
  | plateCommandFetch (plate count : Nat)
  /-- SEQ_NOP (R270). -/
  | seqNop (c : PlateCmd)
  /-- SEQ_END (R270). -/
  | seqEnd (c : PlateCmd)
  /-- SEQ_AT (R270). -/
  | seqAt (c : PlateCmd)
  /-- SEQ_AT_REACHED (R270). -/
  | seqAtReached (plate : Nat)
  /-- SEQ_WINDOW (R270). -/
  | seqWindow (c : PlateCmd)
  /-- SEQ_WINDOW_REACHED (R270). -/
  | seqWindowReached (plate : Nat)
  /-- SEQ_FENCE (R270). -/
  | seqFence (c : PlateCmd)
  /-- SEQ_BARRIER (R270). -/
  | seqBarrier (c : PlateCmd)
  /-- SEQ_SKIPIF (R270). -/
  | seqSkipif (c : PlateCmd)
  /-- CTX_POST (R268). -/
  | ctxPost (c : PlateCmd)
  /-- CTX_WAIT (R268). -/
  | ctxWait (c : PlateCmd)
  /-- SEQ_FLIP (R271). -/
  | seqFlip (c : PlateCmd)
  /-- RING_ENABLE (R277). -/
  | ringEnable (ring : Nat)
  /-- RING_DISABLE (R278). -/
  | ringDisable (ring : Nat)
  /-- DOORBELL_WRITE (R280). -/
  | doorbellWrite (addr : Nat) (data : List Byte)
  /-- DESCRIPTOR_FETCH (R282). -/
  | descriptorFetch (ring count : Nat)
  /-- NOP_DESCRIPTOR (R284). -/
  | nopDescriptor (ring : Nat) (d : DescWord)
  /-- GENERATE (R285). -/
  | generate (ring : Nat) (d : DescWord)
  /-- EMBED (R285). -/
  | embed (ring : Nat) (d : DescWord)
  /-- CANCEL (R294). -/
  | cancel (ring : Nat) (d : DescWord)
  /-- PARK (R284). -/
  | park (ring : Nat) (d : DescWord)
  /-- RESUME (R284). -/
  | resume (ring : Nat) (d : DescWord)
  /-- STEP (R290). -/
  | stepDesc (ring : Nat) (d : DescWord)
  /-- ATTEST (R432). -/
  | attest (ring : Nat) (d : DescWord)
  /-- SERVICE (R221). -/
  | service (ring : Nat) (d : DescWord)
  /-- FENCE_RELEASE (R291). -/
  | fenceRelease (ring : Nat)
  /-- PART_INTAKE_IDX_HEAD_WRITE (R289). -/
  | partIntakeIdxHeadWrite (part head : Nat)
  /-- PART_FW_RECORD_POST (R500). -/
  | partFwRecordPost (part : Nat)
  /-- RDMA_WRITE (R299). -/
  | rdmaWrite (qp : Nat) (addr : Nat) (data : List Byte)
  /-- RDMA_READ (R298). -/
  | rdmaRead (qp : Nat) (addr len : Nat)
  /-- RDMA_INVALID_REQUEST (R298). -/
  | rdmaInvalidRequest (qp : Nat)
  /-- HTTP2_CONNECTION (R301). -/
  | http2Connection (client : Nat)
  /-- HTTP2_POST (R302). -/
  | http2Post (conn : Nat) (r : PostReq)
  /-- RST_STREAM (R302). -/
  | rstStream (conn stream : Nat)
  /-- FE_RECORD_CONSUME (R303). -/
  | feRecordConsume (conn : Nat) (window : Bool)
  /-- STACK_TRAINING (R312). -/
  | stackTraining (stack : Nat) (ok : Bool) (repaired : Nat)
  /-- DRAWER_TRAINING (R324). -/
  | drawerTraining (pkg : Nat) (ok : Bool)
  /-- WCB_READ_FILL (R313). -/
  | wcbReadFill (stack line : Nat)
  /-- HBM_TEMP_READ (R315). -/
  | hbmTempRead (stack tempC : Nat)
  /-- HBM_OFFLINE (R316). -/
  | hbmOffline (stack : Nat)
  /-- HBM_PATROL_READ (R420). -/
  | hbmPatrolRead (addr : Nat) (ecc : Ecc)
  /-- DRAWER_PATROL_READ (R420). -/
  | drawerPatrolRead (addr : Nat) (ecc : Ecc)
  /-- REF_SEL_WRITE (R327). -/
  | refSelWrite (v : Bool)
  /-- SYNC (R333). -/
  | ptpSync (n : Nat) (m : SyncMsg)
  /-- FOLLOW_UP (R330). -/
  | followUp (n : Nat) (seq t1 : Nat)
  /-- DELAY_REQ (R330). -/
  | delayReq (n : Nat) (seq rx : Nat)
  /-- DELAY_RESP (R330). -/
  | delayResp (n : Nat) (seq t4 : Nat)
  /-- ANNOUNCE (R332). -/
  | announce (n : Nat) (m : AnnMsg)
  /-- DELAY_REQ_INTERVAL (R330). -/
  | delayReqInterval (tx : Nat)
  /-- TIMER_SET (R339). -/
  | timerSet (v : Word64)
  /-- LINK_UP (R352). -/
  | linkUp (half : Nat)
  /-- LINK_DOWN (R352). -/
  | linkDown (half : Nat)
  /-- LINKDOWN_TIMEOUT (R353). -/
  | linkdownTimeout (half : Nat)
  /-- LLDP_TX_INTERVAL (R352). -/
  | lldpTxInterval (half : Nat)
  /-- LLDPDU (R352). -/
  | lldpdu (half : Nat) (m : LldpMsg)
  /-- NEIGHBOUR_EXPIRY (R352). -/
  | neighbourExpiry (half : Nat)
  /-- PART_CIRCUIT_BIND (R350). -/
  | partCircuitBind (part : Nat)
  /-- PART_CIRCUIT_UNBIND (R350). -/
  | partCircuitUnbind (part : Nat)
  /-- CBT_DATA (R359). -/
  | cbtData (half : Nat) (m : CbtMsg)
  /-- CBT_ACK (R360). -/
  | cbtAck (half : Nat) (m : CbtAckMsg)
  /-- CBT_ACK_TIMER (R360). -/
  | cbtAckTimer (flow : Nat)
  /-- CBT_RTO (R361). -/
  | cbtRto (flow seq : Nat)
  /-- CBT_GIVEUP_TIMEOUT (R361). -/
  | cbtGiveupTimeout (flow : Nat)
  /-- PAUSE_FRAME (R344). -/
  | pauseFrame (half : Nat)
  /-- MACSEC_SAK_INSTALL (R347). -/
  | macsecSakInstall (half : Nat) (an : Nat)
  /-- CARR_DISPATCH (R375). -/
  | carrDispatch (c : PlateCmd)
  /-- CARR_WAIT (R377). -/
  | carrWait (c : PlateCmd)
  /-- CARR_RETURN (R377). -/
  | carrReturn (c : PlateCmd)
  /-- CARR_COMBINE (R378). -/
  | carrCombine (c : PlateCmd)
  /-- CARR_REDUCE (R381). -/
  | carrReduce (c : PlateCmd)
  /-- HAL_LOAD (R384). -/
  | halLoad (c : PlateCmd)
  /-- HAL_LOAD_SLOT_IDLE (R384). -/
  | halLoadSlotIdle (part : Nat)
  /-- CARRIER_BATCH_SEND (R379). -/
  | carrierBatchSend (part batch : Nat)
  /-- DISPATCH (R376). -/
  | dispatchMsg (part : Nat) (m : CarrMsg)
  /-- RETURN (R377). -/
  | returnMsg (part : Nat) (m : CarrMsg)
  /-- GRAD_UP (R381). -/
  | gradUp (part : Nat) (m : CarrMsg)
  /-- GRAD_DOWN (R381). -/
  | gradDown (part : Nat) (m : CarrMsg)
  /-- ACCEPT (R374). -/
  | acceptMsg (part : Nat) (m : CarrMsg)
  /-- REJECT (R386). -/
  | rejectMsg (part : Nat) (m : CarrMsg)
  /-- CARRIER_LOST_TIMEOUT (R380). -/
  | carrierLostTimeout (part : Nat)
  /-- REEXECUTION_START (R399). -/
  | reexecutionStart (part : Nat)
  /-- VOID (R402). -/
  | voidMsg (part : Nat) (m : PairMsg)
  /-- FETCH (R405). -/
  | fetchMsg (part : Nat) (m : PairMsg)
  /-- FETCH_DATA (R405). -/
  | fetchData (part : Nat) (m : PairMsg)
  /-- FETCH_FAIL (R405). -/
  | fetchFail (part : Nat) (m : PairMsg)
  /-- FETCH_TIMEOUT (R405). -/
  | fetchTimeout (part : Nat)
  /-- PART_PAIR_ENABLE (R409). -/
  | partPairEnable (part : Nat) (partner : PartnerView)
  /-- PART_PAIR_DISABLE (R423). -/
  | partPairDisable (part : Nat)
  /-- PART_PAIR_FORCE_TAKEOVER (R416). -/
  | partPairForceTakeover (part : Nat)
  /-- CACHE (R413). -/
  | cacheMsg (part : Nat) (m : PairMsg)
  /-- STATE (R413). -/
  | stateMsg (part : Nat) (m : PairMsg)
  /-- COMMIT_END (R413). -/
  | commitEnd (part : Nat) (m : PairMsg)
  /-- COMMIT_ACK (R411). -/
  | commitAck (part : Nat) (m : PairMsg)
  /-- SNAPSHOT (R413). -/
  | snapshotMsg (part : Nat) (m : PairMsg)
  /-- SYNC_END (R414). -/
  | syncEnd (part : Nat) (m : PairMsg)
  /-- HEARTBEAT (R415). -/
  | heartbeat (part : Nat) (m : PairMsg)
  /-- HB_ACK (R415). -/
  | hbAck (part : Nat) (m : PairMsg)
  /-- FAULT_NOTICE (R416). -/
  | faultNotice (part : Nat) (m : PairMsg)
  /-- HEARTBEAT_MISS (R415). -/
  | heartbeatMiss (part : Nat)
  /-- WITNESS_ANSWER (R416). -/
  | witnessAnswer (part : Nat) (grant : Bool)
  /-- CLAIM_TIMEOUT (R416). -/
  | claimTimeout (part : Nat)
  /-- STEP_WEDGE_CALIBRATION (R421). -/
  | stepWedgeCalibration (r : WedgeResult)
  /-- SEC_PKG_CTRL_START (R435). -/
  | secPkgCtrlStart (part : Nat)
  /-- SEC_EXTEND (R430). -/
  | secExtend (slot addr : Nat)
  /-- LIGHT_LEAK_ALARM (R440). -/
  | lightLeakAlarm (source : Nat)
  /-- GET_CERTIFICATE (R431). -/
  | getCertificate (off len : Nat)
  /-- CHALLENGE (R431). -/
  | challenge (slot : Nat) (nonce : Nat)
  /-- GET_MEASUREMENTS (R431). -/
  | getMeasurements (index : Nat) (nonce : Nat)
  /-- SPDM_UNSUPPORTED_REQUEST (R431). -/
  | spdmUnsupportedRequest (code : Nat)
  /-- BOOT_STAGE_1 (R428). -/
  | bootStage1 (r : BootScan)
  /-- BOOT_STAGE_2 (R428). -/
  | bootStage2 (r : BootScan)
  /-- BOOT_STAGE_3 (R463). -/
  | bootStage3 (bad : List Nat)
  /-- PRECHARGE_COMPLETE (R452). -/
  | prechargeComplete (vin : Nat)
  /-- INPUT_RANGE (R448). -/
  | inputRange (vin : Nat)
  /-- INPUT_OUT_OF_RANGE (R448). -/
  | inputOutOfRange (vin : Nat)
  /-- RAIL_POWER_GOOD (R449). -/
  | railPowerGood (rail : Nat)
  /-- RAIL_FAULT (R450). -/
  | railFault (rail : Nat)
  /-- PWR_CTRL_DRAIN (R456). -/
  | pwrCtrlDrain (deadlineS : Nat)
  /-- POWER_SAMPLE (R459). -/
  | powerSample (vin iin pinW : Nat)
  /-- POWER_SLOW_LOOP (R459). -/
  | powerSlowLoop (r : SlowLoop)
  /-- DROOP_STRETCH (R460). -/
  | droopStretch (die : Nat)
  /-- DROOP_RECOVER (R460). -/
  | droopRecover (die : Nat)
  /-- GET_STATE (R467). -/
  | getState (v : VetasCtx)
  /-- REG_READ (R467). -/
  | regRead (v : VetasCtx) (addr count : Nat)
  /-- REG_WRITE (R467). -/
  | regWrite (v : VetasCtx) (addr : Nat) (mask val : Word64)
  /-- SETTINGS_SAVE (R464). -/
  | settingsSave (v : VetasCtx)
  /-- SETTINGS_PATCH (R464). -/
  | settingsPatch (v : VetasCtx) (entries : List (Nat × Word64 × Word64))
  /-- SETTINGS_FACTORY (R464). -/
  | settingsFactory (v : VetasCtx)
  /-- DRAIN (R456). -/
  | vetasDrain (v : VetasCtx) (deadlineS : Nat)
  /-- RESET (R454). -/
  | vetasReset (v : VetasCtx)
  /-- CLEAR_HOLD (R256). -/
  | clearHold (v : VetasCtx) (part : Nat)
  /-- FORCE_TAKEOVER (R416). -/
  | forceTakeover (v : VetasCtx) (part : Nat)
  /-- FE_KEYGEN (R425). -/
  | feKeygen (v : VetasCtx)
  /-- CREDENTIALS (R467). -/
  | credentials (v : VetasCtx) (body : List Byte)
  /-- LOG_READ (R467). -/
  | logRead (v : VetasCtx) (first count : Nat)
  /-- VETAS_UNKNOWN_COMMAND (R466). -/
  | vetasUnknownCommand (v : VetasCtx) (cmd : Nat)
  /-- PLDM_FIRMWARE_UPDATE (R470). -/
  | pldmFirmwareUpdate (comp : FwComp)
  /-- SENSOR_REFRESH (R469). -/
  | sensorRefresh (vals : List Nat)
  /-- PLDM_SENSOR_READ (R469). -/
  | pldmSensorRead (sensor : Nat)
  /-- DENS_CTR_WRITE (R477). -/
  | densCtrWrite (block ctr : Nat) (val : Word64)
  /-- DENS_SEL_WRITE (R477). -/
  | densSelWrite (block ctr : Nat) (val : Word64)
  /-- HTTP2_CONNECTION_END (R301). -/
  | http2ConnectionEnd (conn : Nat)
  /-- SEC_PKG_DONE (R435). -/
  | secPkgDone (ok : Bool) (chunks : Nat)
  /-- UCIE_ERROR_THRESHOLD (R24). -/
  | ucieErrorThreshold (link module : Nat)
  /-- SNAPSHOT_COPY_DONE (R414). -/
  | snapshotCopyDone (part : Nat)
  /-- GLOBAL_LOCK_SETUP (R37). -/
  | globalLockSetup
  /-- STROBE (R329). -/
  | strobe
  /-- TIMER_REF_LOST (R327). -/
  | timerRefLost
  /-- SYNC_INTERVAL (R330). -/
  | syncInterval
  /-- UPSTREAM_LOST (R333). -/
  | upstreamLost
  /-- HOLDOVER_LIMIT (R333). -/
  | holdoverLimit
  /-- PPS_IN_EDGE (R339). -/
  | ppsInEdge
  /-- PPS_OUT_EDGE (R339). -/
  | ppsOutEdge
  /-- REL_FAULT_FW_FAULT (R407). -/
  | relFaultFwFault
  /-- SEC_NONCE_READ (R439). -/
  | secNonceRead
  /-- DEBUG_TOKEN (R439). -/
  | debugToken
  /-- DEBUG_UNLOCK_EXPIRY (R439). -/
  | debugUnlockExpiry
  /-- LOCK_CLEAR_TOKEN (R445). -/
  | lockClearToken
  /-- FOG_DONE (R443). -/
  | fogDone
  /-- GET_VERSION (R431). -/
  | getVersion
  /-- GET_CAPABILITIES (R431). -/
  | getCapabilities
  /-- NEGOTIATE_ALGORITHMS (R431). -/
  | negotiateAlgorithms
  /-- GET_DIGESTS (R431). -/
  | getDigests
  /-- CONTACT_48V_MATE (R452). -/
  | contact48vMate
  /-- PRECHARGE_TIMEOUT (R452). -/
  | prechargeTimeout
  /-- PRESENCE_MATED (R492). -/
  | presenceMated
  /-- PRESENCE_BREAK (R453). -/
  | presenceBreak
  /-- INPUT_OVERCURRENT (R448). -/
  | inputOvercurrent
  /-- RESET_N (R454). -/
  | resetN
  /-- PWR_CTRL_RESET (R454). -/
  | pwrCtrlReset
  /-- DRAIN_DEADLINE (R456). -/
  | drainDeadline
  /-- BOOT_WATCHDOG (R452). -/
  | bootWatchdog
  /-- ACTIVATE_FIRMWARE (R470). -/
  | activateFirmware
  /-- DENS_SNAP_NOW (R478). -/
  | densSnapNow
  /-- DENS_PERIODIC_SNAPSHOT (R478). -/
  | densPeriodicSnapshot
  /-- SNAPSHOT_GATHER (R478). -/
  | snapshotGather
  /-- RESET_N_RELEASE (R495). -/
  | resetNRelease
  deriving DecidableEq, Repr

end Sys2Proof
end

