-- ==== Sys2Proof/Decode.lean ====
section
/-! DEFINITION. Decode: the table gives none of its rows bits, so no word spells a command. -/

namespace Sys2Proof

/-- The command that a word spells by the table's bits: none, for the table's rows give no bits. [DESIGN CHOICE, log entry 6] -/
def decodeTableWord (_ _ : Nat) : Option Instr := none

end Sys2Proof
end

