-- ==== Sys2Proof/Config.lean ====
section
/-! DEFINITION. Config: what an implementation fixes, and the free values the spec leaves open. Every constant here
is opaque: nothing in the model can see its value, so a claim holds whatever it is. -/

namespace Sys2Proof

/-- A byte of memory whose contents the spec does not preserve (R163, R310): free for each range and address. [DESIGN CHOICE, log entry 5] -/
opaque Config.freeByte : Nat → Nat → BitVec 8

/-- The random generator of R63: 128 bits from (PART_RNG_KEY, stream ID, counter). The bit sequence is not part of
the engine's interface. [DESIGN CHOICE, log entry 5; DESIGN CHOICE, log entry 17] -/
opaque Config.streamBlock : Nat → Nat → Nat → BitVec 128

/-- Fresh values that the engine draws outside the random streams (nonces, keys, sampling tags). [DESIGN CHOICE, log entry 5] -/
opaque Config.freeValue : Nat → BitVec 64

/-- The system name that firmware sets for LLDP (R351). [DESIGN CHOICE, log entry 5] -/
opaque Config.systemName : List (BitVec 8)

/-- Does link ECC fail for Drawer write number `draw` and its two retries (R319)? [DESIGN CHOICE, log entry 73] -/
opaque Config.drawerLinkFails : Nat → Bool

/-- Which of the FP32 numbers within 2 ulp the exponential of an FP32 number gives: the spec bounds its error and states no bits (R117). [DESIGN CHOICE, log entry 16] -/
opaque Config.fexp : Nat → Nat

/-- Which of the FP32 numbers within 2 ulp x × σ(x) gives (R117). [DESIGN CHOICE, log entry 16] -/
opaque Config.fsilu : Nat → Nat

/-- Which of the FP32 numbers within 2 ulp the erf form of GELU gives (R117). [DESIGN CHOICE, log entry 16] -/
opaque Config.fgelu : Nat → Nat

/-- R109: the order in which a unit adds the terms of a sum is not part of the interface. For sum `draw`, element
`key` and step `k` this names the two terms added next. [DESIGN CHOICE, log entry 16] -/
opaque Config.sumPick : Nat → Nat → Nat → Nat × Nat

/-- SHA-512 of a string of bytes; its first byte is the lowest of the value. [DESIGN CHOICE, log entry 61] -/
opaque Config.sha512 : List Nat → BitVec 512

/-- Byte `i` of signature number `draw` made with the identity key: RSASSA-PSS signatures carry a random salt (R426). [DESIGN CHOICE, log entry 61] -/
opaque Config.signByte : Nat → Nat → BitVec 8

/-- Does an RSASSA-PSS signature verify: modulus, message and signature as bytes (R426, R439)? [DESIGN CHOICE, log entry 61] -/
opaque Config.verify : List Nat → List Nat → List Nat → Bool

/-- The modulus of the Santozor debug key held in the boot ROM (R439). -/
opaque Config.debugKey : List Nat

/-- Length in bytes of the DER certificates of the IK chain, and its bytes (R432). -/
opaque Config.chainLen : Nat
/-- Byte `i` of the IK chain. -/
opaque Config.chainByte : Nat → BitVec 8

/-- The pool of rings that the credentials in force map a client identity to (R301): the content of a CREDENTIALS record is
the firmware's own (R462). [DESIGN CHOICE, log entry 37] -/
opaque Config.clientPool : List Nat → Nat → List Nat

/-- Where firmware of the front end puts the payload of descriptor `i` of ring `r` in the payload window, in units of 16
bytes (R302 leaves it to firmware). [DESIGN CHOICE, log entry 37] -/
opaque Config.payloadAt : Nat → Nat → Nat

/-- The 16-bit TAG that a ring unit gives to its own message for an address (R26, R33): the requester chooses it. [DESIGN CHOICE, log entry 31] -/
opaque Config.ringTag : Nat → BitVec 16

/-- Number `draw` of the output vectors of EMBED requests (R285): its bytes, in the format that the placement declares, and is it
poisoned (R57). [DESIGN CHOICE, log entry 33] -/
opaque Config.embedding : Nat → List (BitVec 8) × Bool

/-- Slots in which the unit of a plate command works (R481): by plate, command and the time of its end. The spec gives no command's length. [DESIGN CHOICE, log entry 78] -/
opaque Config.workSlots : Nat → Nat → Nat → Nat

end Sys2Proof
end

