-- ==== Sys2Proof/Machine/Formats.lean ====
section
/-! DEFINITION. Formats: the number formats of the spec's chapter 2 as pure functions on bit patterns: trits, binary
and integer weights, activation codes, the floating-point formats with round-to-nearest-even, G8 superblocks, and the
quantisers' exact quotient and rounding rules. -/

namespace Sys2Proof.Machine

/-! ### Weights (R38–R43) -/

/-- R40: a T5 byte is invalid when its value is 243–255. -/
def t5Invalid (v : Nat) : Bool := decide (243 ≤ v % 256)

/-- R38: trit `i` of a T5 byte. -/
def t5Trit (v i : Nat) : Int := ((v / 3 ^ i % 3 : Nat) : Int) - 1

/-- R38: the T5 byte of five trits, each given as its digit 0, 1 or 2. -/
def t5Encode : List Nat → Nat
  | [] => 0
  | d :: ds => d + 3 * t5Encode ds

/-- R38: weight `k` of a T5 run given by its bytes. -/
def t5Weight (bs : List Nat) (k : Nat) : Int := t5Trit (bs.getD (k / 5) 121) (k % 5)

/-- R41: weight `k` of a B1 run. -/
def b1Weight (bs : List Nat) (k : Nat) : Int := if (bs.getD (k / 8) 0).testBit (k % 8) then 1 else -1

/-- R42: weight `k` of a `b`-bit run in element layout. -/
def wElemWeight (b : Nat) (bs : List Nat) (k : Nat) : Int := signedOf (bitsOf (ofLe bs) (k * b) b) b

/-- R43: weight `k` of a `b`-bit column in plane layout, 20 bytes a plane. -/
def wPlaneWeight (b : Nat) (bs : List Nat) (k : Nat) : Int :=
  signedOf ((List.range b).foldl
    (fun acc i => if (bs.getD (20 * i + k / 8) 0).testBit (k % 8) then acc + 2 ^ i else acc) 0) b

/-- Bit of plane `i` of a `b`-bit two's-complement weight (R43, R69). -/
def planeBit (b i : Nat) (w : Int) : Bool := (unsignedOf w b).testBit i

/-! ### Activation codes (R44–R46) -/

/-- R44: the A8 code in a byte. -/
def a8Code (v : Nat) : Int := signedOf v 8

/-- R44: A4 code `k` of a packed row, the lower-indexed element in bits [3:0]. -/
def nibbleAt (bs : List Nat) (k : Nat) : Nat := bs.getD (k / 2) 0 / (if k % 2 = 0 then 1 else 16) % 16

/-- R44: A4 code `k` of a packed row as a number. -/
def a4Code (bs : List Nat) (k : Nat) : Int := signedOf (nibbleAt bs k) 4

/-- R45: the built-in G16 grid, decode table 0. -/
def g16Table : List Int :=
  [0, 9, 19, 30, 43, 59, 82, 127, 0, -9, -19, -30, -43, -59, -82, -127]

/-- R45: a decode table held in tray as 16 bytes. -/
def a4gTableOf (bs : List Nat) : List Int := (List.range 16).map (fun c => a8Code (bs.getD c 0))

/-- R44: codes of a row packed two a byte. -/
def packNibbles : List Nat → List Nat
  | [] => []
  | [a] => [a % 16]
  | a :: b :: r => (a % 16 + 16 * (b % 16)) :: packNibbles r

/-! ### Floating point (R50, R51)

A finite number is its sign, a magnitude `m` and an exponent `e`, standing for `m * 2^e`. -/

/-- A floating-point format: exponent bits, mantissa bits, and whether the top exponent holds INF and NaN as in
IEEE 754 (E4M3 has no infinity and one NaN). -/
structure Fmt where
  ebits : Nat
  mbits : Nat
  ieee : Bool
  deriving DecidableEq, Repr

/-- IEEE binary32 (R50). -/
def fp32 : Fmt := ⟨8, 23, true⟩
/-- The upper 16 bits of binary32 (R50). -/
def bf16 : Fmt := ⟨8, 7, true⟩
/-- IEEE binary16 (R50). -/
def fp16 : Fmt := ⟨5, 10, true⟩
/-- OCP FP8 E4M3 (R50). -/
def e4m3 : Fmt := ⟨4, 3, false⟩
/-- OCP FP8 E5M2 (R50). -/
def e5m2 : Fmt := ⟨5, 2, true⟩

/-- A floating-point value. -/
inductive FVal where
  | nan
  | inf (neg : Bool)
  | fin (neg : Bool) (m : Nat) (e : Int)
  deriving DecidableEq, Repr

/-- Exponent bias of a format. -/
def fmtBias (f : Fmt) : Nat := 2 ^ (f.ebits - 1) - 1

/-- The quiet positive NaN the engine produces in a format (R50). -/
def fmtNan (f : Fmt) : Nat :=
  if f.ieee then ((2 ^ f.ebits - 1) <<< f.mbits) + (if f = e5m2 then 2 else 2 ^ (f.mbits - 1)) else 0x7F

/-- The positive infinity of a format (formats that have one). -/
def fmtInf (f : Fmt) : Nat := (2 ^ f.ebits - 1) <<< f.mbits

/-- Largest finite magnitude code of a format. -/
def fmtMaxFinite (f : Fmt) : Nat := if f.ieee then fmtInf f - 1 else 0x7E

/-- The value a bit pattern stands for; subnormals are kept (R50). -/
def fdecode (f : Fmt) (x : Nat) : FVal :=
  let man := bitsOf x 0 f.mbits
  let ex := bitsOf x f.mbits f.ebits
  let neg := bitOf x (f.mbits + f.ebits)
  if f.ieee && ex == 2 ^ f.ebits - 1 then (if man = 0 then .inf neg else .nan)
  else if !f.ieee && ex == 2 ^ f.ebits - 1 && man == 2 ^ f.mbits - 1 then .nan
  else if ex = 0 then .fin neg man (1 - (fmtBias f : Int) - f.mbits)
  else .fin neg (2 ^ f.mbits + man) ((ex : Int) - fmtBias f - f.mbits)

/-- `num / den` rounded to the nearest whole number, ties to even (R61). -/
def rneDiv (num den : Nat) : Nat :=
  let q := num / den
  let r := num % den
  if 2 * r > den ∨ (2 * r = den ∧ q % 2 = 1) then q + 1 else q

/-- `⌊log₂ (num / den)⌋` for positive arguments. -/
def floorLog2 (num den : Nat) : Int :=
  let e : Int := (Nat.log2 num : Int) - (Nat.log2 den : Int)
  let ge : Bool := if e ≥ 0 then decide (num ≥ den <<< e.toNat) else decide (num <<< (-e).toNat ≥ den)
  if ge then e else e - 1

/-- The magnitude code of `num / den` in a format before any overflow rule, rounded to nearest even. -/
def fmagCode (f : Fmt) (num den : Nat) : Nat :=
  if num = 0 then 0
  else
    let emin : Int := 1 - (fmtBias f : Int)
    let e := max (floorLog2 num den) emin
    let k : Int := e - f.mbits
    let q := if k ≥ 0 then rneDiv num (den <<< k.toNat) else rneDiv (num <<< (-k).toNat) den
    ((e - emin).toNat <<< f.mbits) + q

/-- Sign bit of a format, set or clear. -/
def fsign (f : Fmt) (neg : Bool) : Nat := if neg then 1 <<< (f.mbits + f.ebits) else 0

/-- `± num / den` rounded into a format. FP8 saturates finite values (R51); the other formats overflow to INF. -/
def froundRat (f : Fmt) (neg : Bool) (num den : Nat) : Nat :=
  let c := fmagCode f num den
  let c' := if c > fmtMaxFinite f then
      (if f = e4m3 ∨ f = e5m2 then fmtMaxFinite f else fmtInf f)
    else c
  fsign f neg + c'

/-- A value rounded into a format; in E4M3 an infinity becomes NaN (R51). -/
def fencode (f : Fmt) : FVal → Nat
  | .nan => fmtNan f
  | .inf neg => if f.ieee then fsign f neg + fmtInf f else fmtNan f
  | .fin neg m e => if e ≥ 0 then froundRat f neg (m <<< e.toNat) 1 else froundRat f neg m (1 <<< (-e).toNat)

/-- Exact sum of two values; an exact zero sum of unlike signs is +0 (round to nearest). -/
def vadd : FVal → FVal → FVal
  | .nan, _ => .nan
  | _, .nan => .nan
  | .inf a, .inf b => if a = b then .inf a else .nan
  | .inf a, .fin .. => .inf a
  | .fin .., .inf b => .inf b
  | .fin na ma ea, .fin nb mb eb =>
    let e := min ea eb
    let x : Int := (ma <<< (ea - e).toNat : Nat)
    let y : Int := (mb <<< (eb - e).toNat : Nat)
    let t := (if na then -x else x) + (if nb then -y else y)
    if t = 0 then .fin (na && nb) 0 e else .fin (decide (t < 0)) t.natAbs e

/-- Exact product of two values. -/
def vmul : FVal → FVal → FVal
  | .nan, _ => .nan
  | _, .nan => .nan
  | .inf a, .inf b => .inf (a != b)
  | .inf a, .fin b m _ => if m = 0 then .nan else .inf (a != b)
  | .fin a m _, .inf b => if m = 0 then .nan else .inf (a != b)
  | .fin a m e, .fin b n g => .fin (a != b) (m * n) (e + g)

/-- A value negated. -/
def vneg : FVal → FVal
  | .nan => .nan
  | .inf a => .inf (!a)
  | .fin a m e => .fin (!a) m e

/-- A value's magnitude. -/
def vabs : FVal → FVal
  | .nan => .nan
  | .inf _ => .inf false
  | .fin _ m e => .fin false m e

/-- Exact order of finite or infinite values: is `a < b`? False when either is NaN. -/
def vlt : FVal → FVal → Bool
  | .nan, _ => false
  | _, .nan => false
  | .inf a, .inf b => a && !b
  | .inf a, .fin .. => a
  | .fin .., .inf b => !b
  | .fin na ma ea, .fin nb mb eb =>
    let e := min ea eb
    let x : Int := (ma <<< (ea - e).toNat : Nat)
    let y : Int := (mb <<< (eb - e).toNat : Nat)
    decide ((if na then -x else x) < (if nb then -y else y))

/-- Is a value a NaN? -/
def visNan : FVal → Bool
  | .nan => true
  | _ => false

/-- Is a value an INF or a NaN? -/
def vnonFinite : FVal → Bool
  | .fin .. => false
  | _ => true

/-- FP32 sum of two FP32 bit patterns (R50). -/
def fadd (a b : Nat) : Nat := fencode fp32 (vadd (fdecode fp32 a) (fdecode fp32 b))
/-- FP32 difference. -/
def fsub (a b : Nat) : Nat := fencode fp32 (vadd (fdecode fp32 a) (vneg (fdecode fp32 b)))
/-- FP32 product. -/
def fmul (a b : Nat) : Nat := fencode fp32 (vmul (fdecode fp32 a) (fdecode fp32 b))
/-- FP32 multiply-add with one rounding. -/
def ffma (a b c : Nat) : Nat :=
  fencode fp32 (vadd (vmul (fdecode fp32 a) (fdecode fp32 b)) (fdecode fp32 c))
/-- FP32 quotient, correctly rounded. -/
def fdiv (a b : Nat) : Nat :=
  match fdecode fp32 a, fdecode fp32 b with
  | .nan, _ => fmtNan fp32
  | _, .nan => fmtNan fp32
  | .inf _, .inf _ => fmtNan fp32
  | .inf x, .fin y _ _ => fencode fp32 (.inf (x != y))
  | .fin x _ _, .inf y => fsign fp32 (x != y)
  | .fin x m e, .fin y n g =>
    if n = 0 then (if m = 0 then fmtNan fp32 else fencode fp32 (.inf (x != y)))
    else
      let d := e - g
      if d ≥ 0 then froundRat fp32 (x != y) (m <<< d.toNat) n else froundRat fp32 (x != y) m (n <<< (-d).toNat)
/-- FP32 maximum of magnitudes folded as in R90: NaN stays NaN, a non-finite operand makes NaN. -/
def fmaxFold (old y : Nat) : Nat :=
  if vnonFinite (fdecode fp32 y) || visNan (fdecode fp32 old) then fmtNan fp32
  else if vlt (fdecode fp32 old) (vabs (fdecode fp32 y)) then bitsOf y 0 31 else old
/-- Is the first FP32 number below the second? -/
def flt (a b : Nat) : Bool := vlt (fdecode fp32 a) (fdecode fp32 b)
/-- Is an FP32 pattern an INF or NaN? -/
def fnonFinite (a : Nat) : Bool := vnonFinite (fdecode fp32 a)
/-- Conversion between formats (R51, R66). -/
def fconv (src dst : Fmt) (x : Nat) : Nat := fencode dst (fdecode src x)
/-- An integer converted to FP32 with round-to-nearest-even (R67). -/
def fofInt (v : Int) : Nat := fencode fp32 (.fin (decide (v < 0)) v.natAbs 0)
/-- FP32 1.0. -/
def fone : Nat := 0x3F800000
/-- FP32 +INF. -/
def finf : Nat := 0x7F800000
/-- FP32 NaN of R50. -/
def fnan : Nat := 0x7FC00000

/-! ### Wide accumulator codes (R67, R84, R85) -/

/-- R84, R85: a wide entry is `w` bits (40, or 20 packed) with codes for the two infinities and NaN. -/
inductive Wide where
  | fin (v : Int)
  | inf (neg : Bool)
  | nan
  deriving DecidableEq, Repr

/-- The raw code of a `w`-bit wide value. -/
def wideEncode (w : Nat) : Wide → Nat
  | .fin v => unsignedOf v w
  | .inf false => 2 ^ (w - 1) - 1
  | .inf true => 2 ^ (w - 1)
  | .nan => 2 ^ (w - 1) + 1

/-- The value of a raw `w`-bit wide code. -/
def wideDecode (w : Nat) (x : Nat) : Wide :=
  if x % 2 ^ w = 2 ^ (w - 1) - 1 then .inf false
  else if x % 2 ^ w = 2 ^ (w - 1) then .inf true
  else if x % 2 ^ w = 2 ^ (w - 1) + 1 then .nan
  else .fin (signedOf x w)

/-- R84: a finite sum, or the infinity of its sign outside −2^(w−1)+2 … 2^(w−1)−2. -/
def wideFin (w : Nat) (v : Int) : Wide :=
  if v > (2 ^ (w - 1) : Nat) - 2 then .inf false
  else if v < 2 - ((2 ^ (w - 1) : Nat) : Int) then .inf true
  else .fin v

/-- R84: the table of promotions into a wide entry. -/
def widePromote (w : Nat) : Wide → Wide → Wide
  | .nan, _ => .nan
  | _, .nan => .nan
  | .fin a, .fin b => wideFin w (a + b)
  | .fin _, .inf n => .inf n
  | .inf n, .fin _ => .inf n
  | .inf a, .inf b => if a = b then .inf a else .nan

/-- R67: a wide value as FP32. -/
def wideToFp32 : Wide → Nat
  | .fin v => fofInt v
  | .inf neg => fencode fp32 (.inf neg)
  | .nan => fnan

/-! ### Quantisers (R46–R49, R52–R62) -/

/-- R58: the exact quotient of two finite FP values as a sign, a numerator and a denominator. -/
def exactQuot (x s : FVal) : Bool × Nat × Nat :=
  match x, s with
  | .fin nx mx ex, .fin ns ms es =>
    let d := ex - es
    if d ≥ 0 then (nx != ns, mx <<< d.toNat, ms) else (nx != ns, mx, ms <<< (-d).toNat)
  | _, _ => (false, 0, 1)

/-- R62: the choice between adjacent codes with draw `d`: upper when `d < 65536 * frac`, `frac = num / den`. -/
def drawUpper (d num den : Nat) : Bool := decide (d * den < 65536 * num)

/-- R61, R62: a signed exact quotient rounded to a whole number; `draw` is the stream's draw, if one is named. -/
def roundQuot (neg : Bool) (num den : Nat) (draw : Option Nat) : Int :=
  match draw with
  | none => if neg then -(rneDiv num den : Int) else (rneDiv num den : Int)
  | some d =>
    let u : Int := if neg then -(num : Int) else num
    let lo := u / (den : Int)
    let frac := (u - lo * den).toNat
    if frac = 0 then lo else if drawUpper d frac den then lo + 1 else lo

/-- Saturation of a code to ±q, with whether it saturated (R52, R65). -/
def satCode (q : Nat) (c : Int) : Int × Bool :=
  if c > q then (q, true) else if c < -(q : Int) then (-(q : Int), true) else (c, false)

/-- R46: distance of table entry `e` to the quotient, scaled by the denominator. -/
def gridDist (neg : Bool) (num den : Nat) (e : Int) : Nat :=
  ((if neg then -(num : Int) else num) - e * den).natAbs

/-- R46: the nearest entry's code, the lower code where two are equally near. -/
def gridNearest (tbl : List Int) (neg : Bool) (num den : Nat) : Nat :=
  ((List.range 16).foldl (fun (best : Nat) c =>
    if gridDist neg num den (tbl.getD c 0) < gridDist neg num den (tbl.getD best 0) then c else best) 0)

/-- Lowest code that holds entry `e`. -/
def gridCodeOf (tbl : List Int) (e : Int) : Nat :=
  ((List.range 16).find? (fun c => tbl.getD c 0 == e)).getD 0

/-- R46: the A4G encoder: code and whether the quotient lay beyond the grid. -/
def a4gEncode (tbl : List Int) (neg : Bool) (num den : Nat) (draw : Option Nat) : Nat × Bool :=
  let u : Int := if neg then -(num : Int) else num
  let hi := tbl.foldl max (tbl.headD 0)
  let lo := tbl.foldl min (tbl.headD 0)
  if u > hi * den then (gridCodeOf tbl hi, true)
  else if u < lo * den then (gridCodeOf tbl lo, true)
  else match draw with
    | none => (gridNearest tbl neg num den, false)
    | some d =>
      let below := tbl.foldl (fun a e => if e * den ≤ u ∧ e > a then e else a) lo
      let above := tbl.foldl (fun a e => if e * den ≥ u ∧ e < a then e else a) hi
      if below = above then (gridCodeOf tbl below, false)
      else if drawUpper d (u - below * den).toNat ((above - below).toNat * den)
        then (gridCodeOf tbl above, false) else (gridCodeOf tbl below, false)

/-- R53: a clip that is not positive and finite reads as +INF. -/
def clipOf (c : Nat) : FVal :=
  match fdecode fp32 c with
  | .fin false m e => if m = 0 then .inf false else .fin false m e
  | _ => .inf false

/-- A finite value divided by a small whole number and rounded into a format. -/
def fdivNat (f : Fmt) (x : FVal) (q : Nat) : Nat :=
  match x with
  | .fin neg m e =>
    if e ≥ 0 then froundRat f neg (m <<< e.toNat) q else froundRat f neg m (q <<< (-e).toNat)
  | .inf neg => fencode f (.inf neg)
  | .nan => fmtNan f

/-- The smaller of two non-negative values. -/
def vmin (a b : FVal) : FVal := if vlt b a then b else a

/-- The output of a row quantiser: codes, the stored scale's bits, saturations counted, draws consumed. -/
structure QRow where
  codes : List Nat
  scale : Nat
  sats : Nat
  poisoned : Bool
  deriving DecidableEq, Repr

/-- Code width and grid of a quantiser's output format. -/
inductive CodeFmt where
  | a8
  | a4
  | a4g (tbl : List Int)
  deriving DecidableEq, Repr

/-- R52: the largest code magnitude of a format. -/
def qmaxOf : CodeFmt → Nat
  | .a4 => 7
  | _ => 127

/-- One element's code under R52, R58, R61, R62 or R46. -/
def quantElem (fmt : CodeFmt) (x s : FVal) (draw : Option Nat) : Nat × Bool :=
  let (neg, num, den) := exactQuot x s
  match fmt with
  | .a8 => let (c, t) := satCode 127 (roundQuot neg num den draw); (unsignedOf c 8, t)
  | .a4 => let (c, t) := satCode 7 (roundQuot neg num den draw); (unsignedOf c 4, t)
  | .a4g tbl => a4gEncode tbl neg num den draw

/-- R52–R58: one row quantised. `absmax` is FP32; `draws` gives element `k`'s draw when a stream is named. A scale that rounds to 0 in its
storage format while min(c, absmax) is not 0 gives zero codes: R56 is silent there. [DESIGN CHOICE, log entry 77] -/
def quantRow (fmt : CodeFmt) (static : Bool) (clip absmax : Nat) (xs : List FVal) (draws : Nat → Option Nat) : QRow :=
  let c := clipOf clip
  let zero := List.replicate xs.length 0
  let badClip := static && vnonFinite c
  if xs.any vnonFinite || fnonFinite absmax || badClip then ⟨zero, fnan, 0, true⟩
  else
    let top := if static then c else vmin c (fdecode fp32 absmax)
    let s := fdivNat fp32 top (qmaxOf fmt)
    match fdecode fp32 s with
    | .fin _ 0 _ => ⟨zero, s, 0, false⟩
    | sv =>
      let ys := (List.range xs.length).map (fun k => quantElem fmt (xs.getD k (.fin false 0 0)) sv (draws k))
      ⟨ys.map Prod.fst, s, (ys.filter Prod.snd).length, false⟩

/-- Largest magnitude of a vector of finite values, as a value. -/
def vabsmax (xs : List FVal) : FVal :=
  xs.foldl (fun a x => if vlt a (vabs x) then vabs x else a) (.fin false 0 0)

/-- R47: the cache quantiser: codes of 8 or 4 bits and one BF16 scale for one (token, head) vector, with how many codes have saturated (R65). -/
def cacheQuant (bits : Nat) (xs : List FVal) : List Nat × Nat × Nat :=
  let zero := List.replicate xs.length 0
  if xs.any vnonFinite then (zero, fmtNan bf16, 0)
  else
    let q := if bits = 4 then 7 else 127
    let s := fdivNat bf16 (vabsmax xs) q
    match fdecode bf16 s with
    | .fin _ 0 _ => (zero, s, 0)
    | sv =>
      let ys := xs.map (fun x => let (neg, num, den) := exactQuot x sv; satCode q (roundQuot neg num den none))
      (ys.map (fun y => unsignedOf y.1 bits), s, (ys.filter Prod.snd).length)

/-- R49: the exponent of a G8 group from its absmax: 127 + ⌈log₂(a / 127)⌉ clamped to 1–254. -/
def g8Exponent : FVal → Nat
  | .fin _ m e =>
    if m = 0 then 0
    else
      let (num, den) := if e ≥ 0 then (m <<< e.toNat, 127) else (m, 127 <<< (-e).toNat)
      let f := floorLog2 num den
      let exact : Bool := if f ≥ 0 then decide (num = den <<< f.toNat) else decide (num <<< (-f).toNat = den)
      let c := if exact then f else f + 1
      (max 1 (min 254 (127 + c))).toNat
  | _ => 255

/-- R49: one group of 32 FP32 values quantised to an exponent, mantissa bytes and counted saturations. -/
def g8Group (xs : List FVal) (draws : Nat → Option Nat) : Nat × List Nat × Nat :=
  if xs.any vnonFinite then (255, List.replicate xs.length 0, 0)
  else
    let e := g8Exponent (vabsmax xs)
    if e = 0 then (0, List.replicate xs.length 0, 0)
    else
      let ys := (List.range xs.length).map (fun k =>
        let (neg, num, den) := exactQuot (xs.getD k (.fin false 0 0)) (.fin false 1 ((e : Int) - 127))
        satCode 127 (roundQuot neg num den (draws k)))
      (e, ys.map (fun y => unsignedOf y.1 8), if e = 254 then (ys.filter Prod.snd).length else 0)

/-- R49: the value of a G8 element with group exponent `e` and mantissa byte `m`. -/
def g8Value (e m : Nat) : FVal :=
  if e = 0 then .fin false 0 0
  else if e = 255 then .nan
  else let v := a8Code m; .fin (decide (v < 0)) v.natAbs ((e : Int) - 127)

end Sys2Proof.Machine
end

