-- ==== Sys2Proof/Machine/Regs.lean ====
section
/-! DEFINITION. Regs: every register of the spec's register tables: its block, offset and instances (R12 and the
register rules of each chapter), and each field's place, access code (R8), reset value, retention (R9) and range of
values a write may set. Names are the spec's. -/

namespace Sys2Proof.Machine

/-- The register blocks of R12. -/
inductive Block where
  | global | plate | cluster | hbm | port | timer | sec | pwr | dens | part
  deriving DecidableEq, Repr

/-- The access codes of R8. -/
inductive Access where
  | ro | rw | rw1c | rws | wo | rwl
  deriving DecidableEq, Repr

/-- One field of a register: bits `[lo + w - 1 : lo]`. A write of a value outside `okLo … okHi` is ignored for the
field, except that 0 is accepted where `zeroOk` is set. -/
structure FieldSpec where
  name : String
  lo : Nat
  w : Nat
  acc : Access
  reset : Nat
  retained : Bool
  okLo : Nat := 0
  okHi : Nat := 2 ^ 64
  zeroOk : Bool := false
  deriving DecidableEq, Repr

/-- One register of a block: `count` registers `stride` bytes apart from `off`. -/
structure RegSpec where
  name : String
  off : Nat
  stride : Nat
  count : Nat
  fields : List FieldSpec
  deriving DecidableEq, Repr

/-- A named field of a block's register, as the engine reads and writes it. -/
structure Fld where
  blk : Block
  off : Nat
  stride : Nat
  lo : Nat
  w : Nat
  deriving DecidableEq, Repr

/-- R12: base address of instance `i` of a block. -/
def blockBase : Block → Nat → Nat
  | .global, _ => 0x0F0000000000
  | .plate, i => 0x0F0010000000 + i * 0x10000
  | .cluster, i => 0x0F0020000000 + i * 0x100000
  | .hbm, i => 0x0F0030000000 + i * 0x100000
  | .port, i => 0x0F0040000000 + i * 0x100000
  | .timer, _ => 0x0F0050000000
  | .sec, _ => 0x0F0060000000
  | .pwr, _ => 0x0F0070000000
  | .dens, _ => 0x0F0080000000
  | .part, i => 0x0F0090000000 + i * 0x10000

/-- R12: bytes between instances of a block. -/
def blockStride : Block → Nat
  | .plate => 0x10000
  | .part => 0x10000
  | .cluster => 0x100000
  | .hbm => 0x100000
  | .port => 0x100000
  | _ => 0x100000

/-- R12: instances of a block. -/
def blockCount : Block → Nat
  | .plate => 128
  | .cluster => 16
  | .hbm => 8
  | .port => 8
  | .part => 16
  | _ => 1

/-- Address of register `j` of a field's register array in instance `i` of its block. -/
def fldAddr (f : Fld) (i j : Nat) : Nat := blockBase f.blk i + f.off + f.stride * j

/-- GLOBAL_IDENT (R37). -/
def specGLOBAL_IDENT : RegSpec := ⟨"GLOBAL_IDENT", 0x0, 0, 1, [
  { name := "PART_NUMBER", lo := 0, w := 16, acc := .ro, reset := 0xC73, retained := false },
  { name := "CD0_REV", lo := 16, w := 8, acc := .ro, reset := 0, retained := false },
  { name := "CD1_REV", lo := 24, w := 8, acc := .ro, reset := 0, retained := false },
  { name := "ZD_REV", lo := 32, w := 8, acc := .ro, reset := 0, retained := false },
  { name := "STACKS", lo := 40, w := 8, acc := .ro, reset := 0, retained := false }]⟩

/-- GLOBAL_ENGINE_ID (R37). -/
def specGLOBAL_ENGINE_ID : RegSpec := ⟨"GLOBAL_ENGINE_ID", 0x8, 0, 1, [
  { name := "ENGINE_ID", lo := 0, w := 32, acc := .rwl, reset := 0, retained := true }]⟩

/-- GLOBAL_LOCK (R37). -/
def specGLOBAL_LOCK : RegSpec := ⟨"GLOBAL_LOCK", 0x10, 0, 1, [
  { name := "SETUP", lo := 0, w := 1, acc := .rwl, reset := 0, retained := false }]⟩

/-- GLOBAL_ZD_RSV (R37). -/
def specGLOBAL_ZD_RSV : RegSpec := ⟨"GLOBAL_ZD_RSV", 0x18, 0, 1, [
  { name := "RSV_GIB", lo := 0, w := 8, acc := .rwl, reset := 0x10, retained := true, okLo := 8, okHi := 64 }]⟩

/-- GLOBAL_UCIE_STAT (R37). -/
def specGLOBAL_UCIE_STAT : RegSpec := ⟨"GLOBAL_UCIE_STAT", 0x20, 8, 3, [
  { name := "ACTIVE", lo := 0, w := 24, acc := .ro, reset := 0, retained := false },
  { name := "RETRAINS", lo := 24, w := 8, acc := .rw1c, reset := 0, retained := false },
  { name := "REPAIRED", lo := 32, w := 16, acc := .ro, reset := 0, retained := false },
  { name := "DEGRADED", lo := 48, w := 1, acc := .ro, reset := 0, retained := false }]⟩

/-- GLOBAL_UCIE_CTRL (R37). -/
def specGLOBAL_UCIE_CTRL : RegSpec := ⟨"GLOBAL_UCIE_CTRL", 0x40, 0, 1, [
  { name := "RETRAIN_TIMEOUT", lo := 0, w := 16, acc := .rwl, reset := 0x64, retained := false, okLo := 10, okHi := 1000 }]⟩

/-- PART_RNG_KEY (R68). -/
def specPART_RNG_KEY : RegSpec := ⟨"PART_RNG_KEY", 0x400, 0, 1, [
  { name := "KEY", lo := 0, w := 64, acc := .rw, reset := 0, retained := false }]⟩

/-- PLATE_GRAIN_CFG (R106). -/
def specPLATE_GRAIN_CFG : RegSpec := ⟨"PLATE_GRAIN_CFG", 0x100, 0, 1, [
  { name := "ZERO_SKIP", lo := 0, w := 1, acc := .rw, reset := 1, retained := false },
  { name := "SIGNX_SKIP", lo := 1, w := 1, acc := .rw, reset := 1, retained := false },
  { name := "A4G_BASE", lo := 8, w := 24, acc := .rw, reset := 0, retained := false }]⟩

/-- PLATE_ACC_STAT (R106). -/
def specPLATE_ACC_STAT : RegSpec := ⟨"PLATE_ACC_STAT", 0x108, 0, 1, [
  { name := "OPEN", lo := 0, w := 32, acc := .ro, reset := 0, retained := false },
  { name := "DRAINING", lo := 32, w := 32, acc := .ro, reset := 0, retained := false }]⟩

/-- PLATE_GRAIN_FAULT (R106). -/
def specPLATE_GRAIN_FAULT : RegSpec := ⟨"PLATE_GRAIN_FAULT", 0x110, 0, 1, [
  { name := "OPC", lo := 0, w := 8, acc := .ro, reset := 0, retained := false },
  { name := "STATUS", lo := 8, w := 16, acc := .ro, reset := 0, retained := false },
  { name := "CMD_INDEX", lo := 32, w := 31, acc := .ro, reset := 0, retained := false },
  { name := "VALID", lo := 63, w := 1, acc := .rw1c, reset := 0, retained := false }]⟩

/-- PLATE_DEBUG (R106). -/
def specPLATE_DEBUG : RegSpec := ⟨"PLATE_DEBUG", 0x118, 0, 1, [
  { name := "ACC_VISIBLE", lo := 0, w := 1, acc := .ro, reset := 0, retained := false }]⟩

/-- SAFE_CFG (R137). STORM_PCT keeps a written value above 100, which no share reaches: the table does not give it. [DESIGN CHOICE, log entry 77] -/
def specSAFE_CFG : RegSpec := ⟨"SAFE_CFG", 0x1000, 0, 1, [
  { name := "FALLBACK_EN", lo := 0, w := 1, acc := .rw, reset := 1, retained := false },
  { name := "STORM_PCT", lo := 8, w := 8, acc := .rw, reset := 0x32, retained := false }]⟩

/-- SAFE_FAULT (R137). -/
def specSAFE_FAULT : RegSpec := ⟨"SAFE_FAULT", 0x1008, 0, 1, [
  { name := "OPC", lo := 0, w := 8, acc := .ro, reset := 0, retained := false },
  { name := "STATUS", lo := 8, w := 16, acc := .ro, reset := 0, retained := false },
  { name := "PLATE", lo := 24, w := 3, acc := .ro, reset := 0, retained := false },
  { name := "CMD_INDEX", lo := 32, w := 31, acc := .ro, reset := 0, retained := false },
  { name := "VALID", lo := 63, w := 1, acc := .rw1c, reset := 0, retained := false }]⟩

/-- SAFE_STAT (R137). -/
def specSAFE_STAT : RegSpec := ⟨"SAFE_STAT", 0x1010, 0, 1, [
  { name := "QUEUED", lo := 0, w := 8, acc := .ro, reset := 0, retained := false },
  { name := "BUSY", lo := 8, w := 1, acc := .ro, reset := 0, retained := false }]⟩

/-- BURN_LAST (R137). -/
def specBURN_LAST : RegSpec := ⟨"BURN_LAST", 0x1018, 0, 1, [
  { name := "LAYER", lo := 0, w := 16, acc := .ro, reset := 0, retained := false },
  { name := "COUNT", lo := 16, w := 9, acc := .ro, reset := 0, retained := false },
  { name := "DECISION", lo := 25, w := 2, acc := .ro, reset := 0, retained := false },
  { name := "EXPO", lo := 32, w := 32, acc := .ro, reset := 0, retained := false }]⟩

/-- TRAY_PWR_AWAKE (R170). -/
def specTRAY_PWR_AWAKE : RegSpec := ⟨"TRAY_PWR_AWAKE", 0x200, 0, 1, [
  { name := "AWAKE", lo := 0, w := 64, acc := .ro, reset := 0xFFFFFFFFFFFFFFFF, retained := false }]⟩

/-- TRAY_PWR_ASLEEP (R170). -/
def specTRAY_PWR_ASLEEP : RegSpec := ⟨"TRAY_PWR_ASLEEP", 0x208, 0, 1, [
  { name := "ASLEEP", lo := 0, w := 64, acc := .ro, reset := 0, retained := false }]⟩

/-- TRAY_PIN (R170). -/
def specTRAY_PIN : RegSpec := ⟨"TRAY_PIN", 0x210, 0, 1, [
  { name := "PINNED", lo := 0, w := 64, acc := .rw, reset := 0, retained := false }]⟩

/-- TRAY_PWR_SLEEP (R170). -/
def specTRAY_PWR_SLEEP : RegSpec := ⟨"TRAY_PWR_SLEEP", 0x218, 0, 1, [
  { name := "MASK", lo := 0, w := 64, acc := .wo, reset := 0, retained := false }]⟩

/-- TRAY_PWR_WAKE (R170). -/
def specTRAY_PWR_WAKE : RegSpec := ⟨"TRAY_PWR_WAKE", 0x220, 0, 1, [
  { name := "MASK", lo := 0, w := 64, acc := .wo, reset := 0, retained := false }]⟩

/-- TRAY_ECC_STAT (R170). -/
def specTRAY_ECC_STAT : RegSpec := ⟨"TRAY_ECC_STAT", 0x228, 0, 1, [
  { name := "CE", lo := 0, w := 32, acc := .rw1c, reset := 0, retained := false },
  { name := "UE", lo := 32, w := 16, acc := .rw1c, reset := 0, retained := false },
  { name := "UE_BANK", lo := 48, w := 6, acc := .ro, reset := 0, retained := false }]⟩

/-- TRAY_ECC_ADDR (R170). -/
def specTRAY_ECC_ADDR : RegSpec := ⟨"TRAY_ECC_ADDR", 0x230, 0, 1, [
  { name := "OFFSET", lo := 0, w := 23, acc := .ro, reset := 0, retained := false },
  { name := "VALID", lo := 63, w := 1, acc := .rw1c, reset := 0, retained := false }]⟩

/-- TRAY_DMA_FAULT (R170). -/
def specTRAY_DMA_FAULT : RegSpec := ⟨"TRAY_DMA_FAULT", 0x238, 0, 1, [
  { name := "OPC", lo := 0, w := 8, acc := .ro, reset := 0, retained := false },
  { name := "STATUS", lo := 8, w := 16, acc := .ro, reset := 0, retained := false },
  { name := "BANK", lo := 24, w := 6, acc := .ro, reset := 0, retained := false },
  { name := "CMD_INDEX", lo := 32, w := 31, acc := .ro, reset := 0, retained := false },
  { name := "VALID", lo := 63, w := 1, acc := .rw1c, reset := 0, retained := false }]⟩

/-- TRAY_CONF (R170). -/
def specTRAY_CONF : RegSpec := ⟨"TRAY_CONF", 0x400, 8, 64, [
  { name := "WAITS", lo := 0, w := 48, acc := .rw, reset := 0, retained := false },
  { name := "OVF", lo := 63, w := 1, acc := .ro, reset := 0, retained := false }]⟩

/-- PART_TRAY_CFG (R171). -/
def specPART_TRAY_CFG : RegSpec := ⟨"PART_TRAY_CFG", 0x408, 0, 1, [
  { name := "MODE", lo := 0, w := 1, acc := .rw, reset := 0, retained := true },
  { name := "HASH", lo := 1, w := 1, acc := .rw, reset := 0, retained := true },
  { name := "SYNC", lo := 2, w := 1, acc := .rw, reset := 0, retained := true },
  { name := "SEM_TIMEOUT", lo := 8, w := 24, acc := .rw, reset := 0xF4240, retained := true, okLo := 1, okHi := 16777215 }]⟩

/-- DODGE_FAULT (R191). -/
def specDODGE_FAULT : RegSpec := ⟨"DODGE_FAULT", 0x2000, 0, 1, [
  { name := "OPC", lo := 0, w := 8, acc := .ro, reset := 0, retained := false },
  { name := "STATUS", lo := 8, w := 16, acc := .ro, reset := 0, retained := false },
  { name := "PLATE", lo := 24, w := 3, acc := .ro, reset := 0, retained := false },
  { name := "CHECK", lo := 27, w := 5, acc := .ro, reset := 0, retained := false },
  { name := "CMD_INDEX", lo := 32, w := 31, acc := .ro, reset := 0, retained := false },
  { name := "VALID", lo := 63, w := 1, acc := .rw1c, reset := 0, retained := false }]⟩

/-- DODGE_FAULT_OFF (R191). -/
def specDODGE_FAULT_OFF : RegSpec := ⟨"DODGE_FAULT_OFF", 0x2008, 0, 1, [
  { name := "OFFSET", lo := 0, w := 23, acc := .ro, reset := 0, retained := false }]⟩

/-- DODGE_STAT (R191). -/
def specDODGE_STAT : RegSpec := ⟨"DODGE_STAT", 0x2010, 0, 1, [
  { name := "QUEUED", lo := 0, w := 8, acc := .ro, reset := 0, retained := false },
  { name := "BUSY", lo := 8, w := 1, acc := .ro, reset := 0, retained := false },
  { name := "UNITS", lo := 9, w := 16, acc := .ro, reset := 0, retained := false }]⟩

/-- ENL_FAULT (R212). -/
def specENL_FAULT : RegSpec := ⟨"ENL_FAULT", 0x3000, 0, 1, [
  { name := "OPC", lo := 0, w := 8, acc := .ro, reset := 0, retained := false },
  { name := "STATUS", lo := 8, w := 16, acc := .ro, reset := 0, retained := false },
  { name := "PLATE", lo := 24, w := 3, acc := .ro, reset := 0, retained := false },
  { name := "CMD_INDEX", lo := 32, w := 31, acc := .ro, reset := 0, retained := false },
  { name := "VALID", lo := 63, w := 1, acc := .rw1c, reset := 0, retained := false }]⟩

/-- ENL_STAT (R212). -/
def specENL_STAT : RegSpec := ⟨"ENL_STAT", 0x3008, 0, 1, [
  { name := "QUEUED", lo := 0, w := 8, acc := .ro, reset := 0, retained := false },
  { name := "BUSY", lo := 8, w := 1, acc := .ro, reset := 0, retained := false },
  { name := "SAFE_WAIT", lo := 9, w := 1, acc := .ro, reset := 0, retained := false }]⟩

/-- PART_LAT_CFG (R248). -/
def specPART_LAT_CFG : RegSpec := ⟨"PART_LAT_CFG", 0x500, 0, 1, [
  { name := "LAYERS", lo := 0, w := 8, acc := .rw, reset := 1, retained := false },
  { name := "KVHEADS", lo := 8, w := 7, acc := .rw, reset := 1, retained := false },
  { name := "DIM", lo := 16, w := 9, acc := .rw, reset := 0x80, retained := false },
  { name := "K4", lo := 25, w := 1, acc := .rw, reset := 0, retained := false },
  { name := "V4", lo := 26, w := 1, acc := .rw, reset := 0, retained := false },
  { name := "PAGE_BLOCKS", lo := 32, w := 12, acc := .ro, reset := 5, retained := false }]⟩

/-- PART_LAT_RANGE (R248). -/
def specPART_LAT_RANGE : RegSpec := ⟨"PART_LAT_RANGE", 0x508, 0, 1, [
  { name := "FIRST", lo := 0, w := 24, acc := .rw, reset := 0, retained := true },
  { name := "PAGES", lo := 24, w := 25, acc := .rw, reset := 0, retained := true }]⟩

/-- PART_LAT_POOL (R248). -/
def specPART_LAT_POOL : RegSpec := ⟨"PART_LAT_POOL", 0x510, 0, 1, [
  { name := "BASE_4K", lo := 0, w := 36, acc := .rw, reset := 0, retained := true }]⟩

/-- PART_LAT_PT (R248). -/
def specPART_LAT_PT : RegSpec := ⟨"PART_LAT_PT", 0x518, 0, 1, [
  { name := "PT_ADDR", lo := 0, w := 48, acc := .rw, reset := 0, retained := true }]⟩

/-- PART_LAT_ADMIT (R248). -/
def specPART_LAT_ADMIT : RegSpec := ⟨"PART_LAT_ADMIT", 0x520, 0, 1, [
  { name := "GROW_FLOOR", lo := 0, w := 24, acc := .rw, reset := 0x100, retained := true }]⟩

/-- PART_LAT_STAT (R248). -/
def specPART_LAT_STAT : RegSpec := ⟨"PART_LAT_STAT", 0x528, 0, 1, [
  { name := "FREE", lo := 0, w := 24, acc := .ro, reset := 0, retained := false },
  { name := "RECLAIM", lo := 24, w := 24, acc := .ro, reset := 0, retained := false }]⟩

/-- PART_REQ_CFG (R248). -/
def specPART_REQ_CFG : RegSpec := ⟨"PART_REQ_CFG", 0x530, 0, 1, [
  { name := "REQ_BASE", lo := 0, w := 48, acc := .rw, reset := 0, retained := true }]⟩

/-- PART_REQ_SLOTS (R248). -/
def specPART_REQ_SLOTS : RegSpec := ⟨"PART_REQ_SLOTS", 0x538, 0, 1, [
  { name := "FIRST", lo := 0, w := 17, acc := .rw, reset := 0, retained := true },
  { name := "COUNT", lo := 17, w := 17, acc := .rw, reset := 0, retained := true },
  { name := "SVC_RING", lo := 34, w := 17, acc := .rw, reset := 0, retained := true }]⟩

/-- PART_CIDX_CFG (R248). -/
def specPART_CIDX_CFG : RegSpec := ⟨"PART_CIDX_CFG", 0x540, 0, 1, [
  { name := "NODE_4K", lo := 0, w := 36, acc := .rw, reset := 0, retained := true },
  { name := "NODES", lo := 36, w := 23, acc := .rw, reset := 0, retained := true },
  { name := "BLOG2", lo := 59, w := 5, acc := .rw, reset := 0x14, retained := true, okLo := 10, okHi := 22 }]⟩

/-- PART_CIDX_SEED (R248). -/
def specPART_CIDX_SEED : RegSpec := ⟨"PART_CIDX_SEED", 0x548, 0, 1, [
  { name := "SEED", lo := 0, w := 64, acc := .rw, reset := 0, retained := false }]⟩

/-- PART_DRW_CFG (R248). -/
def specPART_DRW_CFG : RegSpec := ⟨"PART_DRW_CFG", 0x550, 0, 1, [
  { name := "OFFSET_4K", lo := 0, w := 26, acc := .rw, reset := 0, retained := true },
  { name := "SIZE_4K", lo := 26, w := 26, acc := .rw, reset := 0, retained := true }]⟩

/-- PART_CTRL (R272). -/
def specPART_CTRL : RegSpec := ⟨"PART_CTRL", 0x0, 0, 1, [
  { name := "CREATE", lo := 0, w := 1, acc := .wo, reset := 0, retained := false },
  { name := "START", lo := 1, w := 1, acc := .wo, reset := 0, retained := false },
  { name := "STOP", lo := 2, w := 1, acc := .wo, reset := 0, retained := false },
  { name := "DESTROY", lo := 3, w := 1, acc := .wo, reset := 0, retained := false }]⟩

/-- PART_STAT (R272). -/
def specPART_STAT : RegSpec := ⟨"PART_STAT", 0x8, 0, 1, [
  { name := "STATE", lo := 0, w := 2, acc := .ro, reset := 0, retained := false },
  { name := "ERR", lo := 2, w := 4, acc := .ro, reset := 0, retained := false },
  { name := "HOLD", lo := 6, w := 1, acc := .rw1c, reset := 0, retained := false },
  { name := "GEN", lo := 7, w := 1, acc := .ro, reset := 0, retained := false },
  { name := "LATE_RUN", lo := 8, w := 8, acc := .ro, reset := 0, retained := false },
  { name := "SLIP", lo := 16, w := 32, acc := .ro, reset := 0, retained := false }]⟩

/-- PART_LAYOUT (R272). -/
def specPART_LAYOUT : RegSpec := ⟨"PART_LAYOUT", 0x10, 0, 1, [
  { name := "CLUSTERS", lo := 0, w := 16, acc := .rw, reset := 0, retained := true },
  { name := "PLACEMENT", lo := 16, w := 1, acc := .rw, reset := 0, retained := true },
  { name := "KIND", lo := 17, w := 1, acc := .rw, reset := 0, retained := true },
  { name := "RESIDENT_MAX", lo := 18, w := 8, acc := .rw, reset := 0, retained := true },
  { name := "CTX_FIRST", lo := 26, w := 12, acc := .rw, reset := 0, retained := true },
  { name := "CTX_COUNT", lo := 38, w := 13, acc := .rw, reset := 0, retained := true }]⟩

/-- PART_HBM (R272). -/
def specPART_HBM : RegSpec := ⟨"PART_HBM", 0x18, 0, 1, [
  { name := "BASE_2M", lo := 0, w := 19, acc := .rw, reset := 0, retained := true },
  { name := "SIZE_2M", lo := 19, w := 19, acc := .rw, reset := 0, retained := true }]⟩

/-- PART_RINGS (R272). -/
def specPART_RINGS : RegSpec := ⟨"PART_RINGS", 0x20, 0, 1, [
  { name := "FIRST", lo := 0, w := 17, acc := .rw, reset := 0, retained := true },
  { name := "COUNT", lo := 17, w := 18, acc := .rw, reset := 0, retained := true }]⟩

/-- PART_EXPO_BASE (R272). -/
def specPART_EXPO_BASE : RegSpec := ⟨"PART_EXPO_BASE", 0x28, 0, 1, [
  { name := "BASE", lo := 0, w := 64, acc := .rw, reset := 0, retained := false }]⟩

/-- PART_EXPO_PERIOD (R272). -/
def specPART_EXPO_PERIOD : RegSpec := ⟨"PART_EXPO_PERIOD", 0x30, 0, 1, [
  { name := "PERIOD_NS", lo := 0, w := 30, acc := .rw, reset := 0xF4240, retained := true },
  { name := "LATE_LIMIT", lo := 32, w := 8, acc := .rw, reset := 8, retained := true }]⟩

/-- PART_EXPO_WIN0 (R272). -/
def specPART_EXPO_WIN0 : RegSpec := ⟨"PART_EXPO_WIN0", 0x38, 0, 1, [
  { name := "ADMIT_LEAD", lo := 0, w := 20, acc := .rw, reset := 0x32, retained := true },
  { name := "DISPATCH", lo := 20, w := 20, acc := .rw, reset := 0, retained := true },
  { name := "COMBINE", lo := 40, w := 20, acc := .rw, reset := 0, retained := true }]⟩

/-- PART_EXPO_WIN1 (R272). -/
def specPART_EXPO_WIN1 : RegSpec := ⟨"PART_EXPO_WIN1", 0x40, 0, 1, [
  { name := "DRAIN", lo := 0, w := 20, acc := .rw, reset := 0, retained := true },
  { name := "COMMIT", lo := 20, w := 20, acc := .rw, reset := 0, retained := true },
  { name := "GUARD", lo := 40, w := 20, acc := .rw, reset := 0x64, retained := true }]⟩

/-- PART_SCHED (R272). -/
def specPART_SCHED : RegSpec := ⟨"PART_SCHED", 0x48, 0, 1, [
  { name := "QUANTUM_US", lo := 0, w := 16, acc := .rw, reset := 0, retained := true },
  { name := "SWAP_US", lo := 16, w := 24, acc := .rw, reset := 0x3E8, retained := true },
  { name := "SAVE_GROUPS", lo := 40, w := 5, acc := .rw, reset := 0x10, retained := true }]⟩

/-- PART_CTX_BASE (R272). -/
def specPART_CTX_BASE : RegSpec := ⟨"PART_CTX_BASE", 0x50, 0, 1, [
  { name := "ADDR", lo := 0, w := 48, acc := .rw, reset := 0, retained := true }]⟩

/-- PART_SAVE (R272). -/
def specPART_SAVE : RegSpec := ⟨"PART_SAVE", 0x58, 0, 1, [
  { name := "SAVE_OFF", lo := 0, w := 23, acc := .rw, reset := 0, retained := true }]⟩

/-- PART_EXPO_NOW (R272). -/
def specPART_EXPO_NOW : RegSpec := ⟨"PART_EXPO_NOW", 0x60, 0, 1, [
  { name := "EXPO", lo := 0, w := 64, acc := .ro, reset := 0, retained := false }]⟩

/-- PART_TRAIN (R272). -/
def specPART_TRAIN : RegSpec := ⟨"PART_TRAIN", 0x68, 8, 2, [
  { name := "BASE_2M", lo := 0, w := 19, acc := .rw, reset := 0, retained := true },
  { name := "SIZE_2M", lo := 19, w := 19, acc := .rw, reset := 0, retained := true }]⟩

/-- PLATE_SEQ_FAULT (R273). -/
def specPLATE_SEQ_FAULT : RegSpec := ⟨"PLATE_SEQ_FAULT", 0x120, 0, 1, [
  { name := "OPC", lo := 0, w := 8, acc := .ro, reset := 0, retained := false },
  { name := "STATUS", lo := 8, w := 16, acc := .ro, reset := 0, retained := false },
  { name := "CMD_INDEX", lo := 32, w := 31, acc := .ro, reset := 0, retained := false },
  { name := "VALID", lo := 63, w := 1, acc := .rw1c, reset := 0, retained := false }]⟩

/-- RING_TABLE (R304). -/
def specRING_TABLE : RegSpec := ⟨"RING_TABLE", 0x100, 0, 1, [
  { name := "ADDR", lo := 0, w := 48, acc := .rwl, reset := 0, retained := true }]⟩

/-- RING_CTRL (R304). -/
def specRING_CTRL : RegSpec := ⟨"RING_CTRL", 0x108, 0, 1, [
  { name := "RING", lo := 0, w := 17, acc := .wo, reset := 0, retained := false },
  { name := "ENABLE", lo := 17, w := 1, acc := .wo, reset := 0, retained := false },
  { name := "DISABLE", lo := 18, w := 1, acc := .wo, reset := 0, retained := false }]⟩

/-- RING_STAT (R304). -/
def specRING_STAT : RegSpec := ⟨"RING_STAT", 0x110, 0, 1, [
  { name := "RING", lo := 0, w := 17, acc := .ro, reset := 0, retained := false },
  { name := "ERR", lo := 17, w := 3, acc := .ro, reset := 0, retained := false },
  { name := "BUSY", lo := 20, w := 1, acc := .ro, reset := 0, retained := false }]⟩

/-- PART_INTAKE (R305). -/
def specPART_INTAKE : RegSpec := ⟨"PART_INTAKE", 0x600, 0, 1, [
  { name := "BASE", lo := 0, w := 48, acc := .rw, reset := 0, retained := true },
  { name := "LOG2", lo := 48, w := 5, acc := .rw, reset := 0xA, retained := true }]⟩

/-- PART_INTAKE_IDX (R305). -/
def specPART_INTAKE_IDX : RegSpec := ⟨"PART_INTAKE_IDX", 0x608, 0, 1, [
  { name := "TAIL", lo := 0, w := 32, acc := .ro, reset := 0, retained := false },
  { name := "HEAD", lo := 32, w := 32, acc := .rw, reset := 0, retained := false }]⟩

/-- PART_STEP (R305). -/
def specPART_STEP : RegSpec := ⟨"PART_STEP", 0x610, 0, 1, [
  { name := "ADDR", lo := 0, w := 48, acc := .rw, reset := 0, retained := true }]⟩

/-- PART_FW_RECORD (R500). -/
def specPART_FW_RECORD : RegSpec := ⟨"PART_FW_RECORD", 0x618, 0, 1, [
  { name := "ADDR", lo := 0, w := 48, acc := .rw, reset := 0, retained := false },
  { name := "POST", lo := 48, w := 1, acc := .wo, reset := 0, retained := false },
  { name := "BUSY", lo := 49, w := 1, acc := .ro, reset := 0, retained := false },
  { name := "ERR", lo := 50, w := 2, acc := .ro, reset := 0, retained := false }]⟩

/-- PART_FW_RING (R500). -/
def specPART_FW_RING : RegSpec := ⟨"PART_FW_RING", 0x620, 0, 1, [
  { name := "RING", lo := 0, w := 17, acc := .rw, reset := 0, retained := false }]⟩

/-- HBM_STAT (R323). -/
def specHBM_STAT : RegSpec := ⟨"HBM_STAT", 0x0, 0, 1, [
  { name := "TRAINED", lo := 0, w := 1, acc := .ro, reset := 0, retained := false },
  { name := "OFFLINE", lo := 1, w := 1, acc := .ro, reset := 0, retained := false },
  { name := "LEVEL", lo := 2, w := 3, acc := .ro, reset := 0, retained := false },
  { name := "TEMP_C", lo := 8, w := 8, acc := .ro, reset := 0, retained := false },
  { name := "REPAIRED", lo := 16, w := 16, acc := .ro, reset := 0, retained := false }]⟩

/-- HBM_THERM (R323). -/
def specHBM_THERM : RegSpec := ⟨"HBM_THERM", 0x8, 0, 1, [
  { name := "WARN_C", lo := 0, w := 8, acc := .rw, reset := 0x5F, retained := false, okLo := 80, okHi := 95 },
  { name := "STOP_MAX_MS", lo := 8, w := 10, acc := .rw, reset := 0x32, retained := false, okLo := 1, okHi := 1000 }]⟩

/-- HBM_ECC_STAT (R323). -/
def specHBM_ECC_STAT : RegSpec := ⟨"HBM_ECC_STAT", 0x10, 0, 1, [
  { name := "CE", lo := 0, w := 32, acc := .rw1c, reset := 0, retained := false },
  { name := "UE", lo := 32, w := 16, acc := .rw1c, reset := 0, retained := false },
  { name := "CRC_RETRY", lo := 48, w := 16, acc := .rw1c, reset := 0, retained := false }]⟩

/-- HBM_ECC_ADDR (R323). -/
def specHBM_ECC_ADDR : RegSpec := ⟨"HBM_ECC_ADDR", 0x18, 0, 1, [
  { name := "ADDR", lo := 0, w := 48, acc := .ro, reset := 0, retained := false },
  { name := "VALID", lo := 63, w := 1, acc := .rw1c, reset := 0, retained := false }]⟩

/-- HBM_WCB_STAT (R323). -/
def specHBM_WCB_STAT : RegSpec := ⟨"HBM_WCB_STAT", 0x20, 0, 1, [
  { name := "ENTRIES", lo := 0, w := 7, acc := .ro, reset := 0, retained := false }]⟩

/-- DRW_STAT (R324). -/
def specDRW_STAT : RegSpec := ⟨"DRW_STAT", 0x200, 0, 1, [
  { name := "TRAINED", lo := 0, w := 4, acc := .ro, reset := 0, retained := false },
  { name := "TEMP_C", lo := 4, w := 8, acc := .ro, reset := 0, retained := false }]⟩

/-- DRW_ECC_STAT (R324). -/
def specDRW_ECC_STAT : RegSpec := ⟨"DRW_ECC_STAT", 0x208, 0, 1, [
  { name := "LINK_CE", lo := 0, w := 32, acc := .rw1c, reset := 0, retained := false },
  { name := "UE", lo := 32, w := 16, acc := .rw1c, reset := 0, retained := false },
  { name := "TAG_FAIL", lo := 48, w := 16, acc := .rw1c, reset := 0, retained := false }]⟩

/-- DRW_ECC_ADDR (R324). -/
def specDRW_ECC_ADDR : RegSpec := ⟨"DRW_ECC_ADDR", 0x210, 0, 1, [
  { name := "ADDR", lo := 0, w := 48, acc := .ro, reset := 0, retained := false },
  { name := "VALID", lo := 63, w := 1, acc := .rw1c, reset := 0, retained := false }]⟩

/-- TIMER_CFG (R341). -/
def specTIMER_CFG : RegSpec := ⟨"TIMER_CFG", 0x0, 0, 1, [
  { name := "REF_SEL", lo := 0, w := 1, acc := .rw, reset := 0, retained := true },
  { name := "PPS_IN", lo := 1, w := 2, acc := .rw, reset := 0, retained := true, okLo := 0, okHi := 2 },
  { name := "PPS_OUT_EN", lo := 3, w := 1, acc := .rw, reset := 1, retained := true },
  { name := "PPS_OUT_FREE", lo := 4, w := 1, acc := .rw, reset := 0, retained := true },
  { name := "LOG_SYNC", lo := 8, w := 3, acc := .rw, reset := 3, retained := true },
  { name := "LOG_DELAY", lo := 11, w := 3, acc := .rw, reset := 3, retained := true },
  { name := "DOMAIN", lo := 16, w := 8, acc := .rw, reset := 0, retained := true },
  { name := "LOCK_NS", lo := 24, w := 10, acc := .rw, reset := 0x14, retained := true, okLo := 1, okHi := 1000 }]⟩

/-- TIMER_LIMITS (R341). -/
def specTIMER_LIMITS : RegSpec := ⟨"TIMER_LIMITS", 0x8, 0, 1, [
  { name := "STEP_NS", lo := 0, w := 32, acc := .rw, reset := 0x3E8, retained := true, okLo := 100, okHi := 4294967295 },
  { name := "HOLD_LIMIT_NS", lo := 32, w := 32, acc := .rw, reset := 0x186A0, retained := true }]⟩

/-- TIMER_STAT (R341). -/
def specTIMER_STAT : RegSpec := ⟨"TIMER_STAT", 0x10, 0, 1, [
  { name := "STATE", lo := 0, w := 2, acc := .ro, reset := 0, retained := false },
  { name := "REF_OK", lo := 2, w := 1, acc := .ro, reset := 0, retained := false },
  { name := "DEEP", lo := 3, w := 1, acc := .ro, reset := 0, retained := false },
  { name := "UPSTREAM", lo := 4, w := 4, acc := .ro, reset := 0, retained := false },
  { name := "STEPS_REMOVED", lo := 8, w := 8, acc := .ro, reset := 0, retained := false },
  { name := "STEPS", lo := 16, w := 16, acc := .rw1c, reset := 0, retained := false },
  { name := "RELOADS", lo := 32, w := 16, acc := .rw1c, reset := 0, retained := false }]⟩

/-- TIMER_NOW (R341). -/
def specTIMER_NOW : RegSpec := ⟨"TIMER_NOW", 0x18, 0, 1, [
  { name := "T64", lo := 0, w := 64, acc := .ro, reset := 0, retained := false }]⟩

/-- TIMER_PPS_IN_TS (R341). -/
def specTIMER_PPS_IN_TS : RegSpec := ⟨"TIMER_PPS_IN_TS", 0x28, 0, 1, [
  { name := "T64", lo := 0, w := 64, acc := .ro, reset := 0, retained := false }]⟩

/-- TIMER_OFFSET (R341). -/
def specTIMER_OFFSET : RegSpec := ⟨"TIMER_OFFSET", 0x20, 0, 1, [
  { name := "OFFSET", lo := 0, w := 32, acc := .ro, reset := 0, retained := false },
  { name := "PATH", lo := 32, w := 32, acc := .ro, reset := 0, retained := false }]⟩

/-- TIMER_PPS_OUT (R341). -/
def specTIMER_PPS_OUT : RegSpec := ⟨"TIMER_PPS_OUT", 0x30, 0, 1, [
  { name := "OFFSET_NS", lo := 0, w := 32, acc := .rw, reset := 0, retained := true }]⟩

/-- TIMER_SET (R341). -/
def specTIMER_SET : RegSpec := ⟨"TIMER_SET", 0x38, 0, 1, [
  { name := "T64", lo := 0, w := 64, acc := .wo, reset := 0, retained := false }]⟩

/-- TIMER_PORT (R342). -/
def specTIMER_PORT : RegSpec := ⟨"TIMER_PORT", 0x100, 8, 16, [
  { name := "ROLE", lo := 0, w := 2, acc := .rw, reset := 0, retained := true, okLo := 0, okHi := 2 },
  { name := "TWO_STEP", lo := 2, w := 1, acc := .rw, reset := 0, retained := true },
  { name := "TRANSPORT", lo := 3, w := 1, acc := .rw, reset := 0, retained := true },
  { name := "ASYM_PS", lo := 8, w := 24, acc := .rw, reset := 0, retained := true },
  { name := "TX_LAT", lo := 32, w := 16, acc := .ro, reset := 0, retained := false },
  { name := "RX_LAT", lo := 48, w := 16, acc := .ro, reset := 0, retained := false }]⟩

/-- FAB_PORT_CFG (R363). -/
def specFAB_PORT_CFG : RegSpec := ⟨"FAB_PORT_CFG", 0x0, 0, 1, [
  { name := "SPLIT", lo := 0, w := 1, acc := .rwl, reset := 0, retained := true },
  { name := "ENABLE_A", lo := 1, w := 1, acc := .rwl, reset := 1, retained := true },
  { name := "ENABLE_B", lo := 2, w := 1, acc := .rwl, reset := 1, retained := true },
  { name := "KIND_A", lo := 4, w := 2, acc := .rwl, reset := 0, retained := true },
  { name := "KIND_B", lo := 6, w := 2, acc := .rwl, reset := 0, retained := true }]⟩

/-- FAB_PORT_STAT (R363). -/
def specFAB_PORT_STAT : RegSpec := ⟨"FAB_PORT_STAT", 0x8, 0, 1, [
  { name := "LINK_A", lo := 0, w := 1, acc := .ro, reset := 0, retained := false },
  { name := "LINK_B", lo := 1, w := 1, acc := .ro, reset := 0, retained := false },
  { name := "STATE_A", lo := 2, w := 2, acc := .ro, reset := 0, retained := false },
  { name := "STATE_B", lo := 4, w := 2, acc := .ro, reset := 0, retained := false },
  { name := "CAUSE_A", lo := 6, w := 2, acc := .ro, reset := 0, retained := false },
  { name := "CAUSE_B", lo := 8, w := 2, acc := .ro, reset := 0, retained := false },
  { name := "FLAPS", lo := 16, w := 16, acc := .rw1c, reset := 0, retained := false },
  { name := "FEC_UNCORR", lo := 32, w := 16, acc := .rw1c, reset := 0, retained := false }]⟩

/-- FAB_MAC (R363). -/
def specFAB_MAC : RegSpec := ⟨"FAB_MAC", 0x10, 8, 2, [
  { name := "MAC", lo := 0, w := 48, acc := .ro, reset := 0, retained := false }]⟩

/-- FAB_IP6 (R363). -/
def specFAB_IP6 : RegSpec := ⟨"FAB_IP6", 0x20, 8, 4, [
  { name := "ADDR", lo := 0, w := 64, acc := .rwl, reset := 0, retained := true }]⟩

/-- FAB_INSTALL (R363). -/
def specFAB_INSTALL : RegSpec := ⟨"FAB_INSTALL", 0x40, 8, 2, [
  { name := "EXPECT_ENGINE", lo := 0, w := 32, acc := .rwl, reset := 0, retained := true },
  { name := "EXPECT_HALF", lo := 32, w := 4, acc := .rwl, reset := 0, retained := true }]⟩

/-- FAB_NBR (R363). -/
def specFAB_NBR : RegSpec := ⟨"FAB_NBR", 0x50, 8, 2, [
  { name := "ENGINE", lo := 0, w := 32, acc := .ro, reset := 0xFFFFFFFF, retained := false },
  { name := "HALF", lo := 32, w := 4, acc := .ro, reset := 0, retained := false },
  { name := "VALID", lo := 36, w := 1, acc := .ro, reset := 0, retained := false }]⟩

/-- FAB_MACSEC_CFG (R363). -/
def specFAB_MACSEC_CFG : RegSpec := ⟨"FAB_MACSEC_CFG", 0x60, 8, 2, [
  { name := "ENABLE", lo := 0, w := 1, acc := .rw, reset := 0, retained := true },
  { name := "XPN", lo := 1, w := 1, acc := .rw, reset := 1, retained := true },
  { name := "REPLAY_WINDOW", lo := 8, w := 32, acc := .rw, reset := 0x40, retained := true }]⟩

/-- FAB_SYSTEM_ID (R364). -/
def specFAB_SYSTEM_ID : RegSpec := ⟨"FAB_SYSTEM_ID", 0x300, 0, 1, [
  { name := "ID", lo := 0, w := 64, acc := .rwl, reset := 0, retained := true }]⟩

/-- FAB_LLDP (R364). -/
def specFAB_LLDP : RegSpec := ⟨"FAB_LLDP", 0x308, 0, 1, [
  { name := "TX_S", lo := 0, w := 5, acc := .rw, reset := 1, retained := true, okLo := 1, okHi := 30 },
  { name := "LINKDOWN_MS", lo := 16, w := 16, acc := .rw, reset := 0x64, retained := true, okLo := 1, okHi := 65535 }]⟩

/-- FAB_CBT_CFG (R364). -/
def specFAB_CBT_CFG : RegSpec := ⟨"FAB_CBT_CFG", 0x310, 0, 1, [
  { name := "UDP_PORT", lo := 0, w := 16, acc := .rwl, reset := 0xC800, retained := true, okLo := 49152, okHi := 65535 },
  { name := "RTO_US", lo := 16, w := 12, acc := .rw, reset := 0x32, retained := true },
  { name := "MAX_RESEND", lo := 28, w := 4, acc := .rw, reset := 8, retained := true },
  { name := "GIVEUP_US", lo := 32, w := 24, acc := .rw, reset := 0x1388, retained := true }]⟩

/-- FAB_IDENT (R364). -/
def specFAB_IDENT : RegSpec := ⟨"FAB_IDENT", 0x318, 0, 1, [
  { name := "OUI", lo := 0, w := 24, acc := .ro, reset := 0, retained := false }]⟩

/-- PART_CIRCUIT (R365). -/
def specPART_CIRCUIT : RegSpec := ⟨"PART_CIRCUIT", 0x700, 0, 1, [
  { name := "PLAN_ADDR", lo := 0, w := 48, acc := .rw, reset := 0, retained := false },
  { name := "BIND", lo := 48, w := 1, acc := .wo, reset := 0, retained := false },
  { name := "UNBIND", lo := 49, w := 1, acc := .wo, reset := 0, retained := false },
  { name := "BOUND", lo := 50, w := 1, acc := .ro, reset := 0, retained := false },
  { name := "ERR", lo := 51, w := 3, acc := .ro, reset := 0, retained := false }]⟩

/-- CARR_RANKS (R389). -/
def specCARR_RANKS : RegSpec := ⟨"CARR_RANKS", 0x800, 0, 1, [
  { name := "ADDR", lo := 0, w := 48, acc := .rw, reset := 0, retained := false }]⟩

/-- CARR_HOME (R389). -/
def specCARR_HOME : RegSpec := ⟨"CARR_HOME", 0x808, 0, 1, [
  { name := "ADDR", lo := 0, w := 48, acc := .rw, reset := 0, retained := false }]⟩

/-- CARR_LAYERS (R389). -/
def specCARR_LAYERS : RegSpec := ⟨"CARR_LAYERS", 0x810, 0, 1, [
  { name := "ADDR", lo := 0, w := 48, acc := .rw, reset := 0, retained := false }]⟩

/-- CARR_TREE (R389). -/
def specCARR_TREE : RegSpec := ⟨"CARR_TREE", 0x818, 0, 1, [
  { name := "ADDR", lo := 0, w := 48, acc := .rw, reset := 0, retained := false }]⟩

/-- CARR_JOB (R389). -/
def specCARR_JOB : RegSpec := ⟨"CARR_JOB", 0x820, 0, 1, [
  { name := "NRANKS", lo := 0, w := 16, acc := .rw, reset := 1, retained := false, okLo := 1, okHi := 32768 },
  { name := "SELF", lo := 16, w := 16, acc := .rw, reset := 0, retained := false }]⟩

/-- CARR_OUTBUF (R389). -/
def specCARR_OUTBUF : RegSpec := ⟨"CARR_OUTBUF", 0x828, 0, 1, [
  { name := "BASE_4K", lo := 0, w := 28, acc := .rw, reset := 0, retained := false },
  { name := "SIZE_4K", lo := 28, w := 17, acc := .rw, reset := 0, retained := false }]⟩

/-- CARR_INBUF (R389). -/
def specCARR_INBUF : RegSpec := ⟨"CARR_INBUF", 0x830, 0, 1, [
  { name := "BASE_4K", lo := 0, w := 28, acc := .rw, reset := 0, retained := false },
  { name := "SIZE_4K", lo := 28, w := 17, acc := .rw, reset := 0, retained := false }]⟩

/-- CARR_CFG (R389). -/
def specCARR_CFG : RegSpec := ⟨"CARR_CFG", 0x838, 0, 1, [
  { name := "LOST_MS", lo := 0, w := 16, acc := .rw, reset := 0x3E8, retained := true, okLo := 1, okHi := 65535 }]⟩

/-- CARR_STAT (R389). -/
def specCARR_STAT : RegSpec := ⟨"CARR_STAT", 0x840, 0, 1, [
  { name := "OUT_USED_4K", lo := 0, w := 17, acc := .ro, reset := 0, retained := false },
  { name := "LOST", lo := 17, w := 1, acc := .rw1c, reset := 0, retained := false }]⟩

/-- HAL_EPOCH (R389). -/
def specHAL_EPOCH : RegSpec := ⟨"HAL_EPOCH", 0x900, 8, 15, [
  { name := "EPOCHS", lo := 0, w := 64, acc := .ro, reset := 0, retained := false }]⟩

/-- HAL_SLOTS (R389). -/
def specHAL_SLOTS : RegSpec := ⟨"HAL_SLOTS", 0x978, 0, 1, [
  { name := "CUR", lo := 0, w := 30, acc := .ro, reset := 0, retained := false },
  { name := "HAS_CUR", lo := 32, w := 15, acc := .ro, reset := 0, retained := false }]⟩

/-- REL_LOG (R422). -/
def specREL_LOG : RegSpec := ⟨"REL_LOG", 0x400, 0, 1, [
  { name := "BASE", lo := 0, w := 48, acc := .rwl, reset := 0, retained := true },
  { name := "LOG2", lo := 48, w := 5, acc := .rwl, reset := 0xE, retained := true, okLo := 10, okHi := 20 }]⟩

/-- REL_LOG_IDX (R422). -/
def specREL_LOG_IDX : RegSpec := ⟨"REL_LOG_IDX", 0x408, 0, 1, [
  { name := "TAIL", lo := 0, w := 32, acc := .ro, reset := 0, retained := false },
  { name := "HEAD", lo := 32, w := 32, acc := .rw, reset := 0, retained := false }]⟩

/-- REL_LOG_STAT (R422). -/
def specREL_LOG_STAT : RegSpec := ⟨"REL_LOG_STAT", 0x410, 0, 1, [
  { name := "OVERWRITTEN", lo := 0, w := 32, acc := .rw1c, reset := 0, retained := false },
  { name := "DIE_DROPPED", lo := 32, w := 16, acc := .rw1c, reset := 0, retained := false }]⟩

/-- REL_WASH (R422). -/
def specREL_WASH : RegSpec := ⟨"REL_WASH", 0x418, 0, 1, [
  { name := "HBM_HOURS", lo := 0, w := 5, acc := .rw, reset := 6, retained := true, okLo := 1, okHi := 24 },
  { name := "DRW_HOURS", lo := 5, w := 5, acc := .rw, reset := 6, retained := true, okLo := 1, okHi := 24 }]⟩

/-- REL_FAULT (R422). -/
def specREL_FAULT : RegSpec := ⟨"REL_FAULT", 0x420, 0, 1, [
  { name := "CAUSE", lo := 0, w := 8, acc := .ro, reset := 0, retained := false },
  { name := "FAULT", lo := 8, w := 1, acc := .ro, reset := 0, retained := false },
  { name := "FW_FAULT", lo := 9, w := 1, acc := .wo, reset := 0, retained := false }]⟩

/-- PART_PAIR (R423). -/
def specPART_PAIR : RegSpec := ⟨"PART_PAIR", 0xa00, 0, 1, [
  { name := "MODE", lo := 0, w := 2, acc := .rw, reset := 0, retained := true, okLo := 0, okHi := 2 },
  { name := "ROLE", lo := 2, w := 1, acc := .rw, reset := 0, retained := true },
  { name := "HALF", lo := 3, w := 4, acc := .rw, reset := 0xE, retained := true },
  { name := "HB_GRACE_US", lo := 8, w := 16, acc := .rw, reset := 0x3E8, retained := true, okLo := 1, okHi := 65535 },
  { name := "WITNESS_MS", lo := 24, w := 16, acc := .rw, reset := 0x14, retained := true, okLo := 1, okHi := 65535 },
  { name := "ENABLE", lo := 40, w := 1, acc := .wo, reset := 0, retained := false },
  { name := "DISABLE", lo := 41, w := 1, acc := .wo, reset := 0, retained := false },
  { name := "FORCE_TAKEOVER", lo := 42, w := 1, acc := .wo, reset := 0, retained := false }]⟩

/-- PART_PAIR_STAT (R423). -/
def specPART_PAIR_STAT : RegSpec := ⟨"PART_PAIR_STAT", 0xa08, 0, 1, [
  { name := "STATE", lo := 0, w := 3, acc := .ro, reset := 0, retained := false },
  { name := "ERR", lo := 3, w := 3, acc := .ro, reset := 0, retained := false },
  { name := "MISSES", lo := 6, w := 2, acc := .ro, reset := 0, retained := false },
  { name := "PAIR_EPOCH", lo := 16, w := 16, acc := .ro, reset := 0, retained := false },
  { name := "APPLIED", lo := 32, w := 32, acc := .ro, reset := 0, retained := false }]⟩

/-- PART_GOLD (R423). -/
def specPART_GOLD : RegSpec := ⟨"PART_GOLD", 0xa10, 0, 1, [
  { name := "MAP_ADDR", lo := 0, w := 48, acc := .rw, reset := 0, retained := false }]⟩

/-- PART_GOLD_CNT (R423). -/
def specPART_GOLD_CNT : RegSpec := ⟨"PART_GOLD_CNT", 0xa18, 0, 1, [
  { name := "ENTRIES", lo := 0, w := 24, acc := .rw, reset := 0, retained := false }]⟩

/-- PART_GOLD_ID (R423). -/
def specPART_GOLD_ID : RegSpec := ⟨"PART_GOLD_ID", 0xa20, 0, 1, [
  { name := "MODEL_ID", lo := 0, w := 64, acc := .rw, reset := 0, retained := false }]⟩

/-- PART_REL_STAT (R423). -/
def specPART_REL_STAT : RegSpec := ⟨"PART_REL_STAT", 0xa28, 0, 1, [
  { name := "OFFLINE", lo := 0, w := 1, acc := .ro, reset := 0, retained := false },
  { name := "VOIDS", lo := 16, w := 16, acc := .rw1c, reset := 0, retained := false },
  { name := "REPLAY_FAILS", lo := 32, w := 16, acc := .rw1c, reset := 0, retained := false },
  { name := "RELOADS", lo := 48, w := 16, acc := .rw1c, reset := 0, retained := false }]⟩

/-- SEC_STAT (R447). -/
def specSEC_STAT : RegSpec := ⟨"SEC_STAT", 0x0, 0, 1, [
  { name := "LOCKED", lo := 0, w := 1, acc := .ro, reset := 0, retained := false },
  { name := "FOGGED_ALL", lo := 1, w := 1, acc := .ro, reset := 0, retained := false },
  { name := "DEBUG", lo := 2, w := 1, acc := .ro, reset := 0, retained := false },
  { name := "FOG_BUSY", lo := 3, w := 1, acc := .ro, reset := 0, retained := false },
  { name := "SVN", lo := 4, w := 8, acc := .ro, reset := 0, retained := false },
  { name := "BOOT_BANK", lo := 12, w := 1, acc := .ro, reset := 0, retained := false }]⟩

/-- SEC_ALARM_POLICY (R447). -/
def specSEC_ALARM_POLICY : RegSpec := ⟨"SEC_ALARM_POLICY", 0x8, 0, 1, [
  { name := "POLICY", lo := 0, w := 14, acc := .rwl, reset := 0x45E, retained := true }]⟩

/-- SEC_ALARM_STAT (R447). -/
def specSEC_ALARM_STAT : RegSpec := ⟨"SEC_ALARM_STAT", 0x10, 0, 1, [
  { name := "LATCHED", lo := 0, w := 7, acc := .rw1c, reset := 0, retained := false },
  { name := "LAST", lo := 8, w := 3, acc := .ro, reset := 0, retained := false }]⟩

/-- SEC_SIGFAIL (R447). -/
def specSEC_SIGFAIL : RegSpec := ⟨"SEC_SIGFAIL", 0x18, 0, 1, [
  { name := "LIMIT", lo := 0, w := 8, acc := .rwl, reset := 8, retained := true, okLo := 1, okHi := 255 },
  { name := "COUNT", lo := 8, w := 16, acc := .ro, reset := 0, retained := false }]⟩

/-- SEC_NONCE (R447). -/
def specSEC_NONCE : RegSpec := ⟨"SEC_NONCE", 0x20, 0, 1, [
  { name := "NONCE", lo := 0, w := 64, acc := .ro, reset := 0, retained := false }]⟩

/-- SEC_OPER_KEY (R447). -/
def specSEC_OPER_KEY : RegSpec := ⟨"SEC_OPER_KEY", 0x40, 8, 8, [
  { name := "DIGEST", lo := 0, w := 64, acc := .rwl, reset := 0, retained := true }]⟩

/-- SEC_EXTEND (R447). -/
def specSEC_EXTEND : RegSpec := ⟨"SEC_EXTEND", 0x80, 0, 1, [
  { name := "ADDR", lo := 0, w := 48, acc := .wo, reset := 0, retained := false },
  { name := "SLOT", lo := 48, w := 4, acc := .wo, reset := 0, retained := false }]⟩

/-- SEC_PKG_SRC (R447). -/
def specSEC_PKG_SRC : RegSpec := ⟨"SEC_PKG_SRC", 0x88, 0, 1, [
  { name := "ADDR", lo := 0, w := 48, acc := .rw, reset := 0, retained := false }]⟩

/-- SEC_PKG_DST (R447). -/
def specSEC_PKG_DST : RegSpec := ⟨"SEC_PKG_DST", 0x90, 0, 1, [
  { name := "ADDR", lo := 0, w := 48, acc := .rw, reset := 0, retained := false }]⟩

/-- SEC_PKG_CTRL (R447). -/
def specSEC_PKG_CTRL : RegSpec := ⟨"SEC_PKG_CTRL", 0x98, 0, 1, [
  { name := "PART", lo := 0, w := 4, acc := .rw, reset := 0, retained := false },
  { name := "START", lo := 4, w := 1, acc := .wo, reset := 0, retained := false },
  { name := "BUSY", lo := 5, w := 1, acc := .ro, reset := 0, retained := false },
  { name := "STATUS", lo := 16, w := 16, acc := .ro, reset := 0, retained := false }]⟩

/-- SEC_TOKEN (R447). -/
def specSEC_TOKEN : RegSpec := ⟨"SEC_TOKEN", 0xa0, 0, 1, [
  { name := "ADDR", lo := 0, w := 48, acc := .rw, reset := 0, retained := false },
  { name := "SUBMIT", lo := 48, w := 1, acc := .wo, reset := 0, retained := false },
  { name := "BUSY", lo := 49, w := 1, acc := .ro, reset := 0, retained := false }]⟩

/-- PWR_STATE (R471). -/
def specPWR_STATE : RegSpec := ⟨"PWR_STATE", 0x0, 0, 1, [
  { name := "STATE", lo := 0, w := 3, acc := .ro, reset := 2, retained := false },
  { name := "DRAINED", lo := 3, w := 1, acc := .ro, reset := 0, retained := false },
  { name := "BOOT_TRY", lo := 4, w := 1, acc := .ro, reset := 0, retained := false },
  { name := "DRAIN_LEFT_S", lo := 32, w := 32, acc := .ro, reset := 0, retained := false }]⟩

/-- PWR_CTRL (R471). -/
def specPWR_CTRL : RegSpec := ⟨"PWR_CTRL", 0x8, 0, 1, [
  { name := "DRAIN", lo := 0, w := 1, acc := .wo, reset := 0, retained := false },
  { name := "DEADLINE_S", lo := 1, w := 12, acc := .wo, reset := 0, retained := false },
  { name := "RESET", lo := 13, w := 1, acc := .wo, reset := 0, retained := false }]⟩

/-- PWR_CAP (R471). -/
def specPWR_CAP : RegSpec := ⟨"PWR_CAP", 0x10, 0, 1, [
  { name := "CAP_W", lo := 0, w := 12, acc := .rw, reset := 0x7D0, retained := true, okLo := 800, okHi := 2000 },
  { name := "JTHROT_C", lo := 12, w := 8, acc := .rw, reset := 0x64, retained := true, okLo := 85, okHi := 110 }]⟩

/-- PWR_DROOP (R471). -/
def specPWR_DROOP : RegSpec := ⟨"PWR_DROOP", 0x18, 0, 1, [
  { name := "DROOP_MV", lo := 0, w := 7, acc := .rw, reset := 0x28, retained := true, okLo := 20, okHi := 80 }]⟩

/-- PWR_INPUT (R471). -/
def specPWR_INPUT : RegSpec := ⟨"PWR_INPUT", 0x20, 0, 1, [
  { name := "VIN", lo := 0, w := 16, acc := .ro, reset := 0, retained := false },
  { name := "IIN", lo := 16, w := 16, acc := .ro, reset := 0, retained := false },
  { name := "PIN_W", lo := 32, w := 16, acc := .ro, reset := 0, retained := false },
  { name := "P100_W", lo := 48, w := 16, acc := .ro, reset := 0, retained := false }]⟩

/-- PWR_STAT (R471). -/
def specPWR_STAT : RegSpec := ⟨"PWR_STAT", 0x28, 0, 1, [
  { name := "RAIL_PG", lo := 0, w := 13, acc := .ro, reset := 0, retained := false },
  { name := "DUTY", lo := 16, w := 5, acc := .ro, reset := 0x10, retained := false },
  { name := "STRETCHES", lo := 24, w := 32, acc := .rw1c, reset := 0, retained := false }]⟩

/-- PART_PWR_CAP (R472). -/
def specPART_PWR_CAP : RegSpec := ⟨"PART_PWR_CAP", 0xb00, 0, 1, [
  { name := "CAP_W", lo := 0, w := 12, acc := .rw, reset := 0, retained := true },
  { name := "DUTY", lo := 12, w := 5, acc := .ro, reset := 0x10, retained := false }]⟩

/-- MGMT_CFG (R473). -/
def specMGMT_CFG : RegSpec := ⟨"MGMT_CFG", 0x500, 0, 1, [
  { name := "VETAS_PORT", lo := 0, w := 16, acc := .rwl, reset := 0x120C, retained := true },
  { name := "FE_PORT", lo := 16, w := 16, acc := .rw, reset := 0x1BB, retained := true },
  { name := "I3C_TRUST", lo := 32, w := 1, acc := .rwl, reset := 1, retained := true },
  { name := "I3C_ADDR", lo := 33, w := 7, acc := .rwl, reset := 0x30, retained := true },
  { name := "WITNESS_PORT", lo := 40, w := 16, acc := .rw, reset := 0x120D, retained := true }]⟩

/-- MGMT_OOB_IP6 (R473). -/
def specMGMT_OOB_IP6 : RegSpec := ⟨"MGMT_OOB_IP6", 0x508, 8, 2, [
  { name := "ADDR", lo := 0, w := 64, acc := .rwl, reset := 0, retained := true }]⟩

/-- MGMT_WITNESS_IP6 (R473). -/
def specMGMT_WITNESS_IP6 : RegSpec := ⟨"MGMT_WITNESS_IP6", 0x518, 8, 2, [
  { name := "ADDR", lo := 0, w := 64, acc := .rw, reset := 0, retained := true }]⟩

/-- MGMT_SETTINGS (R473). -/
def specMGMT_SETTINGS : RegSpec := ⟨"MGMT_SETTINGS", 0x528, 0, 1, [
  { name := "SOURCE", lo := 0, w := 2, acc := .ro, reset := 0, retained := false },
  { name := "BUSY", lo := 2, w := 1, acc := .ro, reset := 0, retained := false },
  { name := "IGNORED", lo := 16, w := 16, acc := .ro, reset := 0, retained := false },
  { name := "SEQ", lo := 32, w := 32, acc := .ro, reset := 0, retained := false }]⟩

/-- MGMT_IDENT (R473). -/
def specMGMT_IDENT : RegSpec := ⟨"MGMT_IDENT", 0x530, 0, 1, [
  { name := "IANA", lo := 0, w := 32, acc := .ro, reset := 0, retained := false }]⟩

/-- DENS_CTR_PLATE (R484). -/
def specDENS_CTR_PLATE : RegSpec := ⟨"DENS_CTR_PLATE", 0x8000, 8, 16, [
  { name := "COUNT", lo := 0, w := 48, acc := .rw, reset := 0, retained := false },
  { name := "OVF", lo := 63, w := 1, acc := .ro, reset := 0, retained := false }]⟩

/-- DENS_CTR_CLUSTER (R484). -/
def specDENS_CTR_CLUSTER : RegSpec := ⟨"DENS_CTR_CLUSTER", 0x8000, 8, 16, [
  { name := "COUNT", lo := 0, w := 48, acc := .rw, reset := 0, retained := false },
  { name := "OVF", lo := 63, w := 1, acc := .ro, reset := 0, retained := false }]⟩

/-- DENS_CTR_PART (R484). -/
def specDENS_CTR_PART : RegSpec := ⟨"DENS_CTR_PART", 0x8000, 8, 16, [
  { name := "COUNT", lo := 0, w := 48, acc := .rw, reset := 0, retained := false },
  { name := "OVF", lo := 63, w := 1, acc := .ro, reset := 0, retained := false }]⟩

/-- DENS_CTR_HBM (R484). -/
def specDENS_CTR_HBM : RegSpec := ⟨"DENS_CTR_HBM", 0x8000, 8, 16, [
  { name := "COUNT", lo := 0, w := 48, acc := .rw, reset := 0, retained := false },
  { name := "OVF", lo := 63, w := 1, acc := .ro, reset := 0, retained := false }]⟩

/-- DENS_CTR_PORTA (R484). -/
def specDENS_CTR_PORTA : RegSpec := ⟨"DENS_CTR_PORTA", 0x8000, 8, 16, [
  { name := "COUNT", lo := 0, w := 48, acc := .rw, reset := 0, retained := false },
  { name := "OVF", lo := 63, w := 1, acc := .ro, reset := 0, retained := false }]⟩

/-- DENS_CTR_PORTB (R484). -/
def specDENS_CTR_PORTB : RegSpec := ⟨"DENS_CTR_PORTB", 0x8100, 8, 16, [
  { name := "COUNT", lo := 0, w := 48, acc := .rw, reset := 0, retained := false },
  { name := "OVF", lo := 63, w := 1, acc := .ro, reset := 0, retained := false }]⟩

/-- DENS_CTR_CD0 (R484). -/
def specDENS_CTR_CD0 : RegSpec := ⟨"DENS_CTR_CD0", 0x1000, 8, 16, [
  { name := "COUNT", lo := 0, w := 48, acc := .rw, reset := 0, retained := false },
  { name := "OVF", lo := 63, w := 1, acc := .ro, reset := 0, retained := false }]⟩

/-- DENS_CTR_CD1 (R484). -/
def specDENS_CTR_CD1 : RegSpec := ⟨"DENS_CTR_CD1", 0x1100, 8, 16, [
  { name := "COUNT", lo := 0, w := 48, acc := .rw, reset := 0, retained := false },
  { name := "OVF", lo := 63, w := 1, acc := .ro, reset := 0, retained := false }]⟩

/-- DENS_CTR_ENGINE (R484). -/
def specDENS_CTR_ENGINE : RegSpec := ⟨"DENS_CTR_ENGINE", 0x1f00, 8, 16, [
  { name := "COUNT", lo := 0, w := 48, acc := .rw, reset := 0, retained := false },
  { name := "OVF", lo := 63, w := 1, acc := .ro, reset := 0, retained := false }]⟩

/-- DENS_SEL_PLATE (R484). -/
def specDENS_SEL_PLATE : RegSpec := ⟨"DENS_SEL_PLATE", 0x8080, 8, 16, [
  { name := "EVENT", lo := 0, w := 8, acc := .rw, reset := 0, retained := false },
  { name := "MODE", lo := 8, w := 1, acc := .rw, reset := 0, retained := false },
  { name := "HARVEST", lo := 9, w := 1, acc := .rw, reset := 0, retained := false },
  { name := "OVF_LOG", lo := 10, w := 1, acc := .rw, reset := 0, retained := false }]⟩

/-- DENS_SEL_CLUSTER (R484). -/
def specDENS_SEL_CLUSTER : RegSpec := ⟨"DENS_SEL_CLUSTER", 0x8080, 8, 16, [
  { name := "EVENT", lo := 0, w := 8, acc := .rw, reset := 0, retained := false },
  { name := "MODE", lo := 8, w := 1, acc := .rw, reset := 0, retained := false },
  { name := "HARVEST", lo := 9, w := 1, acc := .rw, reset := 0, retained := false },
  { name := "OVF_LOG", lo := 10, w := 1, acc := .rw, reset := 0, retained := false }]⟩

/-- DENS_SEL_PART (R484). -/
def specDENS_SEL_PART : RegSpec := ⟨"DENS_SEL_PART", 0x8080, 8, 16, [
  { name := "EVENT", lo := 0, w := 8, acc := .rw, reset := 0, retained := false },
  { name := "MODE", lo := 8, w := 1, acc := .rw, reset := 0, retained := false },
  { name := "HARVEST", lo := 9, w := 1, acc := .rw, reset := 0, retained := false },
  { name := "OVF_LOG", lo := 10, w := 1, acc := .rw, reset := 0, retained := false }]⟩

/-- DENS_SEL_HBM (R484). -/
def specDENS_SEL_HBM : RegSpec := ⟨"DENS_SEL_HBM", 0x8080, 8, 16, [
  { name := "EVENT", lo := 0, w := 8, acc := .rw, reset := 0, retained := false },
  { name := "MODE", lo := 8, w := 1, acc := .rw, reset := 0, retained := false },
  { name := "HARVEST", lo := 9, w := 1, acc := .rw, reset := 0, retained := false },
  { name := "OVF_LOG", lo := 10, w := 1, acc := .rw, reset := 0, retained := false }]⟩

/-- DENS_SEL_PORTA (R484). -/
def specDENS_SEL_PORTA : RegSpec := ⟨"DENS_SEL_PORTA", 0x8080, 8, 16, [
  { name := "EVENT", lo := 0, w := 8, acc := .rw, reset := 0, retained := false },
  { name := "MODE", lo := 8, w := 1, acc := .rw, reset := 0, retained := false },
  { name := "HARVEST", lo := 9, w := 1, acc := .rw, reset := 0, retained := false },
  { name := "OVF_LOG", lo := 10, w := 1, acc := .rw, reset := 0, retained := false }]⟩

/-- DENS_SEL_PORTB (R484). -/
def specDENS_SEL_PORTB : RegSpec := ⟨"DENS_SEL_PORTB", 0x8180, 8, 16, [
  { name := "EVENT", lo := 0, w := 8, acc := .rw, reset := 0, retained := false },
  { name := "MODE", lo := 8, w := 1, acc := .rw, reset := 0, retained := false },
  { name := "HARVEST", lo := 9, w := 1, acc := .rw, reset := 0, retained := false },
  { name := "OVF_LOG", lo := 10, w := 1, acc := .rw, reset := 0, retained := false }]⟩

/-- DENS_SEL_CD0 (R484). -/
def specDENS_SEL_CD0 : RegSpec := ⟨"DENS_SEL_CD0", 0x1080, 8, 16, [
  { name := "EVENT", lo := 0, w := 8, acc := .rw, reset := 0, retained := false },
  { name := "MODE", lo := 8, w := 1, acc := .rw, reset := 0, retained := false },
  { name := "HARVEST", lo := 9, w := 1, acc := .rw, reset := 0, retained := false },
  { name := "OVF_LOG", lo := 10, w := 1, acc := .rw, reset := 0, retained := false }]⟩

/-- DENS_SEL_CD1 (R484). -/
def specDENS_SEL_CD1 : RegSpec := ⟨"DENS_SEL_CD1", 0x1180, 8, 16, [
  { name := "EVENT", lo := 0, w := 8, acc := .rw, reset := 0, retained := false },
  { name := "MODE", lo := 8, w := 1, acc := .rw, reset := 0, retained := false },
  { name := "HARVEST", lo := 9, w := 1, acc := .rw, reset := 0, retained := false },
  { name := "OVF_LOG", lo := 10, w := 1, acc := .rw, reset := 0, retained := false }]⟩

/-- DENS_SEL_ENGINE (R484). -/
def specDENS_SEL_ENGINE : RegSpec := ⟨"DENS_SEL_ENGINE", 0x1f80, 8, 16, [
  { name := "EVENT", lo := 0, w := 8, acc := .rw, reset := 0, retained := false },
  { name := "MODE", lo := 8, w := 1, acc := .rw, reset := 0, retained := false },
  { name := "HARVEST", lo := 9, w := 1, acc := .rw, reset := 0, retained := false },
  { name := "OVF_LOG", lo := 10, w := 1, acc := .rw, reset := 0, retained := false }]⟩

/-- DENS_SNAP (R485). -/
def specDENS_SNAP : RegSpec := ⟨"DENS_SNAP", 0x0, 0, 1, [
  { name := "BASE", lo := 0, w := 48, acc := .rwl, reset := 0, retained := true },
  { name := "LOG2", lo := 48, w := 5, acc := .rwl, reset := 8, retained := true, okLo := 4, okHi := 16 }]⟩

/-- DENS_SAMPLE (R485). -/
def specDENS_SAMPLE : RegSpec := ⟨"DENS_SAMPLE", 0x8, 0, 1, [
  { name := "BASE", lo := 0, w := 48, acc := .rwl, reset := 0, retained := true },
  { name := "LOG2", lo := 48, w := 5, acc := .rwl, reset := 8, retained := true, okLo := 4, okHi := 16 }]⟩

/-- DENS_SNAP_CFG (R485). -/
def specDENS_SNAP_CFG : RegSpec := ⟨"DENS_SNAP_CFG", 0x10, 0, 1, [
  { name := "PART_MASK", lo := 0, w := 16, acc := .rw, reset := 0, retained := true },
  { name := "PERIOD_EN", lo := 16, w := 1, acc := .rw, reset := 0, retained := true },
  { name := "NOW", lo := 17, w := 1, acc := .wo, reset := 0, retained := false }]⟩

/-- DENS_IDX (R485). -/
def specDENS_IDX : RegSpec := ⟨"DENS_IDX", 0x18, 0, 1, [
  { name := "SNAP_TAIL", lo := 0, w := 32, acc := .ro, reset := 0, retained := false },
  { name := "SAMPLE_TAIL", lo := 32, w := 32, acc := .ro, reset := 0, retained := false }]⟩

/-- DENS_STAT (R485). -/
def specDENS_STAT : RegSpec := ⟨"DENS_STAT", 0x20, 0, 1, [
  { name := "OVERWRITTEN", lo := 0, w := 16, acc := .rw1c, reset := 0, retained := false },
  { name := "MERGED", lo := 16, w := 16, acc := .rw1c, reset := 0, retained := false },
  { name := "SAMPLES_LOST", lo := 32, w := 16, acc := .rw1c, reset := 0, retained := false },
  { name := "SAMPLES_DROPPED", lo := 48, w := 8, acc := .rw1c, reset := 0, retained := false },
  { name := "USER_SKIPPED", lo := 56, w := 8, acc := .rw1c, reset := 0, retained := false }]⟩

/-- PART_DENS (R486). -/
def specPART_DENS : RegSpec := ⟨"PART_DENS", 0xc00, 0, 1, [
  { name := "DENS_USER_EN", lo := 0, w := 1, acc := .rw, reset := 0, retained := true },
  { name := "SAMPLE_LOG2N", lo := 1, w := 5, acc := .rw, reset := 0, retained := true, okLo := 8, okHi := 20, zeroOk := true },
  { name := "USER_ADDR", lo := 12, w := 48, acc := .rw, reset := 0, retained := true }]⟩

/-- The registers of each block. -/
def blockRegs : Block → List RegSpec
  | .global =>
    [specGLOBAL_IDENT, specGLOBAL_ENGINE_ID, specGLOBAL_LOCK, specGLOBAL_ZD_RSV, specGLOBAL_UCIE_STAT, specGLOBAL_UCIE_CTRL, specRING_TABLE, specRING_CTRL] ++
    [specRING_STAT, specDRW_STAT, specDRW_ECC_STAT, specDRW_ECC_ADDR, specFAB_SYSTEM_ID, specFAB_LLDP, specFAB_CBT_CFG, specFAB_IDENT] ++
    [specREL_LOG, specREL_LOG_IDX, specREL_LOG_STAT, specREL_WASH, specREL_FAULT, specMGMT_CFG, specMGMT_OOB_IP6, specMGMT_WITNESS_IP6] ++
    [specMGMT_SETTINGS, specMGMT_IDENT]
  | .plate =>
    [specPLATE_GRAIN_CFG, specPLATE_ACC_STAT, specPLATE_GRAIN_FAULT, specPLATE_DEBUG, specTRAY_PWR_AWAKE, specTRAY_PWR_ASLEEP, specTRAY_PIN, specTRAY_PWR_SLEEP] ++
    [specTRAY_PWR_WAKE, specTRAY_ECC_STAT, specTRAY_ECC_ADDR, specTRAY_DMA_FAULT, specTRAY_CONF, specPLATE_SEQ_FAULT, specDENS_CTR_PLATE, specDENS_SEL_PLATE]
  | .cluster =>
    [specSAFE_CFG, specSAFE_FAULT, specSAFE_STAT, specBURN_LAST, specDODGE_FAULT, specDODGE_FAULT_OFF, specDODGE_STAT, specENL_FAULT] ++
    [specENL_STAT, specDENS_CTR_CLUSTER, specDENS_SEL_CLUSTER]
  | .hbm =>
    [specHBM_STAT, specHBM_THERM, specHBM_ECC_STAT, specHBM_ECC_ADDR, specHBM_WCB_STAT, specDENS_CTR_HBM, specDENS_SEL_HBM]
  | .port =>
    [specFAB_PORT_CFG, specFAB_PORT_STAT, specFAB_MAC, specFAB_IP6, specFAB_INSTALL, specFAB_NBR, specFAB_MACSEC_CFG, specDENS_CTR_PORTA] ++
    [specDENS_CTR_PORTB, specDENS_SEL_PORTA, specDENS_SEL_PORTB]
  | .timer =>
    [specTIMER_CFG, specTIMER_LIMITS, specTIMER_STAT, specTIMER_NOW, specTIMER_PPS_IN_TS, specTIMER_OFFSET, specTIMER_PPS_OUT, specTIMER_SET] ++
    [specTIMER_PORT]
  | .sec =>
    [specSEC_STAT, specSEC_ALARM_POLICY, specSEC_ALARM_STAT, specSEC_SIGFAIL, specSEC_NONCE, specSEC_OPER_KEY, specSEC_EXTEND, specSEC_PKG_SRC] ++
    [specSEC_PKG_DST, specSEC_PKG_CTRL, specSEC_TOKEN]
  | .pwr =>
    [specPWR_STATE, specPWR_CTRL, specPWR_CAP, specPWR_DROOP, specPWR_INPUT, specPWR_STAT]
  | .dens =>
    [specDENS_CTR_CD0, specDENS_CTR_CD1, specDENS_CTR_ENGINE, specDENS_SEL_CD0, specDENS_SEL_CD1, specDENS_SEL_ENGINE, specDENS_SNAP, specDENS_SAMPLE] ++
    [specDENS_SNAP_CFG, specDENS_IDX, specDENS_STAT]
  | .part =>
    [specPART_RNG_KEY, specPART_TRAY_CFG, specPART_LAT_CFG, specPART_LAT_RANGE, specPART_LAT_POOL, specPART_LAT_PT, specPART_LAT_ADMIT, specPART_LAT_STAT] ++
    [specPART_REQ_CFG, specPART_REQ_SLOTS, specPART_CIDX_CFG, specPART_CIDX_SEED, specPART_DRW_CFG, specPART_CTRL, specPART_STAT, specPART_LAYOUT] ++
    [specPART_HBM, specPART_RINGS, specPART_EXPO_BASE, specPART_EXPO_PERIOD, specPART_EXPO_WIN0, specPART_EXPO_WIN1, specPART_SCHED, specPART_CTX_BASE] ++
    [specPART_SAVE, specPART_EXPO_NOW, specPART_TRAIN, specPART_INTAKE, specPART_INTAKE_IDX, specPART_STEP, specPART_FW_RECORD, specPART_FW_RING] ++
    [specPART_CIRCUIT, specCARR_RANKS, specCARR_HOME, specCARR_LAYERS, specCARR_TREE, specCARR_JOB, specCARR_OUTBUF, specCARR_INBUF] ++
    [specCARR_CFG, specCARR_STAT, specHAL_EPOCH, specHAL_SLOTS, specPART_PAIR, specPART_PAIR_STAT, specPART_GOLD, specPART_GOLD_CNT] ++
    [specPART_GOLD_ID, specPART_REL_STAT, specPART_PWR_CAP, specDENS_CTR_PART, specDENS_SEL_PART, specPART_DENS]

/-- GLOBAL_IDENT.PART_NUMBER. -/
def fGLOBAL_IDENT_PART_NUMBER : Fld := ⟨.global, 0x0, 0, 0, 16⟩
/-- GLOBAL_IDENT.CD0_REV. -/
def fGLOBAL_IDENT_CD0_REV : Fld := ⟨.global, 0x0, 0, 16, 8⟩
/-- GLOBAL_IDENT.CD1_REV. -/
def fGLOBAL_IDENT_CD1_REV : Fld := ⟨.global, 0x0, 0, 24, 8⟩
/-- GLOBAL_IDENT.ZD_REV. -/
def fGLOBAL_IDENT_ZD_REV : Fld := ⟨.global, 0x0, 0, 32, 8⟩
/-- GLOBAL_IDENT.STACKS. -/
def fGLOBAL_IDENT_STACKS : Fld := ⟨.global, 0x0, 0, 40, 8⟩
/-- GLOBAL_ENGINE_ID.ENGINE_ID. -/
def fGLOBAL_ENGINE_ID_ENGINE_ID : Fld := ⟨.global, 0x8, 0, 0, 32⟩
/-- GLOBAL_LOCK.SETUP. -/
def fGLOBAL_LOCK_SETUP : Fld := ⟨.global, 0x10, 0, 0, 1⟩
/-- GLOBAL_ZD_RSV.RSV_GIB. -/
def fGLOBAL_ZD_RSV_RSV_GIB : Fld := ⟨.global, 0x18, 0, 0, 8⟩
/-- GLOBAL_UCIE_STAT.ACTIVE. -/
def fGLOBAL_UCIE_STAT_ACTIVE : Fld := ⟨.global, 0x20, 8, 0, 24⟩
/-- GLOBAL_UCIE_STAT.RETRAINS. -/
def fGLOBAL_UCIE_STAT_RETRAINS : Fld := ⟨.global, 0x20, 8, 24, 8⟩
/-- GLOBAL_UCIE_STAT.REPAIRED. -/
def fGLOBAL_UCIE_STAT_REPAIRED : Fld := ⟨.global, 0x20, 8, 32, 16⟩
/-- GLOBAL_UCIE_STAT.DEGRADED. -/
def fGLOBAL_UCIE_STAT_DEGRADED : Fld := ⟨.global, 0x20, 8, 48, 1⟩
/-- GLOBAL_UCIE_CTRL.RETRAIN_TIMEOUT. -/
def fGLOBAL_UCIE_CTRL_RETRAIN_TIMEOUT : Fld := ⟨.global, 0x40, 0, 0, 16⟩
/-- PART_RNG_KEY.KEY. -/
def fPART_RNG_KEY_KEY : Fld := ⟨.part, 0x400, 0, 0, 64⟩
/-- PLATE_GRAIN_CFG.ZERO_SKIP. -/
def fPLATE_GRAIN_CFG_ZERO_SKIP : Fld := ⟨.plate, 0x100, 0, 0, 1⟩
/-- PLATE_GRAIN_CFG.SIGNX_SKIP. -/
def fPLATE_GRAIN_CFG_SIGNX_SKIP : Fld := ⟨.plate, 0x100, 0, 1, 1⟩
/-- PLATE_GRAIN_CFG.A4G_BASE. -/
def fPLATE_GRAIN_CFG_A4G_BASE : Fld := ⟨.plate, 0x100, 0, 8, 24⟩
/-- PLATE_ACC_STAT.OPEN. -/
def fPLATE_ACC_STAT_OPEN : Fld := ⟨.plate, 0x108, 0, 0, 32⟩
/-- PLATE_ACC_STAT.DRAINING. -/
def fPLATE_ACC_STAT_DRAINING : Fld := ⟨.plate, 0x108, 0, 32, 32⟩
/-- PLATE_GRAIN_FAULT.OPC. -/
def fPLATE_GRAIN_FAULT_OPC : Fld := ⟨.plate, 0x110, 0, 0, 8⟩
/-- PLATE_GRAIN_FAULT.STATUS. -/
def fPLATE_GRAIN_FAULT_STATUS : Fld := ⟨.plate, 0x110, 0, 8, 16⟩
/-- PLATE_GRAIN_FAULT.CMD_INDEX. -/
def fPLATE_GRAIN_FAULT_CMD_INDEX : Fld := ⟨.plate, 0x110, 0, 32, 31⟩
/-- PLATE_GRAIN_FAULT.VALID. -/
def fPLATE_GRAIN_FAULT_VALID : Fld := ⟨.plate, 0x110, 0, 63, 1⟩
/-- PLATE_DEBUG.ACC_VISIBLE. -/
def fPLATE_DEBUG_ACC_VISIBLE : Fld := ⟨.plate, 0x118, 0, 0, 1⟩
/-- SAFE_CFG.FALLBACK_EN. -/
def fSAFE_CFG_FALLBACK_EN : Fld := ⟨.cluster, 0x1000, 0, 0, 1⟩
/-- SAFE_CFG.STORM_PCT. -/
def fSAFE_CFG_STORM_PCT : Fld := ⟨.cluster, 0x1000, 0, 8, 8⟩
/-- SAFE_FAULT.OPC. -/
def fSAFE_FAULT_OPC : Fld := ⟨.cluster, 0x1008, 0, 0, 8⟩
/-- SAFE_FAULT.STATUS. -/
def fSAFE_FAULT_STATUS : Fld := ⟨.cluster, 0x1008, 0, 8, 16⟩
/-- SAFE_FAULT.PLATE. -/
def fSAFE_FAULT_PLATE : Fld := ⟨.cluster, 0x1008, 0, 24, 3⟩
/-- SAFE_FAULT.CMD_INDEX. -/
def fSAFE_FAULT_CMD_INDEX : Fld := ⟨.cluster, 0x1008, 0, 32, 31⟩
/-- SAFE_FAULT.VALID. -/
def fSAFE_FAULT_VALID : Fld := ⟨.cluster, 0x1008, 0, 63, 1⟩
/-- SAFE_STAT.QUEUED. -/
def fSAFE_STAT_QUEUED : Fld := ⟨.cluster, 0x1010, 0, 0, 8⟩
/-- SAFE_STAT.BUSY. -/
def fSAFE_STAT_BUSY : Fld := ⟨.cluster, 0x1010, 0, 8, 1⟩
/-- BURN_LAST.LAYER. -/
def fBURN_LAST_LAYER : Fld := ⟨.cluster, 0x1018, 0, 0, 16⟩
/-- BURN_LAST.COUNT. -/
def fBURN_LAST_COUNT : Fld := ⟨.cluster, 0x1018, 0, 16, 9⟩
/-- BURN_LAST.DECISION. -/
def fBURN_LAST_DECISION : Fld := ⟨.cluster, 0x1018, 0, 25, 2⟩
/-- BURN_LAST.EXPO. -/
def fBURN_LAST_EXPO : Fld := ⟨.cluster, 0x1018, 0, 32, 32⟩
/-- TRAY_PWR_AWAKE.AWAKE. -/
def fTRAY_PWR_AWAKE_AWAKE : Fld := ⟨.plate, 0x200, 0, 0, 64⟩
/-- TRAY_PWR_ASLEEP.ASLEEP. -/
def fTRAY_PWR_ASLEEP_ASLEEP : Fld := ⟨.plate, 0x208, 0, 0, 64⟩
/-- TRAY_PIN.PINNED. -/
def fTRAY_PIN_PINNED : Fld := ⟨.plate, 0x210, 0, 0, 64⟩
/-- TRAY_PWR_SLEEP.MASK. -/
def fTRAY_PWR_SLEEP_MASK : Fld := ⟨.plate, 0x218, 0, 0, 64⟩
/-- TRAY_PWR_WAKE.MASK. -/
def fTRAY_PWR_WAKE_MASK : Fld := ⟨.plate, 0x220, 0, 0, 64⟩
/-- TRAY_ECC_STAT.CE. -/
def fTRAY_ECC_STAT_CE : Fld := ⟨.plate, 0x228, 0, 0, 32⟩
/-- TRAY_ECC_STAT.UE. -/
def fTRAY_ECC_STAT_UE : Fld := ⟨.plate, 0x228, 0, 32, 16⟩
/-- TRAY_ECC_STAT.UE_BANK. -/
def fTRAY_ECC_STAT_UE_BANK : Fld := ⟨.plate, 0x228, 0, 48, 6⟩
/-- TRAY_ECC_ADDR.OFFSET. -/
def fTRAY_ECC_ADDR_OFFSET : Fld := ⟨.plate, 0x230, 0, 0, 23⟩
/-- TRAY_ECC_ADDR.VALID. -/
def fTRAY_ECC_ADDR_VALID : Fld := ⟨.plate, 0x230, 0, 63, 1⟩
/-- TRAY_DMA_FAULT.OPC. -/
def fTRAY_DMA_FAULT_OPC : Fld := ⟨.plate, 0x238, 0, 0, 8⟩
/-- TRAY_DMA_FAULT.STATUS. -/
def fTRAY_DMA_FAULT_STATUS : Fld := ⟨.plate, 0x238, 0, 8, 16⟩
/-- TRAY_DMA_FAULT.BANK. -/
def fTRAY_DMA_FAULT_BANK : Fld := ⟨.plate, 0x238, 0, 24, 6⟩
/-- TRAY_DMA_FAULT.CMD_INDEX. -/
def fTRAY_DMA_FAULT_CMD_INDEX : Fld := ⟨.plate, 0x238, 0, 32, 31⟩
/-- TRAY_DMA_FAULT.VALID. -/
def fTRAY_DMA_FAULT_VALID : Fld := ⟨.plate, 0x238, 0, 63, 1⟩
/-- TRAY_CONF.WAITS. -/
def fTRAY_CONF_WAITS : Fld := ⟨.plate, 0x400, 8, 0, 48⟩
/-- TRAY_CONF.OVF. -/
def fTRAY_CONF_OVF : Fld := ⟨.plate, 0x400, 8, 63, 1⟩
/-- PART_TRAY_CFG.MODE. -/
def fPART_TRAY_CFG_MODE : Fld := ⟨.part, 0x408, 0, 0, 1⟩
/-- PART_TRAY_CFG.HASH. -/
def fPART_TRAY_CFG_HASH : Fld := ⟨.part, 0x408, 0, 1, 1⟩
/-- PART_TRAY_CFG.SYNC. -/
def fPART_TRAY_CFG_SYNC : Fld := ⟨.part, 0x408, 0, 2, 1⟩
/-- PART_TRAY_CFG.SEM_TIMEOUT. -/
def fPART_TRAY_CFG_SEM_TIMEOUT : Fld := ⟨.part, 0x408, 0, 8, 24⟩
/-- DODGE_FAULT.OPC. -/
def fDODGE_FAULT_OPC : Fld := ⟨.cluster, 0x2000, 0, 0, 8⟩
/-- DODGE_FAULT.STATUS. -/
def fDODGE_FAULT_STATUS : Fld := ⟨.cluster, 0x2000, 0, 8, 16⟩
/-- DODGE_FAULT.PLATE. -/
def fDODGE_FAULT_PLATE : Fld := ⟨.cluster, 0x2000, 0, 24, 3⟩
/-- DODGE_FAULT.CHECK. -/
def fDODGE_FAULT_CHECK : Fld := ⟨.cluster, 0x2000, 0, 27, 5⟩
/-- DODGE_FAULT.CMD_INDEX. -/
def fDODGE_FAULT_CMD_INDEX : Fld := ⟨.cluster, 0x2000, 0, 32, 31⟩
/-- DODGE_FAULT.VALID. -/
def fDODGE_FAULT_VALID : Fld := ⟨.cluster, 0x2000, 0, 63, 1⟩
/-- DODGE_FAULT_OFF.OFFSET. -/
def fDODGE_FAULT_OFF_OFFSET : Fld := ⟨.cluster, 0x2008, 0, 0, 23⟩
/-- DODGE_STAT.QUEUED. -/
def fDODGE_STAT_QUEUED : Fld := ⟨.cluster, 0x2010, 0, 0, 8⟩
/-- DODGE_STAT.BUSY. -/
def fDODGE_STAT_BUSY : Fld := ⟨.cluster, 0x2010, 0, 8, 1⟩
/-- DODGE_STAT.UNITS. -/
def fDODGE_STAT_UNITS : Fld := ⟨.cluster, 0x2010, 0, 9, 16⟩
/-- ENL_FAULT.OPC. -/
def fENL_FAULT_OPC : Fld := ⟨.cluster, 0x3000, 0, 0, 8⟩
/-- ENL_FAULT.STATUS. -/
def fENL_FAULT_STATUS : Fld := ⟨.cluster, 0x3000, 0, 8, 16⟩
/-- ENL_FAULT.PLATE. -/
def fENL_FAULT_PLATE : Fld := ⟨.cluster, 0x3000, 0, 24, 3⟩
/-- ENL_FAULT.CMD_INDEX. -/
def fENL_FAULT_CMD_INDEX : Fld := ⟨.cluster, 0x3000, 0, 32, 31⟩
/-- ENL_FAULT.VALID. -/
def fENL_FAULT_VALID : Fld := ⟨.cluster, 0x3000, 0, 63, 1⟩
/-- ENL_STAT.QUEUED. -/
def fENL_STAT_QUEUED : Fld := ⟨.cluster, 0x3008, 0, 0, 8⟩
/-- ENL_STAT.BUSY. -/
def fENL_STAT_BUSY : Fld := ⟨.cluster, 0x3008, 0, 8, 1⟩
/-- ENL_STAT.SAFE_WAIT. -/
def fENL_STAT_SAFE_WAIT : Fld := ⟨.cluster, 0x3008, 0, 9, 1⟩
/-- PART_LAT_CFG.LAYERS. -/
def fPART_LAT_CFG_LAYERS : Fld := ⟨.part, 0x500, 0, 0, 8⟩
/-- PART_LAT_CFG.KVHEADS. -/
def fPART_LAT_CFG_KVHEADS : Fld := ⟨.part, 0x500, 0, 8, 7⟩
/-- PART_LAT_CFG.DIM. -/
def fPART_LAT_CFG_DIM : Fld := ⟨.part, 0x500, 0, 16, 9⟩
/-- PART_LAT_CFG.K4. -/
def fPART_LAT_CFG_K4 : Fld := ⟨.part, 0x500, 0, 25, 1⟩
/-- PART_LAT_CFG.V4. -/
def fPART_LAT_CFG_V4 : Fld := ⟨.part, 0x500, 0, 26, 1⟩
/-- PART_LAT_CFG.PAGE_BLOCKS. -/
def fPART_LAT_CFG_PAGE_BLOCKS : Fld := ⟨.part, 0x500, 0, 32, 12⟩
/-- PART_LAT_RANGE.FIRST. -/
def fPART_LAT_RANGE_FIRST : Fld := ⟨.part, 0x508, 0, 0, 24⟩
/-- PART_LAT_RANGE.PAGES. -/
def fPART_LAT_RANGE_PAGES : Fld := ⟨.part, 0x508, 0, 24, 25⟩
/-- PART_LAT_POOL.BASE_4K. -/
def fPART_LAT_POOL_BASE_4K : Fld := ⟨.part, 0x510, 0, 0, 36⟩
/-- PART_LAT_PT.PT_ADDR. -/
def fPART_LAT_PT_PT_ADDR : Fld := ⟨.part, 0x518, 0, 0, 48⟩
/-- PART_LAT_ADMIT.GROW_FLOOR. -/
def fPART_LAT_ADMIT_GROW_FLOOR : Fld := ⟨.part, 0x520, 0, 0, 24⟩
/-- PART_LAT_STAT.FREE. -/
def fPART_LAT_STAT_FREE : Fld := ⟨.part, 0x528, 0, 0, 24⟩
/-- PART_LAT_STAT.RECLAIM. -/
def fPART_LAT_STAT_RECLAIM : Fld := ⟨.part, 0x528, 0, 24, 24⟩
/-- PART_REQ_CFG.REQ_BASE. -/
def fPART_REQ_CFG_REQ_BASE : Fld := ⟨.part, 0x530, 0, 0, 48⟩
/-- PART_REQ_SLOTS.FIRST. -/
def fPART_REQ_SLOTS_FIRST : Fld := ⟨.part, 0x538, 0, 0, 17⟩
/-- PART_REQ_SLOTS.COUNT. -/
def fPART_REQ_SLOTS_COUNT : Fld := ⟨.part, 0x538, 0, 17, 17⟩
/-- PART_REQ_SLOTS.SVC_RING. -/
def fPART_REQ_SLOTS_SVC_RING : Fld := ⟨.part, 0x538, 0, 34, 17⟩
/-- PART_CIDX_CFG.NODE_4K. -/
def fPART_CIDX_CFG_NODE_4K : Fld := ⟨.part, 0x540, 0, 0, 36⟩
/-- PART_CIDX_CFG.NODES. -/
def fPART_CIDX_CFG_NODES : Fld := ⟨.part, 0x540, 0, 36, 23⟩
/-- PART_CIDX_CFG.BLOG2. -/
def fPART_CIDX_CFG_BLOG2 : Fld := ⟨.part, 0x540, 0, 59, 5⟩
/-- PART_CIDX_SEED.SEED. -/
def fPART_CIDX_SEED_SEED : Fld := ⟨.part, 0x548, 0, 0, 64⟩
/-- PART_DRW_CFG.OFFSET_4K. -/
def fPART_DRW_CFG_OFFSET_4K : Fld := ⟨.part, 0x550, 0, 0, 26⟩
/-- PART_DRW_CFG.SIZE_4K. -/
def fPART_DRW_CFG_SIZE_4K : Fld := ⟨.part, 0x550, 0, 26, 26⟩
/-- PART_CTRL.CREATE. -/
def fPART_CTRL_CREATE : Fld := ⟨.part, 0x0, 0, 0, 1⟩
/-- PART_CTRL.START. -/
def fPART_CTRL_START : Fld := ⟨.part, 0x0, 0, 1, 1⟩
/-- PART_CTRL.STOP. -/
def fPART_CTRL_STOP : Fld := ⟨.part, 0x0, 0, 2, 1⟩
/-- PART_CTRL.DESTROY. -/
def fPART_CTRL_DESTROY : Fld := ⟨.part, 0x0, 0, 3, 1⟩
/-- PART_STAT.STATE. -/
def fPART_STAT_STATE : Fld := ⟨.part, 0x8, 0, 0, 2⟩
/-- PART_STAT.ERR. -/
def fPART_STAT_ERR : Fld := ⟨.part, 0x8, 0, 2, 4⟩
/-- PART_STAT.HOLD. -/
def fPART_STAT_HOLD : Fld := ⟨.part, 0x8, 0, 6, 1⟩
/-- PART_STAT.GEN. -/
def fPART_STAT_GEN : Fld := ⟨.part, 0x8, 0, 7, 1⟩
/-- PART_STAT.LATE_RUN. -/
def fPART_STAT_LATE_RUN : Fld := ⟨.part, 0x8, 0, 8, 8⟩
/-- PART_STAT.SLIP. -/
def fPART_STAT_SLIP : Fld := ⟨.part, 0x8, 0, 16, 32⟩
/-- PART_LAYOUT.CLUSTERS. -/
def fPART_LAYOUT_CLUSTERS : Fld := ⟨.part, 0x10, 0, 0, 16⟩
/-- PART_LAYOUT.PLACEMENT. -/
def fPART_LAYOUT_PLACEMENT : Fld := ⟨.part, 0x10, 0, 16, 1⟩
/-- PART_LAYOUT.KIND. -/
def fPART_LAYOUT_KIND : Fld := ⟨.part, 0x10, 0, 17, 1⟩
/-- PART_LAYOUT.RESIDENT_MAX. -/
def fPART_LAYOUT_RESIDENT_MAX : Fld := ⟨.part, 0x10, 0, 18, 8⟩
/-- PART_LAYOUT.CTX_FIRST. -/
def fPART_LAYOUT_CTX_FIRST : Fld := ⟨.part, 0x10, 0, 26, 12⟩
/-- PART_LAYOUT.CTX_COUNT. -/
def fPART_LAYOUT_CTX_COUNT : Fld := ⟨.part, 0x10, 0, 38, 13⟩
/-- PART_HBM.BASE_2M. -/
def fPART_HBM_BASE_2M : Fld := ⟨.part, 0x18, 0, 0, 19⟩
/-- PART_HBM.SIZE_2M. -/
def fPART_HBM_SIZE_2M : Fld := ⟨.part, 0x18, 0, 19, 19⟩
/-- PART_RINGS.FIRST. -/
def fPART_RINGS_FIRST : Fld := ⟨.part, 0x20, 0, 0, 17⟩
/-- PART_RINGS.COUNT. -/
def fPART_RINGS_COUNT : Fld := ⟨.part, 0x20, 0, 17, 18⟩
/-- PART_EXPO_BASE.BASE. -/
def fPART_EXPO_BASE_BASE : Fld := ⟨.part, 0x28, 0, 0, 64⟩
/-- PART_EXPO_PERIOD.PERIOD_NS. -/
def fPART_EXPO_PERIOD_PERIOD_NS : Fld := ⟨.part, 0x30, 0, 0, 30⟩
/-- PART_EXPO_PERIOD.LATE_LIMIT. -/
def fPART_EXPO_PERIOD_LATE_LIMIT : Fld := ⟨.part, 0x30, 0, 32, 8⟩
/-- PART_EXPO_WIN0.ADMIT_LEAD. -/
def fPART_EXPO_WIN0_ADMIT_LEAD : Fld := ⟨.part, 0x38, 0, 0, 20⟩
/-- PART_EXPO_WIN0.DISPATCH. -/
def fPART_EXPO_WIN0_DISPATCH : Fld := ⟨.part, 0x38, 0, 20, 20⟩
/-- PART_EXPO_WIN0.COMBINE. -/
def fPART_EXPO_WIN0_COMBINE : Fld := ⟨.part, 0x38, 0, 40, 20⟩
/-- PART_EXPO_WIN1.DRAIN. -/
def fPART_EXPO_WIN1_DRAIN : Fld := ⟨.part, 0x40, 0, 0, 20⟩
/-- PART_EXPO_WIN1.COMMIT. -/
def fPART_EXPO_WIN1_COMMIT : Fld := ⟨.part, 0x40, 0, 20, 20⟩
/-- PART_EXPO_WIN1.GUARD. -/
def fPART_EXPO_WIN1_GUARD : Fld := ⟨.part, 0x40, 0, 40, 20⟩
/-- PART_SCHED.QUANTUM_US. -/
def fPART_SCHED_QUANTUM_US : Fld := ⟨.part, 0x48, 0, 0, 16⟩
/-- PART_SCHED.SWAP_US. -/
def fPART_SCHED_SWAP_US : Fld := ⟨.part, 0x48, 0, 16, 24⟩
/-- PART_SCHED.SAVE_GROUPS. -/
def fPART_SCHED_SAVE_GROUPS : Fld := ⟨.part, 0x48, 0, 40, 5⟩
/-- PART_CTX_BASE.ADDR. -/
def fPART_CTX_BASE_ADDR : Fld := ⟨.part, 0x50, 0, 0, 48⟩
/-- PART_SAVE.SAVE_OFF. -/
def fPART_SAVE_SAVE_OFF : Fld := ⟨.part, 0x58, 0, 0, 23⟩
/-- PART_EXPO_NOW.EXPO. -/
def fPART_EXPO_NOW_EXPO : Fld := ⟨.part, 0x60, 0, 0, 64⟩
/-- PART_TRAIN.BASE_2M. -/
def fPART_TRAIN_BASE_2M : Fld := ⟨.part, 0x68, 8, 0, 19⟩
/-- PART_TRAIN.SIZE_2M. -/
def fPART_TRAIN_SIZE_2M : Fld := ⟨.part, 0x68, 8, 19, 19⟩
/-- PLATE_SEQ_FAULT.OPC. -/
def fPLATE_SEQ_FAULT_OPC : Fld := ⟨.plate, 0x120, 0, 0, 8⟩
/-- PLATE_SEQ_FAULT.STATUS. -/
def fPLATE_SEQ_FAULT_STATUS : Fld := ⟨.plate, 0x120, 0, 8, 16⟩
/-- PLATE_SEQ_FAULT.CMD_INDEX. -/
def fPLATE_SEQ_FAULT_CMD_INDEX : Fld := ⟨.plate, 0x120, 0, 32, 31⟩
/-- PLATE_SEQ_FAULT.VALID. -/
def fPLATE_SEQ_FAULT_VALID : Fld := ⟨.plate, 0x120, 0, 63, 1⟩
/-- RING_TABLE.ADDR. -/
def fRING_TABLE_ADDR : Fld := ⟨.global, 0x100, 0, 0, 48⟩
/-- RING_CTRL.RING. -/
def fRING_CTRL_RING : Fld := ⟨.global, 0x108, 0, 0, 17⟩
/-- RING_CTRL.ENABLE. -/
def fRING_CTRL_ENABLE : Fld := ⟨.global, 0x108, 0, 17, 1⟩
/-- RING_CTRL.DISABLE. -/
def fRING_CTRL_DISABLE : Fld := ⟨.global, 0x108, 0, 18, 1⟩
/-- RING_STAT.RING. -/
def fRING_STAT_RING : Fld := ⟨.global, 0x110, 0, 0, 17⟩
/-- RING_STAT.ERR. -/
def fRING_STAT_ERR : Fld := ⟨.global, 0x110, 0, 17, 3⟩
/-- RING_STAT.BUSY. -/
def fRING_STAT_BUSY : Fld := ⟨.global, 0x110, 0, 20, 1⟩
/-- PART_INTAKE.BASE. -/
def fPART_INTAKE_BASE : Fld := ⟨.part, 0x600, 0, 0, 48⟩
/-- PART_INTAKE.LOG2. -/
def fPART_INTAKE_LOG2 : Fld := ⟨.part, 0x600, 0, 48, 5⟩
/-- PART_INTAKE_IDX.TAIL. -/
def fPART_INTAKE_IDX_TAIL : Fld := ⟨.part, 0x608, 0, 0, 32⟩
/-- PART_INTAKE_IDX.HEAD. -/
def fPART_INTAKE_IDX_HEAD : Fld := ⟨.part, 0x608, 0, 32, 32⟩
/-- PART_STEP.ADDR. -/
def fPART_STEP_ADDR : Fld := ⟨.part, 0x610, 0, 0, 48⟩
/-- PART_FW_RECORD.ADDR. -/
def fPART_FW_RECORD_ADDR : Fld := ⟨.part, 0x618, 0, 0, 48⟩
/-- PART_FW_RECORD.POST. -/
def fPART_FW_RECORD_POST : Fld := ⟨.part, 0x618, 0, 48, 1⟩
/-- PART_FW_RECORD.BUSY. -/
def fPART_FW_RECORD_BUSY : Fld := ⟨.part, 0x618, 0, 49, 1⟩
/-- PART_FW_RECORD.ERR. -/
def fPART_FW_RECORD_ERR : Fld := ⟨.part, 0x618, 0, 50, 2⟩
/-- PART_FW_RING.RING. -/
def fPART_FW_RING_RING : Fld := ⟨.part, 0x620, 0, 0, 17⟩
/-- HBM_STAT.TRAINED. -/
def fHBM_STAT_TRAINED : Fld := ⟨.hbm, 0x0, 0, 0, 1⟩
/-- HBM_STAT.OFFLINE. -/
def fHBM_STAT_OFFLINE : Fld := ⟨.hbm, 0x0, 0, 1, 1⟩
/-- HBM_STAT.LEVEL. -/
def fHBM_STAT_LEVEL : Fld := ⟨.hbm, 0x0, 0, 2, 3⟩
/-- HBM_STAT.TEMP_C. -/
def fHBM_STAT_TEMP_C : Fld := ⟨.hbm, 0x0, 0, 8, 8⟩
/-- HBM_STAT.REPAIRED. -/
def fHBM_STAT_REPAIRED : Fld := ⟨.hbm, 0x0, 0, 16, 16⟩
/-- HBM_THERM.WARN_C. -/
def fHBM_THERM_WARN_C : Fld := ⟨.hbm, 0x8, 0, 0, 8⟩
/-- HBM_THERM.STOP_MAX_MS. -/
def fHBM_THERM_STOP_MAX_MS : Fld := ⟨.hbm, 0x8, 0, 8, 10⟩
/-- HBM_ECC_STAT.CE. -/
def fHBM_ECC_STAT_CE : Fld := ⟨.hbm, 0x10, 0, 0, 32⟩
/-- HBM_ECC_STAT.UE. -/
def fHBM_ECC_STAT_UE : Fld := ⟨.hbm, 0x10, 0, 32, 16⟩
/-- HBM_ECC_STAT.CRC_RETRY. -/
def fHBM_ECC_STAT_CRC_RETRY : Fld := ⟨.hbm, 0x10, 0, 48, 16⟩
/-- HBM_ECC_ADDR.ADDR. -/
def fHBM_ECC_ADDR_ADDR : Fld := ⟨.hbm, 0x18, 0, 0, 48⟩
/-- HBM_ECC_ADDR.VALID. -/
def fHBM_ECC_ADDR_VALID : Fld := ⟨.hbm, 0x18, 0, 63, 1⟩
/-- HBM_WCB_STAT.ENTRIES. -/
def fHBM_WCB_STAT_ENTRIES : Fld := ⟨.hbm, 0x20, 0, 0, 7⟩
/-- DRW_STAT.TRAINED. -/
def fDRW_STAT_TRAINED : Fld := ⟨.global, 0x200, 0, 0, 4⟩
/-- DRW_STAT.TEMP_C. -/
def fDRW_STAT_TEMP_C : Fld := ⟨.global, 0x200, 0, 4, 8⟩
/-- DRW_ECC_STAT.LINK_CE. -/
def fDRW_ECC_STAT_LINK_CE : Fld := ⟨.global, 0x208, 0, 0, 32⟩
/-- DRW_ECC_STAT.UE. -/
def fDRW_ECC_STAT_UE : Fld := ⟨.global, 0x208, 0, 32, 16⟩
/-- DRW_ECC_STAT.TAG_FAIL. -/
def fDRW_ECC_STAT_TAG_FAIL : Fld := ⟨.global, 0x208, 0, 48, 16⟩
/-- DRW_ECC_ADDR.ADDR. -/
def fDRW_ECC_ADDR_ADDR : Fld := ⟨.global, 0x210, 0, 0, 48⟩
/-- DRW_ECC_ADDR.VALID. -/
def fDRW_ECC_ADDR_VALID : Fld := ⟨.global, 0x210, 0, 63, 1⟩
/-- TIMER_CFG.REF_SEL. -/
def fTIMER_CFG_REF_SEL : Fld := ⟨.timer, 0x0, 0, 0, 1⟩
/-- TIMER_CFG.PPS_IN. -/
def fTIMER_CFG_PPS_IN : Fld := ⟨.timer, 0x0, 0, 1, 2⟩
/-- TIMER_CFG.PPS_OUT_EN. -/
def fTIMER_CFG_PPS_OUT_EN : Fld := ⟨.timer, 0x0, 0, 3, 1⟩
/-- TIMER_CFG.PPS_OUT_FREE. -/
def fTIMER_CFG_PPS_OUT_FREE : Fld := ⟨.timer, 0x0, 0, 4, 1⟩
/-- TIMER_CFG.LOG_SYNC. -/
def fTIMER_CFG_LOG_SYNC : Fld := ⟨.timer, 0x0, 0, 8, 3⟩
/-- TIMER_CFG.LOG_DELAY. -/
def fTIMER_CFG_LOG_DELAY : Fld := ⟨.timer, 0x0, 0, 11, 3⟩
/-- TIMER_CFG.DOMAIN. -/
def fTIMER_CFG_DOMAIN : Fld := ⟨.timer, 0x0, 0, 16, 8⟩
/-- TIMER_CFG.LOCK_NS. -/
def fTIMER_CFG_LOCK_NS : Fld := ⟨.timer, 0x0, 0, 24, 10⟩
/-- TIMER_LIMITS.STEP_NS. -/
def fTIMER_LIMITS_STEP_NS : Fld := ⟨.timer, 0x8, 0, 0, 32⟩
/-- TIMER_LIMITS.HOLD_LIMIT_NS. -/
def fTIMER_LIMITS_HOLD_LIMIT_NS : Fld := ⟨.timer, 0x8, 0, 32, 32⟩
/-- TIMER_STAT.STATE. -/
def fTIMER_STAT_STATE : Fld := ⟨.timer, 0x10, 0, 0, 2⟩
/-- TIMER_STAT.REF_OK. -/
def fTIMER_STAT_REF_OK : Fld := ⟨.timer, 0x10, 0, 2, 1⟩
/-- TIMER_STAT.DEEP. -/
def fTIMER_STAT_DEEP : Fld := ⟨.timer, 0x10, 0, 3, 1⟩
/-- TIMER_STAT.UPSTREAM. -/
def fTIMER_STAT_UPSTREAM : Fld := ⟨.timer, 0x10, 0, 4, 4⟩
/-- TIMER_STAT.STEPS_REMOVED. -/
def fTIMER_STAT_STEPS_REMOVED : Fld := ⟨.timer, 0x10, 0, 8, 8⟩
/-- TIMER_STAT.STEPS. -/
def fTIMER_STAT_STEPS : Fld := ⟨.timer, 0x10, 0, 16, 16⟩
/-- TIMER_STAT.RELOADS. -/
def fTIMER_STAT_RELOADS : Fld := ⟨.timer, 0x10, 0, 32, 16⟩
/-- TIMER_NOW.T64. -/
def fTIMER_NOW_T64 : Fld := ⟨.timer, 0x18, 0, 0, 64⟩
/-- TIMER_PPS_IN_TS.T64. -/
def fTIMER_PPS_IN_TS_T64 : Fld := ⟨.timer, 0x28, 0, 0, 64⟩
/-- TIMER_OFFSET.OFFSET. -/
def fTIMER_OFFSET_OFFSET : Fld := ⟨.timer, 0x20, 0, 0, 32⟩
/-- TIMER_OFFSET.PATH. -/
def fTIMER_OFFSET_PATH : Fld := ⟨.timer, 0x20, 0, 32, 32⟩
/-- TIMER_PPS_OUT.OFFSET_NS. -/
def fTIMER_PPS_OUT_OFFSET_NS : Fld := ⟨.timer, 0x30, 0, 0, 32⟩
/-- TIMER_SET.T64. -/
def fTIMER_SET_T64 : Fld := ⟨.timer, 0x38, 0, 0, 64⟩
/-- TIMER_PORT.ROLE. -/
def fTIMER_PORT_ROLE : Fld := ⟨.timer, 0x100, 8, 0, 2⟩
/-- TIMER_PORT.TWO_STEP. -/
def fTIMER_PORT_TWO_STEP : Fld := ⟨.timer, 0x100, 8, 2, 1⟩
/-- TIMER_PORT.TRANSPORT. -/
def fTIMER_PORT_TRANSPORT : Fld := ⟨.timer, 0x100, 8, 3, 1⟩
/-- TIMER_PORT.ASYM_PS. -/
def fTIMER_PORT_ASYM_PS : Fld := ⟨.timer, 0x100, 8, 8, 24⟩
/-- TIMER_PORT.TX_LAT. -/
def fTIMER_PORT_TX_LAT : Fld := ⟨.timer, 0x100, 8, 32, 16⟩
/-- TIMER_PORT.RX_LAT. -/
def fTIMER_PORT_RX_LAT : Fld := ⟨.timer, 0x100, 8, 48, 16⟩
/-- FAB_PORT_CFG.SPLIT. -/
def fFAB_PORT_CFG_SPLIT : Fld := ⟨.port, 0x0, 0, 0, 1⟩
/-- FAB_PORT_CFG.ENABLE_A. -/
def fFAB_PORT_CFG_ENABLE_A : Fld := ⟨.port, 0x0, 0, 1, 1⟩
/-- FAB_PORT_CFG.ENABLE_B. -/
def fFAB_PORT_CFG_ENABLE_B : Fld := ⟨.port, 0x0, 0, 2, 1⟩
/-- FAB_PORT_CFG.KIND_A. -/
def fFAB_PORT_CFG_KIND_A : Fld := ⟨.port, 0x0, 0, 4, 2⟩
/-- FAB_PORT_CFG.KIND_B. -/
def fFAB_PORT_CFG_KIND_B : Fld := ⟨.port, 0x0, 0, 6, 2⟩
/-- FAB_PORT_STAT.LINK_A. -/
def fFAB_PORT_STAT_LINK_A : Fld := ⟨.port, 0x8, 0, 0, 1⟩
/-- FAB_PORT_STAT.LINK_B. -/
def fFAB_PORT_STAT_LINK_B : Fld := ⟨.port, 0x8, 0, 1, 1⟩
/-- FAB_PORT_STAT.STATE_A. -/
def fFAB_PORT_STAT_STATE_A : Fld := ⟨.port, 0x8, 0, 2, 2⟩
/-- FAB_PORT_STAT.STATE_B. -/
def fFAB_PORT_STAT_STATE_B : Fld := ⟨.port, 0x8, 0, 4, 2⟩
/-- FAB_PORT_STAT.CAUSE_A. -/
def fFAB_PORT_STAT_CAUSE_A : Fld := ⟨.port, 0x8, 0, 6, 2⟩
/-- FAB_PORT_STAT.CAUSE_B. -/
def fFAB_PORT_STAT_CAUSE_B : Fld := ⟨.port, 0x8, 0, 8, 2⟩
/-- FAB_PORT_STAT.FLAPS. -/
def fFAB_PORT_STAT_FLAPS : Fld := ⟨.port, 0x8, 0, 16, 16⟩
/-- FAB_PORT_STAT.FEC_UNCORR. -/
def fFAB_PORT_STAT_FEC_UNCORR : Fld := ⟨.port, 0x8, 0, 32, 16⟩
/-- FAB_MAC.MAC. -/
def fFAB_MAC_MAC : Fld := ⟨.port, 0x10, 8, 0, 48⟩
/-- FAB_IP6.ADDR. -/
def fFAB_IP6_ADDR : Fld := ⟨.port, 0x20, 8, 0, 64⟩
/-- FAB_INSTALL.EXPECT_ENGINE. -/
def fFAB_INSTALL_EXPECT_ENGINE : Fld := ⟨.port, 0x40, 8, 0, 32⟩
/-- FAB_INSTALL.EXPECT_HALF. -/
def fFAB_INSTALL_EXPECT_HALF : Fld := ⟨.port, 0x40, 8, 32, 4⟩
/-- FAB_NBR.ENGINE. -/
def fFAB_NBR_ENGINE : Fld := ⟨.port, 0x50, 8, 0, 32⟩
/-- FAB_NBR.HALF. -/
def fFAB_NBR_HALF : Fld := ⟨.port, 0x50, 8, 32, 4⟩
/-- FAB_NBR.VALID. -/
def fFAB_NBR_VALID : Fld := ⟨.port, 0x50, 8, 36, 1⟩
/-- FAB_MACSEC_CFG.ENABLE. -/
def fFAB_MACSEC_CFG_ENABLE : Fld := ⟨.port, 0x60, 8, 0, 1⟩
/-- FAB_MACSEC_CFG.XPN. -/
def fFAB_MACSEC_CFG_XPN : Fld := ⟨.port, 0x60, 8, 1, 1⟩
/-- FAB_MACSEC_CFG.REPLAY_WINDOW. -/
def fFAB_MACSEC_CFG_REPLAY_WINDOW : Fld := ⟨.port, 0x60, 8, 8, 32⟩
/-- FAB_SYSTEM_ID.ID. -/
def fFAB_SYSTEM_ID_ID : Fld := ⟨.global, 0x300, 0, 0, 64⟩
/-- FAB_LLDP.TX_S. -/
def fFAB_LLDP_TX_S : Fld := ⟨.global, 0x308, 0, 0, 5⟩
/-- FAB_LLDP.LINKDOWN_MS. -/
def fFAB_LLDP_LINKDOWN_MS : Fld := ⟨.global, 0x308, 0, 16, 16⟩
/-- FAB_CBT_CFG.UDP_PORT. -/
def fFAB_CBT_CFG_UDP_PORT : Fld := ⟨.global, 0x310, 0, 0, 16⟩
/-- FAB_CBT_CFG.RTO_US. -/
def fFAB_CBT_CFG_RTO_US : Fld := ⟨.global, 0x310, 0, 16, 12⟩
/-- FAB_CBT_CFG.MAX_RESEND. -/
def fFAB_CBT_CFG_MAX_RESEND : Fld := ⟨.global, 0x310, 0, 28, 4⟩
/-- FAB_CBT_CFG.GIVEUP_US. -/
def fFAB_CBT_CFG_GIVEUP_US : Fld := ⟨.global, 0x310, 0, 32, 24⟩
/-- FAB_IDENT.OUI. -/
def fFAB_IDENT_OUI : Fld := ⟨.global, 0x318, 0, 0, 24⟩
/-- PART_CIRCUIT.PLAN_ADDR. -/
def fPART_CIRCUIT_PLAN_ADDR : Fld := ⟨.part, 0x700, 0, 0, 48⟩
/-- PART_CIRCUIT.BIND. -/
def fPART_CIRCUIT_BIND : Fld := ⟨.part, 0x700, 0, 48, 1⟩
/-- PART_CIRCUIT.UNBIND. -/
def fPART_CIRCUIT_UNBIND : Fld := ⟨.part, 0x700, 0, 49, 1⟩
/-- PART_CIRCUIT.BOUND. -/
def fPART_CIRCUIT_BOUND : Fld := ⟨.part, 0x700, 0, 50, 1⟩
/-- PART_CIRCUIT.ERR. -/
def fPART_CIRCUIT_ERR : Fld := ⟨.part, 0x700, 0, 51, 3⟩
/-- CARR_RANKS.ADDR. -/
def fCARR_RANKS_ADDR : Fld := ⟨.part, 0x800, 0, 0, 48⟩
/-- CARR_HOME.ADDR. -/
def fCARR_HOME_ADDR : Fld := ⟨.part, 0x808, 0, 0, 48⟩
/-- CARR_LAYERS.ADDR. -/
def fCARR_LAYERS_ADDR : Fld := ⟨.part, 0x810, 0, 0, 48⟩
/-- CARR_TREE.ADDR. -/
def fCARR_TREE_ADDR : Fld := ⟨.part, 0x818, 0, 0, 48⟩
/-- CARR_JOB.NRANKS. -/
def fCARR_JOB_NRANKS : Fld := ⟨.part, 0x820, 0, 0, 16⟩
/-- CARR_JOB.SELF. -/
def fCARR_JOB_SELF : Fld := ⟨.part, 0x820, 0, 16, 16⟩
/-- CARR_OUTBUF.BASE_4K. -/
def fCARR_OUTBUF_BASE_4K : Fld := ⟨.part, 0x828, 0, 0, 28⟩
/-- CARR_OUTBUF.SIZE_4K. -/
def fCARR_OUTBUF_SIZE_4K : Fld := ⟨.part, 0x828, 0, 28, 17⟩
/-- CARR_INBUF.BASE_4K. -/
def fCARR_INBUF_BASE_4K : Fld := ⟨.part, 0x830, 0, 0, 28⟩
/-- CARR_INBUF.SIZE_4K. -/
def fCARR_INBUF_SIZE_4K : Fld := ⟨.part, 0x830, 0, 28, 17⟩
/-- CARR_CFG.LOST_MS. -/
def fCARR_CFG_LOST_MS : Fld := ⟨.part, 0x838, 0, 0, 16⟩
/-- CARR_STAT.OUT_USED_4K. -/
def fCARR_STAT_OUT_USED_4K : Fld := ⟨.part, 0x840, 0, 0, 17⟩
/-- CARR_STAT.LOST. -/
def fCARR_STAT_LOST : Fld := ⟨.part, 0x840, 0, 17, 1⟩
/-- HAL_EPOCH.EPOCHS. -/
def fHAL_EPOCH_EPOCHS : Fld := ⟨.part, 0x900, 8, 0, 64⟩
/-- HAL_SLOTS.CUR. -/
def fHAL_SLOTS_CUR : Fld := ⟨.part, 0x978, 0, 0, 30⟩
/-- HAL_SLOTS.HAS_CUR. -/
def fHAL_SLOTS_HAS_CUR : Fld := ⟨.part, 0x978, 0, 32, 15⟩
/-- REL_LOG.BASE. -/
def fREL_LOG_BASE : Fld := ⟨.global, 0x400, 0, 0, 48⟩
/-- REL_LOG.LOG2. -/
def fREL_LOG_LOG2 : Fld := ⟨.global, 0x400, 0, 48, 5⟩
/-- REL_LOG_IDX.TAIL. -/
def fREL_LOG_IDX_TAIL : Fld := ⟨.global, 0x408, 0, 0, 32⟩
/-- REL_LOG_IDX.HEAD. -/
def fREL_LOG_IDX_HEAD : Fld := ⟨.global, 0x408, 0, 32, 32⟩
/-- REL_LOG_STAT.OVERWRITTEN. -/
def fREL_LOG_STAT_OVERWRITTEN : Fld := ⟨.global, 0x410, 0, 0, 32⟩
/-- REL_LOG_STAT.DIE_DROPPED. -/
def fREL_LOG_STAT_DIE_DROPPED : Fld := ⟨.global, 0x410, 0, 32, 16⟩
/-- REL_WASH.HBM_HOURS. -/
def fREL_WASH_HBM_HOURS : Fld := ⟨.global, 0x418, 0, 0, 5⟩
/-- REL_WASH.DRW_HOURS. -/
def fREL_WASH_DRW_HOURS : Fld := ⟨.global, 0x418, 0, 5, 5⟩
/-- REL_FAULT.CAUSE. -/
def fREL_FAULT_CAUSE : Fld := ⟨.global, 0x420, 0, 0, 8⟩
/-- REL_FAULT.FAULT. -/
def fREL_FAULT_FAULT : Fld := ⟨.global, 0x420, 0, 8, 1⟩
/-- REL_FAULT.FW_FAULT. -/
def fREL_FAULT_FW_FAULT : Fld := ⟨.global, 0x420, 0, 9, 1⟩
/-- PART_PAIR.MODE. -/
def fPART_PAIR_MODE : Fld := ⟨.part, 0xa00, 0, 0, 2⟩
/-- PART_PAIR.ROLE. -/
def fPART_PAIR_ROLE : Fld := ⟨.part, 0xa00, 0, 2, 1⟩
/-- PART_PAIR.HALF. -/
def fPART_PAIR_HALF : Fld := ⟨.part, 0xa00, 0, 3, 4⟩
/-- PART_PAIR.HB_GRACE_US. -/
def fPART_PAIR_HB_GRACE_US : Fld := ⟨.part, 0xa00, 0, 8, 16⟩
/-- PART_PAIR.WITNESS_MS. -/
def fPART_PAIR_WITNESS_MS : Fld := ⟨.part, 0xa00, 0, 24, 16⟩
/-- PART_PAIR.ENABLE. -/
def fPART_PAIR_ENABLE : Fld := ⟨.part, 0xa00, 0, 40, 1⟩
/-- PART_PAIR.DISABLE. -/
def fPART_PAIR_DISABLE : Fld := ⟨.part, 0xa00, 0, 41, 1⟩
/-- PART_PAIR.FORCE_TAKEOVER. -/
def fPART_PAIR_FORCE_TAKEOVER : Fld := ⟨.part, 0xa00, 0, 42, 1⟩
/-- PART_PAIR_STAT.STATE. -/
def fPART_PAIR_STAT_STATE : Fld := ⟨.part, 0xa08, 0, 0, 3⟩
/-- PART_PAIR_STAT.ERR. -/
def fPART_PAIR_STAT_ERR : Fld := ⟨.part, 0xa08, 0, 3, 3⟩
/-- PART_PAIR_STAT.MISSES. -/
def fPART_PAIR_STAT_MISSES : Fld := ⟨.part, 0xa08, 0, 6, 2⟩
/-- PART_PAIR_STAT.PAIR_EPOCH. -/
def fPART_PAIR_STAT_PAIR_EPOCH : Fld := ⟨.part, 0xa08, 0, 16, 16⟩
/-- PART_PAIR_STAT.APPLIED. -/
def fPART_PAIR_STAT_APPLIED : Fld := ⟨.part, 0xa08, 0, 32, 32⟩
/-- PART_GOLD.MAP_ADDR. -/
def fPART_GOLD_MAP_ADDR : Fld := ⟨.part, 0xa10, 0, 0, 48⟩
/-- PART_GOLD_CNT.ENTRIES. -/
def fPART_GOLD_CNT_ENTRIES : Fld := ⟨.part, 0xa18, 0, 0, 24⟩
/-- PART_GOLD_ID.MODEL_ID. -/
def fPART_GOLD_ID_MODEL_ID : Fld := ⟨.part, 0xa20, 0, 0, 64⟩
/-- PART_REL_STAT.OFFLINE. -/
def fPART_REL_STAT_OFFLINE : Fld := ⟨.part, 0xa28, 0, 0, 1⟩
/-- PART_REL_STAT.VOIDS. -/
def fPART_REL_STAT_VOIDS : Fld := ⟨.part, 0xa28, 0, 16, 16⟩
/-- PART_REL_STAT.REPLAY_FAILS. -/
def fPART_REL_STAT_REPLAY_FAILS : Fld := ⟨.part, 0xa28, 0, 32, 16⟩
/-- PART_REL_STAT.RELOADS. -/
def fPART_REL_STAT_RELOADS : Fld := ⟨.part, 0xa28, 0, 48, 16⟩
/-- SEC_STAT.LOCKED. -/
def fSEC_STAT_LOCKED : Fld := ⟨.sec, 0x0, 0, 0, 1⟩
/-- SEC_STAT.FOGGED_ALL. -/
def fSEC_STAT_FOGGED_ALL : Fld := ⟨.sec, 0x0, 0, 1, 1⟩
/-- SEC_STAT.DEBUG. -/
def fSEC_STAT_DEBUG : Fld := ⟨.sec, 0x0, 0, 2, 1⟩
/-- SEC_STAT.FOG_BUSY. -/
def fSEC_STAT_FOG_BUSY : Fld := ⟨.sec, 0x0, 0, 3, 1⟩
/-- SEC_STAT.SVN. -/
def fSEC_STAT_SVN : Fld := ⟨.sec, 0x0, 0, 4, 8⟩
/-- SEC_STAT.BOOT_BANK. -/
def fSEC_STAT_BOOT_BANK : Fld := ⟨.sec, 0x0, 0, 12, 1⟩
/-- SEC_ALARM_POLICY.POLICY. -/
def fSEC_ALARM_POLICY_POLICY : Fld := ⟨.sec, 0x8, 0, 0, 14⟩
/-- SEC_ALARM_STAT.LATCHED. -/
def fSEC_ALARM_STAT_LATCHED : Fld := ⟨.sec, 0x10, 0, 0, 7⟩
/-- SEC_ALARM_STAT.LAST. -/
def fSEC_ALARM_STAT_LAST : Fld := ⟨.sec, 0x10, 0, 8, 3⟩
/-- SEC_SIGFAIL.LIMIT. -/
def fSEC_SIGFAIL_LIMIT : Fld := ⟨.sec, 0x18, 0, 0, 8⟩
/-- SEC_SIGFAIL.COUNT. -/
def fSEC_SIGFAIL_COUNT : Fld := ⟨.sec, 0x18, 0, 8, 16⟩
/-- SEC_NONCE.NONCE. -/
def fSEC_NONCE_NONCE : Fld := ⟨.sec, 0x20, 0, 0, 64⟩
/-- SEC_OPER_KEY.DIGEST. -/
def fSEC_OPER_KEY_DIGEST : Fld := ⟨.sec, 0x40, 8, 0, 64⟩
/-- SEC_EXTEND.ADDR. -/
def fSEC_EXTEND_ADDR : Fld := ⟨.sec, 0x80, 0, 0, 48⟩
/-- SEC_EXTEND.SLOT. -/
def fSEC_EXTEND_SLOT : Fld := ⟨.sec, 0x80, 0, 48, 4⟩
/-- SEC_PKG_SRC.ADDR. -/
def fSEC_PKG_SRC_ADDR : Fld := ⟨.sec, 0x88, 0, 0, 48⟩
/-- SEC_PKG_DST.ADDR. -/
def fSEC_PKG_DST_ADDR : Fld := ⟨.sec, 0x90, 0, 0, 48⟩
/-- SEC_PKG_CTRL.PART. -/
def fSEC_PKG_CTRL_PART : Fld := ⟨.sec, 0x98, 0, 0, 4⟩
/-- SEC_PKG_CTRL.START. -/
def fSEC_PKG_CTRL_START : Fld := ⟨.sec, 0x98, 0, 4, 1⟩
/-- SEC_PKG_CTRL.BUSY. -/
def fSEC_PKG_CTRL_BUSY : Fld := ⟨.sec, 0x98, 0, 5, 1⟩
/-- SEC_PKG_CTRL.STATUS. -/
def fSEC_PKG_CTRL_STATUS : Fld := ⟨.sec, 0x98, 0, 16, 16⟩
/-- SEC_TOKEN.ADDR. -/
def fSEC_TOKEN_ADDR : Fld := ⟨.sec, 0xa0, 0, 0, 48⟩
/-- SEC_TOKEN.SUBMIT. -/
def fSEC_TOKEN_SUBMIT : Fld := ⟨.sec, 0xa0, 0, 48, 1⟩
/-- SEC_TOKEN.BUSY. -/
def fSEC_TOKEN_BUSY : Fld := ⟨.sec, 0xa0, 0, 49, 1⟩
/-- PWR_STATE.STATE. -/
def fPWR_STATE_STATE : Fld := ⟨.pwr, 0x0, 0, 0, 3⟩
/-- PWR_STATE.DRAINED. -/
def fPWR_STATE_DRAINED : Fld := ⟨.pwr, 0x0, 0, 3, 1⟩
/-- PWR_STATE.BOOT_TRY. -/
def fPWR_STATE_BOOT_TRY : Fld := ⟨.pwr, 0x0, 0, 4, 1⟩
/-- PWR_STATE.DRAIN_LEFT_S. -/
def fPWR_STATE_DRAIN_LEFT_S : Fld := ⟨.pwr, 0x0, 0, 32, 32⟩
/-- PWR_CTRL.DRAIN. -/
def fPWR_CTRL_DRAIN : Fld := ⟨.pwr, 0x8, 0, 0, 1⟩
/-- PWR_CTRL.DEADLINE_S. -/
def fPWR_CTRL_DEADLINE_S : Fld := ⟨.pwr, 0x8, 0, 1, 12⟩
/-- PWR_CTRL.RESET. -/
def fPWR_CTRL_RESET : Fld := ⟨.pwr, 0x8, 0, 13, 1⟩
/-- PWR_CAP.CAP_W. -/
def fPWR_CAP_CAP_W : Fld := ⟨.pwr, 0x10, 0, 0, 12⟩
/-- PWR_CAP.JTHROT_C. -/
def fPWR_CAP_JTHROT_C : Fld := ⟨.pwr, 0x10, 0, 12, 8⟩
/-- PWR_DROOP.DROOP_MV. -/
def fPWR_DROOP_DROOP_MV : Fld := ⟨.pwr, 0x18, 0, 0, 7⟩
/-- PWR_INPUT.VIN. -/
def fPWR_INPUT_VIN : Fld := ⟨.pwr, 0x20, 0, 0, 16⟩
/-- PWR_INPUT.IIN. -/
def fPWR_INPUT_IIN : Fld := ⟨.pwr, 0x20, 0, 16, 16⟩
/-- PWR_INPUT.PIN_W. -/
def fPWR_INPUT_PIN_W : Fld := ⟨.pwr, 0x20, 0, 32, 16⟩
/-- PWR_INPUT.P100_W. -/
def fPWR_INPUT_P100_W : Fld := ⟨.pwr, 0x20, 0, 48, 16⟩
/-- PWR_STAT.RAIL_PG. -/
def fPWR_STAT_RAIL_PG : Fld := ⟨.pwr, 0x28, 0, 0, 13⟩
/-- PWR_STAT.DUTY. -/
def fPWR_STAT_DUTY : Fld := ⟨.pwr, 0x28, 0, 16, 5⟩
/-- PWR_STAT.STRETCHES. -/
def fPWR_STAT_STRETCHES : Fld := ⟨.pwr, 0x28, 0, 24, 32⟩
/-- PART_PWR_CAP.CAP_W. -/
def fPART_PWR_CAP_CAP_W : Fld := ⟨.part, 0xb00, 0, 0, 12⟩
/-- PART_PWR_CAP.DUTY. -/
def fPART_PWR_CAP_DUTY : Fld := ⟨.part, 0xb00, 0, 12, 5⟩
/-- MGMT_CFG.VETAS_PORT. -/
def fMGMT_CFG_VETAS_PORT : Fld := ⟨.global, 0x500, 0, 0, 16⟩
/-- MGMT_CFG.FE_PORT. -/
def fMGMT_CFG_FE_PORT : Fld := ⟨.global, 0x500, 0, 16, 16⟩
/-- MGMT_CFG.I3C_TRUST. -/
def fMGMT_CFG_I3C_TRUST : Fld := ⟨.global, 0x500, 0, 32, 1⟩
/-- MGMT_CFG.I3C_ADDR. -/
def fMGMT_CFG_I3C_ADDR : Fld := ⟨.global, 0x500, 0, 33, 7⟩
/-- MGMT_CFG.WITNESS_PORT. -/
def fMGMT_CFG_WITNESS_PORT : Fld := ⟨.global, 0x500, 0, 40, 16⟩
/-- MGMT_OOB_IP6.ADDR. -/
def fMGMT_OOB_IP6_ADDR : Fld := ⟨.global, 0x508, 8, 0, 64⟩
/-- MGMT_WITNESS_IP6.ADDR. -/
def fMGMT_WITNESS_IP6_ADDR : Fld := ⟨.global, 0x518, 8, 0, 64⟩
/-- MGMT_SETTINGS.SOURCE. -/
def fMGMT_SETTINGS_SOURCE : Fld := ⟨.global, 0x528, 0, 0, 2⟩
/-- MGMT_SETTINGS.BUSY. -/
def fMGMT_SETTINGS_BUSY : Fld := ⟨.global, 0x528, 0, 2, 1⟩
/-- MGMT_SETTINGS.IGNORED. -/
def fMGMT_SETTINGS_IGNORED : Fld := ⟨.global, 0x528, 0, 16, 16⟩
/-- MGMT_SETTINGS.SEQ. -/
def fMGMT_SETTINGS_SEQ : Fld := ⟨.global, 0x528, 0, 32, 32⟩
/-- MGMT_IDENT.IANA. -/
def fMGMT_IDENT_IANA : Fld := ⟨.global, 0x530, 0, 0, 32⟩
/-- DENS_SNAP.BASE. -/
def fDENS_SNAP_BASE : Fld := ⟨.dens, 0x0, 0, 0, 48⟩
/-- DENS_SNAP.LOG2. -/
def fDENS_SNAP_LOG2 : Fld := ⟨.dens, 0x0, 0, 48, 5⟩
/-- DENS_SAMPLE.BASE. -/
def fDENS_SAMPLE_BASE : Fld := ⟨.dens, 0x8, 0, 0, 48⟩
/-- DENS_SAMPLE.LOG2. -/
def fDENS_SAMPLE_LOG2 : Fld := ⟨.dens, 0x8, 0, 48, 5⟩
/-- DENS_SNAP_CFG.PART_MASK. -/
def fDENS_SNAP_CFG_PART_MASK : Fld := ⟨.dens, 0x10, 0, 0, 16⟩
/-- DENS_SNAP_CFG.PERIOD_EN. -/
def fDENS_SNAP_CFG_PERIOD_EN : Fld := ⟨.dens, 0x10, 0, 16, 1⟩
/-- DENS_SNAP_CFG.NOW. -/
def fDENS_SNAP_CFG_NOW : Fld := ⟨.dens, 0x10, 0, 17, 1⟩
/-- DENS_IDX.SNAP_TAIL. -/
def fDENS_IDX_SNAP_TAIL : Fld := ⟨.dens, 0x18, 0, 0, 32⟩
/-- DENS_IDX.SAMPLE_TAIL. -/
def fDENS_IDX_SAMPLE_TAIL : Fld := ⟨.dens, 0x18, 0, 32, 32⟩
/-- DENS_STAT.OVERWRITTEN. -/
def fDENS_STAT_OVERWRITTEN : Fld := ⟨.dens, 0x20, 0, 0, 16⟩
/-- DENS_STAT.MERGED. -/
def fDENS_STAT_MERGED : Fld := ⟨.dens, 0x20, 0, 16, 16⟩
/-- DENS_STAT.SAMPLES_LOST. -/
def fDENS_STAT_SAMPLES_LOST : Fld := ⟨.dens, 0x20, 0, 32, 16⟩
/-- DENS_STAT.SAMPLES_DROPPED. -/
def fDENS_STAT_SAMPLES_DROPPED : Fld := ⟨.dens, 0x20, 0, 48, 8⟩
/-- DENS_STAT.USER_SKIPPED. -/
def fDENS_STAT_USER_SKIPPED : Fld := ⟨.dens, 0x20, 0, 56, 8⟩
/-- PART_DENS.DENS_USER_EN. -/
def fPART_DENS_DENS_USER_EN : Fld := ⟨.part, 0xc00, 0, 0, 1⟩
/-- PART_DENS.SAMPLE_LOG2N. -/
def fPART_DENS_SAMPLE_LOG2N : Fld := ⟨.part, 0xc00, 0, 1, 5⟩
/-- PART_DENS.USER_ADDR. -/
def fPART_DENS_USER_ADDR : Fld := ⟨.part, 0xc00, 0, 12, 48⟩

end Sys2Proof.Machine
end

