-- ==== Sys2Proof/Machine/SMap.lean ====
section
/-! DEFINITION. SMap: sparse data by key in one canonical form, used for memory, registers and every sparse table
of the state. A map is a list of (key, value) pairs with strictly rising keys, and no listed value equals what an
unlisted key reads as. -/

namespace Sys2Proof.Machine

/-- Sparse data by key. -/
abbrev SMap (α : Type) := List (Nat × α)

/-- What key `k` reads as: its listed value, or the default `d k`. -/
def smapGet {α : Type} (d : Nat → α) (k : Nat) : SMap α → α
  | [] => d k
  | (j, v) :: m => if j = k then v else smapGet d k m

/-- The entry for `k` removed, wherever it stands. -/
def smapErase {α : Type} (k : Nat) : SMap α → SMap α
  | [] => []
  | (j, v) :: m => if j = k then smapErase k m else (j, v) :: smapErase k m

/-- The pair `(k, v)` put in its place among rising keys. -/
def smapInsert {α : Type} (k : Nat) (v : α) : SMap α → SMap α
  | [] => [(k, v)]
  | (j, w) :: m => if k < j then (k, v) :: (j, w) :: m else (j, w) :: smapInsert k v m

/-- Key `k` set to `v`; writing what an unlisted key reads as removes the entry, so equal maps are equal data. -/
def smapSet {α : Type} [DecidableEq α] (d : Nat → α) (k : Nat) (v : α) (m : SMap α) : SMap α :=
  if v = d k then smapErase k m else smapInsert k v (smapErase k m)

/-- The canonical form: keys strictly rising, and no listed value equal to its default. -/
def smapWf {α : Type} [DecidableEq α] (d : Nat → α) : SMap α → Bool
  | [] => true
  | (j, v) :: m => m.all (fun p => decide (j < p.1)) && decide (v ≠ d j) && smapWf d m

end Sys2Proof.Machine
end

