-- ==== Sys2Proof/Machine/State.lean ====
section
/-! DEFINITION. State: the machine's state as plain data, its reasons to stop, and the machine right after reset.
Registers hold what the spec puts in registers; everything else the spec gives the engine stands in the records
below. -/

namespace Sys2Proof.Machine

/-- Why a command stops with a fault. [DESIGN CHOICE, log entry 8] -/
inductive Fault where
  /-- Raised by RD_REQ and WR for a message that SYS exempts from the range check and whose address lies in no region
  of R10: the spec gives such an access no meaning. Safe: the model stops where the hardware may go on. -/
  | unmappedAddress (addr : Nat)
  deriving DecidableEq, Repr

/-- Why a command is refused. -/
inductive Refusal where
  /-- Raised by an arm of the dispatch that has no meaning yet. Safe. -/
  | notModelled (mnemonic : String)
  /-- Raised by every meaning whose operands name nothing the engine has (a plate above 127, a bank above 63).
  Safe: no such command can reach the engine. -/
  | illFormed (mnemonic : String)
  deriving DecidableEq, Repr

/-! ### Memory -/

/-- A range of memory whose unlisted bytes hold free values: the spec says its contents are not preserved
(R163, R310). -/
structure OpenRange where
  lo : Nat
  size : Nat
  tag : Nat
  deriving DecidableEq, Repr

/-- The device address space below the registers (R10): HBM, Drawer and trays, sparse. -/
structure Memory where
  cells : SMap Byte
  opened : List OpenRange
  deriving DecidableEq, Repr

/-- What is known wrong with a 64-byte line (R168, R317, R319): nothing, a corrected error that stays until the
line is rewritten, or an uncorrectable one (a poisoned tray line, a damaged HBM or Drawer line). -/
inductive LineErr where
  | good | corrected | bad
  deriving DecidableEq, Repr

/-- R169: the tag of an aligned 4 KiB block. -/
inductive BlockTag where
  | none | valid (crc : Nat) | stale
  deriving DecidableEq, Repr

/-- R313: an entry of a stack's write-combining buffer: the line, its valid 16-byte units, and the messages whose
acknowledgement waits for the line. The bytes merged so far stand in `Memory` already: every reader sees them overlaid
on the stack's data (R314). -/
structure WcbEntry where
  line : Nat
  valid : List Bool
  acks : List (UcieHdr × UciePort)
  deriving DecidableEq, Repr

/-! ### Grain array and plates -/

/-- R69: how a tile's weights are held. -/
inductive WKind where
  | t5
  | b1
  | wide (b : Nat)
  deriving DecidableEq, Repr

/-- R75: one strip's active planes in the order they run, each with the shift its contributions are promoted with;
ternary and binary strips have one plane or none. -/
structure StripPlan where
  planes : List (Nat × Nat)
  skipped : Nat
  deriving DecidableEq, Repr

/-- A weight tile in SHADOW or ACTIVE (R69): weights by column, then row; group multipliers of a GROUPED tile. -/
structure Tile where
  kind : WKind
  kRows : Nat
  cols : Nat
  weights : List (List Int)
  gsize : Nat
  gmult : List (List Nat)
  strips : List StripPlan
  deriving DecidableEq, Repr

/-- R81: a narrow entry: its 24-bit value, and the sign of the true sum once it has overflowed. -/
structure Narrow where
  val : Int
  ovf : Option Bool
  deriving DecidableEq, Repr

/-- R81: contribution count and plane tag of one (group, strip). -/
structure StripAcc where
  count : Nat
  tag : Nat
  deriving DecidableEq, Repr

/-- R86: an open accumulation group: packed or 40-bit, its interval N, its narrow and wide entries keyed by
slot × 256 + column, its counts and tags by strip. -/
structure Group where
  packed : Bool
  n : Nat
  narrow : SMap Narrow
  wide : SMap Nat
  strips : SMap StripAcc
  deriving DecidableEq, Repr

/-- Why a plate command waits. -/
inductive WaitWhy where
  | sem | fence | clock | window | barrier | unit | power | progress | carrier | outSpace | slot | stack
  deriving DecidableEq, Repr

/-- A plate command that has been issued and waits, in program order (R149). -/
structure Waiter where
  cmd : PlateCmd
  why : WaitWhy
  /-- Its body has begun; only its completion is outstanding (R155, R161). -/
  begun : Bool
  /-- Banks a TRAY_POWER still waits for (R161). -/
  mask : Nat
  deriving DecidableEq, Repr

/-- R163: a bank in transition: closing or waking, with the request it holds, if any. -/
structure BankMove where
  closing : Bool
  held : Option Bool
  deriving DecidableEq, Repr

/-- R482: a tagged command in flight. -/
structure Tagged where
  index : Nat
  opc : Nat
  forced : Bool
  fetched : Nat
  preempted : Bool
  deriving DecidableEq, Repr

/-- One plate (R22) beyond its registers. -/
structure Plate where
  shadow : Option Tile
  active : Option Tile
  /-- The next GRAIN_PASS must have SWAP set (R77). -/
  boundary : Bool
  /-- Open groups keyed by packed number; a 40-bit group `g` stands at `2 g` (R86). -/
  groups : SMap (Option Group)
  sems : SMap Nat
  waiting : List Waiter
  /-- The running context of the plate's lane. -/
  ctx : Option Nat
  /-- The running context's program on this plate has passed SEQ_END. -/
  ended : Bool
  /-- Program clock of the running context (R266), in fifths of an arithmetic cycle, so that a stretched cycle (R460) counts
  exactly. -/
  clock : Nat
  /-- BAR_IDs of the barriers the plate has issued in this exposure program (R270). -/
  bars : List Nat
  /-- Commands at positions below this one are skipped (R129, R270). -/
  skip : Nat
  /-- Fetched commands not yet issued (R261), and the next position to fetch. -/
  fetched : List (Nat × CmdWord)
  fetchPos : Nat
  tagged : List Tagged
  /-- The tile last loaded but not yet swapped in, for the reload on resume (R89). -/
  reload : Option PlateCmd
  /-- Completed commands whose signals wait for earlier commands, in program order (R105). -/
  unsent : List PlateCmd
  deriving DecidableEq, Repr

/-- A plate before any command. [DESIGN CHOICE, log entry 3] -/
def Plate.init : Plate :=
  { shadow := none, active := none, boundary := true, groups := [], sems := [], waiting := [], ctx := none,
    ended := false, clock := 0, bars := [], skip := 0, fetched := [], fetchPos := 0, tagged := [], reload := none, unsent := [] }

/-! ### Partitions, contexts and requests -/

/-- R263: run states of a context. -/
inductive RunState where
  | disabled | done | ready | running | blocked
  deriving DecidableEq, Repr

/-- The engine's own copy of a context (R261, R499). -/
structure Ctx where
  part : Nat
  run : RunState
  takesPart : Bool
  /-- 0 SWAPPED, 1 RESIDENT, 2 MOVING. -/
  residency : Nat
  resSlot : Option Nat
  prio : Nat
  laneFirst : Nat
  lanePlates : Nat
  workSwap : Bool
  workOff : Nat
  workBytes : Nat
  saveHbm : Nat
  progTable : Nat
  /-- First command and COUNT of each lane plate's program (R261). -/
  progs : List (Nat × Nat)
  progress : Nat
  waitCtx : Option Nat
  waitVal : Nat
  blockT64 : Nat
  readySince : Nat
  chosenAt : Nat
  /-- Request slots named by the context's commands in this exposure. -/
  reqs : List Nat
  /-- Code with which a fault ended the context's program, or 0. -/
  endCode : Nat
  flip : Bool
  /-- The running context has reached QUANTUM_US (R264). -/
  quantumDue : Bool
  /-- The context leaves its lane: every lane plate stops issue at its next tile boundary (R263, R265). -/
  leaving : Bool
  /-- The lane plates' state while the context is off its lane (R265): its save slots, or its swap image. -/
  saved : List (Nat × Plate)
  deriving DecidableEq, Repr

/-- A context that takes no part. [DESIGN CHOICE, log entry 3] -/
def Ctx.init : Ctx :=
  { part := 0, run := .disabled, takesPart := false, residency := 0, resSlot := none, prio := 0, laneFirst := 0,
    lanePlates := 0, workSwap := false, workOff := 0, workBytes := 0, saveHbm := 0, progTable := 0, progs := [], progress := 0,
    waitCtx := none, waitVal := 0, blockT64 := 0, readySince := 0, chosenAt := 0, reqs := [], endCode := 0,
    flip := false, quantumDue := false, leaving := false, saved := [] }

/-- A service command waiting for its boundary (R221): ring, descriptor REQ_ID, the 32-byte command, whether it met
the admission cut-off. -/
structure SvcCmd where
  ring : Nat
  reqId : Nat
  word : CmdWord
  due : Bool
  deriving DecidableEq, Repr

/-- A record still owed to a ring at the next commit. -/
structure OwedRec where
  ring : Nat
  reqId : Nat
  status : Nat
  flags : Nat
  token0 : Nat
  token1 : Nat
  deriving DecidableEq, Repr

/-- R285: an EMBED handed on to firmware and not finished: its ring and REQ_ID, OUT_ADDR and OUT_BYTES. -/
structure Embed where
  ring : Nat
  reqId : Nat
  out : Nat
  cap : Nat
  deriving DecidableEq, Repr

/-- R294: the record of a CANCEL, PARK or RESUME that waits for its targets: its ring and REQ_ID, the service commands still to complete
(service ring and REQ_ID of each), and the target slots. -/
structure Move where
  ring : Nat
  reqId : Nat
  svc : List (Nat × Nat)
  slots : List Nat
  deriving DecidableEq, Repr

/-- R235: what the Loupe sampled for one request in the exposure. -/
structure Sampled where
  slot : Nat
  tokens : List Nat
  drafts : List Nat
  accepted : Nat
  poison : Bool
  deriving DecidableEq, Repr

/-- Life of the current exposure. -/
inductive ExpoPhase where
  | idle | ticked | released | committed
  deriving DecidableEq, Repr

/-- One partition beyond its registers. -/
structure Part where
  phase : ExpoPhase
  /-- Time and number of the current tick. -/
  tickT : Nat
  tickK : Nat
  /-- Exposure to be released next. -/
  nextExpo : Nat
  /-- R417: the first release of a takeover is still to come: it keeps `nextExpo`. -/
  tookOver : Bool
  firstDone : Bool
  startT : Nat
  commitT : Nat
  attempt : Nat
  voided : Bool
  reexecT : Nat
  stopping : Bool
  svc : List SvcCmd
  owed : List OwedRec
  sampled : List Sampled
  /-- Records of CANCEL, PARK and RESUME whose outcome is still to come (R294). -/
  moves : List Move
  /-- EMBED requests that have not ended (R285), and entries of the intake queue already answered or admitted, by free-running
  number (R291). -/
  embeds : List Embed
  answered : List Nat
  parking : List Nat
  portMissing : Bool
  cutoffDone : Bool
  /-- STEP descriptors read that stand pending at SQ_HEAD of their ring, and the one taken for the exposure (R290). -/
  stepPending : List (Nat × DescWord)
  stepTaken : Option (Nat × DescWord)
  flip : Bool
  warnings : List Nat
  burnDecisions : Nat
  burnFallbacks : Nat
  /-- Layers whose decision was FALLBACK in this exposure, each with its cluster, and decisions by cluster (R131). -/
  burnLayers : List (Nat × Nat)
  burnCounts : SMap Nat
  /-- Stream bindings: the stream and the quantiser (R64). -/
  bound : List (Nat × Nat)
  indexOff : Bool
  /-- Frames whose page-table entry could not be written: BAD until the partition is destroyed (R499). -/
  badFrames : List Nat
  reloads : List Nat
  /-- Damaged weight lines met by wash or patrol, repaired at the next boundary (R403). -/
  washReloads : List Nat
  /-- Values in force of registers whose writes wait for the boundary (R252). -/
  rngKey : Nat
  growFloor : Nat
  dens : Word64
  seed : Nat
  quantum : Nat
  swapUs : Nat
  lateLimit : Nat
  /-- Contexts being swapped out and in (R267, R269). -/
  swapOut : Option Nat
  swapIn : Option Nat
  /-- Contexts that have blocked on a swapped-out one, whose pair exchange is still to come (R268). -/
  exchange : List Nat
  /-- Records held until COMMIT_ACK or the end of a claim (R411, R416), with their time and exposure. -/
  heldRecs : List (OwedRec × Nat × Nat)
  /-- Number of the tick that comes next (R250). -/
  nextK : Nat
  /-- An UNBIND or a PAIR DISABLE that waits for the boundary (R350, R423). -/
  unbind : Bool
  unpair : Bool
  /-- The shadow's batch of STATE records, its bytes, and has a record of it failed the address check (R413). -/
  batch : List (Nat × List Nat)
  batchBytes : Nat
  batchBad : Bool
  /-- The shadow became UNPAIRED by losing its partner (R416). -/
  pairLost : Bool
  /-- A weight repair has failed for want of a MATCHED pair half (R405): the model is to go offline. -/
  repairFailed : Bool
  /-- MODE as read at ENABLE (R423), the intake entries of the batch applied last (R418), and a VOID that came for an
  exposure before its release, with its sender (R402). -/
  pairMode : Nat
  mirrored : List Nat
  voidNext : Option (Nat × Nat)
  /-- Register values written while the partition runs that take effect at the next boundary (R389), by address. -/
  later : SMap (Option Word64)
  deriving DecidableEq, Repr

/-- A partition before CREATE. [DESIGN CHOICE, log entry 3] -/
def Part.init : Part :=
  { phase := .idle, tickT := 0, tickK := 0, nextExpo := 0, tookOver := false, firstDone := false, startT := 0, commitT := 0, attempt := 0,
    voided := false, reexecT := 0, stopping := false, svc := [], owed := [], sampled := [],
    moves := [], embeds := [], answered := [], parking := [], portMissing := false, cutoffDone := false, stepPending := [], stepTaken := none,
    flip := false, warnings := [], burnDecisions := 0, burnFallbacks := 0, burnLayers := [], burnCounts := [], bound := [],
    indexOff := false, badFrames := [], reloads := [], washReloads := [], rngKey := 0, growFloor := 256,
    dens := 0, seed := 0, quantum := 0, swapUs := 1000, lateLimit := 8,
    swapOut := none, swapIn := none, exchange := [], heldRecs := [], nextK := 0, unbind := false, unpair := false, batch := [],
    batchBytes := 0, batchBad := false, pairLost := false, repairFailed := false, pairMode := 0, mirrored := [], voidNext := none, later := [] }

/-- R218: the engine's copy of a request's record, with the rest of what it holds for the slot. -/
structure Slot where
  state : Nat
  part : Nat
  reqId : Nat
  ring : Nat
  flags : Nat
  promptLen : Nat
  maxNew : Nat
  reserve : Nat
  len : Nat
  gen : Nat
  matched : Nat
  deadline : Nat
  tokLog : Nat
  framesAt : Nat
  counts : Nat
  stops : Nat
  temp : Nat
  topK : Nat
  topP : Nat
  minP : Nat
  rep : Nat
  pres : Nat
  freq : Nat
  stream : Nat
  expiry : Nat
  reserved : Nat
  /-- R216: the frame of each block; 0xFFFFFFFF where the block has none. -/
  frames : List Nat
  /-- Blocks published, matched or found duplicate so far, as the node of each. -/
  published : List Nat
  /-- Highest position written in this exposure plus one, or 0. -/
  wrote : Nat
  endCode : Nat
  /-- End code met outside an exposure, which a void does not discard. -/
  heldCode : Nat
  served : Bool
  everRun : Bool
  cancel : Bool
  noRecords : Bool
  /-- Drawer frames of a parked cache, each with the block it holds (R244). -/
  drawer : List (Nat × Nat)
  parkTtl : Nat
  oldReserve : Nat
  /-- Codes of the exposure that `endCode` outranks; they go to the error log (R18). -/
  lesser : List Nat
  /-- LAT_END reached the request while it was MOVING (R247). -/
  endAfter : Bool
  deriving DecidableEq, Repr

/-- A free slot. [DESIGN CHOICE, log entry 3] -/
def Slot.init : Slot :=
  { state := 0, part := 0, reqId := 0, ring := 0, flags := 0, promptLen := 0, maxNew := 0, reserve := 0, len := 0, gen := 0,
    matched := 0, deadline := 0, tokLog := 0, framesAt := 0, counts := 0, stops := 0, temp := 0, topK := 0, topP := 0,
    minP := 0, rep := 0, pres := 0, freq := 0, stream := 0, expiry := 0, reserved := 0, frames := [], published := [],
    wrote := 0, endCode := 0, heldCode := 0, served := false, everRun := false, cancel := false, noRecords := false, drawer := [],
    parkTtl := 0, oldReserve := 0, lesser := [], endAfter := false }

/-- A ring pair at run time (R276, R291); the table entry in memory holds the E fields as well. -/
structure Ring where
  state : Nat
  err : Nat
  sqBase : Nat
  sqLog2 : Nat
  cqLog2 : Nat
  cqBase : Nat
  kind : Nat
  winBase : Nat
  win4k : Nat
  sqHead : Nat
  cqTail : Nat
  sqTailSeen : Nat
  cqHeadSeen : Nat
  handed : Nat
  finals : Nat
  disabling : Bool
  /-- A completion record's write was uncorrectable: the ring's requests end as in R278 (R403). -/
  recordUe : Bool
  deriving DecidableEq, Repr

/-- A disabled ring. [DESIGN CHOICE, log entry 3] -/
def Ring.init : Ring :=
  { state := 0, err := 0, sqBase := 0, sqLog2 := 0, cqLog2 := 0, cqBase := 0, kind := 0, winBase := 0, win4k := 0,
    sqHead := 0, cqTail := 0, sqTailSeen := 0, cqHeadSeen := 0, handed := 0, finals := 0, disabling := false, recordUe := false }

/-! ### UCIe (R24–R32) -/

/-- A message a sender keeps: until acknowledged (WR), completed (RD_REQ) or delivered. `delivered`: has it been sent; of a message in
flight: has its answer come. -/
structure UcieMsg where
  hdr : UcieHdr
  data : List Byte
  resends : Nat
  delivered : Bool
  deriving DecidableEq, Repr

/-- A complete message that the receiver of a module holds until it returns the message's cells (R29, R31): TYPE, TAG, class, cells,
and did it come before the latest retrain. -/
structure UcieGot where
  typ : Nat
  tag : Nat
  cls : Nat
  cells : Nat
  old : Bool
  deriving DecidableEq, Repr

/-- One module of a link in one direction: the sender's credits, the messages it keeps or has still to send, and those it has sent
whose cells are not returned yet; is the stream aligned, does the module retrain; the messages the receiver holds; and the cells of
the other classes that have gone since BULK last had a flit body (R28). -/
structure UcieLane where
  credits : List Nat
  outbox : List UcieMsg
  flight : List UcieMsg
  aligned : Bool
  retraining : Bool
  got : List UcieGot
  sinceBulk : Nat
  deriving DecidableEq, Repr

/-- A module at link start: 4,096 cells of credit in each class (R29). -/
def UcieLane.init : UcieLane :=
  { credits := [4096, 4096, 4096], outbox := [], flight := [], aligned := true, retraining := false, got := [], sinceBulk := 0 }

/-! ### Timer (R326–R341) -/

/-- One (link-die) replica or the master: time in units of 2^-40 ns, rate in units of 2^-40, and a correction held
for the coming strobe (R328). -/
structure Clock where
  time : Nat
  rate : Int
  pending : Option TimeMsg
  deriving DecidableEq, Repr

/-- The PTP servo and its inputs (R330–R339): roles of the 16 ports in force, has the upstream been accepted, its latest
Announce, the Sync whose Follow_Up is awaited, the latest times t1–t3 in half picoseconds with the number of the Delay_Req,
Sync intervals in a row within LOCK_NS, the time at which LOCKED was left, the RATE chosen for coming strobes, a step held
for a strobe with its size in ns (and was it the servo's), the numbers of Sync messages sent, and TIMER_SET's value. -/
structure Servo where
  roles : List Nat
  accepted : Bool
  ann : Option AnnMsg
  sync : Option SyncMsg
  t1 : Int
  t2 : Int
  t3 : Int
  delaySeq : Nat
  goodRun : Nat
  leftLocked : Nat
  rate : Int
  step : Option (Nat × Int × Bool)
  seqSync : Nat
  setValue : Option Nat
  deriving DecidableEq, Repr

/-- The timer: master, replicas of CD0 and CD1, servo, and the number of the latest strobe. -/
structure Timer where
  master : Clock
  replicas : List Clock
  servo : Servo
  strobe : Nat
  deriving DecidableEq, Repr

/-! ### Densitometer reader (R478) -/

/-- A latched snapshot not yet gathered: latch stamp, trigger, partition, exposure, and latched counters by block
× 16 + counter. -/
structure Latch where
  t64 : Nat
  trigger : Nat
  part : Nat
  expo : Nat
  vals : SMap Word64
  deriving DecidableEq, Repr

/-- The densitometer's reader: the latch being gathered, and triggers that arrived meanwhile. -/
structure Reader where
  latch : Option Latch
  merged : List (Nat × Nat × Nat)
  seq : Nat
  samplerSeq : SMap Nat
  deriving DecidableEq, Repr

/-! ### Fabric ports, CBT and the Carrier (chapters 13 and 14) -/

/-- R352: the neighbour record of a half. -/
structure Nbr where
  isEngine : Bool
  chassis : Nat
  system : Nat
  engine : Nat
  half : Nat
  job : Nat
  ttl : Nat
  deriving DecidableEq, Repr

/-- R347, R348: MACsec of a half: has a SAK ever been installed, is one installed now, has the packet number run out,
packets protected with the SAK, and the association numbers in use (at most two). -/
structure MacSec where
  ever : Bool
  sak : Bool
  exhausted : Bool
  pn : Nat
  ans : List Nat
  deriving DecidableEq, Repr

/-- A half without keys. -/
def MacSec.init : MacSec := { ever := false, sak := false, exhausted := false, pn := 0, ans := [] }

/-- R350: what BIND reads from a circuit plan: job, and half, peer half, peer partition and peer engine of each half
with USE = 1. -/
structure Plan where
  job : Nat
  system : Nat
  uses : List (Nat × Nat × Nat × Nat)
  deriving DecidableEq, Repr

/-- R361: a DATA block its sender keeps. `slotTag` names the Halide slot it was coded with (R384), `fwd` the outbound
bytes a forwarded message holds until this block is acknowledged (R371). -/
structure TxBlock where
  seq : Nat
  msg : Nat
  offset : Nat
  last : Bool
  poison : Bool
  expo : Nat
  attempt : Nat
  body : List Byte
  resends : Nat
  sent : Bool
  slotTag : Option Nat
  fwd : Nat
  deriving DecidableEq, Repr

/-- R358: the sending side of a flow: epoch, next SEQ, exposure and number of the next message, blocks kept. -/
structure TxFlow where
  epoch : Nat
  nextSeq : Nat
  msgExpo : Nat
  nextMsg : Nat
  blocks : List TxBlock
  deriving DecidableEq, Repr

/-- A flow that has sent nothing. -/
def TxFlow.init : TxFlow := { epoch := 0, nextSeq := 0, msgExpo := 0, nextMsg := 0, blocks := [] }

/-- A received block of a message that is not complete. -/
structure RxBlock where
  msg : Nat
  offset : Nat
  last : Bool
  poison : Bool
  expo : Nat
  attempt : Nat
  body : List Byte
  deriving DecidableEq, Repr

/-- R358–R360: the receiving side of a flow: epoch, lowest SEQ not received, later ones received, blocks since the last
ACK, is a block not yet covered by an ACK, blocks of incomplete messages, and when its last rejection was logged. -/
structure RxFlow where
  epoch : Nat
  cum : Nat
  got : List Nat
  since : Nat
  due : Bool
  /-- An ACK is due that the half could not send (R348). -/
  ackHeld : Bool
  held : List RxBlock
  loggedAt : Nat
  deriving DecidableEq, Repr

/-- A flow that has received nothing. -/
def RxFlow.init : RxFlow := { epoch := 0, cum := 0, got := [], since := 0, due := false, ackHeld := false, held := [], loggedAt := 0 }

/-- R374: a message kept in the outbound region: its raw body and what its header says. -/
structure OutMsg where
  seq : Nat
  expert : Nat
  rows : Nat
  firstRow : Nat
  idx : Nat
  poison : Bool
  raw : List Byte
  deriving DecidableEq, Repr

/-- R373: an outbound batch. -/
structure OutBatch where
  id : Nat
  kind : Nat
  layer : Nat
  dst : Nat
  cls : Nat
  expo : Nat
  attempt : Nat
  msgs : List OutMsg
  sent : Bool
  accepted : Bool
  deriving DecidableEq, Repr

/-- R373, R386: an inbound batch: MSGS once known, the messages received, rows kept for each expert, messages whose raw
form has failed its CRC once, GRAD bodies, and is it complete. -/
structure InBatch where
  kind : Nat
  layer : Nat
  src : Nat
  total : Option Nat
  got : List Nat
  counts : List (Nat × Nat)
  fails : List Nat
  grads : List (Nat × Bool × List Byte)
  complete : Bool
  deriving DecidableEq, Repr

/-- One partition's part of the Carrier and the Halide codecs. Messages of an exposure or attempt that has not begun
here wait in `early`. -/
structure Carr where
  nextId : Nat
  srcSeq : Nat
  used : Nat
  opened : Bool
  out : List OutBatch
  inn : List InBatch
  dispatched : List Nat
  reduced : List (Nat × List Byte)
  tables : SMap (List Nat)
  early : List CarrMsg
  deriving DecidableEq, Repr

/-- A partition that has used no Carrier. -/
def Carr.init : Carr :=
  { nextId := 0, srcSeq := 0, used := 0, opened := false, out := [], inn := [], dispatched := [], reduced := [], tables := [], early := [] }

/-! ### What leaves the engine -/

/-- R394: an entry of the error log. -/
structure LogEntry where
  code : Nat
  kind : Nat
  seq : Nat
  t64 : Nat
  die : Nat
  unit : Nat
  inst : Nat
  part : Nat
  expo : Nat
  reqId : Nat
  addr : Nat
  detail : List Nat
  deriving DecidableEq, Repr

/-- R351: what an LLDPDU says: chassis MAC, port E*e* whole (0), half a (1) or b (2), TTL in seconds, system name, and Santozor's TLV:
SYSTEM_ID, ENGINE_ID, half index, SPLIT, KIND and JOB_ID. -/
structure LldpTx where
  chassis : Nat
  port : Nat
  part : Nat
  ttl : Nat
  name : List Byte
  system : Nat
  engine : Nat
  half : Nat
  split : Nat
  kind : Nat
  job : Nat
  deriving DecidableEq, Repr

/-- Everything the engine sends out: its event stream, messages on its links, answers on its management interfaces,
interrupts and pins. The newest stands last. -/
inductive Out where
  | event (e : LogEntry)
  | ucie (link module : Nat) (up : Bool) (h : UcieHdr) (data : List Byte)
  | intakeIrq (part : Nat)
  | rdmaData (qp : Nat) (data : List Byte)
  | rdmaNak (qp : Nat)
  /-- Part of a response (R302): its status, or 0 where the headers have gone; is its content-type application/vnd.chenyx.records; DATA;
  END_STREAM. -/
  | http (conn stream status : Nat) (records : Bool) (body : List Byte) (fin : Bool)
  /-- SETTINGS of a connection (R301): ENABLE_PUSH and MAX_CONCURRENT_STREAMS. -/
  | settings (conn push streams : Nat)
  | goaway (conn : Nat)
  | rstStream (conn stream : Nat)
  | cbt (half cls src dst epoch : Nat) (b : TxBlock) (resent : Bool)
  | cbtAck (half cls src dst epoch cum bitmap : Nat)
  | lldp (half : Nat) (m : LldpTx)
  /-- A PTP message on a port: 0 Sync, 1 Follow_Up, 2 Delay_Req, 3 Delay_Resp, 4 Announce, with its number and contents. -/
  | ptp (port kind seq : Nat) (body : List Nat)
  | pps
  | response (iface : Nat) (code : Nat) (body : List Nat)
  deriving DecidableEq, Repr

/-! ### Power, security and management (chapters 10, 16 and 17) -/

/-- R448–R456: the supply and the boot: main switch (0 OFF, 1 PRECHARGE, 2 closed); is the 48 V contact mated, presence
mated, the input in range for 10 ms, the precharge complete, RESET_N low; boot stages complete; have both banks failed
verification, and has the boot turned to the other bank; 10 µs samples above the power limit without a break; droop stretches not yet logged and when the latest
were; the dies whose clocks are stretched; the time of the drain deadline, or 0. -/
structure Supply where
  main : Nat
  mated : Bool
  presence : Bool
  inRange : Bool
  charged : Bool
  resetLow : Bool
  stages : Nat
  stuck : Bool
  second : Bool
  overRun : Nat
  droops : Nat
  droopLog : Nat
  stretched : List Nat
  drainAt : Nat
  deriving DecidableEq, Repr

/-- The supply as the main switch closes. [DESIGN CHOICE, log entry 4] -/
def Supply.init : Supply :=
  { main := 2, mated := true, presence := true, inRange := true, charged := true, resetLow := false, stages := 0, stuck := false,
    second := false, overRun := 0, droops := 0, droopLog := 0, stretched := [], drainAt := 0 }

/-- R425–R445: the key vault. Non-volatile: LOCKED, FOG_ALL, the security version, the preferred bank, a one-time boot
request, is there a front-end key. Volatile: SVN of the running image, measurement slots, partitions with a content key,
the latest nonce with the time it was read, times of the signature failures of the last 60 s, end of a debug unlock, the
package being decrypted (partition, source, destination, plaintext bytes). -/
structure Vault where
  locked : Bool
  fogged : Bool
  svn : Nat
  preferred : Nat
  once : Option Nat
  feKey : Bool
  fwSvn : Nat
  slots : List Nat
  content : List Nat
  nonce : Option (Nat × Nat)
  sigFails : List Nat
  debugEnd : Nat
  pkg : Option (Nat × Nat × Nat × Nat)
  deriving DecidableEq, Repr

/-- The vault of an engine as manufactured. [DESIGN CHOICE, log entry 3] -/
def Vault.init : Vault :=
  { locked := false, fogged := false, svn := 0, preferred := 0, once := none, feKey := false, fwSvn := 0, slots := List.replicate 16 0,
    content := [], nonce := none, sigFails := [], debugEnd := 0, pkg := none }

/-- R462: a settings record: its journal's bank, KIND, SEQ, time, entries (address, MASK, VALUE), the body of a
CREDENTIALS record, and the number of its signature. -/
structure SetRec where
  bank : Nat
  kind : Nat
  seq : Nat
  t64 : Nat
  entries : List (Nat × Word64 × Word64)
  creds : List Byte
  sig : Nat
  deriving DecidableEq, Repr

/-- R461–R470: what the settings flash holds besides the images: the records of both journals, oldest first, and the SVN
of a component written by a firmware update into the bank not booted from; when the latest record was saved. -/
structure Flash where
  recs : List SetRec
  update : Option Nat
  savedAt : Nat
  deriving DecidableEq, Repr

/-- The flash of an engine as manufactured. [DESIGN CHOICE, log entry 3] -/
def Flash.init : Flash := { recs := [], update := none, savedAt := 0 }

/-- R301–R303: a stream of a front-end connection: its number, has a record been sent, was it reset, is it a CANCEL the
front end made itself, and the records held. -/
structure Strm where
  id : Nat
  begun : Bool
  dropped : Bool
  held : List (List Byte)
  deriving DecidableEq, Repr

/-- R301: a front-end connection: its client, its ring, descriptors written to that ring, records consumed, its
streams. -/
structure Conn where
  client : Nat
  ring : Nat
  tail : Nat
  head : Nat
  streams : List Strm
  /-- No ring of its client's pool was free: every stream is answered with 503. -/
  full : Bool
  deriving DecidableEq, Repr

/-- The machine. -/
structure State where
  /-- Commands that wait, first in, first out. -/
  pending : List Instr
  /-- Registers by device address; an unlisted register holds its reset value. -/
  regs : SMap Word64
  mem : Memory
  /-- Lines with a known error, by device address of the line. -/
  lineErr : SMap LineErr
  /-- Block tags of trays and Drawer, by device address of the block. -/
  tags : SMap BlockTag
  /-- HBM bands in NEAR_ONLY mode: base and size of each range (R310). -/
  nearBands : List (Nat × Nat)
  wcb : SMap (List WcbEntry)
  /-- R316: requests held for a STOPPED stack, in the order they came. -/
  hbmHeld : List (UciePort × UcieHdr × List Byte)
  doorbells : SMap (List Byte)
  plates : SMap Plate
  /-- The plate that each unit shared by several plates has served last (R184). -/
  served : SMap Nat
  /-- The mapping, MODE and HASH, under which each plate's tray was last placed (R147). -/
  trayMap : SMap (Option (Nat × Nat))
  banks : SMap (Option BankMove)
  /-- R481: by plate, the working slots held for the exposure attempt, and those of the latest load among them. -/
  work : SMap (Nat × Nat)
  /-- R419: by resource, the number of the latest 10 ms and how much of the resource background work has used in them. -/
  bgWork : SMap (Nat × Nat)
  /-- R419: tray lines whose wash a cap has deferred: plate, line and the end of the bank's 4 s. -/
  washHeld : List (Nat × Nat × Nat)
  /-- R167: when the 4 s periods of a bank began, by plate × 64 + bank. -/
  washFrom : SMap Nat
  parts : SMap Part
  ctxs : SMap Ctx
  slots : SMap Slot
  rings : SMap Ring
  /-- Random-stream counters by partition × 2^24 + stream (R63), and streams found shared (R64). -/
  streams : SMap Nat
  ucie : SMap UcieLane
  /-- Writes of the ring units that wait for their link to ZD: die, address, bytes; descriptor reads that wait for it: ring and count
  (R33, R34). -/
  ctlHeld : List (Nat × Nat × List Nat)
  fetchHeld : List (Nat × Nat)
  timer : Timer
  /-- Sequence numbers of the log's sources (R395), by die, unit and instance. -/
  logSeq : SMap Nat
  /-- R396: time of each source's latest CORRECTED entry, and corrected errors since. -/
  corrected : SMap (Nat × Nat)
  /-- Entries held by a compute die while its link retrains (R393). -/
  dieLog : List LogEntry
  out : List Out
  reader : Reader
  nbrs : SMap (Option Nbr)
  macsec : SMap MacSec
  /-- Time at which link of a half was lost, or 0 (R352). -/
  linkLost : SMap Nat
  plans : SMap (Option Plan)
  tx : SMap TxFlow
  rx : SMap RxFlow
  carr : SMap Carr
  /-- Sequence numbers of each partition's PAIR and CONTROL messages (R412). -/
  pairSeq : SMap Nat
  /-- R456: the drain deadline has passed. -/
  drainDue : Bool
  supply : Supply
  vault : Vault
  flash : Flash
  /-- Open connections of the HTTP/2 front end by number, and the next number. -/
  conns : SMap (Option Conn)
  nextConn : Nat
  /-- R469: sensor values as last refreshed. -/
  sensors : List Nat
  /-- Draws of free values so far: the model's own counter (R63 and other open values). -/
  free : Nat
  deriving DecidableEq, Repr

/-- T64 = 1 in the timer's units (R338). -/
def Clock.init : Clock := { time := 2 ^ 40, rate := 0, pending := none }

/-- The servo at power-up. -/
def Servo.init : Servo :=
  { roles := List.replicate 16 0, accepted := false, ann := none, sync := none, t1 := 0, t2 := 0, t3 := 0, delaySeq := 0, goodRun := 0,
    leftLocked := 0, rate := 0, step := none, seqSync := 0, setValue := none }

/-- The timer at power-up (R338): master and replicas at T64 = 1 in FREERUN. [DESIGN CHOICE, log entry 3] -/
def Timer.init : Timer :=
  { master := Clock.init, replicas := [Clock.init, Clock.init], servo := Servo.init, strobe := 0 }

/-- The machine right after power-up: every register at its reset value, nothing listed in memory, every queue
empty. [DESIGN CHOICE, log entry 3; DESIGN CHOICE, log entry 4] -/
def State.reset : State :=
  { pending := [], regs := [], mem := { cells := [], opened := [] }, lineErr := [], tags := [], nearBands := [], wcb := [], hbmHeld := [],
    doorbells := [], plates := [], served := [], trayMap := [], banks := [], work := [], bgWork := [], washHeld := [], washFrom := [], parts := [], ctxs := [], slots := [], rings := [], streams := [], ucie := [], ctlHeld := [], fetchHeld := [],
    timer := Timer.init, logSeq := [], corrected := [], dieLog := [], out := [],
    reader := { latch := none, merged := [], seq := 0, samplerSeq := [] },
    nbrs := [], macsec := [], linkLost := [], plans := [], tx := [], rx := [], carr := [], pairSeq := [],
    drainDue := false,
    supply := Supply.init, vault := Vault.init, flash := Flash.init, conns := [], nextConn := 0, sensors := [],
    free := 0 }

end Sys2Proof.Machine
end

