-- ==== Sys2Proof/Machine/Transcend.lean ====
section
/-! DEFINITION. Transcend: exp, SiLU and GELU of FP32 numbers within the 2 ulp that R117 states: the true value is enclosed in fixed
point, and which of the FP32 numbers around it the unit gives is a free value. -/

namespace Sys2Proof.Machine

/-- Fraction bits of the fixed-point numbers here: errors stay far below an ulp of any FP32 result. -/
def fixBits : Nat := 400
/-- One in fixed point. -/
def fixOne : Nat := 2 ^ fixBits

/-- A magnitude of an FP32 number in fixed point: `m × 2^e`. -/
def fixOf (m : Nat) (e : Int) : Nat := if 0 ≤ e then m * 2 ^ (fixBits + e.toNat) else m * 2 ^ fixBits / 2 ^ e.natAbs

/-- Sum of `t, t × x / (k + 1), …`: the series of the exponential from its term `k`. -/
def expSeries (x : Nat) : Nat → Nat → Nat → Nat
  | 0, _, _ => 0
  | fuel + 1, k, t => t + expSeries x fuel (k + 1) (t * x / ((k + 1) * fixOne))

/-- `k` squarings. -/
def squares : Nat → Nat → Nat
  | 0, v => v
  | k + 1, v => squares k (v * v / fixOne)

/-- e^x of a fixed-point number below 256, as (e^(x / 512))^512. -/
def fixExp (x : Nat) : Nat := squares 9 (expSeries (x / 512) 80 0 fixOne)
/-- e^−x. -/
def fixExpNeg (x : Nat) : Nat := fixOne * fixOne / fixExp x

/-- 1 / √(2π) in fixed point. -/
def fixInvRoot2Pi : Nat :=
  1030168654930312834579443762448291520423692007902432556621662294693524574739340080541057368303018433395121189280430287636

/-- Sum of `t, t × x² / (2 k + 3), …`: the series of the normal distribution. -/
def phiSeries (x2 : Nat) : Nat → Nat → Nat → Nat
  | 0, _, _ => 0
  | fuel + 1, k, t => t + phiSeries x2 fuel (k + 1) (t * x2 / ((2 * k + 3) * fixOne))

/-- Φ(x) − 1/2 of a fixed-point number below 15. -/
def fixPhiHalf (x : Nat) : Nat :=
  let x2 := x * x / fixOne
  phiSeries x2 640 0 x * fixExpNeg (x2 / 2) / fixOne * fixInvRoot2Pi / fixOne

/-- The largest FP32 magnitude not above a fixed-point number: a finite code, or that of INF from 2^128 on. -/
def floorCode (v : Nat) : Nat :=
  let l := Nat.log2 v
  if v = 0 then 0
  else if l + 126 < fixBits then v * 2 ^ 149 / fixOne
  else if fixBits + 128 ≤ l then finf
  else (l + 127 - fixBits) * 2 ^ 23 + (if l ≤ 23 then v * 2 ^ (23 - l) else v / 2 ^ (l - 23)) % 2 ^ 23

/-- R117: an FP32 magnitude within 2 ulp of a true value that lies from `a` up to the number after it. -/
def nearCode (a pick : Nat) : Nat := if finf ≤ a then finf else min finf (a + pick % 4 - 1)

/-- Codes of magnitudes from which a result saturates: 200, and 14.5 for GELU. -/
def code200 : Nat := 0x43480000
/-- 14.5 as FP32. -/
def code14h : Nat := 0x41680000

/-- exp of an FP32 number: exact at 0 and the infinities, NaN for NaN, else within 2 ulp (R117). [DESIGN CHOICE, log entry 16] -/
def expOf (x : Nat) : Nat :=
  match fdecode fp32 x with
  | .nan => fnan
  | .inf neg => if neg then 0 else finf
  | .fin _ 0 _ => fone
  | .fin neg m e =>
    if code200 ≤ x % 2 ^ 31 then (if neg then nearCode 0 (Config.fexp x) else finf)
    else nearCode (floorCode (if neg then fixExpNeg (fixOf m e) else fixExp (fixOf m e))) (Config.fexp x)

/-- A magnitude with the sign of an FP32 number. -/
def withSign (neg : Bool) (a : Nat) : Nat := if neg then a + 2 ^ 31 else a

/-- SiLU, x × σ(x) (R117), within 2 ulp. [DESIGN CHOICE, log entry 16] -/
def siluOf (x : Nat) : Nat :=
  match fdecode fp32 x with
  | .nan => fnan
  | .inf neg => if neg then fnan else finf
  | .fin _ 0 _ => x
  | .fin neg m e =>
    if code200 ≤ x % 2 ^ 31 then withSign neg (nearCode (if neg then 0 else x % 2 ^ 31 - 1) (Config.fsilu x))
    else
      let v := fixOf m e
      withSign neg (nearCode (floorCode (v * fixOne / (fixOne + (if neg then fixExp v else fixExpNeg v)))) (Config.fsilu x))

/-- GELU in the erf form, x × Φ(x) (R117), within 2 ulp. [DESIGN CHOICE, log entry 16] -/
def geluOf (x : Nat) : Nat :=
  match fdecode fp32 x with
  | .nan => fnan
  | .inf neg => if neg then fnan else finf
  | .fin _ 0 _ => x
  | .fin neg m e =>
    if code14h ≤ x % 2 ^ 31 then withSign neg (nearCode (if neg then 0 else x % 2 ^ 31 - 1) (Config.fgelu x))
    else
      let v := fixOf m e
      let h := fixPhiHalf v
      withSign neg (nearCode (floorCode (v * (if neg then fixOne / 2 - h else fixOne / 2 + h) / fixOne)) (Config.fgelu x))

end Sys2Proof.Machine
end

