-- ==== Sys2Proof/Machine/Ops.lean ====
section
/-! DEFINITION. Ops: the named operations over registers, memory, time, the error log and the counters, which every
meaning calls. -/

namespace Sys2Proof.Machine

/-! ### Registers (R5–R9, R12) -/

/-- FAB_PORT_CFG's reset kinds: CLIENT for E0, PAIR for E7, CIRCUIT for E1–E6 (R346). -/
def resetKind (e : Nat) : Nat := if e = 0 then 1 else if e = 7 then 3 else 2

/-- Reset value of one field of register `j` in instance `i` of a block. [DESIGN CHOICE, log entry 3] -/
def fieldReset (r : RegSpec) (f : FieldSpec) (i j : Nat) : Nat :=
  if r.name = "FAB_PORT_CFG" ∧ (f.name = "KIND_A" ∨ f.name = "KIND_B") then resetKind i
  else if r.name = "GLOBAL_UCIE_STAT" ∧ f.name = "ACTIVE" then (if j = 0 then 0xFFFFFF else 0xF)
  else f.reset

/-- A word with bits `[lo + w - 1 : lo]` set to `x`. -/
def fieldPut (v : Word64) (lo w x : Nat) : Word64 :=
  (v &&& ~~~(BitVec.ofNat 64 (2 ^ w - 1) <<< lo)) ||| (BitVec.ofNat 64 (x % 2 ^ w) <<< lo)

/-- Bits `[lo + w - 1 : lo]` of a word. -/
def fieldOf (v : Word64) (lo w : Nat) : Nat := bitsOf v.toNat lo w

/-- Reset value of a whole register. -/
def regResetWord (r : RegSpec) (i j : Nat) : Word64 :=
  r.fields.foldl (fun v f => fieldPut v f.lo f.w (fieldReset r f i j)) 0

/-- The register blocks with their first address, so that an address names its block. -/
def allBlocks : List Block := [.global, .plate, .cluster, .hbm, .port, .timer, .sec, .pwr, .dens, .part]

/-- The instance of block `b` that holds an address. -/
def blockHolds (b : Block) (addr : Nat) : Option Nat :=
  let base := blockBase b 0
  if addr < base then none
  else
    let i := (addr - base) / blockStride b
    if i < blockCount b then some i else none

/-- The register of a block at an offset, and which of its array. -/
def regAtOff (off : Nat) : List RegSpec → Option (RegSpec × Nat)
  | [] => none
  | r :: rs =>
    if r.off ≤ off ∧ (if r.stride = 0 then off = r.off else (off - r.off) % r.stride = 0 ∧ (off - r.off) / r.stride < r.count)
    then some (r, if r.stride = 0 then 0 else (off - r.off) / r.stride) else regAtOff off rs

/-- A register as an address names it: block, instance, specification, index in its array. -/
structure RegAt where
  blk : Block
  inst : Nat
  spec : RegSpec
  idx : Nat
  deriving DecidableEq, Repr

/-- The register at a device address, if one is there (R6, R12). -/
def findReg (addr : Nat) : Option RegAt :=
  allBlocks.findSome? (fun b =>
    match blockHolds b addr with
    | none => none
    | some i =>
      match regAtOff (addr - blockBase b i) (blockRegs b) with
      | none => none
      | some (r, j) => some ⟨b, i, r, j⟩)

/-- What an unlisted register reads as: its reset value; 0 where no register is (R6). -/
def regDefault (addr : Nat) : Word64 :=
  match findReg addr with
  | none => 0
  | some r => regResetWord r.spec r.inst r.idx

/-- A register's stored value. -/
def State.reg (s : State) (addr : Nat) : Word64 := smapGet regDefault addr s.regs

/-- A register's stored value replaced. -/
def State.setReg (s : State) (addr : Nat) (v : Word64) : State := { s with regs := smapSet regDefault addr v s.regs }

/-- Field `f` of array register `j` in block instance `i`. -/
def State.get (s : State) (f : Fld) (i j : Nat) : Nat := fieldOf (s.reg (fldAddr f i j)) f.lo f.w

/-- The engine sets a field. -/
def State.put (s : State) (f : Fld) (i j v : Nat) : State :=
  s.setReg (fldAddr f i j) (fieldPut (s.reg (fldAddr f i j)) f.lo f.w v)

/-- A field raised by `d`, saturating at the field's maximum. -/
def State.bump (s : State) (f : Fld) (i j d : Nat) : State := s.put f i j (satAdd (s.get f i j) d (2 ^ f.w - 1))

/-- A field of a block that has one instance. -/
def State.g (s : State) (f : Fld) : Nat := s.get f 0 0

/-! ### Sparse parts -/

/-- Plate `p`. -/
def State.plate (s : State) (p : Nat) : Plate := smapGet (fun _ => Plate.init) p s.plates
/-- Plate `p` replaced. -/
def State.setPlate (s : State) (p : Nat) (x : Plate) : State := { s with plates := smapSet (fun _ => Plate.init) p x s.plates }
/-- Partition `n`. -/
def State.prt (s : State) (n : Nat) : Part := smapGet (fun _ => Part.init) n s.parts
/-- Partition `n` replaced. -/
def State.setPrt (s : State) (n : Nat) (x : Part) : State := { s with parts := smapSet (fun _ => Part.init) n x s.parts }
/-- Context `c`. -/
def State.ctx (s : State) (c : Nat) : Ctx := smapGet (fun _ => Ctx.init) c s.ctxs
/-- Context `c` replaced. -/
def State.setCtx (s : State) (c : Nat) (x : Ctx) : State := { s with ctxs := smapSet (fun _ => Ctx.init) c x s.ctxs }
/-- Request slot `q`. -/
def State.slot (s : State) (q : Nat) : Slot := smapGet (fun _ => Slot.init) q s.slots
/-- Request slot `q` replaced. -/
def State.setSlot (s : State) (q : Nat) (x : Slot) : State := { s with slots := smapSet (fun _ => Slot.init) q x s.slots }
/-- Ring `r`. -/
def State.ring (s : State) (r : Nat) : Ring := smapGet (fun _ => Ring.init) r s.rings
/-- Ring `r` replaced. -/
def State.setRing (s : State) (r : Nat) (x : Ring) : State := { s with rings := smapSet (fun _ => Ring.init) r x s.rings }
/-- Semaphore `i` of plate `p` (R148). -/
def State.sem (s : State) (p i : Nat) : Nat := smapGet (fun _ => 0) i (s.plate p).sems
/-- Semaphore `i` of plate `p` set. -/
def State.setSem (s : State) (p i v : Nat) : State :=
  s.setPlate p { s.plate p with sems := smapSet (fun _ => 0) i v (s.plate p).sems }

/-! ### Memory (R10) -/

/-- First address of the Drawer range. -/
def drawerBase : Nat := 0x010000000000
/-- First address of the tray windows. -/
def trayBase : Nat := 0x020000000000
/-- Bytes of a tray window. -/
def trayWin : Nat := 0x00800000
/-- First address of the doorbell pages. -/
def doorbellBase : Nat := 0x030000000000
/-- First address of the registers. -/
def regionRegs : Nat := 0x0F0000000000

/-- Does the address lie in HBM? -/
def isHbm (a : Nat) : Bool := decide (a < 0x00C000000000)
/-- Does the address lie in the Drawer? -/
def isDrawer (a : Nat) : Bool := decide (drawerBase ≤ a ∧ a < drawerBase + 0x4000000000)
/-- Does the address lie in a tray window? -/
def isTray (a : Nat) : Bool := decide (trayBase ≤ a ∧ a < trayBase + 0x40000000)
/-- Does the address lie in a doorbell page? -/
def isDoorbell (a : Nat) : Bool := decide (doorbellBase ≤ a ∧ a < doorbellBase + 0x800000)
/-- Device address of offset `o` in the tray of plate `p` (R10). -/
def trayAddr (p o : Nat) : Nat := trayBase + p * trayWin + o
/-- Plate whose tray window holds an address. -/
def trayPlate (a : Nat) : Nat := (a - trayBase) / trayWin
/-- Window offset of a tray address. -/
def trayOff (a : Nat) : Nat := (a - trayBase) % trayWin

/-- What an unlisted byte reads as: a free value in a range whose contents are not preserved, else 0. [DESIGN CHOICE, log entry 2] -/
def memDefault (opened : List OpenRange) (a : Nat) : Byte :=
  match opened.find? (fun r => decide (r.lo ≤ a ∧ a < r.lo + r.size)) with
  | some r => Config.freeByte r.tag a
  | none => 0

/-- One byte of memory. [DESIGN CHOICE, log entry 2] -/
def Memory.get (m : Memory) (a : Nat) : Byte := smapGet (memDefault m.opened) a m.cells
/-- One byte of memory written. -/
def Memory.set (m : Memory) (a : Nat) (v : Byte) : Memory := { m with cells := smapSet (memDefault m.opened) a v m.cells }
/-- The canonical form of memory: rising addresses, no cell equal to what an unlisted address reads as. -/
def Memory.wf (m : Memory) : Bool := smapWf (memDefault m.opened) m.cells
/-- The contents of a range are no longer preserved (R163, R310). [DESIGN CHOICE, log entry 2] -/
def Memory.openRange (m : Memory) (r : OpenRange) : Memory :=
  { cells := m.cells.filter (fun c => !decide (r.lo ≤ c.1 ∧ c.1 < r.lo + r.size)), opened := r :: m.opened }

/-- What of an opened range lies outside `[lo, hi)`. -/
def OpenRange.outside (r : OpenRange) (lo hi : Nat) : List OpenRange :=
  (if r.lo < lo then [{ r with size := min r.size (lo - r.lo) }] else []) ++
  (if hi < r.lo + r.size then [{ r with lo := max r.lo hi, size := r.lo + r.size - max r.lo hi }] else [])
/-- A range zeroed (R435, R443). -/
def Memory.zero (m : Memory) (lo size : Nat) : Memory :=
  { cells := m.cells.filter (fun c => !decide (lo ≤ c.1 ∧ c.1 < lo + size)), opened := m.opened.flatMap (fun r => r.outside lo (lo + size)) }

/-- Byte at an address, as a number. -/
def State.byte (s : State) (a : Nat) : Nat := (s.mem.get a).toNat
/-- `n` bytes from an address. -/
def State.bytes (s : State) (a n : Nat) : List Nat := (List.range n).map (fun i => s.byte (a + i))
/-- A little-endian number of `n` bytes (R4). -/
def State.le (s : State) (a n : Nat) : Nat := ofLe (s.bytes a n)
/-- Bytes written from an address on, in memory alone. -/
def Memory.write (m : Memory) (a : Nat) : List Nat → Memory
  | [] => m
  | b :: bs => (m.set a (BitVec.ofNat 8 b)).write (a + 1) bs

/-- 64-byte line of an address. -/
def lineOf (a : Nat) : Nat := a / 64 * 64
/-- Lines that a range touches. -/
def linesOf (a n : Nat) : List Nat :=
  if n = 0 then [] else (List.range ((a + n - 1) / 64 - a / 64 + 1)).map (fun i => (a / 64 + i) * 64)
/-- 4 KiB blocks that a range touches. -/
def blocksOf (a n : Nat) : List Nat :=
  if n = 0 then [] else (List.range ((a + n - 1) / 4096 - a / 4096 + 1)).map (fun i => (a / 4096 + i) * 4096)

/-- Error known of a line. -/
def State.lineErrOf (s : State) (line : Nat) : LineErr := smapGet (fun _ => LineErr.good) line s.lineErr
/-- Error of a line set. -/
def State.setLineErr (s : State) (line : Nat) (e : LineErr) : State :=
  { s with lineErr := smapSet (fun _ => LineErr.good) line e s.lineErr }
/-- Tag of a 4 KiB block (R169, R321). -/
def State.tagOf (s : State) (blk : Nat) : BlockTag := smapGet (fun _ => BlockTag.none) blk s.tags
/-- Tag of a block set. -/
def State.setTag (s : State) (blk : Nat) (t : BlockTag) : State := { s with tags := smapSet (fun _ => BlockTag.none) blk t s.tags }

/-- R168: does the write of `n` bytes at `a` cover the whole line? -/
def coversLine (a n line : Nat) : Bool := decide (a ≤ line ∧ line + 64 ≤ a + n)

/-- A write of `n` bytes heals every line it covers whole (R168, R314), and any written corrected line of a tray. -/
def State.healLines (s : State) (a n : Nat) : State :=
  (linesOf a n).foldl (fun t l =>
    if coversLine a n l || decide (t.lineErrOf l = .corrected) then t.setLineErr l .good else t) s

/-- Bytes reserved at the bottom of the Drawer (GLOBAL_ZD_RSV). -/
def State.reserved (s : State) : Nat := s.g fGLOBAL_ZD_RSV_RSV_GIB * 2 ^ 30

/-- R169, R320: does a block have a tag: a block of a tray, or of the Drawer above the reserved range? -/
def State.tagged (s : State) (blk : Nat) : Bool := isTray blk || (isDrawer blk && decide (drawerBase + s.reserved ≤ blk))

/-- R169, R321: a write that is not a checked whole block marks every tagged block it touches STALE. -/
def State.staleTags (s : State) (a n : Nat) : State :=
  if isTray a || isDrawer a then ((blocksOf a n).filter s.tagged).foldl (fun t b => t.setTag b .stale) s else s

/-- Bytes written by a unit of the engine: data stored, lines healed, block tags STALE. -/
def State.write (s : State) (a : Nat) (bs : List Nat) : State :=
  let t := (s.healLines a bs.length).staleTags a bs.length
  { t with mem := t.mem.write a bs }

/-- A little-endian number written (R4). -/
def State.writeLe (s : State) (a n v : Nat) : State := s.write a (leBytes n v)

/-- Bytes at an offset of plate `p`'s tray. -/
def State.tray (s : State) (p o n : Nat) : List Nat := s.bytes (trayAddr p o) n
/-- Bytes written at an offset of plate `p`'s tray. -/
def State.writeTray (s : State) (p o : Nat) (bs : List Nat) : State := s.write (trayAddr p o) bs

/-- First line of a range that is uncorrectable, if any. -/
def State.firstBad (s : State) (a n : Nat) : Option Nat := (linesOf a n).find? (fun l => decide (s.lineErrOf l = .bad))

/-- CRC-32C (Castagnoli, reflected) of one byte folded into a running value. -/
def crcByte (c b : Nat) : Nat :=
  (List.range 8).foldl (fun x _ => if x % 2 = 1 then (x / 2) ^^^ 0x82F63B78 else x / 2) (c ^^^ (b % 256))
/-- CRC-32C of a block of bytes (R26, R169). -/
def crc32c (bs : List Nat) : Nat := (bs.foldl crcByte 0xFFFFFFFF) ^^^ 0xFFFFFFFF

/-! ### HBM placement (R309, R310) -/

/-- Is the band of an HBM address in NEAR_ONLY mode? -/
def State.nearOnly (s : State) (a : Nat) : Bool :=
  s.nearBands.any (fun r => decide (r.1 ≤ a ∧ a < r.1 + r.2))
/-- R309: the stack that holds an HBM address. -/
def State.stackOf (s : State) (a : Nat) : Nat :=
  let j := bitsOf a 12 9
  if s.nearOnly a then (if j < 256 then j % 4 else 4 + j % 4) else j % 8
/-- R309: the offset of an HBM address within its stack. -/
def State.stackOff (s : State) (a : Nat) : Nat :=
  let beta := bitsOf a 21 19
  let j := bitsOf a 12 9
  let k := if s.nearOnly a then (if j < 256 then j / 4 else (j - 256) / 4) else j / 8
  beta * 262144 + k * 4096 + a % 4096
/-- R309: the pseudo-channel of the 64-byte line at an offset within a stack. -/
def pseudoChannel (o : Nat) : Nat := bitsOf o 6 6 ^^^ bitsOf o 12 6

/-! ### Drawer placement (R318) -/

/-- R318: where a Drawer address lies: package, byte within the package, and the x16 channel that carries its line. -/
structure DrawerPlace where
  package : Nat
  offset : Nat
  channel : Nat
  deriving DecidableEq, Repr

/-- R318: blocks of 4 KiB use the four packages in turn, lines the four channels of a package. -/
def drawerPlace (a : Nat) : DrawerPlace :=
  let d := a - drawerBase
  let b := bitsOf d 12 26
  { package := b % 4, offset := b / 4 * 4096 + d % 4096, channel := bitsOf d 6 2 }

/-! ### Partitions (R11, R34, R258, R436) -/

/-- Does partition `n` exist? -/
def State.exists_ (s : State) (n : Nat) : Bool := decide (s.get fPART_STAT_STATE n 0 ≠ 0)
/-- Is partition `n` RUNNING (or STOPPING, which still runs)? [DEDUCED, log entry 41] -/
def State.isRunning (s : State) (n : Nat) : Bool := decide (2 ≤ s.get fPART_STAT_STATE n 0)
/-- Is cluster `c` one of partition `n`'s? -/
def State.ownsCluster (s : State) (n c : Nat) : Bool := (s.get fPART_LAYOUT_CLUSTERS n 0).testBit c
/-- The partition that owns cluster `c`. -/
def State.partOfCluster (s : State) (c : Nat) : Option Nat :=
  (List.range 16).find? (fun n => s.exists_ n && s.ownsCluster n c)
/-- The partition that owns plate `p`. -/
def State.partOfPlate (s : State) (p : Nat) : Option Nat := s.partOfCluster (p / 8)
/-- Clusters of partition `n`. -/
def State.clusters (s : State) (n : Nat) : List Nat := (List.range 16).filter (fun c => s.ownsCluster n c)
/-- Plates of partition `n`. -/
def State.partPlates (s : State) (n : Nat) : List Nat := (List.range 128).filter (fun p => s.ownsCluster n (p / 8))
/-- R34: the home die holds the lowest-numbered cluster. -/
def State.homeDie (s : State) (n : Nat) : Nat := if (s.clusters n).headD 0 < 8 then 0 else 1
/-- The die of a plate. -/
def dieOfPlate (p : Nat) : Nat := if p < 64 then 0 else 1
/-- Base of partition `n`'s HBM range. -/
def State.hbmLo (s : State) (n : Nat) : Nat := s.get fPART_HBM_BASE_2M n 0 * 2 ^ 21
/-- Size of partition `n`'s HBM range. -/
def State.hbmSize (s : State) (n : Nat) : Nat := s.get fPART_HBM_SIZE_2M n 0 * 2 ^ 21
/-- Does a range lie in partition `n`'s HBM range? -/
def State.inHbm (s : State) (n a len : Nat) : Bool := decide (s.hbmLo n ≤ a ∧ a + len ≤ s.hbmLo n + s.hbmSize n)
/-- Does a range lie in one tray window of partition `n`, or in consecutive ones? -/
def State.inTrays (s : State) (n a len : Nat) : Bool :=
  isTray a && isTray (a + (len - 1)) && s.ownsCluster n (trayPlate a / 8) && s.ownsCluster n (trayPlate (a + (len - 1)) / 8) &&
  (List.range (trayPlate (a + (len - 1)) - trayPlate a)).all (fun i => s.ownsCluster n ((trayPlate a + i) / 8))
/-- R320: start of the tag store. -/
def State.tagStore (s : State) : Nat := drawerBase + s.reserved - 2 ^ 29
/-- Does a range lie in the reserved range below the tag store? -/
def State.inReserved (s : State) (a len : Nat) : Bool := decide (drawerBase ≤ a ∧ a + len ≤ s.tagStore)
/-- Does a range touch the tag store? -/
def State.hitsTagStore (s : State) (a len : Nat) : Bool := decide (a < drawerBase + s.reserved ∧ s.tagStore < a + len)
/-- Base of partition `n`'s Drawer range (PART_DRW_CFG). -/
def State.drwLo (s : State) (n : Nat) : Nat := drawerBase + s.reserved + s.get fPART_DRW_CFG_OFFSET_4K n 0 * 4096
/-- Size of partition `n`'s Drawer range. -/
def State.drwSize (s : State) (n : Nat) : Nat := s.get fPART_DRW_CFG_SIZE_4K n 0 * 4096
/-- R11, R436: the partition range check for a plate command, descriptor or message of partition `n`. [DEDUCED, log entry 30] -/
def State.granted (s : State) (n a len : Nat) (isRead : Bool) : Bool :=
  s.exists_ n &&
  (s.inHbm n a len || s.inTrays n a len ||
   (isRead && decide (s.get fPART_STEP_ADDR n 0 ≤ a ∧ a + len ≤ s.get fPART_STEP_ADDR n 0 + 64) && !s.hitsTagStore a len))

/-- Does a range lie in partition `n`'s Drawer range? -/
def State.inDrw (s : State) (n a len : Nat) : Bool :=
  s.exists_ n && decide (s.drwLo n ≤ a ∧ a + len ≤ s.drwLo n + s.drwSize n)
/-- R157: the range check of a DMA command, whose remote address may lie in the Drawer as well. [DEDUCED, log entry 30] -/
def State.dmaGranted (s : State) (n a len : Nat) (isRead : Bool) : Bool := s.granted n a len isRead || s.inDrw n a len

/-! ### Time (R13, R326, R340) -/

/-- T64 of a clock; 0 means "not timestamped" and is never a real time (R13), so a clock at 0 shows 1. [DEDUCED, log entry 41] -/
def clockT64 (c : Clock) : Nat := max 1 (c.time / 2 ^ 40 % 2 ^ 64)
/-- Time by the master. -/
def State.now (s : State) : Nat := clockT64 s.timer.master
/-- Time by the replica of compute die `d`. -/
def State.nowDie (s : State) (d : Nat) : Nat := clockT64 (s.timer.replicas.getD d s.timer.master)

/-- PERIOD of partition `n` in ns. -/
def State.period (s : State) (n : Nat) : Nat := s.get fPART_EXPO_PERIOD_PERIOD_NS n 0
/-- Time of tick `k` of partition `n` (R250). -/
def State.tickTime (s : State) (n k : Nat) : Nat := s.get fPART_EXPO_BASE_BASE n 0 + k * s.period n
/-- R245: time of the tick of the boundary before the exposure that comes next. -/
def State.boundaryTick (s : State) (n : Nat) : Nat := if (s.prt n).phase = .ticked then (s.prt n).tickT else s.tickTime n (s.prt n).nextK

/-- R266: whole arithmetic cycles of plate `p`'s program clock. -/
def State.cycles (s : State) (p : Nat) : Nat := (s.plate p).clock / 5
/-- R460: fifths of an arithmetic cycle of plate `p` in one edge of the timebase: 3.0 GHz, or four fifths of it while the
die's clock is stretched. -/
def State.cycleRate (s : State) (p : Nat) : Nat := if s.supply.stretched.any (fun d => decide (d = dieOfPlate p)) then 24 else 30

/-! ### Densitometer (R475–R477) -/

/-- R475: bank of counter block `b`. [DEDUCED, log entry 24] -/
def densBank (b : Nat) : Nat :=
  if b < 128 then blockBase .plate b + 0x8000
  else if b < 144 then blockBase .cluster (b - 128) + 0x8000
  else if b < 160 then blockBase .part (b - 144) + 0x8000
  else if b < 162 then blockBase .dens 0 + 0x1000 + (b - 160) * 0x100
  else if b < 170 then blockBase .hbm (b - 162) + 0x8000
  else if b < 186 then blockBase .port ((b - 170) / 2) + 0x8000 + (b - 170) % 2 * 0x100
  else blockBase .dens 0 + 0x1F00
/-- R484: address of DENS_CTR `n` of block `b`. [DEDUCED, log entry 24] -/
def densCtrAddr (b n : Nat) : Nat := densBank b + 8 * n
/-- R484: address of DENS_SEL `n` of block `b`. -/
def densSelAddr (b n : Nat) : Nat := densBank b + 0x80 + 8 * n

/-! ### Error log (R393–R396) -/

/-- R395: key of a source's sequence number. -/
def srcKey (die unit inst : Nat) : Nat := die + 4 * unit + 1024 * inst

/-- An event to be logged, before it has a sequence number and a stamp. -/
structure Ev where
  code : Nat
  kind : Nat := 5
  die : Nat := 2
  unit : Nat := 21
  inst : Nat := 0
  part : Nat := 0xFF
  expo : Nat := 0
  reqId : Nat := 0
  addr : Nat := 0
  detail : List Nat := []
  deriving DecidableEq, Repr

/-- R394: the 64 bytes of an entry. [DEDUCED, log entry 25] -/
def logBytes (engineId : Nat) (e : LogEntry) : List Nat :=
  leBytes 2 e.code ++ [e.kind, 4] ++ leBytes 4 e.seq ++ leBytes 8 e.t64 ++
  leBytes 2 (e.die % 4 + 4 * (e.unit % 64) + 256 * (e.inst % 256)) ++ [e.part, 0] ++ leBytes 4 engineId ++
  leBytes 8 e.expo ++ leBytes 8 e.reqId ++ leBytes 8 (e.addr % 2 ^ 48) ++ (e.detail ++ List.replicate 16 0).take 16

/-- A counter raised by `v`, holding its maximum with OVF (R477). [DESIGN CHOICE, log entry 23] -/
def densAdd (w : Word64) (v : Nat) : Word64 :=
  if fieldOf w 0 48 + v ≤ 2 ^ 48 - 1 then fieldPut w 0 48 (fieldOf w 0 48 + v)
  else fieldPut (fieldPut w 0 48 (2 ^ 48 - 1)) 63 1 1

/-- R476: an occurrence added to the counters of a block that select it. -/
def State.densQuiet (s : State) (b ev v : Nat) : State :=
  (List.range 16).foldl (fun t n =>
    let sel := t.reg (densSelAddr b n)
    if fieldOf sel 0 8 = ev then t.setReg (densCtrAddr b n) (densAdd (t.reg (densCtrAddr b n)) (if fieldOf sel 8 1 = 1 then 1 else v)) else t) s

/-- R393: an entry written into the log ring, overwriting the oldest when the ring is full. An entry whose place
does not lie in the reserved range is kept in the event stream only. [DESIGN CHOICE, log entry 26] -/
def State.logWrite (s : State) (e : LogEntry) : State :=
  let tail := s.g fREL_LOG_IDX_TAIL
  let head := s.g fREL_LOG_IDX_HEAD
  let size := 2 ^ s.g fREL_LOG_LOG2
  let a := s.g fREL_LOG_BASE + tail % size * 64
  let s0 := s.densQuiet 186 6 1
  let s1 := if s.inReserved a 64 then s0.write a (logBytes (s.g fGLOBAL_ENGINE_ID_ENGINE_ID) e) else s0
  let s2 := s1.put fREL_LOG_IDX_TAIL 0 0 (tail + 1)
  let s3 := if (tail + 2 ^ 32 - head) % 2 ^ 32 ≥ size then
      (s2.put fREL_LOG_IDX_HEAD 0 0 (head + 1)).bump fREL_LOG_STAT_OVERWRITTEN 0 0 1 else s2
  { s3 with out := s3.out ++ [.event e] }

/-- Is some module of the link between ZD and compute die `d` retraining? -/
def State.linkDown (s : State) (d : Nat) : Bool :=
  (List.range 8).any (fun k => (smapGet (fun _ => UcieLane.init) ((1 + d) * 64 + k) s.ucie).retraining)

/-- R393–R396: an event becomes an entry with its source's sequence number and the stamp of its die; a compute die
whose link retrains buffers up to 256 entries and drops the rest. [DEDUCED, log entry 25] -/
def State.log (s : State) (e : Ev) : State :=
  let k := srcKey e.die e.unit e.inst
  let q := smapGet (fun _ => 0) k s.logSeq
  let t := if e.die < 2 then s.nowDie e.die else s.now
  let ent : LogEntry :=
    { code := e.code, kind := e.kind, seq := q, t64 := t, die := e.die, unit := e.unit, inst := e.inst,
      part := e.part, expo := e.expo, reqId := e.reqId, addr := e.addr, detail := e.detail }
  let s1 := { s with logSeq := smapSet (fun _ => 0) k ((q + 1) % 2 ^ 32) s.logSeq }
  if e.die < 2 && s.linkDown e.die then
    if (s1.dieLog.filter (fun x => x.die == e.die)).length < 256 then { s1 with dieLog := s1.dieLog ++ [ent] }
    else s1.bump fREL_LOG_STAT_DIE_DROPPED 0 0 1
  else s1.logWrite ent

/-- R396: corrected errors of a source: at most one CORRECTED entry per 10 ms, with the number since the previous. [DEDUCED, log entry 25] -/
def State.noteCorrected (s : State) (die unit inst n : Nat) : State :=
  let k := srcKey die unit inst
  let c := smapGet (fun _ => (0, 0)) k s.corrected
  let t := if die < 2 then s.nowDie die else s.now
  if c.1 = 0 ∨ c.1 + 10000000 ≤ t then
    ({ s with corrected := smapSet (fun _ => (0, 0)) k (t, 0) s.corrected }).log
      { code := 0x8AFF, kind := 0, die := die, unit := unit, inst := inst, detail := leBytes 8 (c.2 + n) }
  else { s with corrected := smapSet (fun _ => (0, 0)) k (c.1, c.2 + n) s.corrected }

/-- R476, R477: event `ev` of counter block `b` presents `v`. In EDGE mode an occurrence adds 1. A counter that
saturates logs DENS_OVF once where its selector asks for it. [DESIGN CHOICE, log entry 11; DESIGN CHOICE, log entry 23; DEDUCED, log entry 24] -/
def State.dens (s : State) (b ev v : Nat) : State :=
  if v = 0 then s
  else (List.range 16).foldl (fun t n =>
    let sel := t.reg (densSelAddr b n)
    if fieldOf sel 0 8 = ev then
      let w := t.reg (densCtrAddr b n)
      let w' := densAdd w (if fieldOf sel 8 1 = 1 then 1 else v)
      let t1 := t.setReg (densCtrAddr b n) w'
      if fieldOf w' 63 1 = 1 ∧ fieldOf w 63 1 = 0 ∧ fieldOf sel 10 1 = 1 then
        t1.log { code := 0x8C01, detail := leBytes 2 b ++ leBytes 2 n }
      else t1
    else t) s

/-! ### Background work (R419) -/

/-- R419: use of a resource, whatever its cap. -/
def State.bgUse (s : State) (key cost : Nat) : State :=
  let w := s.now / 10000000
  let u := smapGet (fun _ => (0, 0)) key s.bgWork
  { s with bgWork := smapSet (fun _ => (0, 0)) key (w, (if u.1 = w then u.2 else 0) + cost) s.bgWork }

/-- R419: may background work use `cost` more of a resource in the present 10 ms? [DESIGN CHOICE, log entry 78] -/
def State.bgRoom (s : State) (key cost cap : Nat) : Bool :=
  let u := smapGet (fun _ => (0, 0)) key s.bgWork
  decide ((if u.1 = s.now / 10000000 then u.2 else 0) + cost ≤ cap)

/-- R419: background work admitted under its cap, or deferred and counted. -/
def State.bgAdmit (s : State) (key cost cap : Nat) : Bool × State :=
  if s.bgRoom key cost cap then (true, s.bgUse key cost) else (false, s.dens 186 5 1)

/-- 1 % of the bank cycles of a plate in 10 ms: 64 banks at 3.0 GHz. -/
def trayCap : Nat := 19200000
/-- 1 % of a stack's 2.048 TB/s in 10 ms, in bytes. -/
def hbmCap : Nat := 204800000
/-- 1 % of the Drawer's 273 GB/s in 10 ms, in bytes. -/
def drawerCap : Nat := 27300000
/-- Key of a stack's, the Drawer's and the telemetry's share; a plate's key is its number. -/
def stackKey (h : Nat) : Nat := 256 + h
/-- Key of the Drawer's patrol. -/
def drawerKey : Nat := 264
/-- Key of telemetry. -/
def telemetryKey : Nat := 265

/-! ### Working slots (R481) -/

/-- Working slots of a plate: those held, and those of the latest load. -/
def State.workOf (s : State) (p : Nat) : Nat × Nat := smapGet (fun _ => (0, 0)) p s.work
/-- Working slots replaced. -/
def State.setWork (s : State) (p : Nat) (w : Nat × Nat) : State := { s with work := smapSet (fun _ => (0, 0)) p w s.work }

/-- R481: a command of the pass, load, drain or DMA unit has worked: its slots are held for the attempt. -/
def State.noteWork (s : State) (c : PlateCmd) (load : Bool) : State :=
  let k := Config.workSlots c.plate c.word.toNat s.timer.master.time
  let w := s.workOf c.plate
  s.setWork c.plate (w.1 + k, if load then k else w.2)

/-- R481: the slots of a load whose tile is discarded are wasted. -/
def State.wasteLoad (s : State) (p : Nat) : State :=
  let w := s.workOf p
  (s.setWork p (w.1 - w.2, 0)).dens p 24 w.2

/-- R481: the slots that a plate holds are classed: of every `of_` of them `lost` are wasted, rounded down, the rest retired. -/
def State.classSlots (s : State) (p lost of_ : Nat) : State :=
  let w := (s.workOf p).1
  let k := if of_ = 0 then 0 else w * lost / of_
  ((s.setWork p (0, 0)).dens p 24 k).dens p 23 (w - k)

/-! ### Status codes (R16–R18) -/

/-- R16, R17: the kind of a status code: 3 Final, 2 Command, 1 Warning, 0 Event or ST_OK. An unlisted code is
Final. -/
def statusRank (c : Nat) : Nat :=
  if c = 0 then 0
  else if c ∈ [0x0501, 0x0503, 0x0506, 0x0601, 0x0107] then 0
  else if c ∈ [0x0202, 0x0203, 0x0504, 0x0801] then 1
  else if c ∈ [0x0301, 0x0105, 0x0702, 0x0703, 0x0704, 0x0B02] then 2
  else 3

/-- R18: which of two codes one record reports. -/
def statusMax (a b : Nat) : Nat :=
  if statusRank a < statusRank b then b
  else if statusRank b < statusRank a then a
  else if statusRank a = 0 then (if a = 0 then b else a)
  else max a b

/-- Fresh free value: the next of the model's own sequence. [DESIGN CHOICE, log entry 5] -/
def State.fresh (s : State) : Nat × State := ((Config.freeValue s.free).toNat, { s with free := s.free + 1 })

/-- Something sent out. [DESIGN CHOICE, log entry 74] -/
def State.emit (s : State) (o : Out) : State := { s with out := s.out ++ [o] }

/-! ### Random streams (R62–R64) -/

/-- Key of the counter of a stream in a partition. -/
def streamKey (part stream : Nat) : Nat := part * 2 ^ 24 + stream % 2 ^ 24

/-- Draw `k` of a quantiser that starts at counter `c0`: eight 16-bit draws a counter value. [DESIGN CHOICE, log entry 17] -/
def streamDraw (key stream c0 k : Nat) : Nat :=
  bitsOf (Config.streamBlock key stream ((c0 + k / 8) % 2 ^ 64)).toNat (16 * (k % 8)) 16

/-- A stream's counter. [DESIGN CHOICE, log entry 5] -/
def State.streamCtr (s : State) (part stream : Nat) : Nat := smapGet (fun _ => 0) (streamKey part stream) s.streams

/-- The counter advanced past `n` draws; a wrap logs STREAM_WRAP (R63). [DESIGN CHOICE, log entry 17] -/
def State.advanceStream (s : State) (part stream n : Nat) : State :=
  if stream = 0 then s
  else
    let c := s.streamCtr part stream + ceilDiv n 8
    let s1 := { s with streams := smapSet (fun _ => 0) (streamKey part stream) (c % 2 ^ 64) s.streams }
    if c < 2 ^ 64 then s1 else s1.log { code := 0x8601, part := part, expo := s.get fPART_EXPO_NOW_EXPO part 0, detail := leBytes 4 stream }

/-! ### What a command answers -/

/-- R451, R453, R454: does the module run: its main switch closed, and RESET_N not held low? [DEDUCED, log entry 9] -/
def State.live (s : State) : Bool := decide (s.supply.main = 2) && !s.supply.resetLow

/-- What a command answers: refused by name where its operands name nothing the engine has; else its effect, or none
while the module does not run. [DESIGN CHOICE, log entry 7; DEDUCED, log entry 9] -/
def State.answer (s : State) (mnemonic : String) (ok : Bool) (t : State) : Host.Outcome State Fault Refusal :=
  if ok then .next (if s.live then t else s) else .refused (.illFormed mnemonic)

/-- What a command of the supply answers, which acts whether or not the module runs. [DEDUCED, log entry 9] -/
def State.answerAlways (_ : State) (mnemonic : String) (ok : Bool) (t : State) : Host.Outcome State Fault Refusal :=
  if ok then .next t else .refused (.illFormed mnemonic)

/-- What a message answers that may name an address of no region: a fault there. [DESIGN CHOICE, log entry 8] -/
def State.answerAt (s : State) (mnemonic : String) (ok : Bool) (addr : Nat) (t : Option State) : Host.Outcome State Fault Refusal :=
  if ok then (if s.live then (match t with
    | some u => .next u
    | none => .fault (.unmappedAddress addr)) else .next s)
  else .refused (.illFormed mnemonic)

end Sys2Proof.Machine
end

