-- ==== Sys2Proof/Machine/Dens.lean ====
section
/-! DEFINITION. Dens: the densitometer's reader: snapshots, totals, records, user copies and command samples
(R477–R482). -/

namespace Sys2Proof.Machine

/-- R478: every counter whose HARVEST bit is set, as (block × 16 + counter, value). -/
def State.harvest (s : State) : List (Nat × Word64) :=
  ((List.range 187).map (fun b => ((List.range 16).filter (fun c => decide (fieldOf (s.reg (densSelAddr b c)) 9 1 = 1))).map
    (fun c => (16 * b + c, s.reg (densCtrAddr b c))))).flatten

/-- Bytes of the totals array and of each record (R479). -/
def snapBytes : Nat := 24576

/-- R478: a snapshot latched: harvested counters cleared at the edge; a trigger during a gathering is merged with the
next latch and counted in MERGED. [DEDUCED, log entry 72] -/
def State.snapshot (s : State) (trigger part expo : Nat) : State :=
  match s.reader.latch with
  | some _ => ({ s with reader := { s.reader with merged := s.reader.merged ++ [(trigger, part, expo)] } }).bump fDENS_STAT_MERGED 0 0 1
  | none =>
    let best := s.reader.merged.foldl (fun (a : Nat × Nat × Nat) b => if b.1 < a.1 then b else a) (trigger, part, expo)
    let h := s.harvest
    let s1 := h.foldl (fun t e => t.setReg (densCtrAddr (e.1 / 16) (e.1 % 16)) 0) s
    let l : Latch :=
      { t64 := s.now, trigger := best.1, part := best.2.1, expo := best.2.2, vals := h.foldl (fun m e => smapSet (fun _ => 0) e.1 e.2 m) [] }
    ({ s1 with reader := { s1.reader with latch := some l, merged := [] } }).bgUse telemetryKey snapBytes

/-- R479: the 64-byte header of a record. -/
def snapHeader (l : Latch) (seq : Nat) : List Nat :=
  leBytes 8 l.t64 ++ leBytes 4 seq ++ [l.trigger, l.part] ++ [0, 0] ++ leBytes 8 l.expo ++ List.replicate 40 0

/-- R479: a record's OVF bits, 2,992 of them in 384 bytes. -/
def ovfBytes (l : Latch) : List Nat :=
  (List.range 384).map (fun i => (List.range 8).foldl (fun a k =>
    if fieldOf (smapGet (fun _ => 0) (8 * i + k) l.vals) 63 1 = 1 then a + 2 ^ k else a) 0)

/-- R480: blocks that partition `n` owns whole, in ascending block index. -/
def State.ownedBlocks (s : State) (n : Nat) : List Nat :=
  s.partPlates n ++ (s.clusters n).map (fun c => 128 + c) ++ [144 + n]

/-- R480: the user copy of a boundary snapshot. -/
def State.userCopy (s : State) (l : Latch) (seq : Nat) : State :=
  let n := l.part
  let cfg := (s.prt n).dens
  if fieldOf cfg 0 1 = 0 then s
  else
    let bs := s.ownedBlocks n
    let u := roundUp (64 + 136 * bs.length) 64
    let a := fieldOf cfg 12 48 * 4096 % 2 ^ 48 + l.expo % 2 * u
    if s.inHbm n a u then
      let base := s.g fDENS_SNAP_BASE
      s.write a (snapHeader l seq ++ (bs.map (fun b =>
        leBytes 2 b ++ leBytes 2 ((List.range 16).foldl (fun m c =>
          if fieldOf (smapGet (fun _ => 0) (16 * b + c) l.vals) 63 1 = 1 then m + 2 ^ c else m) 0) ++ [0, 0, 0, 0] ++
        s.bytes (base + 448 + 8 * (16 * b)) 128)).flatten)
    else s.bump fDENS_STAT_USER_SKIPPED 0 0 1

/-- R478, R479: the totals after a latch: each harvested counter's is raised, modulo 2^64, and 0 stands for every other counter. -/
def State.totals (s : State) (l : Latch) (base : Nat) : List Nat :=
  (List.range 2992).flatMap (fun i =>
    leBytes 8 (if l.vals.any (fun e => decide (e.1 = i)) then (s.le (base + 448 + 8 * i) 8 + fieldOf (smapGet (fun _ => 0) i l.vals) 0 48) % 2 ^ 64 else 0))

/-- SNAPSHOT_GATHER (R478, R479): latched values added to the totals, a copy written as the next record, the user
copy for a boundary, and the merged triggers' latch. [DEDUCED, log entry 72] -/
def State.gather (s : State) : State :=
  match s.reader.latch with
  | none => s
  | some l =>
    let base := s.g fDENS_SNAP_BASE
    let log2 := s.g fDENS_SNAP_LOG2
    let seq := s.reader.seq
    let s1 := if s.inReserved base snapBytes then
        s.write base (snapHeader l seq ++ ovfBytes l ++ s.totals l base)
      else s
    let tail := s.g fDENS_IDX_SNAP_TAIL
    let at_ := base + snapBytes * (1 + tail % 2 ^ log2)
    let s2 := if s.inReserved at_ snapBytes then s1.write at_ (s1.bytes base snapBytes) else s1
    let s3 := if 2 ^ log2 ≤ tail then s2.bump fDENS_STAT_OVERWRITTEN 0 0 1 else s2
    let s4 := s3.put fDENS_IDX_SNAP_TAIL 0 0 (tail + 1)
    let s5 := if l.trigger = 0 then s4.userCopy l seq else s4
    let s6 := { s5 with reader := { s5.reader with latch := none, merged := [], seq := (seq + 1) % 2 ^ 32 } }
    match s.reader.merged with
    | [] => s6
    | m :: ms =>
      let best := ms.foldl (fun (a : Nat × Nat × Nat) b => if b.1 < a.1 then b else a) m
      s6.snapshot best.1 best.2.1 best.2.2

/-- DENS_SNAP_NOW (R478, R485): a demand snapshot. -/
def State.snapNow (s : State) : State := s.snapshot 2 0xFF 0

/-- A trigger merged with the next latch, and counted in MERGED (R419, R478). -/
def State.mergeSnap (s : State) (trigger part expo : Nat) : State :=
  ({ s with reader := { s.reader with merged := s.reader.merged ++ [(trigger, part, expo)] } }).bump fDENS_STAT_MERGED 0 0 1

/-- DENS_PERIODIC_SNAPSHOT (R419, R478): while PERIOD_EN is 1; one that would exceed the telemetry cap is merged into the next latch. -/
def State.snapPeriodic (s : State) : State :=
  if s.g fDENS_SNAP_CFG_PERIOD_EN ≠ 1 then s
  else if s.bgRoom telemetryKey snapBytes drawerCap then s.snapshot 1 0xFF 0
  else s.mergeSnap 1 0xFF 0

/-- R478: the boundary snapshot before the release of an exposure, for a partition set in PART_MASK. -/
def State.snapBoundary (s : State) (n expo : Nat) : State :=
  if (s.g fDENS_SNAP_CFG_PART_MASK).testBit n then s.snapshot 0 n expo else s

/-- DENS_CTR_WRITE (R477): the value set, OVF cleared, the log re-armed. [DEDUCED, log entry 72] -/
def State.densCtrWrite (s : State) (b c : Nat) (v : Word64) : State := s.setReg (densCtrAddr b c) (fieldPut 0 0 48 (fieldOf v 0 48))

/-- DENS_SEL_WRITE (R477): the selector set; the counter's value stays. -/
def State.densSelWrite (s : State) (b c : Nat) (v : Word64) : State := s.setReg (densSelAddr b c) (fieldPut 0 0 11 (fieldOf v 0 11))

/-- R482: a stage time in cycles after FETCH: free, but no time at all for a stage that never occurred. [DEDUCED, log entry 72] -/
def stageBytes (draw : Nat) (occurred : Option Bool) : List Nat :=
  let v := (Config.freeValue draw).toNat
  leBytes 4 (match occurred with
    | some true => v % (2 ^ 32 - 1)
    | some false => 0xFFFFFFFF
    | none => v % 2 ^ 32)

/-- R482: a sample record written to the sample ring; `done` says whether the command has completed, with every stage but perhaps DATA
behind it. -/
def State.sample (s : State) (p : Nat) (t : Tagged) (part ctx expo : Nat) (done voided : Bool) : State :=
  let base := s.g fDENS_SAMPLE_BASE
  let log2 := s.g fDENS_SAMPLE_LOG2
  let tail := s.g fDENS_IDX_SAMPLE_TAIL
  let seq := smapGet (fun _ => 0) p s.reader.samplerSeq
  let a := base + tail % 2 ^ log2 * 64
  let early := if done then some true else none
  let stages := stageBytes s.free early ++ stageBytes (s.free + 1) early ++ stageBytes (s.free + 2) early ++ stageBytes (s.free + 3) none ++
    stageBytes (s.free + 4) (some done)
  let rec_ := leBytes 8 t.fetched ++ leBytes 2 p ++ [t.opc] ++
    [(if t.forced then 1 else 0) + (if voided then 2 else 0) + (if t.preempted then 4 else 0)] ++ leBytes 4 t.index ++ leBytes 8 expo ++
    [part, 0] ++ leBytes 2 ctx ++ leBytes 4 seq ++ stages ++ List.replicate 12 0
  let s1 := if s.inReserved a 64 then s.write a rec_ else s
  let s2 := if 2 ^ log2 ≤ tail then s1.bump fDENS_STAT_SAMPLES_LOST 0 0 1 else s1
  let s3 := s2.put fDENS_IDX_SAMPLE_TAIL 0 0 (tail + 1)
  { s3 with free := s.free + 5, reader := { s3.reader with samplerSeq := smapSet (fun _ => 0) p ((seq + 1) % 2 ^ 32) s3.reader.samplerSeq } }

end Sys2Proof.Machine
end

