-- ==== Sys2Proof/Machine/Lanes.lean ====
section
/-! DEFINITION. Lanes: the modules of the three links: module selection, credits, the order in which messages leave, and what a
receiver does with a header before its message is acted on (R25–R31). -/

namespace Sys2Proof.Machine

/-! ### Bytes of messages -/

/-- Bytes from numbers. -/
def toBytes (bs : List Nat) : List Byte := bs.map (fun b => BitVec.ofNat 8 b)
/-- Numbers from bytes. -/
def ofBytes (bs : List Byte) : List Nat := bs.map (fun b => b.toNat)

/-! ### Header cells (R26) -/

/-- R26: the 16 bytes of a header cell. -/
def hdrBytes (h : UcieHdr) : List Nat :=
  [h.typ % 256, h.flags % 256] ++ leBytes 2 (h.len % 512 + h.cls % 4 * 2 ^ 9 + h.part % 16 * 2 ^ 11) ++ leBytes 2 h.tag ++
  leBytes 6 h.addr ++ leBytes 4 h.word

/-- R5, R26: the header that 16 bytes hold; reserved bits are ignored. -/
def hdrOf (bs : List Nat) : UcieHdr :=
  let le (i n : Nat) : Nat := ofLe ((bs.drop i).take n)
  { typ := le 0 1, flags := le 1 1 % 16, len := le 2 2 % 512, cls := bitsOf (le 2 2) 9 2, part := bitsOf (le 2 2) 11 4, tag := le 4 2,
    addr := le 6 6, word := le 12 4 }

/-- R27, R28, R31: a header after which cell alignment is lost: a reserved TYPE, a reserved CLASS or LEN above 256. -/
def hdrLost (h : UcieHdr) : Bool := decide (8 < h.typ ∨ 3 ≤ h.cls ∨ 256 < h.len)

/-! ### Modules and lanes (R28, R29) -/

/-- Key of one direction of a module. -/
def laneKey (link module : Nat) (up : Bool) : Nat := link * 64 + module + (if up then 0 else 32)
/-- One direction of a module. -/
def State.lane (s : State) (link module : Nat) (up : Bool) : UcieLane := smapGet (fun _ => UcieLane.init) (laneKey link module up) s.ucie
/-- One direction of a module replaced. -/
def State.setLane (s : State) (link module : Nat) (up : Bool) (l : UcieLane) : State :=
  { s with ucie := smapSet (fun _ => UcieLane.init) (laneKey link module up) l s.ucie }

/-- Active modules of a link, ascending (R28, R32). -/
def State.activeModules (s : State) (link : Nat) : List Nat :=
  (List.range (if link = 0 then 24 else 4)).filter (fun k => (s.get fGLOBAL_UCIE_STAT_ACTIVE 0 link).testBit k)

/-- R28: the module for a message: the lowest active one for CONTROL, else one of the *m* active ones by 4 KiB block. -/
def State.moduleFor (s : State) (link cls addr : Nat) : Option Nat :=
  let ms := s.activeModules link
  if cls = 0 then ms.head? else ms[addr / 4096 % ms.length]?

/-- Cells of a message. -/
def cellsOf (h : UcieHdr) : Nat := 1 + h.len

/-- Does a sender keep a message after it has been sent: a WR until its WR_ACK, an RD_REQ until its RD_CPL (R30)? -/
def keepsSent (h : UcieHdr) : Bool := decide (h.typ = 3 ∨ h.typ = 1)

/-- Credits of a lane in one class. -/
def UcieLane.credit (l : UcieLane) (cls : Nat) : Nat := l.credits.getD cls 0

/-- Cells of seven flit bodies (R25, R28): once as many cells of the other classes have gone, BULK has the next flit body. -/
def bulkShare : Nat := 105

/-- R28: the order of the classes in the next flit: CONTROL, CARRIER, BULK, but BULK first once it is due one flit body in 8. -/
def UcieLane.classes (l : UcieLane) : List Nat := if bulkShare ≤ l.sinceBulk then [1, 0, 2] else [0, 2, 1]

/-- R28, R29: the next message of a lane that may start: in the order of the classes, the oldest unsent one, where its class has
credit for all its cells. -/
def UcieLane.next (l : UcieLane) : Option Nat :=
  l.classes.findSome? (fun cls =>
    match l.outbox.findIdx? (fun m => !m.delivered && decide (m.hdr.cls = cls)) with
    | some i => match l.outbox[i]? with
      | some m => if cellsOf m.hdr ≤ l.credit cls then some i else none
      | none => none
    | none => none)

/-- A lane after message `i`, which is `m`, has started: its cells are taken from the credit and are not returned yet. BULK's wait grows
only while BULK has a message ready. -/
def UcieLane.start (l : UcieLane) (i : Nat) (m : UcieMsg) : UcieLane :=
  { l with
    credits := l.credits.set m.hdr.cls (l.credit m.hdr.cls - cellsOf m.hdr),
    flight := l.flight ++ [{ m with delivered := false }],
    outbox := if keepsSent m.hdr then l.outbox.set i { m with delivered := true } else l.outbox.eraseIdx i,
    sinceBulk := if m.hdr.cls = 1 ∨ !l.outbox.any (fun x => !x.delivered && decide (x.hdr.cls = 1)) then 0 else l.sinceBulk + cellsOf m.hdr }

/-- Everything a lane may send now is sent, in order. [DEDUCED, log entry 27] -/
def State.pumpLane (s : State) (link module : Nat) (up : Bool) : Nat → State
  | 0 => s
  | fuel + 1 =>
    let l := s.lane link module up
    if l.retraining || !(s.get fGLOBAL_UCIE_STAT_ACTIVE 0 link).testBit module then s
    else match l.next with
      | none => s
      | some i => match l.outbox[i]? with
        | none => s
        | some m => ((s.setLane link module up (l.start i m)).emit (.ucie link module up m.hdr m.data)).pumpLane link module up fuel

/-- A lane pumped. -/
def State.pumpUcie (s : State) (link module : Nat) (up : Bool) : State := s.pumpLane link module up (s.lane link module up).outbox.length

/-- UCIE_MESSAGE_SEND (R25–R29): a message put on its module, behind the earlier ones of its class there. [DEDUCED, log entry 27] -/
def State.ucieSend (s : State) (link : Nat) (up : Bool) (h : UcieHdr) (data : List Byte) : State :=
  match s.moduleFor link h.cls h.addr with
  | none => s
  | some k =>
    let l := s.lane link k up
    (s.setLane link k up { l with outbox := l.outbox ++ [{ hdr := h, data := data, resends := 0, delivered := false }] }).pumpUcie link k up

/-- The port on which the answer to a message leaves: the other direction of the same module. -/
def backPort (p : UciePort) : UciePort := { p with up := !p.up }

/-- An answer sent back over the link of a port (R27): a message like any other, which needs credit (R29) and goes by its module (R28). -/
def State.replyOn (s : State) (p : UciePort) (h : UcieHdr) (data : List Byte) : State := s.ucieSend p.link p.up h data

/-- R29: the receiver returns the credit of a message whose buffer it has freed; a CREDIT message itself takes none. [DEDUCED, log entry 27] -/
def State.creditBack (s : State) (p : UciePort) (h : UcieHdr) : State :=
  let n := cellsOf h
  let c (k : Nat) : Nat := if h.cls = k then n else 0
  s.emit (.ucie p.link p.module (!p.up)
    { typ := 7, flags := 0, len := 0, cls := 0, part := 0, tag := c 0, addr := c 1 + 65536 * c 2, word := 0 } [])

/-- R29: of messages in order, those whose cells are not covered by the cells returned in each class. -/
def retireCells {α : Type} (size : α → Nat × Nat) : List Nat → List α → List α
  | _, [] => []
  | c, m :: ms =>
    let k := (size m).1
    if (size m).2 ≤ c.getD k 0 then retireCells size (c.set k (c.getD k 0 - (size m).2)) ms else m :: retireCells size (c.set k 0) ms

/-- CREDIT (R29): cells returned to the sender of the other direction, which the receiver no longer holds. -/
def State.recvCredit (s : State) (p : UciePort) (c0 c1 c2 : Nat) : State :=
  let l := s.lane p.link p.module (!p.up)
  (s.setLane p.link p.module (!p.up)
    { l with credits := [l.credit 0 + c0, l.credit 1 + c1, l.credit 2 + c2],
             flight := retireCells (fun m => (m.hdr.cls, cellsOf m.hdr)) [c0, c1, c2] l.flight,
             got := retireCells (fun g => (g.cls, g.cells)) [c0, c1, c2] l.got }).pumpUcie p.link p.module (!p.up)

/-! ### Alignment, retrains and arrivals (R24, R31) -/

/-- Both directions of a module begin a retrain. -/
def State.startRetrain (s : State) (link module : Nat) : State :=
  if !(s.get fGLOBAL_UCIE_STAT_ACTIVE 0 link).testBit module then s
  else [true, false].foldl (fun t up => t.setLane link module up { t.lane link module up with retraining := true }) s

/-- CELL_ALIGNMENT_LOST (R31): the receiver discards the stream and requests a retrain. -/
def State.alignmentLost (s : State) (p : UciePort) : State :=
  let s1 := s.startRetrain p.link p.module
  s1.setLane p.link p.module p.up { s1.lane p.link p.module p.up with aligned := false }

/-- R31: is a message one that the receiver already held complete before the latest retrain? -/
def UcieLane.repeats (l : UcieLane) (h : UcieHdr) : Bool := l.got.any (fun g => g.old && decide (g.typ = h.typ ∧ g.tag = h.tag))

/-- R29, R31: a header reaches its receiver, which frees the message's buffer at once and returns its cells. Gives the state, and is the
message to be acted on: not where the stream is being discarded, where alignment is lost with this header, or where the message is a
repeat. [DEDUCED, log entry 27] -/
def State.arrive (s : State) (p : UciePort) (h : UcieHdr) : State × Bool :=
  let l := s.lane p.link p.module p.up
  if !l.aligned then (s, false)
  else if hdrLost h then (s.alignmentLost p, false)
  else if l.repeats h then
    ((s.setLane p.link p.module p.up { l with got := l.got.map (fun g => if g.typ = h.typ ∧ g.tag = h.tag then { g with old := false } else g) }).creditBack p h, false)
  else
    ((s.setLane p.link p.module p.up
      { l with got := l.got ++ [{ typ := h.typ, tag := h.tag, cls := h.cls, cells := cellsOf h, old := false }] }).creditBack p h, true)

end Sys2Proof.Machine
end

