-- ==== Sys2Proof/Machine/Cbt.lean ====
section
/-! DEFINITION. Cbt: port halves, MACsec, the sending side of Chenyx Block Transport, and the messages of PAIR and
CONTROL (R343–R349, R356–R361, R371, R402, R412). -/

namespace Sys2Proof.Machine

/-! ### Halves (R343–R346) -/

/-- Is half `h` enabled? With SPLIT 0 half `b` is ignored (R345). -/
def State.halfOn (s : State) (h : Nat) : Bool :=
  if h % 2 = 0 then decide (s.get fFAB_PORT_CFG_ENABLE_A (h / 2) 0 = 1)
  else decide (s.get fFAB_PORT_CFG_SPLIT (h / 2) 0 = 1 ∧ s.get fFAB_PORT_CFG_ENABLE_B (h / 2) 0 = 1)
/-- KIND of a half (R346): 0 UNUSED, 1 CLIENT, 2 CIRCUIT, 3 PAIR. -/
def State.halfKind (s : State) (h : Nat) : Nat :=
  if h % 2 = 0 then s.get fFAB_PORT_CFG_KIND_A (h / 2) 0 else s.get fFAB_PORT_CFG_KIND_B (h / 2) 0
/-- Link of a half. -/
def State.halfLink (s : State) (h : Nat) : Bool :=
  decide ((if h % 2 = 0 then s.get fFAB_PORT_STAT_LINK_A (h / 2) 0 else s.get fFAB_PORT_STAT_LINK_B (h / 2) 0) = 1)
/-- Neighbour state of a half (R353): 0 IDLE, 1 MATCHED, 2 MISSING, 3 EXTRA. -/
def State.halfState (s : State) (h : Nat) : Nat :=
  if h % 2 = 0 then s.get fFAB_PORT_STAT_STATE_A (h / 2) 0 else s.get fFAB_PORT_STAT_STATE_B (h / 2) 0
/-- Is a half MATCHED? -/
def State.matched (s : State) (h : Nat) : Bool := decide (s.halfState h = 1)
/-- ENGINE_ID of a half's neighbour. -/
def State.nbrEngine (s : State) (h : Nat) : Nat := s.get fFAB_NBR_ENGINE (h / 2) (h % 2)
/-- Neighbour record of a half (R352). -/
def State.nbr (s : State) (h : Nat) : Option Nbr := smapGet (fun _ => none) h s.nbrs
/-- The die of a half: E0–E3 on CD0, E4–E7 on CD1. -/
def dieOfHalf (h : Nat) : Nat := if h < 8 then 0 else 1

/-- Circuit plan bound to partition `n` (R350). -/
def State.plan (s : State) (n : Nat) : Option Plan := smapGet (fun _ => none) n s.plans
/-- A plan's entry for a half: half, peer half, peer partition, peer engine. -/
def Plan.use (p : Plan) (h : Nat) : Option (Nat × Nat × Nat × Nat) := p.uses.find? (fun u => decide (u.1 = h))
/-- The partition whose bound plan uses a half. -/
def State.planPart (s : State) (h : Nat) : Option Nat :=
  (List.range 16).find? (fun n => match s.plan n with
    | some p => (p.use h).isSome
    | none => false)

/-! ### MACsec (R347, R348) -/

/-- MACsec of a half. -/
def State.sec (s : State) (h : Nat) : MacSec := smapGet (fun _ => MacSec.init) h s.macsec
/-- MACsec of a half replaced. -/
def State.setSec (s : State) (h : Nat) (m : MacSec) : State := { s with macsec := smapSet (fun _ => MacSec.init) h m s.macsec }
/-- Are a half's frames protected: enabled, and a SAK has been installed once (R363)? -/
def State.protected_ (s : State) (h : Nat) : Bool :=
  decide (s.get fFAB_MACSEC_CFG_ENABLE (h / 2) (h % 2) = 1) && (s.sec h).ever
/-- May a half send CBT: unprotected, or with a SAK whose packet number has not run out (R348)? -/
def State.maySend (s : State) (h : Nat) : Bool := !s.protected_ h || ((s.sec h).sak && !(s.sec h).exhausted)

/-- R348: one protected frame uses a packet number; with GCM-AES-256 the last one stops the half. -/
def State.usePn (s : State) (h : Nat) : State :=
  if !s.protected_ h then s
  else
    let m := s.sec h
    let s1 := s.setSec h { m with pn := m.pn + 1 }
    if s.get fFAB_MACSEC_CFG_XPN (h / 2) (h % 2) = 0 ∧ m.pn + 1 = 0xFFFFFFFF then
      (s1.setSec h { m with pn := m.pn + 1, exhausted := true }).log
        { code := 0x8503, kind := 4, die := dieOfHalf h, unit := 13, inst := h }
    else s1

/-- R356: bytes of a CBT frame with `n` payload bytes. -/
def State.frameLen (s : State) (h n : Nat) : Nat := 106 + n + (if s.protected_ h then 32 else 0)

/-! ### Sending (R356–R361) -/

/-- Key of the flow of one class between two partitions over a half (R358). -/
def flowKey (half cls src dst : Nat) : Nat := ((half * 4 + cls) * 16 + src) * 16 + dst
/-- Half of a flow. -/
def flowHalf (k : Nat) : Nat := k / 1024
/-- Class of a flow. -/
def flowCls (k : Nat) : Nat := k / 256 % 4
/-- Source partition of a flow. -/
def flowSrc (k : Nat) : Nat := k / 16 % 16
/-- Destination partition of a flow. -/
def flowDst (k : Nat) : Nat := k % 16

/-- Sending side of a flow. -/
def State.txFlow (s : State) (k : Nat) : TxFlow := smapGet (fun _ => TxFlow.init) k s.tx
/-- Sending side of a flow replaced. -/
def State.setTx (s : State) (k : Nat) (f : TxFlow) : State := { s with tx := smapSet (fun _ => TxFlow.init) k f s.tx }

/-- A DATA block put on the wire. -/
def State.emitBlock (s : State) (k : Nat) (b : TxBlock) (resent : Bool) : State :=
  let h := flowHalf k
  (((s.emit (.cbt h (flowCls k) (flowSrc k) (flowDst k) (s.txFlow k).epoch b resent)).dens (170 + h) 1
    (s.frameLen h b.body.length)).dens (170 + h) 10 (if resent then 1 else 0)).usePn h

/-- R358, R361: blocks wait for their half to be MATCHED, for its keys, and for room among 4,096 unacknowledged ones; the
rest are sent in order. -/
def State.pumpFrom (s : State) (k : Nat) : Nat → State
  | 0 => s
  | fuel + 1 =>
    let f := s.txFlow k
    if s.matched (flowHalf k) && s.maySend (flowHalf k) && decide ((f.blocks.filter (fun b => b.sent)).length < 4096) then
      match f.blocks.find? (fun b => !b.sent) with
      | none => s
      | some b =>
        let f' := { f with blocks := f.blocks.map (fun c => if c.seq = b.seq then { c with sent := true } else c) }
        ((s.setTx k f').emitBlock k b false).pumpFrom k fuel
    else s

/-- Everything a flow may send now is sent. -/
def State.pump (s : State) (k : Nat) : State := s.pumpFrom k (s.txFlow k).blocks.length

/-- Every flow of a half pumped. -/
def State.pumpHalf (s : State) (h : Nat) : State := ((s.tx.map Prod.fst).filter (fun k => decide (flowHalf k = h))).foldl (fun t k => t.pump k) s

/-- Payloads of a message: pieces of 8,192 bytes; an empty message is one empty block. -/
def chunks8k (bs : List Byte) : Nat → List (List Byte)
  | 0 => []
  | fuel + 1 => if bs.length ≤ 8192 then [bs] else bs.take 8192 :: chunks8k (bs.drop 8192) fuel

/-- R356, R357: a message queued on a flow, as blocks. -/
def State.cbtSend (s : State) (k expo attempt : Nat) (poison : Bool) (slotTag : Option Nat) (fwd : Nat) (bs : List Byte) : State :=
  let f := s.txFlow k
  let msg := if f.msgExpo = expo then f.nextMsg else 0
  let cs := chunks8k bs (bs.length / 8192 + 1)
  let blocks := (List.range cs.length).map (fun i =>
    ({ seq := (f.nextSeq + i) % 2 ^ 32, msg := msg % 65536, offset := i, last := decide (i + 1 = cs.length), poison := poison, expo := expo,
       attempt := attempt, body := cs.getD i [], resends := 0, sent := false, slotTag := slotTag,
       fwd := if i + 1 = cs.length then fwd else 0 } : TxBlock))
  (s.setTx k { f with nextSeq := (f.nextSeq + cs.length) % 2 ^ 32, msgExpo := expo, nextMsg := msg + 1, blocks := f.blocks ++ blocks }).pump k

/-! ### Carrier state and routes (R369, R371, R388) -/

/-- The Carrier's part for partition `n`. -/
def State.carrOf (s : State) (n : Nat) : Carr := smapGet (fun _ => Carr.init) n s.carr
/-- The Carrier's part for a partition replaced, and CARR_STAT.OUT_USED_4K with it. -/
def State.setCarr (s : State) (n : Nat) (c : Carr) : State :=
  ({ s with carr := smapSet (fun _ => Carr.init) n c s.carr } : State).put fCARR_STAT_OUT_USED_4K n 0 (ceilDiv c.used 4096)

/-- R380, R388: every message and batch state of the attempt discarded, and its outbound bytes freed; what waits for a
later exposure or attempt is kept. -/
def State.carrClear (s : State) (n : Nat) : State :=
  let c := s.carrOf n
  if c = Carr.init then s else s.setCarr n { c with used := 0, out := [], inn := [], dispatched := [], reduced := [] }

/-- Address of a rank's entry in the rank table (R369). -/
def State.rankEntry (s : State) (n r : Nat) : Nat := s.get fCARR_RANKS_ADDR n 0 + 8 * r
/-- SELF. -/
def State.selfRank (s : State) (n : Nat) : Nat := s.get fCARR_JOB_SELF n 0
/-- NRANKS. -/
def State.nranks (s : State) (n : Nat) : Nat := s.get fCARR_JOB_NRANKS n 0
/-- PARENT of a rank in the gradient tree (R369). -/
def State.parentOf (s : State) (n r : Nat) : Nat := s.le (s.get fCARR_TREE_ADDR n 0 + 2 * r) 2
/-- Children of this rank, ascending (R381). -/
def State.children (s : State) (n : Nat) : List Nat := (List.range (s.nranks n)).filter (fun r => decide (s.parentOf n r = s.selfRank n))

/-- R371: the half toward a rank; none where NEXT_HALF names no PAIR or CIRCUIT half. -/
def State.routeHalf (s : State) (n r : Nat) : Option Nat :=
  let h := s.le (s.rankEntry n r + 4) 1
  if h < 16 ∧ (s.halfKind h = 2 ∨ s.halfKind h = 3) then some h else none

/-- The partition at the far end of a half, for traffic of partition `n` (R350; a PAIR partner has the same number). -/
def State.peerPart (s : State) (n h : Nat) : Nat :=
  match s.plan n with
  | some p => match p.use h with
    | some u => u.2.2.1
    | none => n
  | none => n

/-! ### PAIR and CONTROL messages (R402, R412) -/

/-- R412: the 32-byte header of a PAIR or CONTROL message. -/
def pairHeader (kind part attempt flags src dst expo len seq t64 : Nat) : List Nat :=
  [kind, part % 16, attempt, flags] ++ leBytes 2 src ++ leBytes 2 dst ++ leBytes 8 expo ++ leBytes 4 len ++ leBytes 4 seq ++ leBytes 8 t64

/-- Class of a message kind: CONTROL from HEARTBEAT on, else PAIR (R412). -/
def pairClass (kind : Nat) : Nat := if kind < 9 then 2 else 3

/-- The next sequence number of a partition's pair unit. -/
def State.nextPairSeq (s : State) (n : Nat) : Nat × State :=
  let q := smapGet (fun _ => 0) n s.pairSeq
  (q, { s with pairSeq := smapSet (fun _ => 0) n ((q + 1) % 2 ^ 32) s.pairSeq })

/-- A PAIR or CONTROL message sent on a half. -/
def State.pairSendOn (s : State) (half dst n kind flags src dstRank expo : Nat) (body : List Nat) : State :=
  let r := s.nextPairSeq n
  r.2.cbtSend (flowKey half (pairClass kind) n dst) expo (s.prt n).attempt false none 0
    (toBytes (pairHeader kind n (s.prt n).attempt flags src dstRank expo body.length r.1 (s.nowDie (s.homeDie n)) ++ body))

/-- A message of partition `n` to its partner, on PART_PAIR.HALF. -/
def State.pairSend (s : State) (n kind flags expo : Nat) (body : List Nat) : State :=
  s.pairSendOn (s.get fPART_PAIR_HALF n 0) n n kind flags 0xFFFF 0xFFFF expo body

/-- Tree neighbours of this rank: its parent and its children (R402). -/
def State.treeNbrs (s : State) (n : Nat) : List Nat :=
  let p := s.parentOf n (s.selfRank n)
  (if p = 0xFFFF then [] else [p]) ++ s.children n

/-- R402: VOID for an exposure sent to every tree neighbour but `but`, where a circuit plan is bound. -/
def State.sendVoids (s : State) (n expo : Nat) (but : Option Nat) : State :=
  if (s.plan n).isNone then s
  else ((s.treeNbrs n).filter (fun r => decide (but ≠ some r))).foldl (fun t r =>
    match t.routeHalf n r with
    | some h => t.pairSendOn h (t.peerPart n h) n 12 0 (t.selfRank n) r expo []
    | none => t) s

end Sys2Proof.Machine
end

