-- ==== Sys2Proof/Machine/Operands.lean ====
section
/-! DEFINITION. Operands: the fields of plate commands (R95, R96, R148) and the checked reads and writes of tray and
remote memory through which every plate command reaches its operands (R140–R145, R162, R168). -/

namespace Sys2Proof

/-- Bytes `i … i + n - 1` of a command as a number (R4). -/
def PlateCmd.le (c : PlateCmd) (i n : Nat) : Nat := bitsOf c.word.toNat (8 * i) (8 * n)
/-- Bits of a command, counted within byte `i`. -/
def PlateCmd.bits (c : PlateCmd) (i lo w : Nat) : Nat := bitsOf c.word.toNat (8 * i + lo) w
/-- Byte 0, OPC. -/
def PlateCmd.opc (c : PlateCmd) : Nat := c.le 0 1
/-- FLAGS.WAIT_SEM. -/
def PlateCmd.waitSem (c : PlateCmd) : Bool := decide (c.bits 1 0 1 = 1)
/-- FLAGS.SIGNAL_SEM. -/
def PlateCmd.signalSem (c : PlateCmd) : Bool := decide (c.bits 1 1 1 = 1)
/-- FLAGS.LAST_IN_TILE. -/
def PlateCmd.lastInTile (c : PlateCmd) : Bool := decide (c.bits 1 2 1 = 1)
/-- FLAGS.TAG. -/
def PlateCmd.tag (c : PlateCmd) : Bool := decide (c.bits 1 3 1 = 1)
/-- GROUP bits [4:0], FIRST (R96). -/
def PlateCmd.first (c : PlateCmd) : Nat := c.bits 2 0 5
/-- GROUP bit 5, PACKED (R96). -/
def PlateCmd.packed (c : PlateCmd) : Bool := decide (c.bits 2 5 1 = 1)
/-- TRAY_ADDR. -/
def PlateCmd.trayAddr (c : PlateCmd) : Nat := c.le 4 4
/-- SHAPE bits [9:0], ROWS. -/
def PlateCmd.rows (c : PlateCmd) : Nat := c.bits 8 0 10
/-- SHAPE bits [17:10], K_ROWS or MAXVECS. -/
def PlateCmd.kRows (c : PlateCmd) : Nat := c.bits 8 10 8
/-- SHAPE bits [26:18], COLS. -/
def PlateCmd.cols (c : PlateCmd) : Nat := c.bits 8 18 9
/-- SEM byte 12, WAIT_IDX (R148). -/
def PlateCmd.waitIdx (c : PlateCmd) : Nat := c.le 12 1
/-- SEM byte 13, SIG_IDX. -/
def PlateCmd.sigIdx (c : PlateCmd) : Nat := c.le 13 1
/-- SEM byte 14, WAIT_CNT. -/
def PlateCmd.waitCnt (c : PlateCmd) : Nat := c.le 14 1
/-- SEM byte 15, SIG_CNT. -/
def PlateCmd.sigCnt (c : PlateCmd) : Nat := c.le 15 1

end Sys2Proof

namespace Sys2Proof.Machine

/-- ST_CMD_INVALID (R97). -/
def stCmdInvalid : Nat := 0x0206
/-- ST_TRIT_INVALID (R16). -/
def stTritInvalid : Nat := 0x0205
/-- ST_META_FAULT (R16). -/
def stMetaFault : Nat := 0x0201
/-- ST_RANGE_FAULT (R438). -/
def stRangeFault : Nat := 0x0704
/-- ST_BANK_ASLEEP (R16). -/
def stBankAsleep : Nat := 0x0301
/-- ST_TRAY_UE (R16). -/
def stTrayUe : Nat := 0x0302
/-- ST_HBM_UE (R16). -/
def stHbmUe : Nat := 0x0402
/-- ST_DRAWER_UE (R322). -/
def stDrawerUe : Nat := 0x0403

/-- How a plate command's body stops short of completing. `fault`: the program ends with `code`, the fault register
records `status`, with the register's extra bits [31:24], a failing offset and an address for the log. `ue`: a
read that meets uncorrectable lines, ending in the given code under R401. `lost`: a write that ends uncorrectable at
lines of its target (R162). `wait`: the command waits, in the state
given. -/
inductive Stop where
  | fault (s : State) (code status extra off addr : Nat)
  | ue (s : State) (lines : List Nat) (code : Nat)
  | lost (s : State) (lines : List Nat) (code : Nat)
  | wait (s : State) (why : WaitWhy)
  deriving Repr

/-- A body that faults with a status code and nothing more to record. -/
def faultWith {α : Type} (s : State) (code : Nat) : Except Stop α := .error (.fault s code code 0 0 0)

/-- A check that faults with ST_CMD_INVALID when it fails (R97). -/
def need (s : State) (b : Bool) : Except Stop Unit := if b then .ok () else faultWith s stCmdInvalid

/-! ### Banks (R139–R145, R163) -/

/-- Who asks for a bank: the grain side (grain port, agitator, Enlarger), a cluster unit, or DMA (R144). -/
inductive Requester where
  | grain | cluster | dma
  deriving DecidableEq, Repr

/-- R140, R141: the bank of a window offset, in LINEAR or HASH mapping. -/
def bankOf (hash : Bool) (o : Nat) : Nat :=
  let low := bitsOf o 6 3
  let h := if hash then xorNat (xorNat (xorNat low (bitsOf o 9 3)) (bitsOf o 12 3)) (bitsOf o 15 3) else low
  8 * bitsOf o 20 3 + h

/-- Is the plate's partition in HASH mapping? -/
def State.hashMode (s : State) (p : Nat) : Bool :=
  match s.partOfPlate p with
  | some n => decide (s.get fPART_TRAY_CFG_HASH n 0 = 1)
  | none => false
/-- Is the plate's partition in SPLIT mode? -/
def State.splitMode (s : State) (p : Nat) : Bool :=
  match s.partOfPlate p with
  | some n => decide (s.get fPART_TRAY_CFG_MODE n 0 = 1)
  | none => false
/-- Is the plate's partition in STATIC mode (R153)? -/
def State.staticMode (s : State) (p : Nat) : Bool :=
  match s.partOfPlate p with
  | some n => decide (s.get fPART_TRAY_CFG_SYNC n 0 = 1)
  | none => false
/-- Is bank `b` of plate `p` AWAKE? [DEDUCED, log entry 75] -/
def State.bankAwake (s : State) (p b : Nat) : Bool := (s.get fTRAY_PWR_AWAKE_AWAKE p 0).testBit b
/-- Is bank `b` of plate `p` ASLEEP? -/
def State.bankAsleep (s : State) (p b : Nat) : Bool := (s.get fTRAY_PWR_ASLEEP_ASLEEP p 0).testBit b

/-- First line of a tray range whose bank is not AWAKE. [DEDUCED, log entry 75] -/
def State.sleepingLine (s : State) (p o n : Nat) : Option Nat :=
  (linesOf o n).find? (fun l => !s.bankAwake p (bankOf (s.hashMode p) l))

/-- R145: does SPLIT mode shut the requester out of the range? Cluster units and DMA reach every bank, directly or
through the grain-side DMA slot. -/
def splitShut (split : Bool) (r : Requester) (o n : Nat) : Bool :=
  split && decide (r = .grain) && decide (o + n > 0x600000)

/-- R97, R145, R164: what keeps a requester from a range of one plate's tray, apart from uncorrectable data; a range that runs past the window
names no byte of the tray. A cluster range is cut at the windows before it comes here (R110). [DESIGN CHOICE, log entry 77] -/
def State.trayBar (s : State) (r : Requester) (p o n : Nat) : Option Stop :=
  if o + n > trayWin then some (.fault s stCmdInvalid (if r = .dma then stRangeFault else stCmdInvalid) 0 0 0)
  else if splitShut (s.splitMode p) r o n then some (.fault s stCmdInvalid stCmdInvalid (bankOf (s.hashMode p) o) 0 0)
  else match s.sleepingLine p o n with
    | some l => some (.fault s stCmdInvalid (if r = .dma then stBankAsleep else stCmdInvalid)
        (bankOf (s.hashMode p) l) 0 0)
    | none => none

/-- A checked tray read by a plate unit: its bytes, or why it stops (R97, R145, R168). -/
def State.trayRead (s : State) (r : Requester) (p o n : Nat) : Except Stop (List Nat) :=
  match s.trayBar r p o n with
  | some e => .error e
  | none =>
    match s.firstBad (trayAddr p o) n with
    | some _ => .error (.ue s ((linesOf (trayAddr p o) n).filter (fun l => decide (s.lineErrOf l = .bad))) stTrayUe)
    | none => .ok (s.tray p o n)

/-- A checked little-endian tray read. -/
def State.trayLe (s : State) (r : Requester) (p o n : Nat) : Except Stop Nat := (s.trayRead r p o n).map ofLe

/-- A checked tray write by a plate unit. -/
def State.trayPut (s : State) (r : Requester) (p o : Nat) (bs : List Nat) : Except Stop State :=
  match s.trayBar r p o bs.length with
  | some e => .error e
  | none => .ok (s.writeTray p o bs)

/-- R168: corrected words among the lines of a tray read are counted, each time they are read. -/
def State.noteRead (s : State) (p o n : Nat) : State :=
  let k := ((linesOf (trayAddr p o) n).filter (fun l => decide (s.lineErrOf l = .corrected))).length
  if k = 0 then s else ((s.bump fTRAY_ECC_STAT_CE p 0 k).dens p 18 k).noteCorrected (dieOfPlate p) 1 p k

/-- Several tray reads noted. -/
def State.noteReads (s : State) (p : Nat) (rs : List (Nat × Nat)) : State := rs.foldl (fun t r => t.noteRead p r.1 r.2) s

/-! ### Remote memory (R11, R162, R317, R319) -/

/-- Code of an uncorrectable access by where it lies (R401). -/
def ueCode (a : Nat) : Nat := if isTray a then stTrayUe else if isDrawer a then stDrawerUe else stHbmUe

/-- R316: is an HBM address on a stack that is OFFLINE? -/
def State.stackOffline (s : State) (a : Nat) : Bool := isHbm a && decide (s.get fHBM_STAT_OFFLINE (s.stackOf a) 0 = 1)

/-- First line of a range that reads uncorrectable: a damaged line, or any line of an OFFLINE stack. -/
def State.badLine (s : State) (a n : Nat) : Option Nat :=
  (linesOf a n).find? (fun l => decide (s.lineErrOf l = .bad) || s.stackOffline l)

/-- Every line of a range that reads uncorrectable (R397: one entry for each). -/
def State.badLines (s : State) (a n : Nat) : List Nat :=
  (linesOf a n).filter (fun l => decide (s.lineErrOf l = .bad) || s.stackOffline l)

/-- R314, R316: first line at which a write ends uncorrectable: one of an OFFLINE stack, or a damaged HBM line that
the write covers only in part. -/
def State.badWriteLine (s : State) (a n : Nat) : Option Nat :=
  (linesOf a n).find? (fun l => s.stackOffline l ||
    (isHbm l && !coversLine a n l && decide (s.lineErrOf l = .bad)))

/-- Every line at which a write ends uncorrectable. -/
def State.badWriteLines (s : State) (a n : Nat) : List Nat :=
  (linesOf a n).filter (fun l => s.stackOffline l || (isHbm l && !coversLine a n l && decide (s.lineErrOf l = .bad)))

/-- R169, R321: does a whole block's VALID tag differ from its contents? -/
def State.tagBroken (s : State) (blk : Nat) : Bool :=
  match s.tagOf blk with
  | .valid c => decide (crc32c (s.bytes blk 4096) ≠ c)
  | _ => false

/-- First line of a range that lies in a tray bank which is not AWAKE, by device address. [DEDUCED, log entry 75] -/
def State.sleepAt (s : State) (a n : Nat) : Option Nat :=
  if isTray a then (linesOf a n).find? (fun l => !s.bankAwake (trayPlate l) (bankOf (s.hashMode (trayPlate l)) (trayOff l))) else none

/-- The bank of a tray address. -/
def State.bankAt (s : State) (a : Nat) : Nat := bankOf (s.hashMode (trayPlate a)) (trayOff a)

/-- R316: does a request wait for a STOPPED stack? [DEDUCED, log entry 28] -/
def State.stackHolds (s : State) (a : Nat) : Bool :=
  isHbm a && decide (s.get fHBM_STAT_LEVEL (s.stackOf a) 0 = 5 ∧ s.get fHBM_STAT_OFFLINE (s.stackOf a) 0 = 0)

/-- R316: does a range touch a STOPPED stack? -/
def State.held (s : State) (a n : Nat) : Bool := (blocksOf a n).any (fun b => s.stackHolds b)

/-- What a plate's read of a range that has passed its range check meets: a STOPPED stack, which holds it, a sleeping bank, uncorrectable
lines, or its data. -/
def State.remoteBytes (s : State) (a len : Nat) : Except Stop (List Nat) :=
  if s.held a len then .error (.wait s .stack)
  else match s.sleepAt a len with
    | some l => .error (.fault s stCmdInvalid stBankAsleep (s.bankAt l) 0 a)
    | none =>
      match s.badLine a len with
      | some _ => .error (.ue s (s.badLines a len) (ueCode a))
      | none => .ok (s.bytes a len)

/-- A remote read by a plate command of partition `n`. -/
def State.remoteRead (s : State) (n a len : Nat) : Except Stop (List Nat) :=
  if !s.granted n a len true then .error (.fault s stCmdInvalid stRangeFault 0 0 a) else s.remoteBytes a len

/-- R310, R317, R325: what reading `n` bytes of a stack at `a` counts: bytes, lines that crossed link 0 from die `die`, and
corrected lines. -/
def State.noteStack (s : State) (die a n : Nat) : State :=
  (linesOf a n).foldl (fun t l =>
    let h := t.stackOf l
    let t1 := (t.dens (162 + h) 1 (min (a + n) (l + 64) - max a l)).dens (162 + h) 3 (if h / 4 = die then 0 else 1)
    if t1.lineErrOf l = .corrected then (t1.bump fHBM_ECC_STAT_CE h 0 1).noteCorrected (h / 4) 11 h 1 else t1) s

/-- R168, R317, R325: what a read of `n` bytes of memory at `a` by a unit of plate `p` counts. -/
def State.noteRemote (s : State) (p a n : Nat) : State :=
  if isTray a then s.noteRead (trayPlate a) (trayOff a) n
  else if isHbm a then s.noteStack (dieOfPlate p) a n
  else (linesOf a n).foldl (fun t l => if t.lineErrOf l = .corrected then (t.bump fDRW_ECC_STAT_LINK_CE 0 0 1).noteCorrected 2 12 0 1 else t) (s.dens 186 1 n)

/-- Several reads of memory noted. -/
def State.noteRemotes (s : State) (p : Nat) (rs : List (Nat × Nat)) : State := rs.foldl (fun t r => t.noteRemote p r.1 r.2) s

/-- R325: what a write of `n` bytes at `a` by an engine unit counts. -/
def State.noteWritten (s : State) (a n : Nat) : State :=
  if isHbm a then (linesOf a n).foldl (fun t l => t.dens (162 + t.stackOf l) 2 (min (a + n) (l + 64) - max a l)) s
  else if isDrawer a then s.dens 186 2 n
  else s

/-- Partition that a plate command works for: the owner of the plate; 16 (none) where the plate is in none. [DESIGN CHOICE, log entry 12] -/
def State.ownerOf (s : State) (p : Nat) : Nat := (s.partOfPlate p).getD 16

/-- R110: cluster tray addresses: the window offset in bits [22:0] and the plate of the cluster in bits [25:23]. -/
def clusterAddr (p a : Nat) : Nat × Nat := (p / 8 * 8 + bitsOf a 23 3, a % 2 ^ 23)

/-- R110: the plates of the cluster that `n` bytes from a cluster tray address reach, each with offset and length; a run goes on in the
next plate's window. [DEDUCED, log entry 18] -/
def clusterPieces (p a n : Nat) : List (Nat × Nat × Nat) :=
  (List.range 8).filterMap (fun q =>
    let lo := max a (q * 2 ^ 23)
    let hi := min (a + n) ((q + 1) * 2 ^ 23)
    if lo < hi then some (p / 8 * 8 + q, lo - q * 2 ^ 23, hi - lo) else none)

/-- R110: `n` bytes read at a cluster tray address; bits [31:26] must be 0. -/
def State.clusterRead (s : State) (r : Requester) (p a n : Nat) : Except Stop (List Nat) :=
  if 2 ^ 26 ≤ a ∨ 2 ^ 26 < a + n then faultWith s stCmdInvalid
  else ((clusterPieces p a n).mapM (fun x => s.trayRead r x.1 x.2.1 x.2.2)).map List.flatten

/-- R110: bytes written at a cluster tray address. -/
def State.clusterPut (s : State) (r : Requester) (p a : Nat) (bs : List Nat) : Except Stop State :=
  if 2 ^ 26 ≤ a ∨ 2 ^ 26 < a + bs.length then faultWith s stCmdInvalid
  else ((clusterPieces p a bs.length).foldlM (fun (x : State × List Nat) y =>
    (x.1.trayPut r y.1 y.2.1 (x.2.take y.2.2)).map (fun t => (t, x.2.drop y.2.2))) (s, bs)).map Prod.fst

/-- R168: corrected words met in a read at a cluster tray address. -/
def State.clNote (s : State) (p a n : Nat) : State :=
  (clusterPieces p a n).foldl (fun t x => t.noteRead x.1 x.2.1 x.2.2) s

/-- Several reads at cluster tray addresses noted. -/
def State.clNotes (s : State) (p : Nat) (rs : List (Nat × Nat)) : State := rs.foldl (fun t r => t.clNote p r.1 r.2) s

end Sys2Proof.Machine
end

