-- ==== Sys2Proof/Machine/Flags.lean ====
section
/-! DEFINITION. Flags: the flags the spec computes: open-group bits of PLATE_ACC_STAT (R106), overflow flags of narrow
entries (R81), special codes of wide entries (R84), and the FLAGS of completion records (R292, R293). -/

namespace Sys2Proof.Machine

/-- R86: storage bits of the group at packed number `g`: a 40-bit group takes both packed halves. -/
def groupMask (packed : Bool) (g : Nat) : Nat := if packed then 2 ^ g else 2 ^ g + 2 ^ (g + 1)

/-- PLATE_ACC_STAT.OPEN of a plate's groups (R106). -/
def openMask (groups : SMap (Option Group)) : Nat :=
  groups.foldl (fun m e => match e.2 with
    | some gr => m ||| groupMask gr.packed e.1
    | none => m) 0

/-- R81: the narrow entry after one contribution: a sum that leaves the 24-bit range sets the overflow flag with the
sign of the true sum, and later adds are ignored until promotion. -/
def narrowAdd (e : Narrow) (v : Int) : Narrow :=
  match e.ovf with
  | some _ => e
  | none =>
    let t := e.val + v
    if t < -(2 ^ 23 : Int) ∨ t > 2 ^ 23 - 1 then { val := e.val, ovf := some (decide (t < 0)) }
    else { val := t, ovf := none }

/-- R82: what a narrow entry promotes as, with its shift. -/
def narrowPromoted (e : Narrow) (shift : Nat) : Wide :=
  match e.ovf with
  | some neg => .inf neg
  | none => .fin (e.val * 2 ^ shift)

/-- R84: is a wide value a special code? -/
def wideSpecial : Wide → Bool
  | .fin _ => false
  | _ => true

/-- R292: FLAGS of a completion record: FINAL. -/
def flagFinal : Nat := 1
/-- STOP_SEQ. -/
def flagStopSeq : Nat := 2
/-- STOP_TOKEN. -/
def flagStopToken : Nat := 4
/-- STOP_LEN. -/
def flagStopLen : Nat := 8
/-- CANCELLED. -/
def flagCancelled : Nat := 16
/-- REPLAYED. -/
def flagReplayed : Nat := 32
/-- R293: PHASE of record `i` of a ring of `2^log2` records. -/
def phaseOf (i log2 : Nat) : Nat := 1 - (i >>> log2) % 2
/-- R292, R293: FLAGS with PHASE set. -/
def flagsWithPhase (flags i log2 : Nat) : Nat := flags % 2 ^ 15 + phaseOf i log2 * 2 ^ 15

end Sys2Proof.Machine
end

