-- ==== Sys2Proof/Machine/Grain.lean ====
section
/-! DEFINITION. Grain: the grain array's commands (R69–R105): loading tiles, passes, groups, promotion, drain and
quantisation. Each body gives the state after the command, or why it stops; signals and faults are applied where the
command is issued. -/

namespace Sys2Proof.Machine

/-! ### Tiles (R69, R75, R98, R100) -/

/-- Bits of a plane of a strip are all 0. -/
def planeZero (b i : Nat) (ws : List Int) : Bool := ws.all (fun w => !planeBit b i w)

/-- R75: the smallest m in 1 … b − 1 with every weight in −2^m … 2^m − 1. -/
def signExt (b : Nat) (ws : List Int) : Nat :=
  ((List.range (b - 1)).find? (fun k => ws.all (fun w =>
    decide (-(2 ^ (k + 1) : Int) ≤ w ∧ w ≤ 2 ^ (k + 1) - 1)))).getD (b - 2) + 1

/-- R75, R76: the active planes of a strip and how many planes it skips. [DEDUCED, log entry 15] -/
def stripPlan (kind : WKind) (zeroSkip signx : Bool) (ws : List Int) : StripPlan :=
  match kind with
  | .t5 => if zeroSkip && ws.all (fun w => decide (w = 0)) then ⟨[], 1⟩ else ⟨[(0, 0)], 0⟩
  | .b1 => ⟨[(0, 0)], 0⟩
  | .wide b =>
    let m := signExt b ws
    let low := (List.range (b - 1)).filter (fun i =>
      if m ≤ i then !signx else !(zeroSkip && planeZero b i ws))
    let top := if zeroSkip && planeZero b (b - 1) ws then [] else [(b - 1, if signx then m else b - 1)]
    let ps := low.map (fun i => (i, i)) ++ top
    ⟨ps, b - ps.length⟩

/-- R75: all eight strips of a tile's weights, columns 32 s … 32 s + 31. -/
def stripPlans (kind : WKind) (zeroSkip signx : Bool) (weights : List (List Int)) : List StripPlan :=
  (List.range 8).map (fun st =>
    let used := ((weights.drop (32 * st)).take 32).flatten
    let ws := if (weights.drop (32 * st)).length < 32 then 0 :: used else used
    stripPlan kind zeroSkip signx ws)

/-- R98: bytes read of one column record. -/
def colBytesRead (fmt : Nat) (plane : Bool) (k : Nat) : Nat :=
  if fmt = 0 then ceilDiv k 5
  else if fmt = 1 then ceilDiv k 8
  else if plane then 20 * (fmt - 1) + ceilDiv k 8
  else ceilDiv (k * fmt) 8

/-- R98: weight `r` of a column record. -/
def colWeight (fmt : Nat) (plane : Bool) (bs : List Nat) (r : Nat) : Int :=
  if fmt = 0 then t5Weight bs r
  else if fmt = 1 then b1Weight bs r
  else if plane then wPlaneWeight fmt bs r
  else wElemWeight fmt bs r

/-- How a format code holds its weights. -/
def kindOfFmt (fmt : Nat) : WKind := if fmt = 0 then .t5 else if fmt = 1 then .b1 else .wide fmt

/-- R105: a tile put into SHADOW; a tile that no pass has swapped in is discarded and counted. -/
def State.putShadow (s : State) (c : PlateCmd) (t : Tile) : State :=
  let s1 := if (s.plate c.plate).reload.isSome && (s.plate c.plate).shadow.isSome then (s.dens c.plate 8 1).wasteLoad c.plate else s
  s1.setPlate c.plate { s1.plate c.plate with shadow := some t, reload := some c }

/-- First T5 byte of a tile that is invalid: its tray offset and value (R40). -/
def firstBadTrit (cols : List (Nat × List Nat)) : Option (Nat × Nat) :=
  cols.findSome? (fun col =>
    ((List.range col.2.length).find? (fun i => t5Invalid (col.2.getD i 0))).map (fun i => (col.1 + i, col.2.getD i 0)))

/-- GRAIN_LOAD (R72, R98). A GROUPED tile of more than 128 rows faults with ST_META_FAULT, PLANE with T5 or B1 with ST_CMD_INVALID, and
GSIZE is ignored while GROUPED is clear: the spec gives none of the three. [DESIGN CHOICE, log entry 77] -/
def grainLoadBody (c : PlateCmd) (s : State) : Except Stop State := do
  let p := c.plate
  let fmt := c.bits 16 0 5
  let plane := decide (c.bits 16 5 1 = 1)
  let grouped := decide (c.bits 16 6 1 = 1)
  let gs := c.le 17 1
  let k := c.kRows
  let n := c.cols
  need s (decide (1 ≤ k ∧ k ≤ 160 ∧ 1 ≤ n ∧ n ≤ 256 ∧ fmt ≤ 16 ∧ c.trayAddr % 16 = 0 ∧ c.trayAddr < trayWin))
  need s (!plane || decide (2 ≤ fmt))
  if grouped && decide (fmt < 2 ∨ 8 < fmt ∨ gs = 0 ∨ 3 < gs ∨ 128 < k) then faultWith s stMetaFault
  else
    let stride := if c.le 18 2 = 0 then (if fmt = 0 then 32 else if fmt = 1 then 20 else 20 * fmt) else c.le 18 2
    let len := colBytesRead fmt plane k
    let cols ← (List.range n).mapM (fun j => do
      let bs ← s.trayRead .grain p (c.trayAddr + j * stride) len
      .ok (c.trayAddr + j * stride, bs))
    match (if fmt = 0 then firstBadTrit cols else none) with
    | some (o, v) => .error (.fault s stTritInvalid stTritInvalid 0 v (trayAddr p o))
    | none =>
      let gsize := if grouped then 16 * 2 ^ gs else 0
      let gm ← if grouped then
          (List.range n).mapM (fun j => s.trayRead .grain p (c.le 20 4 + j * c.le 24 2) (128 / gsize))
        else .ok []
      let ws := cols.map (fun col => (List.range k).map (colWeight fmt plane col.2))
      let t : Tile :=
        { kind := kindOfFmt fmt, kRows := k, cols := n, weights := ws, gsize := gsize, gmult := gm,
          strips := stripPlans (kindOfFmt fmt) (decide (s.get fPLATE_GRAIN_CFG_ZERO_SKIP p 0 = 1))
            (decide (s.get fPLATE_GRAIN_CFG_SIGNX_SKIP p 0 = 1)) ws }
      let gReads := if grouped then (List.range n).map (fun j => (c.le 20 4 + j * c.le 24 2, 128 / gsize)) else []
      .ok ((s.noteReads p (cols.map (fun col => (col.1, len)) ++ gReads)).putShadow c t)

/-- GRAIN_LOAD_KEYS (R80, R100): key `j` becomes column `j`. -/
def grainLoadKeysBody (c : PlateCmd) (s : State) : Except Stop State := do
  let p := c.plate
  let f := c.le 16 1
  let k := c.kRows
  let n := c.cols
  need s (decide (1 ≤ k ∧ k ≤ 160 ∧ 1 ≤ n ∧ n ≤ 256 ∧ f ≤ 1 ∧ c.trayAddr % 16 = 0 ∧ c.trayAddr < trayWin ∧ c.le 18 2 % 16 = 0))
  let len := if f = 0 then k else ceilDiv k 2
  let cols ← (List.range n).mapM (fun j => s.trayRead .grain p (c.trayAddr + j * c.le 18 2) len)
  let ws := cols.map (fun bs => (List.range k).map (fun d => if f = 0 then a8Code (bs.getD d 0) else a4Code bs d))
  let kind : WKind := .wide (if f = 0 then 8 else 4)
  let t : Tile :=
    { kind := kind, kRows := k, cols := n, weights := ws, gsize := 0, gmult := [],
      strips := stripPlans kind (decide (s.get fPLATE_GRAIN_CFG_ZERO_SKIP p 0 = 1))
        (decide (s.get fPLATE_GRAIN_CFG_SIGNX_SKIP p 0 = 1)) ws }
  .ok ((s.noteReads p ((List.range n).map (fun j => (c.trayAddr + j * c.le 18 2, len)))).putShadow c t)

/-! ### Groups (R86, R88, R96, R97) -/

/-- Packed number of 40-bit or packed group `g`. -/
def groupKey (packed : Bool) (g : Nat) : Nat := if packed then g else 2 * g
/-- Groups of a tile of `rows` rows from FIRST (R86). -/
def groupKeys (packed : Bool) (first rows : Nat) : List Nat :=
  (List.range (ceilDiv rows 16)).map (fun i => groupKey packed (first + i))
/-- The open group at a packed number. -/
def Plate.group (x : Plate) (key : Nat) : Option Group := smapGet (fun _ => none) key x.groups
/-- A group of a plate set, opened or released. -/
def Plate.setGroup (x : Plate) (key : Nat) (g : Option Group) : Plate :=
  { x with groups := smapSet (fun _ => none) key g x.groups }
/-- R96: ROWS and FIRST in range, and the groups within the accumulator. -/
def groupsInRange (c : PlateCmd) : Bool :=
  decide (1 ≤ c.rows ∧ c.rows ≤ (if c.packed then 512 else 256) ∧
    c.first + ceilDiv c.rows 16 ≤ (if c.packed then 32 else 16))
/-- R97: every group a command names is open, in its mode. -/
def groupsOpen (x : Plate) (c : PlateCmd) : Bool :=
  (groupKeys c.packed c.first c.rows).all (fun k => match x.group k with
    | some g => g.packed == c.packed
    | none => false)
/-- Storage of the groups a command names, as packed-number bits. -/
def groupsMask (c : PlateCmd) : Nat :=
  (groupKeys c.packed c.first c.rows).foldl (fun m k => m ||| groupMask c.packed k) 0
/-- Open 40-bit groups' worth of storage in a mask of packed halves (R265). -/
def storage40 (m : Nat) : Nat :=
  ((List.range 16).filter (fun g => m.testBit (2 * g) || m.testBit (2 * g + 1))).length
/-- R265: groups a save slot of the plate's partition holds; 16 where the plate is in none. -/
def State.saveGroups (s : State) (p : Nat) : Nat :=
  match s.partOfPlate p with
  | some n => s.get fPART_SCHED_SAVE_GROUPS n 0
  | none => 16

/-- ACC_OPEN (R88, R101). -/
def accOpenBody (c : PlateCmd) (s : State) : Except Stop State := do
  let x := s.plate c.plate
  need s (groupsInRange c)
  need s (decide (openMask x.groups &&& groupsMask c = 0))
  need s (decide (storage40 (openMask x.groups ||| groupsMask c) ≤ s.saveGroups c.plate))
  let g : Group := { packed := c.packed, n := 32 * 2 ^ c.bits 16 0 2, narrow := [], wide := [], strips := [] }
  .ok (s.setPlate c.plate ((groupKeys c.packed c.first c.rows).foldl (fun y k => y.setGroup k (some g)) x))

/-- Releasing the groups a command names (R88). -/
def releaseGroups (x : Plate) (c : PlateCmd) : Plate :=
  (groupKeys c.packed c.first c.rows).foldl (fun y k => y.setGroup k none) x

/-- ACC_CLOSE (R88, R101). -/
def accCloseBody (c : PlateCmd) (s : State) : Except Stop State := do
  need s (groupsInRange c)
  need s (groupsOpen (s.plate c.plate) c)
  .ok (s.setPlate c.plate (releaseGroups (s.plate c.plate) c))

/-! ### Narrow accumulation and promotion (R81–R85) -/

/-- No contribution yet. -/
def Narrow.zero : Narrow := { val := 0, ovf := none }
/-- A strip's count and tag before any contribution. -/
def StripAcc.zero : StripAcc := { count := 0, tag := 0 }
/-- Bits of a group's wide entries. -/
def Group.width (g : Group) : Nat := if g.packed then 20 else 40

/-- R82: promotion of one entry: the wide code after it, and whether it created a special code. -/
def promoteEntry (w shift : Nat) (e : Narrow) (raw : Nat) : Nat × Bool :=
  let old := wideDecode w raw
  let new := widePromote w old (narrowPromoted e shift)
  (wideEncode w new, wideSpecial new && decide (new ≠ old))

/-- R107: row slots that the promotion of one (group, strip) passes: the 16 of the group. [DEDUCED, log entry 14] -/
def stripSlots : Nat := 16

/-- R82: promotion of every narrow entry of a strip: the group after it and the special codes created. [DEDUCED, log entry 14] -/
def promoteStrip (g : Group) (st : Nat) : Group × Nat :=
  let acc := smapGet (fun _ => StripAcc.zero) st g.strips
  if acc.count = 0 then (g, 0)
  else
    let keys := (List.range 512).map (fun i => i / 32 * 256 + 32 * st + i % 32)
    let r := keys.foldl (fun (a : SMap Nat × Nat) k =>
      let e := smapGet (fun _ => Narrow.zero) k g.narrow
      if e = Narrow.zero then a
      else
        let q := promoteEntry g.width acc.tag e (smapGet (fun _ => 0) k a.1)
        (smapSet (fun _ => 0) k q.1 a.1, if q.2 then a.2 + 1 else a.2)) (g.wide, 0)
    ({ g with wide := r.1,
              narrow := keys.foldl (fun m k => smapErase k m) g.narrow,
              strips := smapSet (fun _ => StripAcc.zero) st StripAcc.zero g.strips }, r.2)

/-- R82: promotion of all eight strips of a group. -/
def promoteGroup (g : Group) : Group × Nat :=
  (List.range 8).foldl (fun (a : Group × Nat) st =>
    let r := promoteStrip a.1 st
    (r.1, a.2 + r.2)) (g, 0)

/-- Counters of a plate after promotions: row slots promoted and special codes created (R107). -/
def State.notePromotion (s : State) (p slots poison : Nat) : State := (s.dens p 6 slots).dens p 7 poison

/-- Promotion of the groups a command names, on a plate (R82 (c)). -/
def promoteNamed (x : Plate) (keys : List Nat) : Plate × Nat :=
  keys.foldl (fun (a : Plate × Nat) k => match a.1.group k with
    | some g => let r := promoteGroup g; (a.1.setGroup k (some r.1), a.2 + r.2)
    | none => a) (x, 0)

/-- ACC_PROMOTE (R82, R101). -/
def accPromoteBody (c : PlateCmd) (s : State) : Except Stop State := do
  need s (groupsInRange c)
  need s (groupsOpen (s.plate c.plate) c)
  let r := promoteNamed (s.plate c.plate) (groupKeys c.packed c.first c.rows)
  .ok ((s.setPlate c.plate r.1).notePromotion c.plate c.rows r.2)

/-- R70, R72: one column's contribution of a row of activations for a plane of the tile. [DEDUCED, log entry 15] -/
def contribution (t : Tile) (pl col : Nat) (a : List Int) : Int :=
  let w := t.weights.getD col []
  let term (r : Nat) : Int :=
    match t.kind with
    | .wide b => if planeBit b pl (w.getD r 0) then (if pl = b - 1 then -(a.getD r 0) else a.getD r 0) else 0
    | _ => w.getD r 0 * a.getD r 0
  if t.gsize = 0 then (List.range (min t.kRows w.length)).foldl (fun x r => x + term r) 0
  else (List.range (min t.kRows w.length)).foldl (fun x r =>
    x + term r * (((t.gmult.getD col []).getD (r / t.gsize) 0 : Nat) : Int)) 0

/-- R81, R82: one plane of one strip delivered into a group: promotion first when the tag differs, the sums added to
the slots the rows fill, the count advanced, promotion at the interval. Gives the group, special codes created, and the row slots
promoted. -/
def deliverPlane (t : Tile) (g : Group) (st pl shift : Nat) (rows : List (Nat × List Int)) : Group × Nat × Nat :=
  let acc := smapGet (fun _ => StripAcc.zero) st g.strips
  let early := decide (0 < acc.count ∧ acc.tag ≠ shift)
  let pre := if early then promoteStrip g st else (g, 0)
  let g0 := pre.1
  let slots := if early then stripSlots else 0
  let cnt := (smapGet (fun _ => StripAcc.zero) st g0.strips).count + 1
  let narrow := rows.foldl (fun m row =>
    (List.range 32).foldl (fun m' j =>
      let col := 32 * st + j
      let v := if col < t.cols then contribution t pl col row.2 else 0
      let k := row.1 * 256 + col
      smapSet (fun _ => Narrow.zero) k (narrowAdd (smapGet (fun _ => Narrow.zero) k m') v) m') m) g0.narrow
  let g1 := { g0 with narrow := narrow,
                      strips := smapSet (fun _ => StripAcc.zero) st { count := cnt, tag := shift } g0.strips }
  if cnt = g0.n then let r := promoteStrip g1 st; (r.1, pre.2 + r.2, slots + stripSlots) else (g1, pre.2, slots)

/-- A pass's rows into one group: every strip runs its active planes over the group's rows (R76). [DEDUCED, log entry 15] -/
def passGroup (t : Tile) (g : Group) (rows : List (Nat × List Int)) : Group × Nat × Nat :=
  (List.range 8).foldl (fun (a : Group × Nat × Nat) st =>
    (t.strips.getD st ⟨[], 0⟩).planes.foldl (fun (b : Group × Nat × Nat) pl =>
      let r := deliverPlane t b.1 st pl.1 pl.2 rows
      (r.1, b.2.1 + r.2.1, b.2.2 + r.2.2)) a) (g, 0, 0)

/-- A whole pass into the groups from FIRST (R86: row i uses group FIRST + ⌊i / 16⌋, slot i mod 16). [DEDUCED, log entry 14] -/
def passRows (t : Tile) (x : Plate) (packed : Bool) (first : Nat) (rows : List (List Int)) : Plate × Nat × Nat :=
  (List.range (ceilDiv rows.length 16)).foldl (fun (a : Plate × Nat × Nat) i =>
    let k := groupKey packed (first + i)
    match a.1.group k with
    | none => a
    | some g =>
      let part := (rows.drop (16 * i)).take 16
      let r := passGroup t g ((List.range part.length).map (fun j => (j, part.getD j [])))
      (a.1.setGroup k (some r.1), a.2.1 + r.2.1, a.2.2 + r.2.2)) (x, 0, 0)

/-- R106: tray offset of decode table `tbl`: A4G_BASE + 16 × TABLE; register bits [11:8], the low four of the offset, are ignored. -/
def State.a4gAt (s : State) (p tbl : Nat) : Nat := s.get fPLATE_GRAIN_CFG_A4G_BASE p 0 / 16 * 16 + 16 * tbl

/-- R168: the tray bytes that decode table `tbl` takes. -/
def State.a4gReads (s : State) (p tbl : Nat) : List (Nat × Nat) := if tbl = 0 then [] else [(s.a4gAt p tbl, 16)]

/-- R45, R106: a plate's decode table: the built-in grid, or 16 bytes of its tray. -/
def State.a4gTable (s : State) (p tbl : Nat) : Except Stop (List Int) :=
  if tbl = 0 then .ok g16Table
  else
    let o := s.a4gAt p tbl
    if o + 16 > trayWin then .error (.fault s stCmdInvalid stRangeFault 0 0 (trayAddr p o))
    else (s.trayRead .grain p o 16).map a4gTableOf

/-- Codes of one activation row (R44, R45, R71). -/
def rowCodes (afmt k : Nat) (tbl : List Int) (bs : List Nat) : List Int :=
  (List.range k).map (fun i =>
    if afmt = 0 then a8Code (bs.getD i 0)
    else if afmt = 1 then a4Code bs i
    else tbl.getD (nibbleAt bs i) 0)

/-- GRAIN_PASS (R69–R77, R99). -/
def grainPassBody (c : PlateCmd) (s : State) : Except Stop State := do
  let p := c.plate
  let x := s.plate p
  let afmt := c.bits 16 0 2
  let swap := decide (c.bits 17 0 1 = 1)
  let stride := c.le 18 2
  need s (groupsInRange c)
  need s (decide (1 ≤ c.kRows ∧ c.kRows ≤ 160 ∧ afmt ≤ 2 ∧ c.trayAddr % 16 = 0 ∧ c.trayAddr < trayWin ∧ stride % 16 = 0))
  need s (c.packed == decide (afmt = 1))
  need s (groupsOpen x c)
  need s (swap || !x.boundary)
  let active := if swap then x.shadow else x.active
  match active with
  | none => faultWith s stCmdInvalid
  | some t =>
    need s (decide (t.kRows = c.kRows))
    let tbl ← if afmt = 2 then s.a4gTable p (c.bits 16 2 4) else .ok []
    let len := if afmt = 0 then c.kRows else ceilDiv c.kRows 2
    let rows ← (List.range c.rows).mapM (fun i => s.trayRead .grain p (c.trayAddr + i * stride) len)
    let r := passRows t x c.packed c.first (rows.map (rowCodes afmt c.kRows tbl))
    let after := if c.bits 17 1 1 = 1 then promoteNamed r.1 (groupKeys c.packed c.first c.rows) else (r.1, 0)
    let y := { after.1 with active := active, reload := if swap then none else x.reload, boundary := c.lastInTile }
    let skipped := t.strips.foldl (fun n q => n + q.skipped) 0
    let reads := (if afmt = 2 then s.a4gReads p (c.bits 16 2 4) else []) ++ (List.range c.rows).map (fun i => (c.trayAddr + i * stride, len))
    .ok (((((s.noteReads p reads).setPlate p y).dens p 5
      skipped).notePromotion p (r.2.2 + if c.bits 17 1 1 = 1 then c.rows else 0) (r.2.1 + after.2)))

/-! ### Drain (R90, R91, R102) -/

/-- The wide value of row `i`, column `j` of a command's groups. -/
def wideAt (x : Plate) (packed : Bool) (first i j : Nat) : Wide :=
  match x.group (groupKey packed (first + i / 16)) with
  | some g => wideDecode g.width (smapGet (fun _ => 0) (i % 16 * 256 + j) g.wide)
  | none => .fin 0

/-- R90: one drained value: rescaled, with the addends enabled. -/
def drainValue (v : Wide) (sa k : Nat) (folded : Bool) (burn lr : Option Nat) : Nat :=
  let y0 := fmul (wideToFp32 v) sa
  let y1 := if folded then y0 else fmul y0 k
  let y2 := match burn with
    | some b => fadd y1 b
    | none => y1
  match lr with
    | some b => fadd y2 b
    | none => y2

/-- Bytes of one value in the drain's output format: BF16, FP32 or FP16. -/
def outBytes (ofmt y : Nat) : List Nat :=
  if ofmt = 0 then leBytes 2 (fconv fp32 bf16 y) else if ofmt = 1 then leBytes 4 y else leBytes 2 (fconv fp32 fp16 y)

/-- R168: the tray bytes that a drain reads, by its record's fields. -/
def drainReads (c : PlateCmd) (dr : Nat) (f : Nat → Nat → Nat) : List (Nat × Nat) :=
  let on (b : Nat) : Bool := decide (c.bits 16 b 1 = 1)
  [(dr, 64)] ++ (if on 2 then [] else [(f 0 4, (if f 10 1 % 2 = 1 then 2 else 4) * c.cols)]) ++
  ((List.range c.rows).map (fun i => [(f 4 4 + i * f 8 2, 4)] ++ (if on 3 then [(f 16 4 + i * f 24 2, 4 * c.cols)] else []) ++
    (if on 4 then [(f 20 4 + i * f 24 2, 4 * c.cols)] else []) ++ (if on 5 && !on 6 then [(f 12 4 + 4 * i, 4)] else []))).flatten

/-- ACC_DRAIN (R90, R91, R102). -/
def accDrainBody (c : PlateCmd) (s : State) : Except Stop State := do
  let p := c.plate
  let ofmt := c.bits 16 0 2
  let folded := decide (c.bits 16 2 1 = 1)
  let burnOn := decide (c.bits 16 3 1 = 1)
  let lrOn := decide (c.bits 16 4 1 = 1)
  let rowmax := decide (c.bits 16 5 1 = 1)
  let rminit := decide (c.bits 16 6 1 = 1)
  let ostride := c.le 18 2
  let dr := c.le 20 4
  need s (groupsInRange c)
  need s (decide (1 ≤ c.cols ∧ c.cols ≤ 256 ∧ ofmt ≤ 2 ∧ c.trayAddr % 16 = 0 ∧ c.trayAddr < trayWin ∧ ostride % 16 = 0 ∧ dr % 64 = 0))
  need s (groupsOpen (s.plate p) c)
  let rec_ ← s.trayRead .grain p dr 64
  let f (i n : Nat) : Nat := ofLe ((rec_.drop i).take n)
  let bf := decide (f 10 1 % 2 = 1)
  need s (decide (f 4 4 % 4 = 0 ∧ f 12 4 % 4 = 0 ∧ f 16 4 % 4 = 0 ∧ f 20 4 % 4 = 0 ∧ f 0 4 % (if bf then 2 else 4) = 0 ∧
    f 8 2 % 4 = 0 ∧ f 24 2 % 16 = 0))
  let pr := promoteNamed (s.plate p) (groupKeys c.packed c.first c.rows)
  let ks ← if folded then .ok [] else
    (List.range c.cols).mapM (fun j => do
      if bf then
        let v ← s.trayLe .grain p (f 0 4 + 2 * j) 2
        .ok (fconv bf16 fp32 v)
      else s.trayLe .grain p (f 0 4 + 4 * j) 4)
  let s0 := (s.noteReads p (drainReads c dr f)).setPlate p pr.1
  let s1 ← (List.range c.rows).foldlM (fun t i => do
    let sa ← t.trayLe .grain p (f 4 4 + i * f 8 2) 4
    let ys ← (List.range c.cols).mapM (fun j => do
      let b ← if burnOn then (t.trayLe .grain p (f 16 4 + i * f 24 2 + 4 * j) 4).map some else .ok none
      let l ← if lrOn then (t.trayLe .grain p (f 20 4 + i * f 24 2 + 4 * j) 4).map some else .ok none
      .ok (drainValue (wideAt pr.1 c.packed c.first i j) sa (ks.getD j fone) folded b l))
    let t1 ← t.trayPut .grain p (c.trayAddr + i * ostride) ((ys.map (outBytes ofmt)).flatten)
    if rowmax then
      let old ← if rminit then .ok 0 else t1.trayLe .grain p (f 12 4 + 4 * i) 4
      let m := (List.range c.cols).foldl (fun a j =>
        if (f 32 32).testBit j then a else fmaxFold a (ys.getD j 0)) old
      t1.trayPut .grain p (f 12 4 + 4 * i) (leBytes 4 m)
    else .ok t1) s0
  .ok ((s1.setPlate p (releaseGroups (s1.plate p) c)).notePromotion p c.rows pr.2)

/-! ### Quantisation (R92, R103) -/

/-- R92: the absmax of row `i`: the largest of its entries, or NaN if any is NaN. -/
def maxEntry (xs : List Nat) : Nat :=
  if xs.any (fun x => visNan (fdecode fp32 x)) then fnan
  else xs.tail.foldl (fun a x => if flt a x then x else a) (xs.headD 0)

/-- R64: quantiser `who` of partition `n` is bound to a stream; a binding to a stream that another quantiser of the partition has at the
same time is logged, once. A plate command's quantiser is bound for the exposure, a request's sampling for the request's life.
[DESIGN CHOICE, log entry 17] -/
def State.bindStream (s : State) (n stream who : Nat) (e : Ev) : State :=
  let x := s.prt n
  if stream = 0 ∨ 16 ≤ n ∨ (stream, who) ∈ x.bound then s
  else
    let s1 := s.setPrt n { x with bound := x.bound ++ [(stream, who)] }
    if x.bound.any (fun b => decide (b.1 = stream ∧ b.2 ≠ who)) then
      s1.log { e with code := 0x0601, kind := 5, part := n, expo := s.get fPART_EXPO_NOW_EXPO n 0, detail := leBytes 4 stream } else s1

/-- The quantiser of a plate command, as R64 tells it from others: its plate and position. -/
def quantiserOf (c : PlateCmd) : Nat := 2 * (c.plate * 2 ^ 32 + c.index) + 1
/-- The sampling of the request in slot `q`. -/
def samplerOf (q : Nat) : Nat := 2 * q

/-- R103: the code format that FMT names. -/
def State.codeFmt (s : State) (p fmt tbl : Nat) : Except Stop CodeFmt :=
  if fmt = 0 then .ok .a8 else if fmt = 1 then .ok .a4 else (s.a4gTable p tbl).map .a4g

/-- ACC_QUANT (R92, R103). The log of a bad clip (R53) names the layer by the command's index in DETAIL, since the command carries no layer
number. [DESIGN CHOICE, log entry 77] -/
def accQuantBody (c : PlateCmd) (s : State) : Except Stop State := do
  let p := c.plate
  let n := s.ownerOf p
  let dstride := c.le 2 2
  let dest := c.le 16 4
  let scale := c.le 20 4
  let clip := c.le 24 4
  let stream := c.le 28 3
  let fmt := c.bits 31 0 2
  let static := decide (c.bits 31 2 1 = 1)
  need s (decide (1 ≤ c.rows ∧ c.rows ≤ 256 ∧ 1 ≤ c.kRows ∧ c.kRows ≤ 128 ∧ 1 ≤ c.cols ∧ c.cols ≤ 256 ∧ fmt ≤ 2 ∧
    c.trayAddr % 16 = 0 ∧ c.trayAddr < trayWin ∧ dstride % 16 = 0 ∧ dest % 16 = 0 ∧ scale % 16 = 0 ∧ dest < trayWin ∧ scale < trayWin))
  need s (decide (fmt = 0 ∨ c.cols % 2 = 0))
  let cf ← s.codeFmt p fmt (c.bits 31 3 4)
  let stride := roundUp (2 * c.cols) 64
  let vecs := c.trayAddr + c.rows * stride
  let key := (s.prt n).rngKey
  let ctr := s.streamCtr n stream
  let reads := (if fmt = 2 then s.a4gReads p (c.bits 31 3 4) else []) ++ (List.range c.rows).map (fun i => (c.trayAddr + i * stride, 2 * c.cols)) ++
    ((List.range c.rows).map (fun i => (List.range c.kRows).map (fun v => (vecs + v * c.rows * 4 + 4 * i, 4)))).flatten
  let r ← (List.range c.rows).foldlM (fun (a : State × Nat) i => do
    let bs ← a.1.trayRead .grain p (c.trayAddr + i * stride) (2 * c.cols)
    let mx ← (List.range c.kRows).mapM (fun v => a.1.trayLe .grain p (vecs + v * c.rows * 4 + 4 * i) 4)
    let xs := (List.range c.cols).map (fun j => fdecode bf16 (ofLe ((bs.drop (2 * j)).take 2)))
    let q := quantRow cf static clip (maxEntry mx) xs (fun j =>
      if stream = 0 then none else some (streamDraw key stream ctr (i * c.cols + j)))
    let codes := if fmt = 0 then q.codes else packNibbles q.codes
    let t1 ← a.1.trayPut .grain p (dest + i * dstride) codes
    let t2 ← t1.trayPut .grain p (scale + i * dstride) (leBytes 4 q.scale)
    .ok (t2, a.2 + q.sats)) (s.noteReads p reads, 0)
  let s1 := (r.1.dens p 9 r.2).advanceStream n stream (c.rows * c.cols)
  let s2 := s1.bindStream n stream (quantiserOf c) { code := 0, die := dieOfPlate p, unit := 0, inst := p }
  .ok (if static && decide (clipOf clip = .inf false) then
    s2.log { code := 0x8AFF, die := dieOfPlate p, unit := 0, inst := p, part := n, expo := s.get fPART_EXPO_NOW_EXPO n 0, detail := leBytes 4 c.index } else s2)

/-- R104: the 8-byte word of ACC_DEBUG_READ for row slot `i`, column `j`. -/
def debugWord (x : Plate) (packed : Bool) (first i j : Nat) : Nat :=
  match x.group (groupKey packed (first + i / 16)) with
  | some g =>
    smapGet (fun _ => 0) (i % 16 * 256 + j) g.wide +
      unsignedOf (smapGet (fun _ => Narrow.zero) (i % 16 * 256 + j) g.narrow).val 24 * 2 ^ 40
  | none => 0

/-- ACC_DEBUG_READ (R88, R104): ignored and logged while ACC_VISIBLE is 0. -/
def accDebugReadBody (c : PlateCmd) (s : State) : Except Stop State :=
  let p := c.plate
  if s.get fPLATE_DEBUG_ACC_VISIBLE p 0 = 0 then
    .ok (s.log { code := 0x8202, die := dieOfPlate p, unit := 0, inst := p, part := s.ownerOf p, expo := s.get fPART_EXPO_NOW_EXPO (s.ownerOf p) 0 })
  else do
    need s (groupsInRange c)
    need s (decide (c.trayAddr % 16 = 0 ∧ c.trayAddr < trayWin))
    need s (groupsOpen (s.plate p) c)
    (List.range (16 * ceilDiv c.rows 16)).foldlM (fun t i =>
      t.trayPut .grain p (c.trayAddr + i * 2048)
        ((List.range 256).map (fun j => leBytes 8 (debugWord (s.plate p) c.packed c.first i j))).flatten) s

end Sys2Proof.Machine
end

