-- ==== Sys2Proof/Machine/Records.lean ====
section
/-! DEFINITION. Records: rings as the engine's units use them: which partition a ring belongs to, the E fields of its
ring table entry, and placing a completion record (R275, R276, R291–R296). -/

namespace Sys2Proof.Machine

/-- R275: the existing partition whose ring range holds ring `r`. -/
def State.partOfRing (s : State) (r : Nat) : Option Nat :=
  (List.range 16).find? (fun n => s.exists_ n &&
    decide (s.get fPART_RINGS_FIRST n 0 ≤ r ∧ r < s.get fPART_RINGS_FIRST n 0 + s.get fPART_RINGS_COUNT n 0))

/-- Rings of partition `n` that are not in their initial state. -/
def State.partRings (s : State) (n : Nat) : List Nat := (s.rings.map Prod.fst).filter (fun r => decide (s.partOfRing r = some n))

/-- R276: address of a ring's table entry. -/
def State.ringEntry (s : State) (r : Nat) : Nat := s.g fRING_TABLE_ADDR + r * 64

/-- R276: the E fields, bytes 32–49 of a ring's table entry, and the reserved ones after them. -/
def ringEBytes (x : Ring) : List Nat :=
  leBytes 4 x.sqHead ++ leBytes 4 x.cqTail ++ leBytes 4 x.sqTailSeen ++ leBytes 4 x.cqHeadSeen ++ [x.state, x.err] ++ List.replicate 14 0

/-! ### The ring unit's own messages (R28, R33, R34) -/

/-- R28, R29: may a CONTROL message of `cells` cells start at once between die `d` and ZD, in the given direction? -/
def State.ctlOpen (s : State) (d : Nat) (up : Bool) (cells : Nat) : Bool :=
  match s.moduleFor (1 + d) 0 0 with
  | none => false
  | some k =>
    let l := s.lane (1 + d) k up
    !l.retraining && !l.outbox.any (fun m => !m.delivered && decide (m.hdr.cls = 0)) && decide (cells ≤ l.credit 0)

/-- R33: the header of a ring unit's message: CONTROL, with SYS. -/
def sysHdr (typ len addr word : Nat) : UcieHdr :=
  { typ := typ, flags := 8, len := len, cls := 0, part := 0, tag := (Config.ringTag addr).toNat, addr := addr, word := word }

/-- A CONTROL message between die `d` and ZD, delivered at once. [DESIGN CHOICE, log entry 31] -/
def State.sendCtl (s : State) (d : Nat) (up : Bool) (h : UcieHdr) (bs : List Nat) : State :=
  s.emit (.ucie (1 + d) ((s.moduleFor (1 + d) 0 0).getD 0) up h (toBytes bs))

/-- R33, R34: the ring unit of die `d` writes ZD's memory with WR, which WR_ACK answers; while the link cannot take the message it waits
behind the earlier ones. [DESIGN CHOICE, log entry 31] -/
def State.sysWrite (s : State) (d a : Nat) (bs : List Nat) : State :=
  let n := bs.length / 16
  if s.ctlHeld.any (fun e => decide (e.1 = d)) || !s.ctlOpen d true (1 + n) || !s.ctlOpen d false 1 then
    { s with ctlHeld := s.ctlHeld ++ [(d, a, bs)] }
  else ((s.sendCtl d true (sysHdr 3 n a (crc32c bs)) bs).write a bs).sendCtl d false (sysHdr 4 0 a 0) []

/-- Writes of the ring units that waited for a link are made where the link takes them again. -/
def State.flushCtl (s : State) : State := s.ctlHeld.foldl (fun t e => t.sysWrite e.1 e.2.1 e.2.2) { s with ctlHeld := [] }

/-- The die whose ring unit serves a ring (R34). -/
def State.ringDie (s : State) (r : Nat) : Nat := s.homeDie ((s.partOfRing r).getD 0)

/-- A ring's run-time state replaced, and its E fields written to the table entry where that lies below the tag
store (R277). -/
def State.putRing (s : State) (r : Nat) (x : Ring) : State :=
  let s1 := s.setRing r x
  if s.inReserved (s.ringEntry r) 64 then s1.sysWrite (s.ringDie r) (s.ringEntry r + 32) (ringEBytes x) else s1

/-- R291: a descriptor handed on or completed: SQ_HEAD and the ring's count advance. -/
def State.consume (s : State) (r : Nat) : State :=
  let x := s.ring r
  s.putRing r { x with sqHead := (x.sqHead + 1) % 2 ^ 32, handed := x.handed + 1 }

/-- Counter block of the home die's ring unit (R306, R475). -/
def State.ringBlock (s : State) (r : Nat) : Nat := 160 + s.homeDie ((s.partOfRing r).getD 0)

/-- A ring stops (R281, R282, R295): STOPPED with its cause, logged as ST_RING_STOPPED. -/
def State.stopRing (s : State) (r err : Nat) : State :=
  (s.putRing r { s.ring r with state := 2, err := err }).log
    { code := 0x0107, kind := 2, die := s.homeDie ((s.partOfRing r).getD 0), unit := 8, inst := (s.partOfRing r).getD 0,
      part := (s.partOfRing r).getD 0xFF, detail := leBytes 4 r ++ [err] }

/-- R292: the 32 bytes of a completion record. -/
def recordBytes (reqId status flags token0 token1 time expo : Nat) : List Nat :=
  leBytes 8 reqId ++ leBytes 2 status ++ leBytes 2 flags ++ leBytes 4 token0 ++ leBytes 4 token1 ++ leBytes 8 time ++
  leBytes 4 expo

/-- No token (R292). -/
def noToken : Nat := 0xFFFFFFFF

/-- R291, R295: a record that is dropped; a dropped FINAL record counts as written. -/
def State.dropRecord (s : State) (r flags : Nat) : State :=
  let x := s.ring r
  let x' := if flags % 2 = 1 then { x with finals := x.finals + 1 } else x
  (s.setRing r x').dens (s.ringBlock r) 6 1

/-- R403: a record whose write is uncorrectable is lost: MEM_UE, and the ring stops with ERR = UE. -/
def State.recordLost (s : State) (r flags line : Nat) : State :=
  let n := (s.partOfRing r).getD 0xFF
  let s1 := (s.dropRecord r flags).log { code := 0x8404, kind := 2, die := 2, unit := 12, part := n, addr := line, detail := leBytes 2 stDrawerUe }
  (s1.setRing r { s1.ring r with recordUe := true }).stopRing r 3

/-- R416: does a ring belong to a FENCED partition, which writes no record? -/
def State.fencedRing (s : State) (r : Nat) : Bool := (s.partOfRing r).any (fun n => decide (s.get fPART_PAIR_STAT_STATE n 0 = 5))

/-- R293–R296, R416: a record placed at the ring's next index, or dropped; a record that does not fit stops the ring; a FENCED partition
writes none. [DEDUCED, log entry 34] -/
def State.placeRecord (s : State) (r reqId status flags token0 token1 time expo : Nat) : State :=
  let x := s.ring r
  if s.fencedRing r then s
  else if x.state = 0 ∨ (x.state = 2 ∧ (x.err = 2 ∨ x.recordUe)) then s.dropRecord r flags
  else if (x.cqTail + 2 ^ 32 - x.cqHeadSeen) % 2 ^ 32 < 2 ^ x.cqLog2 then
    let a := x.cqBase + x.cqTail % 2 ^ x.cqLog2 * 32
    match s.badWriteLine a 32 with
    | some l => s.recordLost r flags l
    | none =>
    let s1 := s.sysWrite (s.ringDie r) a (recordBytes reqId status (flagsWithPhase flags x.cqTail x.cqLog2) token0 token1 time expo)
    let x' := { x with cqTail := (x.cqTail + 1) % 2 ^ 32, finals := if flags % 2 = 1 then x.finals + 1 else x.finals }
    (s1.putRing r x').dens (s.ringBlock r) 5 1
  else (s.dropRecord r flags).stopRing r 2

/-- A record written at once, outside any commit (R294): stamped now, EXPO from PART_EXPO_NOW. -/
def State.recordNow (s : State) (r reqId status token1 : Nat) : State :=
  let n := (s.partOfRing r).getD 0
  s.placeRecord r reqId status flagFinal noToken token1 (s.nowDie (s.homeDie n)) (s.get fPART_EXPO_NOW_EXPO n 0)

/-! ### The intake queue (R289, R305) -/

/-- Differences of free-running 32-bit counts (R281). -/
def sub32 (a b : Nat) : Nat := (a + 2 ^ 32 - b % 2 ^ 32) % 2 ^ 32

/-- Is the intake queue of a partition full (R289)? [DEDUCED, log entry 32] -/
def State.intakeFull (s : State) (n : Nat) : Bool :=
  decide (2 ^ s.get fPART_INTAKE_LOG2 n 0 ≤ sub32 (s.get fPART_INTAKE_IDX_TAIL n 0) (s.get fPART_INTAKE_IDX_HEAD n 0))

/-- Address of entry `i` of the intake queue, a free-running number. -/
def State.intakeAt (s : State) (n i : Nat) : Nat := s.get fPART_INTAKE_BASE n 0 + i % 2 ^ s.get fPART_INTAKE_LOG2 n 0 * 64

/-- GENERATE and EMBED descriptors of a ring with a request ID that wait in the intake queue, unanswered, by number. -/
def State.waitingFor (s : State) (n r id : Nat) : List Nat :=
  let h := s.get fPART_INTAKE_IDX_HEAD n 0
  ((List.range (sub32 (s.get fPART_INTAKE_IDX_TAIL n 0) h)).map (fun i => (h + i) % 2 ^ 32)).filter (fun i =>
    let a := s.intakeAt n i
    decide ((s.le a 1 = 1 ∨ s.le a 1 = 2) ∧ s.le (a + 4) 4 = r ∧ s.le (a + 32) 8 = id ∧ i ∉ (s.prt n).answered))

/-- R291: an entry of the intake queue has its answer, or its request has been admitted. -/
def State.markAnswered (s : State) (n i : Nat) : State := s.setPrt n { s.prt n with answered := i :: (s.prt n).answered }

/-- R306: INTAKE_FULL counts the microseconds from `t0` to now for every partition whose intake queue is full. -/
def State.countFull (s : State) (t0 : Nat → Nat) : State :=
  ((List.range 16).filter (fun n => s.exists_ n && s.intakeFull n)).foldl (fun t n =>
    t.dens (160 + s.homeDie n) 4 (s.nowDie (s.homeDie n) / 1000 - t0 (s.homeDie n) / 1000)) s

/-- R325: HBM_THROTTLE_US and HBM_STOPPED_US count the microseconds from `t0` to now for every stack at levels 1–4, or STOPPED. -/
def State.countLevels (s : State) (t0 : Nat → Nat) : State :=
  ((List.range 8).filter (fun h => decide (s.get fHBM_STAT_LEVEL h 0 ≠ 0))).foldl (fun t h =>
    t.dens (162 + h) (if s.get fHBM_STAT_LEVEL h 0 = 5 then 7 else 6) (s.nowDie (h / 4) / 1000 - t0 (h / 4) / 1000)) s

end Sys2Proof.Machine
end

