-- ==== Sys2Proof/Machine/Stacks.lean ====
section
/-! DEFINITION. Stacks: the write-combining buffers of the HBM stacks, as messages and the engine's own writes meet them (R313, R314). -/

namespace Sys2Proof.Machine

/-! ### Uncorrectable lines (R397, R398) -/

/-- R397: MEM_UE for one line under a KIND, with the unit's own counters and address register (R168, R317, R319); a Drawer line that reads good
in a block whose tag has failed counts in TAG_FAIL (R321). -/
def State.noteUeAs (s : State) (n addr kind : Nat) : State :=
  let l := lineOf addr
  let s1 := if isTray l then
      let p := trayPlate l
      let t := ((s.bump fTRAY_ECC_STAT_UE p 0 1).put fTRAY_ECC_STAT_UE_BANK p 0 (bankOf (s.hashMode p) (trayOff l)))
      (t.put fTRAY_ECC_ADDR_OFFSET p 0 (trayOff l)).put fTRAY_ECC_ADDR_VALID p 0 1
    else if isHbm l then
      let h := s.stackOf l
      ((s.bump fHBM_ECC_STAT_UE h 0 1).put fHBM_ECC_ADDR_ADDR h 0 l).put fHBM_ECC_ADDR_VALID h 0 1
    else ((s.bump (if s.lineErrOf l ≠ .bad ∧ s.tagBroken (l / 4096 * 4096) = true then fDRW_ECC_STAT_TAG_FAIL else fDRW_ECC_STAT_UE) 0 0 1).put fDRW_ECC_ADDR_ADDR 0 0 l).put fDRW_ECC_ADDR_VALID 0 0 1
  let src := if isTray l then (dieOfPlate (trayPlate l), 1, trayPlate l)
    else if isHbm l then ((s.stackOf l) / 4, 11, s.stackOf l) else (2, 12, 0)
  s1.log { code := 0x8404, kind := kind, die := src.1, unit := src.2.1, inst := src.2.2, part := if n < 16 then n else 0xFF,
           expo := s.get fPART_EXPO_NOW_EXPO n 0, addr := l }

/-- R391: RECOVERED where an exposure's first attempt meets the line and is voided, REQUEST otherwise. [DEDUCED, log entry 25] -/
def State.lossKind (s : State) (n : Nat) : Nat := if (s.prt n).phase = .released ∧ (s.prt n).attempt = 0 then 1 else 2

/-- MEM_UE met by work of a partition's exposure (R397, R398). -/
def State.noteUe (s : State) (n addr : Nat) : State := s.noteUeAs n addr (s.lossKind n)

/-! ### Write-combining buffers (R313, R314) -/

/-- Entries of a stack's write-combining buffer, oldest first. -/
def State.wcbOf (s : State) (h : Nat) : List WcbEntry := smapGet (fun _ => []) h s.wcb
/-- Entries replaced, with HBM_WCB_STAT.ENTRIES. -/
def State.setWcb (s : State) (h : Nat) (es : List WcbEntry) : State :=
  ({ s with wcb := smapSet (fun _ => []) h es s.wcb } : State).put fHBM_WCB_STAT_ENTRIES h 0 es.length
/-- The entry of a line leaves the buffer of stack `h`. -/
def State.freeEntry (s : State) (h line : Nat) : State := s.setWcb h ((s.wcbOf h).filter (fun x => decide (x.line ≠ line)))

/-- A WR_ACK: TAG and ADDR echoed, with FLAGS and a status. -/
def wrAckHdr (h : UcieHdr) (flags status : Nat) : UcieHdr := { h with typ := 4, flags := flags, len := 0, word := status }

/-- Does a write still wait for another line of its own to be written? -/
def State.ackWaits (s : State) (a : UcieHdr × UciePort) : Bool := (List.range 8).any (fun h => (s.wcbOf h).any (fun e => decide (a ∈ e.acks)))

/-- A write that has been answered waits for no line any more. -/
def State.dropAck (s : State) (a : UcieHdr × UciePort) : State :=
  (List.range 8).foldl (fun t h =>
    if (t.wcbOf h).any (fun e => decide (a ∈ e.acks)) then
      t.setWcb h ((t.wcbOf h).map (fun e => { e with acks := e.acks.filter (fun b => decide (b ≠ a)) })) else t) s

/-- R313, R314: the line of an entry that has left the buffer is written, or (`fail`) is not: a write merged in it is acknowledged once
every line of its own is written, and at once with ERR and ST_HBM_UE where one is not. -/
def State.ackEntry (s : State) (e : WcbEntry) (fail : Bool) : State :=
  e.acks.foldl (fun t a =>
    if fail then (t.dropAck a).replyOn (backPort a.2) (wrAckHdr a.1 1 stHbmUe) []
    else if t.ackWaits a then t else t.replyOn (backPort a.2) (wrAckHdr a.1 0 0) []) s

/-- R313, R314, R317: an entry leaves the buffer by a read-fill: the whole line is written, or, where its read is uncorrectable, nothing, and
every merged write gets ST_HBM_UE. A corrected line is counted. [DEDUCED, log entry 28] -/
def State.fillEntry (s : State) (h : Nat) (e : WcbEntry) : State :=
  let s1 := (s.freeEntry h e.line).dens (162 + h) 4 1
  if s.lineErrOf e.line = .bad || s.stackOffline e.line then (s1.noteUe ((e.acks.head?.map (fun a => a.1.part)).getD 16) e.line).ackEntry e true
  else
    let s2 := if s.lineErrOf e.line = .corrected then (s1.bump fHBM_ECC_STAT_CE h 0 1).noteCorrected (h / 4) 11 h 1 else s1
    (s2.setLineErr e.line .good).ackEntry e false

/-- WCB_READ_FILL (R313): the entry of a line, still partial 1 µs after its first write. -/
def State.readFill (s : State) (h line : Nat) : State :=
  match (s.wcbOf h).find? (fun e => decide (e.line = lineOf line)) with
  | some e => if s.get fHBM_STAT_LEVEL h 0 = 5 then s else s.fillEntry h e
  | none => s

/-- Units of 16 bytes of a line that a write of `n` bytes at `a` covers. -/
def unitsOf (a n line : Nat) : List Bool := (List.range 4).map (fun i => decide (a ≤ line + 16 * i ∧ line + 16 * i + 16 ≤ a + n))

/-- R313: one line of a write merged into the buffer; a full buffer evicts its oldest entry; an entry with four valid
units is written as a whole line. [DEDUCED, log entry 28] -/
def State.mergeLine (s : State) (acks : List (UcieHdr × UciePort)) (h line : Nat) (units : List Bool) : State :=
  match (s.wcbOf h).find? (fun e => decide (e.line = line)) with
  | some e =>
    let e' : WcbEntry := { e with valid := (List.zip e.valid units).map (fun x => x.1 || x.2), acks := e.acks ++ acks }
    if e'.valid.all id then ((s.freeEntry h line).setLineErr line .good).ackEntry e' false
    else s.setWcb h ((s.wcbOf h).map (fun x => if x.line = line then e' else x))
  | none =>
    let s1 := match s.wcbOf h with
      | e :: _ => if 64 ≤ (s.wcbOf h).length then s.fillEntry h e else s
      | [] => s
    s1.setWcb h (s1.wcbOf h ++ [{ line := line, valid := units, acks := acks }])

/-- R313: the entry of a line that a write covers whole is discarded, and the writes merged in it complete. -/
def State.overwriteEntry (s : State) (line : Nat) : State :=
  let h := s.stackOf line
  match (s.wcbOf h).find? (fun e => decide (e.line = line)) with
  | some e => (s.freeEntry h line).ackEntry e false
  | none => s

/-- R313: what a write of `n` bytes at `a` by a unit of the engine does to the buffers: entries of whole lines are discarded; a partial line is
merged with its entry and completed by a read-fill before the unit goes on. [DEDUCED, log entry 28] -/
def State.settleLines (s : State) (a n : Nat) : State :=
  if !isHbm a then s
  else (linesOf a n).foldl (fun t l =>
    if coversLine a n l then t.overwriteEntry l
    else
      let h := t.stackOf l
      match (t.wcbOf h).find? (fun e => decide (e.line = l)) with
      | some e => t.fillEntry h e
      | none => t) s

/-- R325: read-fills of the lines that a unit's write of `n` bytes at `a` covers in part and that no entry holds. -/
def State.noteFills (s : State) (a n : Nat) : State :=
  if !isHbm a then s
  else ((linesOf a n).filter (fun l => !coversLine a n l && (s.wcbOf (s.stackOf l)).all (fun e => decide (e.line ≠ l)))).foldl
    (fun t l => t.dens (162 + t.stackOf l) 4 1) s

/-- Bytes written by a unit of a plate, an engine or a walker, past the write-combining buffers, and counted. -/
def State.land (s : State) (a : Nat) (bs : List Nat) : State :=
  (((s.noteFills a bs.length).settleLines a bs.length).write a bs).noteWritten a bs.length
/-- A little-endian number written so. -/
def State.landLe (s : State) (a n v : Nat) : State := s.land a (leBytes n v)

/-- Bytes of the engine's own tables written: past the write-combining buffers, and not counted. [DEDUCED, log entry 28] -/
def State.keep (s : State) (a : Nat) (bs : List Nat) : State := (s.settleLines a bs.length).write a bs
/-- A little-endian number written so. -/
def State.keepLe (s : State) (a n v : Nat) : State := s.keep a (leBytes n v)

/-- A remote write by a plate command of partition `n`. -/
def State.remoteWrite (s : State) (n a : Nat) (bs : List Nat) : Except Stop State :=
  if !s.granted n a bs.length false then .error (.fault s stCmdInvalid stRangeFault 0 0 a)
  else if s.held a bs.length then .error (.wait s .stack)
  else match s.sleepAt a bs.length with
    | some l => .error (.fault s stCmdInvalid stBankAsleep (s.bankAt l) 0 a)
    | none =>
      match s.badWriteLine a bs.length with
      | some _ => .error (.lost s (s.badWriteLines a bs.length) (ueCode a))
      | none => .ok (s.land a bs)

end Sys2Proof.Machine
end

