-- ==== Sys2Proof/Machine/Context.lean ====
section
/-! DEFINITION. Context: contexts and their lanes (R261–R269), the fault registers (R501), the end of an exposure
program by a fault (R40, R97, R179), and voiding an exposure (R398, R399, R401). -/

namespace Sys2Proof.Machine

/-! ### Context records -/

/-- R261: address of a context's record. -/
def State.ctxRec (s : State) (n id : Nat) : Nat := s.get fPART_CTX_BASE_ADDR n 0 + (id - s.get fPART_LAYOUT_CTX_FIRST n 0) * 256

/-- R261: STATE codes. -/
def runCode : RunState → Nat
  | .disabled => 0
  | .done => 1
  | .ready => 2
  | .running => 3
  | .blocked => 4

/-- Lines of a range at which a write of the engine's own ends uncorrectable (R314, R316, R499). [DEDUCED, log entry 49] -/
def State.badWrites (s : State) (a n : Nat) : List Nat := (linesOf a n).filter (fun l => (s.badWriteLine l 8).isSome)

/-- R261: the E fields of a context's record, as address and bytes; EXPO only at a commit. -/
def ctxFields (a : Nat) (x : Ctx) (expo : Option Nat) : List (Nat × List Nat) :=
  [(a, [runCode x.run]), (a + 3, [x.residency]), (a + 40, leBytes 8 x.progress ++ leBytes 2 (x.waitCtx.getD 0xFFFF)), (a + 56, leBytes 8 x.waitVal),
    (a + 64, leBytes 8 x.blockT64)] ++ (expo.map (fun e => (a + 72, leBytes 8 e))).toList

/-- R261, R262, R499: the engine writes the E fields of a context's record at every state change and at commit; a field whose line cannot be
written stays as it was, and the line is logged. -/
def State.writeCtxRec (s : State) (id : Nat) (expo : Option Nat) : State :=
  let x := s.ctx id
  let a := s.ctxRec x.part id
  if s.inHbm x.part a 256 then
    let fs := ctxFields a x expo
    fs.foldl (fun t f => if (s.badWriteLine f.1 f.2.length).isSome then t else t.keep f.1 f.2)
      ((fs.filterMap (fun f => s.badWriteLine f.1 f.2.length)).eraseDups.foldl (fun t l => t.noteUeAs x.part l 5) s)
  else s

/-- A context changed, with its record. -/
def State.putCtx (s : State) (id : Nat) (x : Ctx) : State := (s.setCtx id x).writeCtxRec id none

/-- Plates of a context's lane. -/
def lanePlates (x : Ctx) : List Nat := (List.range x.lanePlates).map (fun i => x.laneFirst + i)

/-- Contexts of partition `n`. -/
def State.partCtxs (s : State) (n : Nat) : List Nat := (s.ctxs.filter (fun e => decide (e.2.part = n))).map Prod.fst

/-- Request slots of partition `n` that are not FREE, in slot order. -/
def State.partSlots (s : State) (n : Nat) : List Nat :=
  (s.slots.filter (fun e => decide (e.2.part = n ∧ e.2.state ≠ 0))).map Prod.fst

/-- Time at partition `n`'s home die. -/
def State.partNow (s : State) (n : Nat) : Nat := s.nowDie (s.homeDie n)

/-! ### Semaphores at the end of a program (R151) -/

/-- R151: SEM_RESIDUE for each non-zero semaphore of plate `p`. -/
def State.logSems (s : State) (p : Nat) (sems : SMap Nat) : State :=
  sems.foldl (fun t e =>
    t.log { code := 0x8301, die := dieOfPlate p, unit := 0, inst := p, part := s.ownerOf p,
            expo := t.get fPART_EXPO_NOW_EXPO (s.ownerOf p) 0, detail := leBytes 2 e.1 ++ leBytes 2 e.2 }) s

/-- R151: non-zero semaphores are logged and cleared. -/
def State.clearSems (s : State) (p : Nat) : State :=
  let s1 := s.logSems p (s.plate p).sems
  s1.setPlate p { s1.plate p with sems := [] }

/-- R482: the samples of tagged commands of context `id` on plate `p`. -/
def State.sampleAll (s : State) (n id p : Nat) (tagged : List Tagged) (voided : Bool) : State :=
  tagged.foldl (fun t g => t.sample p g n id (s.get fPART_EXPO_NOW_EXPO n 0) false voided) s

/-- R482: the sample record of every tagged command still in flight on a plate that is voided or discarded. -/
def State.flushTagged (s : State) (p : Nat) (voided : Bool) : State :=
  let s1 := s.sampleAll (s.ownerOf p) ((s.plate p).ctx.getD 0xFFFF) p (s.plate p).tagged voided
  s1.setPlate p { s1.plate p with tagged := [] }

/-- The context's program ends on a plate: groups closed without drain, waits dropped, semaphores cleared. -/
def State.endPlate (s : State) (p : Nat) : State :=
  let s1 := (s.flushTagged p false).clearSems p
  s1.setPlate p { s1.plate p with groups := [], waiting := [], ctx := none, ended := true, boundary := true,
                                  active := none, shadow := none, reload := none, skip := 0, fetched := [], unsent := [] }

/-- R18: of two codes that meet in one record, the one that is not reported joins those that are not. -/
def outranked (old : List Nat) (a b : Nat) : List Nat :=
  let o := if statusMax a b = a then b else a
  if a = 0 ∨ b = 0 ∨ a = b ∨ o ∈ old then old else old ++ [o]

/-- A slot's pending end code raised under R18. -/
def State.endSlot (s : State) (q code : Nat) : State :=
  let x := s.slot q
  s.setSlot q { x with endCode := statusMax x.endCode code, lesser := outranked x.lesser x.endCode code }

/-- Is slot `q` in partition `n`'s range (R218)? -/
def State.slotInRange (s : State) (n q : Nat) : Bool :=
  decide (s.get fPART_REQ_SLOTS_FIRST n 0 ≤ q ∧ q < s.get fPART_REQ_SLOTS_FIRST n 0 + s.get fPART_REQ_SLOTS_COUNT n 0)

/-- The request slots that a command of plate `p` names: LAT_PLIST its SLOT, LAT_WRITE and LOUPE_SAMPLE their lists as these stand. -/
def State.namedBy (s : State) (c : PlateCmd) : List Nat :=
  let at_ (a : Nat) : Nat := trayAddr (clusterAddr c.plate a).1 (clusterAddr c.plate a).2
  let listed (a : Nat) : List Nat := (List.range (countOf (c.bits 8 0 12) 12)).map (fun i => s.le (at_ (a + 8 * i)) 4)
  if c.opc = 0x80 then [c.le 16 4] else if c.opc = 0x81 then listed (c.le 20 4) else if c.opc = 0x88 then listed c.trayAddr else []

/-- R40: the requests of a context in this exposure: those its commands have named, and the ACTIVE ones that its programs name. [DEDUCED, log entry 44] -/
def State.ctxRequests (s : State) (id : Nat) : List Nat :=
  let x := s.ctx id
  let named := (List.range x.lanePlates).flatMap (fun i =>
    let prog := x.progs.getD i (0, 0)
    (List.range prog.2).flatMap (fun k => s.namedBy { plate := x.laneFirst + i, index := k, word := BitVec.ofNat 256 (s.le (prog.1 + 32 * k) 32) }))
  (x.reqs ++ named.filter (fun q => s.slotInRange x.part q && decide ((s.slot q).part = x.part ∧ (s.slot q).state = 1))).eraseDups

/-- R40, R97, R151, R179: the context's program ends on every plate of its lane, its groups closed, also where it is off its lane, and every
request of the context ends with the code. -/
def State.endContext (s : State) (id code : Nat) : State :=
  let x := s.ctx id
  let s1 := (lanePlates x).foldl (fun t p => if (t.plate p).ctx = some id then t.endPlate p else t) s
  let s2 := x.saved.foldl (fun t e => (t.sampleAll x.part id e.1 e.2.tagged false).logSems e.1 e.2.sems) s1
  let s3 := (s.ctxRequests id).foldl (fun t q => t.endSlot q code) s2
  let y : Ctx :=
    { x with run := .done, endCode := statusMax x.endCode code, blockT64 := s.partNow x.part, waitCtx := none, leaving := false,
             quantumDue := false, saved := [] }
  s3.putCtx id y

/-! ### Fault registers (R501) -/

/-- R501: the fault register of an opcode, as its first field and the instance of its block. -/
def faultReg (opc p : Nat) : Fld × Nat :=
  if opc < 0x20 ∨ opc = 0x47 ∨ 0x82 ≤ opc then (fPLATE_SEQ_FAULT_OPC, p)
  else if opc < 0x40 ∨ (0x50 ≤ opc ∧ opc < 0x58) then (fPLATE_GRAIN_FAULT_OPC, p)
  else if opc < 0x50 then (fSAFE_FAULT_OPC, p / 8)
  else if opc < 0x60 then (fTRAY_DMA_FAULT_OPC, p)
  else if opc < 0x70 then (fDODGE_FAULT_OPC, p / 8)
  else (fENL_FAULT_OPC, p / 8)

/-- R395: unit type that logs a fault of an opcode. -/
def faultUnit (opc : Nat) : Nat :=
  if opc < 0x40 ∨ opc = 0x47 ∨ (0x50 ≤ opc ∧ opc < 0x58) ∨ 0x82 ≤ opc then 0
  else if opc < 0x50 then 3 else if opc < 0x60 then 2 else if opc < 0x70 then 4 else 5

/-- Bits [31:24] of a fault register: the issuing plate in a cluster register, with the failing check of R178 for
Dodge; the bank in TRAY_DMA_FAULT; 0 elsewhere. -/
def faultExtra (opc p extra : Nat) : Nat :=
  if (0x40 ≤ opc ∧ opc < 0x50 ∧ opc ≠ 0x47) ∨ (0x70 ≤ opc ∧ opc < 0x82) then p % 8
  else if 0x60 ≤ opc ∧ opc < 0x70 then p % 8 + 8 * (extra % 32)
  else if 0x58 ≤ opc ∧ opc < 0x60 then extra % 64
  else 0

/-- The image of a fault register: OPC, STATUS, extra bits, CMD_INDEX, VALID. -/
def faultImage (opc status extra index : Nat) : Word64 :=
  BitVec.ofNat 64 (opc % 256 + (status % 2 ^ 16) * 2 ^ 8 + (extra % 256) * 2 ^ 24 + (index % 2 ^ 31) * 2 ^ 32 + 2 ^ 63)

/-- R501: the fault recorded in its register, which keeps its first fault while VALID is 1. -/
def State.recordFault (s : State) (c : PlateCmd) (opc status extra off : Nat) : State :=
  let r := faultReg opc c.plate
  let a := fldAddr r.1 r.2 0
  if fieldOf (s.reg a) 63 1 = 1 then s
  else
    let s1 := s.setReg a (faultImage opc status (faultExtra opc c.plate extra) c.index)
    if 0x60 ≤ opc ∧ opc < 0x70 then s1.put fDODGE_FAULT_OFF_OFFSET (c.plate / 8) 0 off else s1

/-- R97, R179, R437, R501: a command of context `who` faults: the register, the log, a RANGE_FAULT entry where the
range check failed, and the end of the context's program. -/
def State.faultOf (s : State) (who : Option Nat) (c : PlateCmd) (opc code status extra off addr : Nat) : State :=
  let n := s.ownerOf c.plate
  let img := leBytes 8 (faultImage opc status (faultExtra opc c.plate extra) c.index).toNat
  let inst := if faultUnit opc = 3 ∨ faultUnit opc = 4 ∨ faultUnit opc = 5 then c.plate / 8 else c.plate
  let s1 := (s.recordFault c opc status extra off).log
    { code := code, kind := 2, die := dieOfPlate c.plate, unit := faultUnit opc, inst := inst, part := n,
      expo := s.get fPART_EXPO_NOW_EXPO n 0, addr := addr, detail := img ++ leBytes 8 off }
  let s2 := if status = stRangeFault then
      s1.log { code := 0x8701, kind := 2, die := dieOfPlate c.plate, unit := 19, inst := n, part := n,
               expo := s.get fPART_EXPO_NOW_EXPO n 0, addr := addr } else s1
  let s3 := if 0x60 ≤ opc ∧ opc < 0x70 ∧ (code = stMetaFault ∨ code = stTritInvalid) then s2.dens (128 + c.plate / 8) 14 1 else s2
  match who with
  | some id => s3.endContext id code
  | none => s3.endPlate c.plate

/-- A plate command faults: the plate's running context ends. -/
def State.plateFault (s : State) (c : PlateCmd) (opc code status extra off addr : Nat) : State :=
  s.faultOf (s.plate c.plate).ctx c opc code status extra off addr

/-! ### Uncorrectable data and voids (R398–R405) -/

/-- R404: the run of the golden map that holds a tray or HBM block: entry, block in the run, its golden HBM block. -/
def State.goldRun (s : State) (n addr : Nat) : Option (Nat × Nat × Nat) :=
  let base := s.get fPART_GOLD_MAP_ADDR n 0
  let blk := addr / 4096 * 4096
  (List.range (s.get fPART_GOLD_CNT_ENTRIES n 0)).findSome? (fun e =>
    let hbm := s.le (base + 16 * e) 6
    let plate := s.le (base + 16 * e + 6) 2
    let off := s.le (base + 16 * e + 8) 4
    let nblk := s.le (base + 16 * e + 12) 4
    if hbm ≤ blk ∧ blk < hbm + nblk * 4096 then some (e, (blk - hbm) / 4096, blk)
    else if plate ≠ 0xFFFF ∧ trayAddr plate off ≤ blk ∧ blk < trayAddr plate off + nblk * 4096 then
      some (e, (blk - trayAddr plate off) / 4096, hbm + (blk - trayAddr plate off))
    else none)

/-- R404: address of the CRC-32C of block `i` of entry `e`. -/
def State.goldCrcAddr (s : State) (n e i : Nat) : Nat :=
  let base := s.get fPART_GOLD_MAP_ADDR n 0
  let before := (List.range e).foldl (fun k j => k + s.le (base + 16 * j + 12) 4) 0
  base + 16 * s.get fPART_GOLD_CNT_ENTRIES n 0 + 4 * (before + i)

/-- R405: does the golden HBM block read whole and match its CRC table? [UNVERIFIED, log entry 56] -/
def State.goldGood (s : State) (n e i hbm : Nat) : Bool :=
  (s.badLine hbm 4096).isNone && decide (crc32c (s.bytes hbm 4096) = s.le (s.goldCrcAddr n e i) 4)

/-- Bytes written where their bank is AWAKE (R163). -/
def State.writeAwake (s : State) (a : Nat) (bs : List Nat) : State :=
  if (s.sleepAt a bs.length).isNone then s.write a bs
  else ((linesOf a bs.length).filter (fun l => (s.sleepAt l 1).isNone)).foldl (fun t l =>
    let lo := max a l
    t.write lo ((bs.drop (lo - a)).take (l + 64 - lo))) s

/-- R405 step 1: the golden block written into the tray as a whole-block DMA, its tag VALID. -/
def State.reloadTray (s : State) (n e i hbm : Nat) : State :=
  let base := s.get fPART_GOLD_MAP_ADDR n 0
  let plate := s.le (base + 16 * e + 6) 2
  let s1 := if plate = 0xFFFF then s
    else
      let a := trayAddr plate (s.le (base + 16 * e + 8) 4 + i * 4096)
      let t := s.writeAwake a (s.bytes hbm 4096)
      if (s.sleepAt a 4096).isNone then t.setTag a (.valid (s.le (s.goldCrcAddr n e i) 4)) else t
  ((s1.bump fPART_REL_STAT_RELOADS n 0 1).dens (144 + n) 8 1).log { code := 0x8A02, kind := 1, unit := 16, inst := n, part := n, addr := hbm }

/-- R405: a damaged weight block is repaired from its golden copy; where that is damaged, the block is asked of the
partner and the reload waits; the repair fails at once where no PAIR half is MATCHED. -/
def State.repairWeight (s : State) (n addr : Nat) : State :=
  match s.goldRun n addr with
  | none => s
  | some (e, i, hbm) =>
    if s.goldGood n e i hbm then s.reloadTray n e i hbm
    else
      let x := s.prt n
      if hbm ∈ x.reloads then s
      else if s.halfKind (s.get fPART_PAIR_HALF n 0) ≠ 3 ∨ !s.matched (s.get fPART_PAIR_HALF n 0) then s.setPrt n { x with repairFailed := true }
      else (s.setPrt n { x with reloads := x.reloads ++ [hbm] }).pairSend n 6 0 (s.get fPART_EXPO_NOW_EXPO n 0) (leBytes 4 e ++ leBytes 4 i) |>.dens (144 + n) 9 1

/-- Is an exposure of the partition running: released and not committed? -/
def State.expoRuns (s : State) (n : Nat) : Bool := decide ((s.prt n).phase = .released)

/-- R399 steps 1–3: every plate of the partition stops, groups close, SHADOW and semaphores are discarded, also those of contexts off their
lanes, and the exposure's samples and tentative entries are discarded. The contexts become READY with the re-execution (R263). -/
def State.stopPlates (s : State) (n : Nat) : State :=
  let s1 := (s.partPlates n).foldl (fun t p =>
    if (t.plate p) = Plate.init then t
    else (t.flushTagged p true).setPlate p Plate.init) s
  let s2 := (s1.partCtxs n).foldl (fun t c =>
    let x := t.ctx c
    (x.saved.foldl (fun u e => u.sampleAll n c e.1 e.2.tagged true) t).setCtx c { x with saved := [], leaving := false, quantumDue := false }) s1
  (s2.partSlots n).foldl (fun t q =>
    t.setSlot q { t.slot q with wrote := 0, served := false, lesser := [], endCode := (t.slot q).heldCode }) s2

/-- R399 step 5: every context that takes part becomes READY for the re-execution, as at a release. -/
def State.restartCtxs (s : State) (n : Nat) : State :=
  ((s.partCtxs n).filter (fun c => (s.ctx c).takesPart)).foldl (fun t c =>
    t.putCtx c { t.ctx c with run := .ready, progress := 0, waitCtx := none, waitVal := 0, endCode := 0, flip := false, readySince := s.partNow n }) s

/-- R399, R402, R481: exposure `n` of a partition is voided once, and the slots of the attempt are wasted; several triggers cause one void. Its tree neighbours are
told, but not the one (`but`) the void came from. [DEDUCED, log entry 57] -/
def State.voidFrom (s : State) (n addr : Nat) (but : Option Nat) : State :=
  let x := s.prt n
  if x.voided then s
  else
    let s0 := (s.partPlates n).foldl (fun t p => t.classSlots p 1 1) s
    let s1 := ((s0.stopPlates n).carrClear n).sendVoids n (s.get fPART_EXPO_NOW_EXPO n 0) but
    let s2 := s1.setPrt n { s1.prt n with voided := true, sampled := [], flip := false, warnings := [],
                                          burnDecisions := 0, burnFallbacks := 0, burnLayers := [], burnCounts := [] }
    (s2.bump fPART_REL_STAT_VOIDS n 0 1).log
      { code := 0x8A01, kind := 1, die := s.homeDie n, unit := 18, inst := n, part := n, expo := s.get fPART_EXPO_NOW_EXPO n 0, addr := addr }

/-- R399: a void that begins at this engine. [DEDUCED, log entry 57] -/
def State.voidExposure (s : State) (n addr : Nat) : State := s.voidFrom n addr none

/-- R398, R401, R403: a trigger met by a context's command: a void in attempt 0, the end of the context's requests in
attempt 1, nothing at a boundary; a damaged weight block is repaired. -/
def State.ueTrigger (s : State) (n addr code : Nat) (ctx : Option Nat) : State :=
  if !s.expoRuns n then s
  else if (s.prt n).attempt = 0 then (s.voidExposure n addr).repairWeight n addr
  else
    let s1 := s.bump fPART_REL_STAT_REPLAY_FAILS n 0 1
    match ctx with
    | some id => (s1.endContext id code).repairWeight n addr
    | none => s1.repairWeight n addr

/-- R398, R401: a trigger that concerns the whole partition: a schedule miss, a Carrier loss, a VOID message. -/
def State.partTrigger (s : State) (n code : Nat) : State :=
  if !s.expoRuns n then s
  else if (s.prt n).attempt = 0 then s.voidExposure n 0
  else
    let s1 := s.bump fPART_REL_STAT_REPLAY_FAILS n 0 1
    (s1.partCtxs n).foldl (fun t c => if (t.ctx c).takesPart then t.endContext c code else t) s1

end Sys2Proof.Machine
end

