-- ==== Sys2Proof/Machine/Latent.lean ====
section
/-! DEFINITION. Latent: the latent store, the contact index and the walkers' service commands (R214–R249). -/

namespace Sys2Proof.Machine

/-! ### Geometry (R214–R217) -/

/-- R214: stride of `dim` codes of 8 or 4 bits. -/
def codeStride (dim : Nat) (four : Bool) : Nat := roundUp (if four then ceilDiv dim 2 else dim) 16
/-- KSTR. -/
def State.kstr (s : State) (n : Nat) : Nat := codeStride (s.get fPART_LAT_CFG_DIM n 0) (decide (s.get fPART_LAT_CFG_K4 n 0 = 1))
/-- VSTR. -/
def State.vstr (s : State) (n : Nat) : Nat := codeStride (s.get fPART_LAT_CFG_DIM n 0) (decide (s.get fPART_LAT_CFG_V4 n 0 = 1))
/-- HSZ. -/
def State.hsz (s : State) (n : Nat) : Nat := 64 * (s.kstr n + s.vstr n) + 256
/-- PAGE_BYTES. -/
def State.pageBytes (s : State) (n : Nat) : Nat := roundUp (s.get fPART_LAT_CFG_KVHEADS n 0 * s.hsz n) 4096
/-- Layers with a cache. -/
def State.layers (s : State) (n : Nat) : Nat := s.get fPART_LAT_CFG_LAYERS n 0
/-- R216: frames of a partition. -/
def State.frameCount (s : State) (n : Nat) : Nat := s.get fPART_LAT_RANGE_PAGES n 0 / s.layers n
/-- R216: page number of a frame's layer. -/
def State.pageOf (s : State) (n f l : Nat) : Nat := s.get fPART_LAT_RANGE_FIRST n 0 + f * s.layers n + l
/-- R216: HBM address of a page. -/
def State.pageAddr (s : State) (n page : Nat) : Nat :=
  s.get fPART_LAT_POOL_BASE_4K n 0 * 4096 + (page - s.get fPART_LAT_RANGE_FIRST n 0) * s.pageBytes n
/-- R217: address of a page's table entry. -/
def State.ptAddr (s : State) (n page : Nat) : Nat :=
  s.get fPART_LAT_PT_PT_ADDR n 0 + (page - s.get fPART_LAT_RANGE_FIRST n 0) * 16
/-- Address of the entry of a frame's first page. -/
def State.frameEntry (s : State) (n f : Nat) : Nat := s.ptAddr n (s.pageOf n f 0)
/-- STATE of a frame. -/
def State.frameState (s : State) (n f : Nat) : Nat := s.le (s.frameEntry n f) 1
/-- REFS of a frame. -/
def State.frameRefs (s : State) (n f : Nat) : Nat := s.le (s.frameEntry n f + 4) 2
/-- BAD of a frame, in its entry or because that could not be written (R499). -/
def State.frameBad (s : State) (n f : Nat) : Bool := decide (s.le (s.frameEntry n f + 7) 1 = 1) || decide (f ∈ (s.prt n).badFrames)
/-- NODE of a frame. -/
def State.frameNode (s : State) (n f : Nat) : Nat := s.le (s.frameEntry n f + 8) 4

/-- The 16 bytes of a page-table entry (R217). -/
def ptBytes (st width layer refs fill bad node slot : Nat) : List Nat :=
  [st % 256, width % 256] ++ leBytes 2 layer ++ leBytes 2 refs ++ [fill % 256, bad % 256] ++ leBytes 4 node ++ leBytes 4 slot

/-- A slot's pending end code raised, one that a void does not discard (R403, R499). -/
def State.holdEnd (s : State) (q code : Nat) : State :=
  let x := s.slot q
  s.setSlot q { x with endCode := statusMax x.endCode code, heldCode := statusMax x.heldCode code,
                       lesser := outranked x.lesser x.endCode code }

/-- R499: a frame whose page-table entry cannot be written is BAD from then on, and ends the requests that name it. -/
def State.loseFrame (s : State) (n f l : Nat) : State :=
  let x := s.prt n
  let s1 := s.noteUeAs n l 2
  if f ∈ x.badFrames then s1
  else (s1.partSlots n).foldl (fun t q => if f ∈ (t.slot q).frames then t.holdEnd q stHbmUe else t)
    (s1.setPrt n { s1.prt n with badFrames := x.badFrames ++ [f] })

/-- R499: a request that has come to name a frame whose entry could not be written ends with ST_HBM_UE. -/
def State.endLost (s : State) (n q : Nat) : State :=
  if (s.slot q).frames.any (fun f => decide (f ∈ (s.prt n).badFrames)) then s.holdEnd q stHbmUe else s

/-- One page-table entry written, in part or whole. [DEDUCED, log entry 49] -/
def State.ptWrite (s : State) (n f a : Nat) (bs : List Nat) : State :=
  match s.badWriteLine a bs.length with
  | some l => s.loseFrame n f l
  | none => s.keep a bs

/-- R217: every field except LAYER changed together across the pages of a frame. -/
def State.putFrame (s : State) (n f st width refs fill bad node slot : Nat) : State :=
  (List.range (s.layers n)).foldl (fun t l => t.ptWrite n f (t.ptAddr n (t.pageOf n f l)) (ptBytes st width l refs fill bad node slot)) s

/-- One part of a frame's entry rewritten in every layer. -/
def State.patchFrame (s : State) (n f off : Nat) (bs : List Nat) : State :=
  (List.range (s.layers n)).foldl (fun t l => t.ptWrite n f (t.ptAddr n (t.pageOf n f l) + off) bs) s

/-- WIDTH as PART_LAT_CFG gives it. -/
def State.width (s : State) (n : Nat) : Nat := s.get fPART_LAT_CFG_K4 n 0 + 2 * s.get fPART_LAT_CFG_V4 n 0

/-- No node, frame owner or absent page. -/
def none32 : Nat := 0xFFFFFFFF

/-- Frames neither allocated nor reserved (R222), those apart that are never allocated again (R499). [DEDUCED, log entry 46] -/
def State.freeFrames (s : State) (n : Nat) : Nat :=
  ((List.range (s.frameCount n)).filter (fun f => decide (s.frameState n f = 0 ∧ f ∉ (s.prt n).badFrames))).length -
    (s.slots.filter (fun e => decide (e.2.part = n))).foldl (fun k e => k + e.2.reserved) 0

/-- The frame that the next allocation takes: the lowest-numbered FREE one, one with BAD set (which stays set) only where no other is left.
[DEDUCED, log entry 46] -/
def State.nextFrame (s : State) (n : Nat) : Option Nat :=
  let free := (List.range (s.frameCount n)).filter (fun f => decide (s.frameState n f = 0 ∧ f ∉ (s.prt n).badFrames))
  match free.find? (fun f => !s.frameBad n f) with
  | some f => some f
  | none => free.head?

/-- A free frame given to slot `q`. -/
def State.takeFrame (s : State) (n q : Nat) : Option (Nat × State) :=
  (s.nextFrame n).map (fun f => (f, s.putFrame n f 1 (s.width n) 1 0 (if s.frameBad n f then 1 else 0) none32 q))

/-- One reference on a frame dropped; the frame is freed at 0 (R229), keeping BAD. -/
def State.dropRef (s : State) (n f : Nat) : State :=
  let r := s.frameRefs n f
  if r ≤ 1 then s.putFrame n f 0 0 0 0 (if s.frameBad n f then 1 else 0) none32 none32
  else s.patchFrame n f 4 (leBytes 2 (r - 1))

/-! ### Contact index (R225–R230) -/

/-- R225: one token folded into a chained hash. -/
def hashStep (z tok : Nat) : Nat :=
  let m := 2 ^ 64
  let z1 := (z + (tok + 1) * 0x9E3779B97F4A7C15) % m
  let z2 := ((z1 ^^^ (z1 / 2 ^ 30)) * 0xBF58476D1CE4E5B9) % m
  let z3 := ((z2 ^^^ (z2 / 2 ^ 27)) * 0x94D049BB133111EB) % m
  z3 ^^^ (z3 / 2 ^ 31)
/-- R225: hash of a child from its parent's hash and its 64 tokens. -/
def childHash (z : Nat) (toks : List Nat) : Nat := toks.foldl hashStep z

/-- Base of the node array. -/
def State.nodeBase (s : State) (n : Nat) : Nat := s.get fPART_CIDX_CFG_NODE_4K n 0 * 4096
/-- Nodes of the index; 0 while the index is out of use (R499). -/
def State.nodeCount (s : State) (n : Nat) : Nat := if (s.prt n).indexOff then 0 else s.get fPART_CIDX_CFG_NODES n 0
/-- Address of node `i` (R226). -/
def State.nodeAddr (s : State) (n i : Nat) : Nat := s.nodeBase n + i * 320
/-- Address of the bucket of a hash (R226). -/
def State.bucketAddr (s : State) (n h : Nat) : Nat :=
  s.nodeBase n + s.get fPART_CIDX_CFG_NODES n 0 * 320 + 4 * (h % 2 ^ s.get fPART_CIDX_CFG_BLOG2 n 0)
/-- Hash of a node; the root's is PART_CIDX_SEED, as in force. -/
def State.nodeHash (s : State) (n i : Nat) : Nat := if i = none32 then (s.prt n).seed else s.le (s.nodeAddr n i) 8
/-- Tokens of a node. -/
def State.nodeTokens (s : State) (n i : Nat) : List Nat := (List.range 64).map (fun k => s.le (s.nodeAddr n i + 64 + 4 * k) 4)

/-- R227: the chain walked for a child, with how many collisions it met; at most 64 nodes. -/
def State.chainFind (s : State) (n parent h : Nat) (toks : List Nat) : Nat → Nat → Nat → Option Nat × Nat × Bool
  | 0, i, k => (none, k, decide (i ≠ none32))
  | fuel + 1, i, k =>
    if i = none32 then (none, k, false)
    else
      let a := s.nodeAddr n i
      if s.le a 8 = h then
        if s.le (a + 8) 4 = parent ∧ s.nodeTokens n i = toks then
          if s.frameBad n (s.le (a + 12) 4) then s.chainFind n parent h toks fuel (s.le (a + 16) 4) k else (some i, k, false)
        else s.chainFind n parent h toks fuel (s.le (a + 16) 4) (k + 1)
      else s.chainFind n parent h toks fuel (s.le (a + 16) 4) k

/-- R227: find_child, counting collisions and long chains (R249 events 4 and 5 of the partition block). -/
def State.findChild (s : State) (n parent : Nat) (toks : List Nat) : Option Nat × State :=
  if s.nodeCount n = 0 then (none, s)
  else
    let h := childHash (s.nodeHash n parent) toks
    let r := s.chainFind n parent h toks 64 (s.le (s.bucketAddr n h) 4) 0
    (r.1, (s.dens (144 + n) 15 r.2.1).dens (144 + n) 16 (if r.2.2 then 1 else 0))

/-- R499: a write of the contact index; one that ends uncorrectable puts the index out of use. -/
def State.idxWrite (s : State) (n a : Nat) (bs : List Nat) : State :=
  match s.badWriteLine a bs.length with
  | some l => let t := s.noteUeAs n l 5; t.setPrt n { t.prt n with indexOff := true }
  | none => s.keep a bs

/-- A node's link removed from its bucket chain. -/
def State.unlinkChain (s : State) (n i : Nat) : Nat → Nat → State
  | 0, _ => s
  | fuel + 1, at_ =>
    let j := s.le at_ 4
    if j = i then s.idxWrite n at_ (leBytes 4 (s.le (s.nodeAddr n i + 16) 4))
    else if j = none32 then s else s.unlinkChain n i fuel (s.nodeAddr n j + 16)

/-- A node unlinked from the index: chain, parent's CHILDREN, STATE FREE, its frame's NODE and reference (R229). -/
def State.unlinkNode (s : State) (n i : Nat) : State :=
  let a := s.nodeAddr n i
  let f := s.le (a + 12) 4
  let parent := s.le (a + 8) 4
  let s1 := s.unlinkChain n i (s.nodeCount n + 1) (s.bucketAddr n (s.le a 8))
  let s2 := if parent = none32 then s1 else s1.idxWrite n (s1.nodeAddr n parent + 20) (leBytes 4 (s1.le (s1.nodeAddr n parent + 20) 4 - 1))
  let s3 := (s2.idxWrite n (a + 24) [0]).patchFrame n f 8 (leBytes 4 none32)
  s3.dropRef n f

/-- R229: the reclaimable node with the oldest LAST_USE. -/
def State.reclaimable (s : State) (n : Nat) : Option Nat :=
  (List.range (s.nodeCount n)).foldl (fun best i =>
    let a := s.nodeAddr n i
    if s.le (a + 24) 1 = 1 ∧ s.le (a + 20) 4 = 0 ∧ s.frameRefs n (s.le (a + 12) 4) = 1 then
      match best with
      | none => some i
      | some j => if s.le (a + 32) 8 < s.le (s.nodeAddr n j + 32) 8 then some i else best
    else best) none

/-- R229: one leaf reclaimed, if any; counted as CIDX_RECLAIMED. -/
def State.reclaimOne (s : State) (n : Nat) : Option State :=
  (s.reclaimable n).map (fun i => (s.unlinkNode n i).dens (144 + n) 19 1)

/-- R222: leaves reclaimed while `need` frames are not free above the floor. -/
def State.reclaimFor (s : State) (n need floor : Nat) : Nat → State
  | 0 => s
  | fuel + 1 =>
    if need + floor ≤ s.freeFrames n then s
    else match s.reclaimOne n with
      | none => s
      | some t => t.reclaimFor n need floor fuel

/-- Descendants of a node unlinked first, then the node (R230). -/
def State.unlinkTree (s : State) (n i : Nat) : Nat → State
  | 0 => s
  | fuel + 1 =>
    let kids := (List.range (s.nodeCount n)).filter (fun j =>
      decide (s.le (s.nodeAddr n j + 24) 1 = 1 ∧ s.le (s.nodeAddr n j + 8) 4 = i))
    (kids.foldl (fun t j => t.unlinkTree n j fuel) s).unlinkNode n i

/-- R230, R403: an error in a page of frame `f`: BAD, the node and its descendants unlinked, and every request whose
frame list names the frame ends with ST_HBM_UE at the next commit. -/
def State.frameDamaged (s : State) (n f : Nat) : State :=
  let s1 := s.patchFrame n f 7 [1]
  let s2 := if s1.frameNode n f = none32 then s1 else s1.unlinkTree n (s1.frameNode n f) (s1.nodeCount n + 1)
  (s2.partSlots n).foldl (fun t q =>
    if f ∈ (t.slot q).frames then t.holdEnd q stHbmUe else t) s2

/-- The frame whose page holds an HBM address, if one does. -/
def State.frameAt (s : State) (n a : Nat) : Option Nat :=
  let pool := s.get fPART_LAT_POOL_BASE_4K n 0 * 4096
  if a < pool ∨ s.layers n = 0 ∨ s.pageBytes n = 0 then none
  else
    let f := (a - pool) / s.pageBytes n / s.layers n
    if f < s.frameCount n then some f else none

/-! ### Frames of a request (R222, R223) -/

/-- R230: an uncorrectable line reported in a page of the latent store: its frame is damaged; does the line lie in one? -/
def State.lineInFrame (s : State) (n a : Nat) : Bool × State :=
  match if isHbm a then s.frameAt n a else none with
  | some f => (true, s.frameDamaged n f)
  | none => (false, s)

/-- R499: a write of a request's own state: one that ends uncorrectable ends the request. -/
def State.reqWrite (s : State) (q a : Nat) (bs : List Nat) : State :=
  match s.badWriteLine a bs.length with
  | some l => (s.noteUeAs (s.slot q).part l 2).holdEnd q (ueCode a)
  | none => s.keep a bs

/-- The frame of block `b` of a request. -/
def Slot.frameOf (x : Slot) (b : Nat) : Option Nat := (x.frames[b]?).filter (fun f => decide (f ≠ none32))
/-- The frames that a request holds. -/
def Slot.held (x : Slot) : List Nat := x.frames.filter (fun f => decide (f ≠ none32))
/-- Block `b` of a frame list given frame `f`; blocks between have none. -/
def listFrame (fs : List Nat) (b f : Nat) : List Nat :=
  if b < fs.length then fs.set b f else fs ++ List.replicate (b - fs.length) none32 ++ [f]

/-- The frame list written back, entry `b` (R216). -/
def State.writeFrameEntry (s : State) (q b f : Nat) : State := s.reqWrite q ((s.slot q).framesAt + 4 * b) (leBytes 4 f)

/-- Block `b` of slot `q` is held by frame `f` from now on, in the engine's copy and in the frame list. -/
def State.giveFrame (s : State) (q b f : Nat) : State :=
  (s.setSlot q { s.slot q with frames := listFrame (s.slot q).frames b f }).writeFrameEntry q b f

/-- Committed slots of block `b` of a request (R217). -/
def fillOf (len b : Nat) : Nat := min 64 (len - 64 * b)

/-- R217: FILL brought up to the committed positions in every private frame whose block `len` positions have come to reach further into.
[DEDUCED, log entry 46] -/
def State.fillFrames (s : State) (n q old len : Nat) : State :=
  ((List.range (s.slot q).frames.length).filter (fun b => decide (fillOf old b < fillOf len b))).foldl (fun t b =>
    match (t.slot q).frameOf b with
    | some f => t.patchFrame n f 6 [fillOf len b]
    | none => t) s

/-- R223: one more frame for block `b` of slot `q`, from its reservation or by growth; is there one, and the state after. -/
def State.growTo (s : State) (n q b : Nat) : Bool × State :=
  if ((s.slot q).frameOf b).isSome then (true, s)
  else
    let x := s.slot q
    let s0 := if 0 < x.reserved then s.setSlot q { x with reserved := x.reserved - 1 }
      else if s.freeFrames n = 0 then (s.reclaimOne n).getD s else s
    if x.reserved = 0 ∧ s0.freeFrames n = 0 then (false, s0)
    else match s0.takeFrame n q with
      | none => (false, s0)
      | some r => (true, ((if 0 < x.reserved then r.2 else r.2.dens (144 + n) 12 1).giveFrame q b r.1).endLost n q)

/-- R231: every block of a page list that has no frame receives one where one can be found; have all, and the state after. -/
def State.growAll (s : State) (n q k : Nat) : Bool × State :=
  (List.range k).foldl (fun r b => let g := r.2.growTo n q b; (r.1 && g.1, g.2)) (true, s)

/-- A slot ends at the commit with a code. -/
def stStoreFull : Nat := 0x0104
/-- ST_SEQ_LIMIT (R16). -/
def stSeqLimit : Nat := 0x0102
/-- ST_ADMIT_REFUSED (R16). -/
def stAdmitRefused : Nat := 0x0101
/-- ST_ADMIT_HELD (R257). -/
def stAdmitHeld : Nat := 0x0802
/-- ST_PORT_MISSING (R16). -/
def stPortMissing : Nat := 0x0502
/-- ST_DRAWER_FULL (R224). -/
def stDrawerFull : Nat := 0x0105
/-- ST_POISON (R16). -/
def stPoison : Nat := 0x0204
/-- ST_DEADLINE (R16). -/
def stDeadline : Nat := 0x0103
/-- ST_DESC_INVALID (R288). -/
def stDescInvalid : Nat := 0x0106

/-- A context's command names a request (R40: the context's requests in the exposure). [DEDUCED, log entry 44] -/
def State.nameReq (s : State) (p q : Nat) : State :=
  let s0 := s.setSlot q { s.slot q with served := true, everRun := true }
  match (s.plate p).ctx with
  | some id => if q ∈ (s0.ctx id).reqs then s0 else s0.setCtx id { s0.ctx id with reqs := (s0.ctx id).reqs ++ [q] }
  | none => s0

/-- LAT_PLIST (R231). -/
def latPlistBody (c : PlateCmd) (s : State) : Except Stop State := do
  let n := s.ownerOf c.plate
  let ntok := c.bits 8 0 19
  let layer := c.bits 2 0 8
  let q := c.le 16 4
  need s (decide (1 ≤ ntok ∧ ntok ≤ 262144 ∧ layer < s.layers n ∧ c.trayAddr % 16 = 0) && s.slotInRange n q)
  if (s.slot q).state ≠ 1 then faultWith s stMetaFault
  else
    let nb := ceilDiv ntok 64
    let g := (s.nameReq c.plate q).growAll n q nb
    let s2 := if g.1 then g.2 else g.2.endSlot q stStoreFull
    let list := (List.range nb).map (fun b => match (s2.slot q).frameOf b with
      | some f => s2.pageOf n f layer
      | none => none32)
    s2.clusterPut .grain c.plate c.trayAddr ((list.map (leBytes 4)).flatten)

/-- R215: where head `h` of position `pos` stands in a page at `base`: K codes, K scale, V codes, V scale, each with its length. -/
def State.headPlaces (s : State) (n base h pos : Nat) : List (Nat × Nat) :=
  let sec := base + h * s.hsz n
  let sl := pos % 64
  let ks := s.kstr n
  let vs := s.vstr n
  let size (four : Bool) : Nat := if four then ceilDiv (s.get fPART_LAT_CFG_DIM n 0) 2 else s.get fPART_LAT_CFG_DIM n 0
  [(sec + sl * ks, size (decide (s.get fPART_LAT_CFG_K4 n 0 = 1))), (sec + 64 * ks + 2 * sl, 2),
    (sec + 64 * ks + 128 + sl * vs, size (decide (s.get fPART_LAT_CFG_V4 n 0 = 1))), (sec + 64 * (ks + vs) + 128 + 2 * sl, 2)]

/-- R232, R65: one entry of the write list: the quantised vectors of a position stored in its page, the saturations counted for plate `p`. -/
def State.storePosition (s : State) (p n f pos layer : Nat) (k v : List FVal) : State :=
  let base := s.pageAddr n (s.pageOf n f layer)
  let dim := s.get fPART_LAT_CFG_DIM n 0
  let k4 := decide (s.get fPART_LAT_CFG_K4 n 0 = 1)
  let v4 := decide (s.get fPART_LAT_CFG_V4 n 0 = 1)
  (List.range (s.get fPART_LAT_CFG_KVHEADS n 0)).foldl (fun t h =>
    let kq := cacheQuant (if k4 then 4 else 8) ((k.drop (h * dim)).take dim)
    let vq := cacheQuant (if v4 then 4 else 8) ((v.drop (h * dim)).take dim)
    let parts := [if k4 then packNibbles kq.1 else kq.1, leBytes 2 kq.2.1, if v4 then packNibbles vq.1 else vq.1, leBytes 2 vq.2.1]
    ((List.zip (s.headPlaces n base h pos) parts).foldl (fun u e => u.land e.1.1 e.2) t).dens p 9 (kq.2.2 + vq.2.2)) s

/-- R162, R314: the line at which the write of a position's vectors would end uncorrectable, if any. -/
def State.positionBad (s : State) (n f pos layer : Nat) : Option Nat :=
  (List.range (s.get fPART_LAT_CFG_KVHEADS n 0)).findSome? (fun h =>
    (s.headPlaces n (s.pageAddr n (s.pageOf n f layer)) h pos).findSome? (fun r => s.badWriteLine r.1 r.2))

/-- R413: a write record of the 16-byte units that hold a range. -/
def State.writeRec (s : State) (a len : Nat) : List Nat :=
  let lo := a / 16 * 16
  let n := roundUp (a + len - lo) 16
  leBytes 6 lo ++ [0, 0] ++ leBytes 4 n ++ [0, 0, 0, 0] ++ s.bytes lo n

/-- Is the partition the primary of a HOT pair that mirrors (R410, R411)? [DEDUCED, log entry 55] -/
def State.mirrorsCache (s : State) (n : Nat) : Bool :=
  decide ((s.get fPART_PAIR_STAT_STATE n 0 = 1 ∨ s.get fPART_PAIR_STAT_STATE n 0 = 2) ∧ s.get fPART_PAIR_ROLE n 0 = 0 ∧
    (s.prt n).pairMode = 2)

/-- R411: the cache data of a position, sent to the shadow as it is written: one CACHE message for each head. -/
def State.mirrorPosition (s : State) (n f pos layer : Nat) : State :=
  if !s.mirrorsCache n then s
  else
    let base := s.pageAddr n (s.pageOf n f layer)
    (List.range (s.get fPART_LAT_CFG_KVHEADS n 0)).foldl (fun t h =>
      let body := ((s.headPlaces n base h pos).map (fun r => t.writeRec r.1 r.2)).flatten
      (t.pairSend n 0 0 (t.get fPART_EXPO_NOW_EXPO n 0) body).dens (144 + n) 10 body.length) s

/-- R232: row `i` of a LAT_WRITE: position `pos` of slot `q`, its K and V vectors as they stand in the tray. -/
def State.writeRow (s : State) (c : PlateCmd) (n q pos layer : Nat) (f32 : Bool) (kb vb : List Nat) : Except Stop State :=
  let conv (bs : List Nat) : List FVal := (List.range (bs.length / (if f32 then 4 else 2))).map (fun j =>
    fdecode (if f32 then fp32 else bf16) (ofLe ((bs.drop ((if f32 then 4 else 2) * j)).take (if f32 then 4 else 2))))
  let s1 := s.nameReq c.plate q
  if 262144 ≤ pos then .ok (s1.endSlot q stSeqLimit)
  else
    let g := s1.growTo n q (pos / 64)
    match (g.2.slot q).frameOf (pos / 64) with
    | none => .ok (g.2.endSlot q stStoreFull)
    | some f =>
      if s.held (g.2.pageAddr n (g.2.pageOf n f layer)) (g.2.pageBytes n) then .error (.wait s .stack)
      else match g.2.positionBad n f pos layer with
        | some l => .error (.lost (g.2.frameDamaged n f) [l] stHbmUe)
        | none =>
          let s3 := g.2.storePosition c.plate n f pos layer (conv kb) (conv vb)
          let y := s3.slot q
          .ok ((s3.setSlot q { y with wrote := max y.wrote (pos + 1) }).mirrorPosition n f pos layer)

/-- LAT_WRITE (R232). -/
def latWriteBody (c : PlateCmd) (s : State) : Except Stop State := do
  let n := s.ownerOf c.plate
  let rows := countOf (c.bits 8 0 12) 12
  let kAt := c.trayAddr
  let vAt := c.le 16 4
  let wAt := c.le 20 4
  let stride := c.le 24 2
  let layer := c.le 26 1
  let f32 := decide (c.bits 27 0 1 = 1)
  let size := s.get fPART_LAT_CFG_KVHEADS n 0 * s.get fPART_LAT_CFG_DIM n 0 * (if f32 then 4 else 2)
  need s (decide (layer < s.layers n ∧ kAt % 16 = 0 ∧ vAt % 16 = 0 ∧ wAt % 16 = 0 ∧ stride % 16 = 0 ∧ kAt < 2 ^ 26 ∧ vAt < 2 ^ 26))
  let wl ← s.clusterRead .grain c.plate wAt (8 * rows)
  let ent (i : Nat) : Nat × Nat := (ofLe ((wl.drop (8 * i)).take 4), ofLe ((wl.drop (8 * i + 4)).take 4))
  need s ((List.range rows).all (fun i => s.slotInRange n (ent i).1))
  if (List.range rows).any (fun i => decide ((s.slot (ent i).1).state ≠ 1 ∨ (ent i).2 < (s.slot (ent i).1).len)) then
    faultWith s stMetaFault
  else
    let t ← (List.range rows).foldlM (fun t i => do
      let kb ← t.clusterRead .grain c.plate (kAt + i * stride) size
      let vb ← t.clusterRead .grain c.plate (vAt + i * stride) size
      t.writeRow c n (ent i).1 (ent i).2 layer f32 kb vb) s
    .ok (t.clNotes c.plate ((wAt, 8 * rows) :: ((List.range rows).map (fun i => [(kAt + i * stride, size), (vAt + i * stride, size)])).flatten))

/-! ### Service commands (R220–R222, R244–R247) -/

/-- Opcode of a service command. -/
def svcOpc (w : CmdWord) : Nat := bitsOf w.toNat 0 8
/-- SLOT of a service command. -/
def svcSlot (w : CmdWord) : Nat := bitsOf w.toNat 32 32

/-- R221: the service command at the front of the walkers' queue, taken off when it is this one and has met its cut-off: its ring and REQ_ID. -/
def State.takeSvc (s : State) (n : Nat) (w : CmdWord) : Option ((Nat × Nat) × State) :=
  match (s.prt n).svc with
  | x :: xs => if x.word = w ∧ x.due = true then some ((x.ring, x.reqId), s.setPrt n { s.prt n with svc := xs }) else none
  | [] => none

/-- R294: a service command has completed: the PARK and RESUME descriptors that waited for it wait for it no more. -/
def State.svcEnded (s : State) (n : Nat) (who : Nat × Nat) : State :=
  s.setPrt n { s.prt n with moves := (s.prt n).moves.map (fun m => { m with svc := m.svc.filter (fun w => decide (w ≠ who)) }) }

/-- R221: the completion of a service command, owed at the commit. -/
def State.oweSvc (s : State) (n : Nat) (who : Nat × Nat) (status : Nat) : State :=
  let s1 := s.svcEnded n who
  s1.setPrt n { s1.prt n with owed := (s1.prt n).owed ++
    [{ ring := who.1, reqId := who.2, status := status, flags := flagFinal, token0 := noToken, token1 := 0 }] }

/-- R218: the record of slot `q`, read from memory into the engine's copy. -/
def State.loadRecord (s : State) (n q : Nat) : Slot :=
  let a := s.get fPART_REQ_CFG_REQ_BASE n 0 + (q - s.get fPART_REQ_SLOTS_FIRST n 0) * 128
  { Slot.init with
    part := n, reqId := s.le a 8, ring := s.le (a + 8) 4, flags := s.le (a + 13) 1, promptLen := s.le (a + 16) 4,
    maxNew := s.le (a + 20) 4, reserve := s.le (a + 24) 4, deadline := s.le (a + 40) 8, tokLog := s.le (a + 48) 6,
    framesAt := s.le (a + 56) 6, counts := s.le (a + 64) 6, stops := s.le (a + 72) 6, temp := s.le (a + 80) 4,
    topK := s.le (a + 84) 2, topP := s.le (a + 88) 4, minP := s.le (a + 92) 4, rep := s.le (a + 96) 4, pres := s.le (a + 100) 4,
    freq := s.le (a + 104) 4, stream := s.le (a + 108) 3 }

/-- R218, R499: the engine writes back the fields marked E; where that fails the request ends. -/
def State.writeRecord (s : State) (q : Nat) : State :=
  let x := s.slot q
  let a := s.get fPART_REQ_CFG_REQ_BASE x.part 0 + (q - s.get fPART_REQ_SLOTS_FIRST x.part 0) * 128
  match s.badWrites a 120 with
  | [] => ((s.keep (a + 12) [x.state % 256]).keep (a + 28) (leBytes 4 x.len ++ leBytes 4 x.gen ++ leBytes 4 x.matched)).keepLe (a + 112) 8 x.expiry
  | l :: ls => ((l :: ls).foldl (fun t i => t.noteUeAs x.part i 2) s).holdEnd q (ueCode a)

/-- FP32 order helpers for the ranges of R218. -/
def fle (a b : Nat) : Bool := !flt b a

/-- R218: do the four addresses of slot `q`'s record have their upper bits 0, and do the token log and frame list that the request can fill, its
count table and its stop table lie within the partition's ranges? [DEDUCED, log entry 46] -/
def State.recordAddrs (s : State) (n q : Nat) (x : Slot) : Bool :=
  let a := s.get fPART_REQ_CFG_REQ_BASE n 0 + (q - s.get fPART_REQ_SLOTS_FIRST n 0) * 128
  [54, 62, 70, 78].all (fun o => decide (s.le (a + o) 2 = 0)) &&
  s.granted n x.tokLog (4 * min (x.promptLen + x.maxNew) 262144) false &&
  s.granted n x.framesAt (4 * min (ceilDiv (x.promptLen + x.maxNew) 64) 4096) false &&
  s.granted n x.counts 8192 false && s.granted n x.stops 832 false

/-- R218, R219, R222: params_valid. -/
def State.paramsValid (s : State) (x : Slot) : Bool :=
  let fin := [x.temp, x.topP, x.minP, x.rep, x.pres, x.freq].all (fun f => !fnonFinite f)
  let stopsOk :=
    decide (s.le x.stops 1 ≤ 32) && decide (s.le (x.stops + 1) 1 ≤ 8) &&
    (List.range (s.le (x.stops + 1) 1)).all (fun j => decide (1 ≤ s.le (x.stops + 192 + 80 * j) 4 ∧ s.le (x.stops + 192 + 80 * j) 4 ≤ 16))
  decide (1 ≤ x.promptLen) && decide (1 ≤ x.maxNew ∧ x.maxNew ≤ 262143) && fin && fle 0 x.temp && decide (x.topK ≤ 1024) &&
  flt 0 x.topP && fle x.topP fone && fle 0 x.minP && flt x.minP fone && flt 0 x.rep &&
  (fle x.temp 0 || decide (x.stream ≠ 0)) && stopsOk

/-- Tokens of a log, from `i`, `k` of them. -/
def State.tokens (s : State) (log i k : Nat) : List Nat := (List.range k).map (fun j => s.le (log + 4 * (i + j)) 4)

/-- R222: blocks matched from the root, taking a reference on each frame; gives the nodes and the state. -/
def State.matchPrefix (s : State) (n log : Nat) : Nat → Nat → Nat → List Nat → List Nat × State
  | 0, _, _, acc => (acc, s)
  | fuel + 1, m, node, acc =>
    match s.findChild n node (s.tokens log (64 * m) 64) with
    | (none, t) => (acc, t)
    | (some i, t) =>
      let f := t.le (t.nodeAddr n i + 12) 4
      let t1 := (t.patchFrame n f 4 (leBytes 2 (t.frameRefs n f + 1))).idxWrite n (t.nodeAddr n i + 32) (leBytes 8 (t.partNow n))
      (t1.dens (144 + n) 14 1).matchPrefix n log fuel (m + 1) i (acc ++ [i])

/-- R239: index of a token in the penalty table. -/
def countIdx (v : Nat) : Nat := (v * 0x9E3779B1) % 2 ^ 32 / 2 ^ 20
/-- R235 step 5: one token counted, saturating at 65,535. -/
def State.countToken (s : State) (tbl v : Nat) : State :=
  s.keepLe (tbl + 2 * countIdx v) 2 (satAdd (s.le (tbl + 2 * countIdx v) 2) 1 65535)

/-- R222: the frames of an admission over `plen` tokens of prompt: is it admitted, and the state after. `useIndex` is MATCH. A refusal releases
the references it took; nodes reclaimed and counts made on the way stay. -/
def State.admitFrames (s : State) (n q plen reserve : Nat) (useIndex : Bool) : Bool × State :=
  let limit := if useIndex then (plen - 1) / 64 else 0
  let mr := s.matchPrefix n (s.slot q).tokLog limit 0 none32 []
  let m := mr.1.length
  let frames := mr.1.map (fun i => mr.2.le (mr.2.nodeAddr n i + 12) 4)
  let need_ := min (ceilDiv (plen + reserve) 64) 4096 - m
  let s1 := mr.2.reclaimFor n need_ (s.prt n).growFloor (mr.2.nodeCount n)
  if need_ + (s.prt n).growFloor ≤ s1.freeFrames n then
    let y := s1.slot q
    let s2 := s1.setSlot q { y with reserved := need_, frames := frames, published := mr.1, len := 64 * m, matched := 64 * m }
    (true, ((List.range m).foldl (fun t b => t.writeFrameEntry q b (frames.getD b 0)) s2).endLost n q)
  else (false, (frames.foldl (fun t f => t.dropRef n f) s1).dens (144 + n) 13 1)

/-- ST_DRAINING (R458). -/
def stDraining : Nat := 0x0B01
/-- R452: is the module DRAINING? -/
def State.draining (s : State) : Bool := decide (s.g fPWR_STATE_STATE = 5)

/-- R18: of the codes that meet in one record, each that is not the one reported goes to the error log once, with the
request ID. -/
def State.logUnreported (s : State) (n reqId reported : Nat) (codes : List Nat) : State :=
  (codes.eraseDups.filter (fun c => decide (c ≠ 0 ∧ c ≠ reported))).foldl (fun t c =>
    t.log { code := c, kind := 2, die := s.homeDie n, unit := 6, inst := n, part := n,
            expo := s.get fPART_EXPO_NOW_EXPO n 0, reqId := reqId }) s

/-- R458, R256, R354: the codes with which the state of module and partition keeps requests out. -/
def State.barCodes (s : State) (n : Nat) : List Nat :=
  [if s.draining then stDraining else 0, if s.get fPART_STAT_HOLD n 0 = 1 then stAdmitHeld else 0, if (s.prt n).portMissing then stPortMissing else 0]

/-- A walker's command at the front of the queue, past its cut-off: taken off, executed, its completion owed (R221), the codes it does not
report logged (R18). Any other command waits for its turn. -/
def State.walker (s : State) (n : Nat) (w : CmdWord) (f : State → List Nat × State) : State :=
  match s.takeSvc n w with
  | none => s
  | some (who, t) =>
    let o := f t
    let code := o.1.foldl statusMax 0
    (o.2.oweSvc n who code).logUnreported n who.2 code o.1

/-- R291, R294: the oldest unanswered entry of the intake queue with a ring and REQ_ID has been admitted: a CANCEL meets its request from
now on. [DESIGN CHOICE, log entry 33] -/
def State.entryAdmitted (s : State) (n ring id : Nat) : State :=
  match s.waitingFor n ring id with
  | i :: _ => s.markAnswered n i
  | [] => s

/-- LAT_ADMIT (R222) on slot `q`: gives the codes the command meets. -/
def State.latAdmit (s0 : State) (n q : Nat) : List Nat × State :=
  if !s0.slotInRange n q || decide ((s0.slot q).state ≠ 0) || decide (s0.get fPART_LAYOUT_KIND n 0 = 1) then ([stCmdInvalid], s0)
  else
    let x := s0.loadRecord n q
    let codes := (if 262144 ≤ x.promptLen then stSeqLimit else 0) :: s0.barCodes n
    let early := codes.foldl statusMax 0
    let s := s0.entryAdmitted n x.ring x.reqId
    if x.promptLen < 262144 ∧ !(s0.paramsValid x && s0.recordAddrs n q x) then ([stCmdInvalid], s0)
    else if early ≠ 0 then
      ([early], s.setSlot q { x with state := 1, endCode := early, heldCode := early, lesser := codes.filter (fun c => decide (c ≠ 0 ∧ c ≠ early)) })
    else
      let r := (s.setSlot q { x with state := 1 }).admitFrames n q x.promptLen x.reserve (decide (x.flags % 2 = 1))
      if r.1 then
        let s1 := r.2.reqWrite q x.counts (List.replicate 8192 0)
        let s2 := if x.flags / 4 % 2 = 1 then (s1.tokens x.tokLog 0 x.promptLen).foldl (fun t v => t.countToken x.counts v) s1 else s1
        ([], s2.bindStream n x.stream (samplerOf q) { code := 0, die := s.homeDie n, unit := 7, inst := n, reqId := x.reqId })
      else ([stAdmitRefused], r.2.setSlot q { x with state := 1, endCode := stAdmitRefused, heldCode := stAdmitRefused })

/-- R244: blocks of a request whose frame is PRIVATE. -/
def State.privateBlocks (s : State) (n q : Nat) : List Nat :=
  (List.range (s.slot q).frames.length).filter (fun b => match (s.slot q).frameOf b with
    | some f => decide (s.frameState n f = 1)
    | none => false)

/-- R244: Drawer frames of a partition in use. -/
def State.drawerUsed (s : State) (n : Nat) : List Nat :=
  ((s.slots.filter (fun e => decide (e.2.part = n))).map (fun e => e.2.drawer.map Prod.snd)).flatten
/-- Bytes of a frame. -/
def State.frameBytes (s : State) (n : Nat) : Nat := s.layers n * s.pageBytes n
/-- R244: the first `k` free Drawer frames. [DEDUCED, log entry 46] -/
def State.freeDrawer (s : State) (n k : Nat) : List Nat :=
  let used := s.drawerUsed n
  ((List.range (if s.frameBytes n = 0 then 0 else s.drwSize n / s.frameBytes n)).filter (fun d => d ∉ used)).take k
/-- Address of a Drawer frame. -/
def State.drawerAddr (s : State) (n d : Nat) : Nat := s.drwLo n + d * s.frameBytes n
/-- Address of a frame's first page. -/
def State.frameAddr (s : State) (n f : Nat) : Nat := s.pageAddr n (s.pageOf n f 0)

/-- LAT_PARK (R244) of `who`'s descriptor: the request becomes MOVING, or the Drawer is full. -/
def State.latPark (s : State) (n q ttl : Nat) (who : Nat × Nat) : State :=
  if !s.slotInRange n q || decide ((s.slot q).state ≠ 1) || decide (ttl < 1 ∨ 86400 < ttl) || decide (s.get fPART_LAYOUT_KIND n 0 = 1) then
    s.oweSvc n who stCmdInvalid
  else
    let pb := s.privateBlocks n q
    let ds := s.freeDrawer n pb.length
    if ds.length < pb.length ∨ s.get fPART_DRW_CFG_SIZE_4K n 0 = 0 then s.oweSvc n who stDrawerFull
    else
      let x := s.slot q
      let s1 := s.setSlot q { x with state := 4, drawer := List.zip pb ds, parkTtl := ttl, oldReserve := x.reserved, reserved := 0 }
      let s2 := (pb.filterMap x.frameOf).foldl (fun t f => (t.patchFrame n f 0 [3]).patchFrame n f 12 (leBytes 4 none32)) s1
      (s2.setPrt n { s2.prt n with parking := (s2.prt n).parking ++ [q, who.1, who.2] }).writeRecord q

/-- LAT_PARK as the walkers take it from their queue (R221). -/
def State.parkCmd (s : State) (n : Nat) (w : CmdWord) : State :=
  match s.takeSvc n w with
  | none => s
  | some (who, t) => t.latPark n (svcSlot w) (bitsOf w.toNat 128 32) who

/-- The three-entry list of moves in progress: slot, ring and REQ_ID of each. -/
def parkedBy (q : Nat) : List Nat → Option (Nat × Nat)
  | a :: r :: id :: xs => if a = q then some (r, id) else parkedBy q xs
  | _ => none
/-- The list of moves without slot `q`. -/
def parkedDrop (q : Nat) : List Nat → List Nat
  | a :: r :: id :: xs => if a = q then xs else a :: r :: id :: parkedDrop q xs
  | xs => xs

/-- R321: a whole-frame copy, its blocks tagged VALID where they land in the Drawer. -/
def State.copyFrame (s : State) (src dst len : Nat) (tagged : Bool) : State :=
  let s1 := s.land dst (s.bytes src len)
  if tagged then (blocksOf dst len).foldl (fun t b => t.setTag b (.valid (crc32c (t.bytes b 4096)))) s1 else s1

/-- R235 step 8: every frame reference, Drawer frame and reservation of a request released, and the slot FREE. -/
def State.releaseSlot (s : State) (q : Nat) : State :=
  let x := s.slot q
  let n := x.part
  let s1 := x.held.foldl (fun t f => t.dropRef n f) s
  let s2 := s1.setSlot q { x with state := 0, frames := [], drawer := [], reserved := 0, expiry := 0 }
  let s3 := s2.setPrt n { s2.prt n with bound := (s2.prt n).bound.filter (fun b => decide (b.2 ≠ samplerOf q)) }
  (s3.writeRecord q).setSlot q Slot.init

/-- R57, R285, R287, R294: what a record of a request reports with `status` and `flags`: the status, TOKEN1 and the state. The FINAL
record of an EMBED request that ends well writes the model's output vector at OUT_ADDR; one that is longer than OUT_BYTES is check 8, and
a poisoned one is not returned. [DESIGN CHOICE, log entry 33] -/
def State.embedEnd (s : State) (n ring id status flags : Nat) : Nat × Nat × State :=
  match (s.prt n).embeds.find? (fun e => decide (e.ring = ring ∧ e.reqId = id)) with
  | none => (status, noToken, s)
  | some e =>
    if flags % 2 = 0 then (status, noToken, s)
    else
      let s1 := s.setPrt n { s.prt n with embeds := (s.prt n).embeds.erase e }
      if statusRank status = 3 ∨ flags / 16 % 2 = 1 then (status, 0, s1)
      else
        let f := s1.fresh
        let v := Config.embedding f.1
        if e.cap < v.1.length then (stDescInvalid, 8, (f.2.logUnreported n id stDescInvalid [status]).dens (f.2.ringBlock ring) 2 1)
        else if v.2 then (stPoison, 0, f.2.logUnreported n id stPoison [status])
        else (status, v.1.length, f.2.keep e.out (ofBytes v.1))

/-- R294: PARK, RESUME and CANCEL descriptors whose targets' outcome has come owe their records. -/
def State.endMoves (s : State) (n : Nat) : State :=
  let x := s.prt n
  let done (m : Move) : Bool := m.svc.isEmpty && m.slots.all (fun q => decide ((s.slot q).state ≠ 4))
  s.setPrt n { x with
    owed := x.owed ++ (x.moves.filter done).map (fun m =>
      { ring := m.ring, reqId := m.reqId, status := 0, flags := flagFinal, token0 := noToken, token1 := 1 }),
    moves := x.moves.filter (fun m => !done m) }

/-- R247: a request ends at a boundary: the tokenless record and the releases; the pending codes that the record does not report are logged. -/
def State.endSlotNow (s : State) (n q : Nat) : State :=
  let x := s.slot q
  let s1 := if x.noRecords then s
    else
      let e := s.embedEnd n x.ring x.reqId x.endCode flagFinal
      e.2.2.placeRecord x.ring x.reqId e.1 flagFinal noToken e.2.1 (s.partNow n) (s.get fPART_EXPO_NOW_EXPO n 0)
  (s1.logUnreported n x.reqId x.endCode x.lesser).releaseSlot q

/-- LAT_END without CANCEL (R247): gives the codes the command meets; a MOVING request ends at the first boundary after its move. -/
def State.latEnd (s : State) (n q : Nat) : List Nat × State :=
  let x := s.slot q
  if !s.slotInRange n q || decide (x.state = 0) || decide (s.get fPART_LAYOUT_KIND n 0 = 1) then ([stCmdInvalid], s)
  else if x.state = 4 then ([], s.setSlot q { x with endAfter := true })
  else ([], s.endSlotNow n q)

/-- R247: requests that LAT_END reached while they were MOVING end at the boundary, once their moves have ended. -/
def State.endMoved (s : State) (n : Nat) : State :=
  (s.partSlots n).foldl (fun t q => if (t.slot q).endAfter && decide ((t.slot q).state ≠ 4) then t.endSlotNow n q else t) s

/-- R244, R230: one private frame of a MOVING request copied block by block to the Drawer and freed; one that reads uncorrectable is damaged,
stays with its request and gives its Drawer frame back. -/
def State.moveFrame (s : State) (n q : Nat) (e : Nat × Nat) : State :=
  match (s.slot q).frameOf e.1 with
  | none => s
  | some f =>
    let drop (x : Slot) : Slot := { x with drawer := x.drawer.filter (fun d => decide (d ≠ e)) }
    match s.badLines (s.frameAddr n f) (s.frameBytes n) with
    | [] =>
      let s1 := ((s.noteStack 0 (s.frameAddr n f) (s.frameBytes n)).copyFrame (s.frameAddr n f) (s.drawerAddr n e.2) (s.frameBytes n) true).dropRef n f
      s1.giveFrame q e.1 none32
    | ls =>
      let s1 := (ls.foldl (fun t l => t.noteUeAs n l 2) s).frameDamaged n f
      (s1.setSlot q (drop (s1.slot q))).patchFrame n f 0 [1] |>.patchFrame n f 12 (leBytes 4 q)

/-- LAT_PARK_MOVE_END (R244): the move ends, or a Drawer write has failed three times. -/
def State.parkEnd (s : State) (q : Nat) (ok : Bool) : State :=
  let x := s.slot q
  let n := x.part
  if x.state ≠ 4 then s
  else
    let who := parkedBy q (s.prt n).parking
    let s0 := s.setPrt n { s.prt n with parking := parkedDrop q (s.prt n).parking }
    let s1 := if ok then
        let t := x.drawer.foldl (fun t e => t.moveFrame n q e) s0
        (t.setSlot q { t.slot q with state := 2, expiry := (s.prt n).commitT + x.parkTtl * 1000000000 }).dens (144 + n) 20 1
      else
        let t := (x.drawer.filterMap (fun e => x.frameOf e.1)).foldl (fun t f => (t.patchFrame n f 0 [1]).patchFrame n f 12 (leBytes 4 q)) s0
        t.setSlot q { t.slot q with state := 1, drawer := [], reserved := x.oldReserve }
    match who with
    | some (r, id) => ((s1.writeRecord q).recordNow r id (if ok then 0 else stDrawerFull) 0).svcEnded n (r, id)
    | none => s1.writeRecord q

/-- R245: a PARKED request expires: its Drawer frames and its references to shared frames are released. -/
def State.expireSlot (s : State) (q : Nat) : State :=
  let x := s.slot q
  let s1 := x.held.foldl (fun t f => t.dropRef x.part f) s
  ((s1.setSlot q { s1.slot q with state := 3, frames := [], drawer := [], published := [], expiry := 0 }).writeRecord q).dens
    (144 + x.part) 21 1

/-- PARKED_EXPIRY (R245): every PARKED request due at the boundary's tick expires. -/
def State.parkedExpiry (s : State) (n : Nat) : State :=
  (s.partSlots n).foldl (fun t q =>
    if (t.slot q).state = 2 ∧ (t.slot q).expiry ≤ s.boundaryTick n then t.expireSlot q else t) s

/-- R246: an EXPIRED request recomputed from its token log: admission over LEN + 1 tokens. -/
def State.resumeExpired (s : State) (n q : Nat) : List Nat × State :=
  let x := s.slot q
  let r := s.admitFrames n q (x.len + 1) x.reserve (decide (x.flags % 2 = 1))
  if r.1 then ([], (r.2.setSlot q { r.2.slot q with state := 1, matched := (r.2.slot q).len }).writeRecord q) else ([stAdmitRefused], r.2)

/-- R246, R321: the first bytes of what a Drawer frame's read meets: its uncorrectable lines, and the blocks whose tag has failed. -/
def State.drawerBad (s : State) (n d : Nat) : List Nat :=
  s.badLines (s.drawerAddr n d) (s.frameBytes n) ++ (blocksOf (s.drawerAddr n d) (s.frameBytes n)).filter (fun b =>
    s.tagBroken b && (s.badLine b 64).isNone)

/-- R246: one parked block copied back into a frame of the request's own. -/
def State.restoreFrame (s : State) (n q : Nat) (e : Nat × Nat) : State :=
  match s.takeFrame n q with
  | none => s
  | some (g, t) =>
    let t1 := (t.noteRemote 0 (t.drawerAddr n e.2) (t.frameBytes n)).copyFrame (t.drawerAddr n e.2) (t.frameAddr n g) (t.frameBytes n) false
    (t1.patchFrame n g 6 [fillOf (t.slot q).len e.1]).giveFrame q e.1 g

/-- R246: a PARKED request resumed: its frames copied back, or, where a Drawer block is damaged, recomputed. -/
def State.resumeParked (s : State) (n q : Nat) : List Nat × State :=
  let x := s.slot q
  let need_ := x.drawer.length + x.oldReserve
  let floor := (s.prt n).growFloor
  let s1 := s.reclaimFor n need_ floor (s.nodeCount n)
  if s1.freeFrames n < need_ + floor then ([stAdmitRefused], s1.dens (144 + n) 13 1)
  else match (x.drawer.map (fun e => s1.drawerBad n e.2)).flatten with
    | [] =>
      let s2 := x.drawer.foldl (fun t e => t.restoreFrame n q e) s1
      ([], (s2.setSlot q { s2.slot q with state := 1, drawer := [], reserved := x.oldReserve, expiry := 0 }).writeRecord q |>.endLost n q)
    | ls => ((ls.foldl (fun t l => t.noteUeAs n l 2) s1).expireSlot q).resumeExpired n q

/-- LAT_RESUME (R246): gives the codes the command meets. An expiry that falls on the same tick wins. -/
def State.latResume (s : State) (n q : Nat) : List Nat × State :=
  let x := s.slot q
  if !s.slotInRange n q || decide (x.state ≠ 2 ∧ x.state ≠ 3) || decide (s.get fPART_LAYOUT_KIND n 0 = 1) then ([stCmdInvalid], s)
  else
    let s1 := if x.state = 2 ∧ x.expiry ≤ s.boundaryTick n then s.expireSlot q else s
    if (s.barCodes n).any (fun c => decide (c ≠ 0)) then (s.barCodes n, s1)
    else if (s1.slot q).state = 3 then s1.resumeExpired n q
    else s1.resumeParked n q

/-- LAT_END with CANCEL (R247): recorded, and applied at the first commit, whatever the admission cut-off. -/
def State.latCancel (s : State) (n q : Nat) : Nat × State :=
  if !s.slotInRange n q || decide (s.get fPART_LAYOUT_KIND n 0 = 1) then (stCmdInvalid, s)
  else if (s.slot q).state = 0 then (0, s)
  else (0, s.setSlot q { s.slot q with cancel := true })

/-- LAT_END with CANCEL as the walkers meet it: taken off the front of their queue where it stands there, its completion owed. -/
def State.cancelCmd (s : State) (n : Nat) (w : CmdWord) : State :=
  let o := s.latCancel n (svcSlot w)
  match (s.prt n).svc with
  | x :: xs => if x.word = w then (o.2.setPrt n { o.2.prt n with svc := xs }).oweSvc n (x.ring, x.reqId) o.1 else o.2
  | [] => o.2

end Sys2Proof.Machine
end

