-- ==== Sys2Proof/Machine/Loupe.lean ====
section
/-! DEFINITION. Loupe: sampling, drafts and stop rules (R236–R243), and the steps of a commit for each request (R235,
R242). -/

namespace Sys2Proof.Machine

/-! ### One row (R238, R239) -/

/-- R238: the penalty count of a token: the committed count and the overlay of the request's earlier drafts. -/
def State.penaltyCount (s : State) (tbl : Nat) (overlay : List Nat) (v : Nat) : Nat :=
  min (s.le (tbl + 2 * countIdx v) 2 + (overlay.filter (fun d => decide (countIdx d = countIdx v))).length) 65535

/-- R238: one logit after the penalties. -/
def penalised (rep pres freq c z : Nat) : Nat :=
  if c = 0 then z
  else
    let z1 := if flt 0 z then fdiv z rep else fmul z rep
    fsub (fsub z1 pres) (fmul freq (fofInt c))

/-- A token with its weight, put into its place: weight descending, then ID ascending. -/
def insertTok (e : Nat × Nat) : List (Nat × Nat) → List (Nat × Nat)
  | [] => [e]
  | x :: xs => if flt x.2 e.2 || (!flt e.2 x.2 && decide (e.1 < x.1)) then e :: x :: xs else x :: insertTok e xs
/-- Tokens sorted by weight descending, then ID ascending. [DESIGN CHOICE, log entry 48] -/
def sortToks : List (Nat × Nat) → List (Nat × Nat)
  | [] => []
  | x :: xs => insertTok x (sortToks xs)

/-- FP32 sum of weights in order. -/
def fsum (xs : List Nat) : Nat := xs.foldl fadd 0

/-- R238: the shortest prefix whose weight reaches a bound. -/
def prefixTo (bound : Nat) : Nat → List (Nat × Nat) → List (Nat × Nat)
  | _, [] => []
  | acc, x :: xs =>
    let a := fadd acc x.2
    if fle bound a then [x] else x :: prefixTo bound a xs

/-- R238: the first token whose running sum passes `t`; else the last of non-zero weight. [DESIGN CHOICE, log entry 48] -/
def drawTok (t : Nat) : Nat → Nat → List (Nat × Nat) → Nat
  | _, last, [] => last
  | acc, last, x :: xs =>
    let a := fadd acc x.2
    if flt t a then x.1 else drawTok t a (if flt 0 x.2 then x.1 else last) xs

/-- The value of an FP32 pattern is finite. -/
def ffinite (z : Nat) : Bool := !fnonFinite z

/-- R238: one row: the sampled token, or none where the row is poisoned. `d0`, `d1` are its two draws. [DESIGN CHOICE, log entry 48] -/
def sampleRow (zs : List Nat) (cnt : Nat → Nat) (temp topK topP minP rep pres freq d0 d1 : Nat) : Option Nat :=
  if zs.any (fun z => visNan (fdecode fp32 z) || decide (z = finf)) then none
  else
    let zp := (List.range zs.length).map (fun v => (v, penalised rep pres freq (cnt v) (zs.getD v 0)))
    let keep := zp.filter (fun e => ffinite e.2)
    match keep with
    | [] => none
    | k0 :: ks =>
      if fle temp 0 then some (ks.foldl (fun (b : Nat × Nat) e => if flt b.2 e.2 then e else b) k0).1
      else
        let scaled := keep.map (fun e => (e.1, fdiv e.2 temp))
        let top := if topK = 0 then scaled else (sortToks scaled).take topK
        let mx := top.foldl (fun a e => if flt a e.2 then e.2 else a) ((top.headD (0, 0)).2)
        let ws := if top.any (fun e => decide (e.2 = finf)) then
            top.map (fun e => (e.1, if e.2 = finf then fone else 0))
          else top.map (fun e => (e.1, expOf (fsub e.2 mx)))
        let ord := sortToks ws
        let sum := fsum (ord.map Prod.snd)
        let a := if flt topP fone then prefixTo (fmul topP sum) 0 ord else ord
        let mp := (a.headD (0, 0)).2
        let b := if flt 0 minP then a.filter (fun e => fle (fmul minP mp) e.2) else a
        let u : FVal := .fin false (d0 + 65536 * d1) (-32)
        let t := fencode fp32 (vmul u (fdecode fp32 (fsum (b.map Prod.snd))))
        some (drawTok t 0 ((b.headD (0, 0)).1) b)

/-- R240: accepted drafts: the first row at which the sampled token differs from its draft. -/
def acceptCount : List Nat → List Nat → Nat
  | t :: ts, d :: ds => if t = d then 1 + acceptCount ts ds else 0
  | _, _ => 0

/-! ### LOUPE_SAMPLE (R237) -/

/-- R237: runs of a sample list: slot and drafts of each request's consecutive rows, ending at the no-draft entry. [DESIGN CHOICE, log entry 48] -/
def sampleRuns : List (Nat × Nat) → Option Nat → List Nat → List (Nat × List Nat) → Option (List (Nat × List Nat))
  | [], none, _, done => some done.reverse
  | [], some _, _, _ => none
  | (q, d) :: es, cur, ds, done =>
    match cur with
    | none => if d = noToken then sampleRuns es none [] ((q, []) :: done) else sampleRuns es (some q) [d] done
    | some q0 =>
      if q ≠ q0 then none
      else if d = noToken then sampleRuns es none [] ((q, ds) :: done) else sampleRuns es (some q) (ds ++ [d]) done

/-- R237: one row of a segment, at `a`, `len` bytes, read in the partition's tray windows. -/
def State.segRead (s : State) (n a len : Nat) : Except Stop (List Nat) :=
  if s.inTrays n a len then s.remoteBytes a len else .error (.fault s stCmdInvalid stRangeFault 0 0 a)

/-- R237: one logit row gathered from the segments in vocabulary order. -/
def State.logitRow (s : State) (n : Nat) (segs : List (Nat × Nat × Nat)) (row : Nat) : Except Stop (List Nat) :=
  (segs.mapM (fun g => (s.segRead n (g.1 + row * g.2.2) (4 * g.2.1)).map (fun bs =>
    (List.range g.2.1).map (fun j => ofLe ((bs.drop (4 * j)).take 4))))).map List.flatten

/-- R238–R240: one request's run of rows, the first of them `row`: sampled, written at TOKEN_OUT, its draws taken, its outcome kept. -/
def State.sampleRun (s : State) (c : PlateCmd) (n : Nat) (rows : List (List Nat)) (row q : Nat) (drafts : List Nat) : Except Stop State := do
  let x := s.slot q
  let key := (s.prt n).rngKey
  let ctr := s.streamCtr n x.stream
  let k := drafts.length
  let toks := (List.range (k + 1)).map (fun i =>
    sampleRow (rows.getD (row + i) []) (s.penaltyCount x.counts (drafts.take i)) x.temp x.topK x.topP x.minP x.rep x.pres x.freq
      (streamDraw key x.stream ctr (2 * i)) (streamDraw key x.stream ctr (2 * i + 1)))
  let poison := toks.any Option.isNone
  let ts := toks.map (fun t => t.getD 0)
  let acc := acceptCount ts drafts
  let t1 ← s.clusterPut .grain c.plate (c.le 28 4 + 4 * row) ((ts.map (leBytes 4)).flatten)
  let t2 := if fle x.temp 0 then t1 else t1.advanceStream n x.stream (2 * (k + 1))
  let t3 := t2.nameReq c.plate q
  let smp : Sampled := { slot := q, tokens := ts, drafts := drafts, accepted := acc, poison := poison }
  let t4 := t3.setPrt n { t3.prt n with sampled := (t3.prt n).sampled ++ [smp] }
  let t5 := (t4.dens (144 + n) 23 acc).dens (144 + n) 24 (k - acc)
  .ok (if poison then t5.endSlot q stPoison else t5)

/-- LOUPE_SAMPLE (R237–R240). -/
def loupeSampleBody (c : PlateCmd) (s : State) : Except Stop State := do
  let n := s.ownerOf c.plate
  let rows := countOf (c.bits 8 0 12) 12
  let nseg := c.le 20 4
  let vocab := c.le 24 4
  need s (decide (1 ≤ nseg ∧ nseg ≤ 128 ∧ 1 ≤ vocab ∧ vocab ≤ 262144 ∧ c.trayAddr % 16 = 0 ∧ c.le 16 4 % 16 = 0 ∧ c.le 28 4 % 16 = 0 ∧
    c.le 28 4 < 2 ^ 26))
  let lb ← s.clusterRead .grain c.plate c.trayAddr (8 * rows)
  let sb ← s.clusterRead .grain c.plate (c.le 16 4) (16 * nseg)
  let ents := (List.range rows).map (fun i => (ofLe ((lb.drop (8 * i)).take 4), ofLe ((lb.drop (8 * i + 4)).take 4)))
  let segs := (List.range nseg).map (fun i =>
    (ofLe ((sb.drop (16 * i)).take 6), ofLe ((sb.drop (16 * i + 8)).take 4), ofLe ((sb.drop (16 * i + 12)).take 4)))
  need s (decide (segs.foldl (fun a g => a + g.2.1) 0 = vocab))
  match sampleRuns ents none [] [] with
  | none => faultWith s stCmdInvalid
  | some runs =>
    need s (decide ((runs.map Prod.fst).Nodup) && runs.all (fun r => decide (r.2.length ≤ 15)) &&
      runs.all (fun r => s.slotInRange n r.1 && decide ((s.slot r.1).state = 1)))
    let logits ← (List.range rows).mapM (fun i => s.logitRow n segs i)
    let r ← runs.foldlM (fun (a : State × Nat) run => do
      let t ← a.1.sampleRun c n logits a.2 run.1 run.2
      .ok (t, a.2 + run.2.length + 1)) (s, 0)
    let noted := r.1.clNotes c.plate [(c.trayAddr, 8 * rows), (c.le 16 4, 16 * nseg)]
    .ok ((List.range rows).foldl (fun t i => segs.foldl (fun u g => u.noteRemote c.plate (g.1 + i * g.2.2) (4 * g.2.1)) t) noted)

/-! ### Commit (R235, R241, R242) -/

/-- R241: which stop flags the token that has just been committed sets. `gen` is GEN with this token; `tail` the
generated tokens, newest first, this one included. -/
def State.stopFlags (s : State) (x : Slot) (gen : Nat) (tail : List Nat) : Nat × Nat :=
  let v := tail.headD 0
  let ntok := s.le x.stops 1
  let nseq := s.le (x.stops + 1) 1
  let f1 := if (List.range ntok).any (fun i => decide (s.le (x.stops + 64 + 4 * i) 4 = v)) then flagStopToken else 0
  let f2 := if (List.range nseq).any (fun j =>
      let len := s.le (x.stops + 192 + 80 * j) 4
      decide (len ≤ tail.length) &&
      decide ((tail.take len).reverse = (List.range len).map (fun k => s.le (x.stops + 208 + 80 * j + 4 * k) 4)))
    then flagStopSeq else 0
  let f3 := if x.maxNew ≤ gen then flagStopLen else 0
  (f1 + f2 + f3, if 262144 ≤ x.promptLen + gen then stSeqLimit else 0)

/-- R235 step 3: the committed tokens up to the first that ends the request, with its flags and code. -/
def State.cutTokens (s : State) (x : Slot) : Nat → List Nat → List Nat → List Nat × Nat × Nat
  | _, _, [] => ([], 0, 0)
  | gen, tail, v :: vs =>
    let r := s.stopFlags x (gen + 1) (v :: tail)
    if r.1 ≠ 0 ∨ r.2 ≠ 0 then ([v], r.1, r.2)
    else
      let q := s.cutTokens x (gen + 1) (v :: tail) vs
      (v :: q.1, q.2.1, q.2.2)

/-- Generated tokens already committed, newest first (at most the 16 a stop sequence can need). -/
def State.genTail (s : State) (x : Slot) : List Nat :=
  ((s.tokens x.tokLog (x.promptLen + x.gen - min x.gen 16) (min x.gen 16))).reverse

/-- A node written for a published block (R228). -/
def State.writeNode (s : State) (n i parent h f t64 : Nat) (toks : List Nat) : State :=
  let a := s.nodeAddr n i
  let b := s.bucketAddr n h
  let s1 := s.idxWrite n a (leBytes 8 h ++ leBytes 4 parent ++ leBytes 4 f ++ leBytes 4 (s.le b 4) ++ leBytes 4 0 ++ [1] ++
    List.replicate 7 0 ++ leBytes 8 t64 ++ List.replicate 24 0 ++ (toks.map (leBytes 4)).flatten)
  let s2 := s1.idxWrite n b (leBytes 4 i)
  let s3 := if parent = none32 then s2 else s2.idxWrite n (s2.nodeAddr n parent + 20) (leBytes 4 (s2.le (s2.nodeAddr n parent + 20) 4 + 1))
  let s4 := s3.patchFrame n f 0 [2]
  let s5 := s4.patchFrame n f 4 (leBytes 2 (s4.frameRefs n f + 1))
  (s5.patchFrame n f 8 (leBytes 4 i)).patchFrame n f 12 (leBytes 4 none32)

/-- A free node, reclaiming a leaf where none is free (R228, R229). [DEDUCED, log entry 46] -/
def State.takeNode (s : State) (n : Nat) : Option (Nat × State) :=
  match (List.range (s.nodeCount n)).find? (fun i => decide (s.le (s.nodeAddr n i + 24) 1 = 0)) with
  | some i => some (i, s)
  | none =>
    match s.reclaimOne n with
    | none => none
    | some t => ((List.range (t.nodeCount n)).find? (fun i => decide (t.le (t.nodeAddr n i + 24) 1 = 0))).map (fun i => (i, t))

/-- R228: every fully committed block from the first unpublished one, in block order. -/
def State.publish (s : State) (q t64 : Nat) : Nat → State
  | 0 => s
  | fuel + 1 =>
    let x := s.slot q
    let n := x.part
    let b := x.published.length
    if x.flags / 2 % 2 = 0 ∨ x.len < 64 * (b + 1) ∨ s.nodeCount n = 0 then s
    else
      let parent := if b = 0 then none32 else x.published.getD (b - 1) none32
      let toks := s.tokens x.tokLog (64 * b) 64
      match s.findChild n parent toks with
      | (some i, t) =>
        let t1 := (t.idxWrite n (t.nodeAddr n i + 32) (leBytes 8 t64)).dens (144 + n) 17 1
        (t1.setSlot q { t1.slot q with published := x.published ++ [i] }).publish q t64 fuel
      | (none, t) =>
        match t.takeNode n with
        | none => t.dens (144 + n) 18 1
        | some (i, t1) =>
          let t2 := t1.writeNode n i parent (childHash (t1.nodeHash n parent) toks) (x.frames.getD b 0) t64 toks
          (t2.setSlot q { t2.slot q with published := x.published ++ [i] }).publish q t64 fuel

/-- Records of one commit: FLAGS that every record carries (REPLAYED in attempt 1, R399). [DEDUCED, log entry 47] -/
def State.commitFlags (s : State) (n : Nat) : Nat := if (s.prt n).attempt = 1 then flagReplayed else 0

/-- R125, R126, R378: warnings of the exposure that concern a request: those of the contexts that have named it.
[DEDUCED, log entry 47] -/
def State.slotWarns (s : State) (n q : Nat) : List Nat :=
  (((s.prt n).warnings.filter (fun w => decide (q ∈ (s.ctx (w / 65536)).reqs))).map (fun w => w % 65536)).eraseDups

/-- R411, R414, R416: does the primary of a pair hold its completion records: in SYNCING, MIRRORED or CLAIMING? -/
def State.holdsRecords (s : State) (n : Nat) : Bool :=
  decide (s.get fPART_PAIR_ROLE n 0 = 0) &&
  decide (s.get fPART_PAIR_STAT_STATE n 0 = 1 ∨ s.get fPART_PAIR_STAT_STATE n 0 = 2 ∨ s.get fPART_PAIR_STAT_STATE n 0 = 3)

/-- The record of a request's ring, unless its ring is being disabled (R278). -/
def State.reqRecord (s : State) (n q status flags tok0 t64 : Nat) : State :=
  let x := s.slot q
  if x.noRecords then s
  else
    let e := s.embedEnd n x.ring x.reqId status flags
    let t := e.2.2
    if s.holdsRecords n then
      let r : OwedRec := { ring := x.ring, reqId := x.reqId, status := e.1, flags := flags + s.commitFlags n, token0 := tok0, token1 := e.2.1 }
      t.setPrt n { t.prt n with heldRecs := (t.prt n).heldRecs ++ [(r, t64, s.get fPART_EXPO_NOW_EXPO n 0)] }
    else t.placeRecord x.ring x.reqId e.1 (flags + s.commitFlags n) tok0 e.2.1 t64 (s.get fPART_EXPO_NOW_EXPO n 0)

/-- R499: lines of a request's own state that a commit is about to write and cannot: each is logged, and the request
ends with no token of the commit. -/
def State.commitWrites (s : State) (n q : Nat) : State :=
  let x := s.slot q
  let rec_ := s.get fPART_REQ_CFG_REQ_BASE n 0 + (q - s.get fPART_REQ_SLOTS_FIRST n 0) * 128
  let parts := if x.served then [(rec_, 120), (x.tokLog + 4 * (x.promptLen + x.gen), 64), (x.counts, 8192)] else []
  parts.foldl (fun t r => (t.badWrites r.1 r.2).foldl (fun u l => (u.noteUeAs n l 2).holdEnd q (ueCode l)) t) s

/-- R235: the commit's steps for one request, under the warnings of its contexts and EXPO_LATE or 0 (R255). -/
def State.commitSlot (s0 : State) (n q t64 expo late : Nat) : State :=
  if (s0.slot q).state = 4 ∨ (s0.slot q).state = 0 then s0
  else
    let s := s0.commitWrites n q
    let x := s.slot q
    let smp := (s.prt n).sampled.find? (fun r => decide (r.slot = q))
    let fatal := decide (x.endCode ≠ 0) && decide (statusRank x.endCode = 3)
    let toks := if fatal then [] else match smp with
      | some r => r.drafts.take r.accepted ++ [r.tokens.getD r.accepted 0]
      | none => []
    let cut := s.cutTokens x x.gen (s.genTail x) toks
    let kept := cut.1
    let acc := match smp with
      | some r => min r.accepted kept.length
      | none => 0
    let pendingPos := x.promptLen + x.gen - 1
    let len := if fatal then x.len else max x.len (min x.wrote (pendingPos + 1 + acc))
    let s1 := kept.foldl (fun t v =>
      let y := t.slot q
      ((t.keepLe (y.tokLog + 4 * (y.promptLen + y.gen)) 4 v).countToken y.counts v).setSlot q { y with gen := y.gen + 1 }) s
    let s2 := (s1.setSlot q { s1.slot q with len := len }).fillFrames n q x.len len
    let s3 := if x.state = 1 then s2.publish q t64 (len / 64 + 1) else s2
    let stopped := decide (cut.2.1 ≠ 0 ∨ cut.2.2 ≠ 0)
    let dl := if !stopped && decide (x.deadline ≠ 0 ∧ x.deadline ≤ expo) && decide (x.state = 1) then stDeadline else 0
    let code := statusMax x.endCode (statusMax cut.2.2 dl)
    let ends := fatal || stopped || decide (dl ≠ 0) || x.cancel
    let warns := if x.served || decide (kept.length ≠ 0) then s0.slotWarns n q else []
    let warn := warns.foldl statusMax 0
    let base := (if x.cancel then flagCancelled else 0)
    let s4 := (List.range kept.length).foldl (fun t i =>
      let last := decide (i + 1 = kept.length)
      let fl := if last && ends then flagFinal + cut.2.1 + base else 0
      t.reqRecord n q (statusMax (statusMax (if last then code else 0) warn) late) fl (kept.getD i 0) t64) s3
    let s5 := if ends && decide (kept.length = 0) then
        s4.reqRecord n q (statusMax (statusMax code warn) late) (flagFinal + base) noToken t64 else s4
    let codes := if kept.length ≠ 0 ∨ ends then [x.endCode, cut.2.2, dl] ++ x.lesser ++ warns ++ [late] else []
    let s6 := if x.noRecords then s5 else s5.logUnreported n x.reqId (statusMax (statusMax code warn) late) codes
    let s7 := s6.setSlot q { s6.slot q with wrote := 0, served := false, lesser := [], endCode := 0, heldCode := 0 }
    if ends then s7.releaseSlot q else s7.writeRecord q

end Sys2Proof.Machine
end

