-- ==== Sys2Proof/Machine/Safelight.lean ====
section
/-! DEFINITION. Safelight: the Safelight unit, the burn path and the agitator (R108–R138). -/

namespace Sys2Proof.Machine

/-! ### Access and arithmetic (R109, R110) -/

/-- R110: a cluster tray address read by a cluster unit. [DEDUCED, log entry 18] -/
def State.clRead (s : State) (p a n : Nat) : Except Stop (List Nat) := s.clusterRead .cluster p a n
/-- A little-endian number at a cluster tray address. -/
def State.clLe (s : State) (p a n : Nat) : Except Stop Nat := (s.clRead p a n).map ofLe
/-- Bytes written at a cluster tray address. [DEDUCED, log entry 18] -/
def State.clPut (s : State) (p a : Nat) (bs : List Nat) : Except Stop State := s.clusterPut .cluster p a bs

/-- R115: the floating-point format of a code 0–4. -/
def fmtOfCode (k : Nat) : Fmt := if k = 0 then bf16 else if k = 1 then fp32 else if k = 2 then fp16 else if k = 3 then e4m3 else e5m2
/-- Bytes of a value of format code `k`. -/
def fmtSize (k : Nat) : Nat := if k = 0 then 2 else if k = 1 then 4 else if k = 2 then 2 else 1
/-- R114: bytes between staged rows of `n` values of format code `k`. -/
def stagedStride (k n : Nat) : Nat := roundUp (fmtSize k * n) 64

/-- `n` values of format code `k` at a cluster tray address. -/
def State.clVals (s : State) (p a k n : Nat) : Except Stop (List FVal) :=
  (s.clRead p a (fmtSize k * n)).map (fun bs => (List.range n).map (fun j =>
    fdecode (fmtOfCode k) (ofLe ((bs.drop (fmtSize k * j)).take (fmtSize k)))))

/-- An FP32 result stored in format code `k` (R51). -/
def outVal (k y : Nat) : List Nat := leBytes (fmtSize k) (fconv fp32 (fmtOfCode k) y)

/-- R109: terms added two at a time in an order the interface does not fix, each sum rounded to FP32. [DESIGN CHOICE, log entry 16] -/
def sumTerms (draw key : Nat) : Nat → List FVal → FVal
  | 0, ts => ts.headD (.fin false 0 0)
  | k + 1, ts =>
    match ts with
    | [] => .fin false 0 0
    | [x] => x
    | x :: xs =>
      let pick := Config.sumPick draw key k
      let i := pick.1 % (x :: xs).length
      let a := (x :: xs).getD i x
      let rest := (x :: xs).eraseIdx i
      let j := pick.2 % rest.length
      sumTerms draw key k ((fdecode fp32 (fencode fp32 (vadd a (rest.getD j x)))) :: rest.eraseIdx j)

/-- R109: an FP32 sum of exact products. [DESIGN CHOICE, log entry 16] -/
def sumFp32 (draw key : Nat) (ts : List FVal) : Nat := fencode fp32 (sumTerms draw key ts.length ts)

/-- Products of two vectors, exact. -/
def products (xs ys : List FVal) : List FVal := List.zipWith vmul xs ys

/-- Whole square root, found bit by bit from bit `k - 1` down. -/
def isqrt (n : Nat) : Nat → Nat → Nat
  | 0, r => r
  | k + 1, r => if (r + 2 ^ k) * (r + 2 ^ k) ≤ n then isqrt n k (r + 2 ^ k) else isqrt n k r

/-- FP32 square root, rounded to nearest even (R50). [DESIGN CHOICE, log entry 16] -/
def fsqrt (x : Nat) : Nat :=
  match fdecode fp32 x with
  | .fin _ 0 _ => x
  | .fin true _ _ => fnan
  | .fin false m e =>
    let e0 : Int := e - 64
    let odd := decide (e0 % 2 ≠ 0)
    let m1 := m * 2 ^ (if odd then 65 else 64)
    let e1 := if odd then e0 - 1 else e0
    let r := isqrt m1 64 0
    let r2 := if r * r = m1 then 2 * r else 2 * r + 1
    fencode fp32 (.fin false r2 (e1 / 2 - 1))
  | .inf false => x
  | _ => fnan

/-- Largest of FP32 numbers; NaN if one is NaN. -/
def fmaxOf (xs : List Nat) : Nat :=
  if xs.any (fun x => visNan (fdecode fp32 x)) then fnan
  else xs.foldl (fun a x => if flt a x then x else a) (xs.headD 0)

/-- A fresh draw for the orders of a command's sums. -/
def State.nextDraw (s : State) : State := { s with free := s.free + 1 }

/-! ### Records (R91, R116) -/

/-- R91: a drain record. -/
structure DrainRec where
  sw : Nat
  sa : Nat
  saStride : Nat
  swBf16 : Bool
  rowmax : Nat
  burn : Nat
  lr : Nat
  addStride : Nat
  excl : Nat
  deriving DecidableEq, Repr

/-- R91: a drain record from its bytes. -/
def drainRec (bs : List Nat) : DrainRec :=
  let f (i n : Nat) : Nat := ofLe ((bs.drop i).take n)
  { sw := f 0 4, sa := f 4 4, saStride := f 8 2, swBf16 := decide (f 10 1 % 2 = 1), rowmax := f 12 4, burn := f 16 4, lr := f 20 4,
    addStride := f 24 2, excl := f 32 32 }
/-- R91: the alignment of a drain record's fields. -/
def drainRecOk (r : DrainRec) : Bool :=
  decide (r.sa % 4 = 0 ∧ r.rowmax % 4 = 0 ∧ r.burn % 4 = 0 ∧ r.lr % 4 = 0 ∧ r.sw % (if r.swBf16 then 2 else 4) = 0 ∧
    r.saStride % 4 = 0 ∧ r.addStride % 16 = 0)
/-- A drain record read by a cluster unit. -/
def State.clDrainRec (s : State) (p a : Nat) : Except Stop DrainRec := do
  need s (decide (a % 64 = 0))
  let bs ← s.clRead p a 64
  need s (drainRecOk (drainRec bs))
  .ok (drainRec bs)
/-- Channel scale `j` of a drain record as FP32. -/
def State.clScale (s : State) (p : Nat) (r : DrainRec) (j : Nat) : Except Stop Nat :=
  if r.swBf16 then (s.clLe p (r.sw + 2 * j) 2).map (fconv bf16 fp32) else s.clLe p (r.sw + 4 * j) 4

/-- R116: a weight record. -/
structure WRec where
  fmt : Nat
  plane : Bool
  grouped : Bool
  gsize : Nat
  colBytes : Nat
  tile : Nat
  tileStride : Nat
  gmult : Nat
  gmultTile : Nat
  gmultStride : Nat
  deriving DecidableEq, Repr

/-- R116, R98: a weight record read and checked; the addresses it holds need no alignment. [DESIGN CHOICE, log entry 77] -/
def State.clWRec (s : State) (p a : Nat) : Except Stop WRec := do
  let bs ← s.clRead p a 32
  let f (i n : Nat) : Nat := ofLe ((bs.drop i).take n)
  let fmt := bitsOf (f 0 1) 0 5
  let plane := decide (bitsOf (f 0 1) 5 1 = 1)
  let grouped := decide (bitsOf (f 0 1) 6 1 = 1)
  need s (decide (fmt ≤ 16) && (!plane || decide (2 ≤ fmt)))
  let w : WRec :=
    { fmt := fmt, plane := plane, grouped := grouped, gsize := 16 * 2 ^ f 1 1,
      colBytes := if f 2 2 = 0 then (if fmt = 0 then 32 else if fmt = 1 then 20 else 20 * fmt) else f 2 2,
      tile := f 4 4, tileStride := f 8 4, gmult := f 12 4, gmultTile := f 16 4, gmultStride := f 20 2 }
  if grouped && decide (fmt < 2 ∨ 8 < fmt ∨ f 1 1 = 0 ∨ 3 < f 1 1) then faultWith s stMetaFault else .ok w

/-- R116: weight `q × g` of reduction element `i`, column `j`. -/
def State.clWeight (s : State) (p : Nat) (w : WRec) (i j : Nat) : Except Stop Int := do
  let rows := if w.grouped then 128 else 160
  let t := i / rows
  let r := i % rows
  let col := w.tile + t * w.tileStride + j * w.colBytes
  let q ← (if w.fmt = 0 then do
      let v ← s.clLe p (col + r / 5) 1
      if t5Invalid v then .error (.fault s stTritInvalid stTritInvalid 0 v (trayAddr (clusterAddr p (col + r / 5)).1
        (clusterAddr p (col + r / 5)).2))
      else .ok (t5Trit v (r % 5))
    else if w.fmt = 1 then do
      let v ← s.clLe p (col + r / 8) 1
      .ok (if v.testBit (r % 8) then (1 : Int) else -1)
    else if w.plane then do
      let vs ← (List.range w.fmt).mapM (fun i => s.clLe p (col + 20 * i + r / 8) 1)
      .ok (signedOf ((List.range w.fmt).foldl (fun a i => if (vs.getD i 0).testBit (r % 8) then a + 2 ^ i else a) 0) w.fmt)
    else do
      let lo := r * w.fmt / 8
      let hi := ceilDiv ((r + 1) * w.fmt) 8
      let v ← s.clLe p (col + lo) (hi - lo)
      .ok (signedOf (bitsOf v (r * w.fmt - 8 * lo) w.fmt) w.fmt))
  let g ← (if w.grouped then s.clLe p (w.gmult + t * w.gmultTile + j * w.gmultStride + r / w.gsize) 1 else .ok 1)
  .ok (q * (g : Int))

/-- An integer as an exact value. -/
def vint (v : Int) : FVal := .fin (decide (v < 0)) v.natAbs 0

/-- SHAPE of R114: ROWS. -/
def safeRows (c : PlateCmd) : Nat := countOf (c.bits 8 0 12) 12
/-- SHAPE of R114: COLS. -/
def safeCols (c : PlateCmd) : Nat := c.bits 8 12 9
/-- R114: COLS in range, and the addresses named are multiples of 16. -/
def safeOk (c : PlateCmd) (addrs : List Nat) : Bool :=
  decide (1 ≤ safeCols c ∧ safeCols c ≤ 256) && (c.trayAddr :: addrs).all (fun a => decide (a % 16 = 0))

/-! ### SAFE_GEMM (R115) -/

/-- Matrix B of a SAFE_GEMM by columns. -/
def State.gemmB (s : State) (c : PlateCmd) : Except Stop (List (List FVal)) := do
  let k := c.le 18 2
  let b := c.le 20 4
  let n := safeCols c
  let code := c.le 17 1
  if code = 0 then do
    let w ← s.clWRec c.plate b
    (List.range n).mapM (fun j => (List.range k).mapM (fun i => (s.clWeight c.plate w i j).map vint))
  else do
    let f := if code = 0x80 then 0 else if code = 0x81 then 2 else if code = 0x82 then 3 else if code = 0x83 then 4 else 1
    let rows ← (List.range k).mapM (fun i => s.clVals c.plate (b + i * n * fmtSize f) f n)
    .ok ((List.range n).map (fun j => rows.map (fun r => r.getD j .nan)))

/-- R115: one output value: product, times k(j), plus the low-rank addend, plus C as it stood. -/
def gemmValue (prod : Nat) (k lr old : Option Nat) : Nat :=
  let y1 := match k with
    | some v => fmul prod v
    | none => prod
  let y2 := match lr with
    | some v => fadd y1 v
    | none => y1
  match old with
    | some v => fadd y2 v
    | none => y2

/-- A row maximum folded as in R90 over the columns EXCL does not exclude. -/
def foldRowmax (excl old : Nat) (ys : List Nat) : Nat :=
  (List.range ys.length).foldl (fun a j => if excl.testBit j then a else fmaxFold a (ys.getD j 0)) old

/-- R168: the bytes of column `j` of the tiles of a weight record that hold its first `k` elements, with the multipliers. -/
def wrecReads (w : WRec) (k j : Nat) : List (Nat × Nat) :=
  let rows := if w.grouped then 128 else 160
  ((List.range (ceilDiv k rows)).map (fun t =>
    [(w.tile + t * w.tileStride + j * w.colBytes, colBytesRead w.fmt w.plane (min rows (k - t * rows)))] ++
    (if w.grouped then [(w.gmult + t * w.gmultTile + j * w.gmultStride, ceilDiv (min rows (k - t * rows)) w.gsize)] else []))).flatten

/-- R168: the reads of matrix B of a SAFE_GEMM. -/
def State.gemmReads (s : State) (c : PlateCmd) : List (Nat × Nat) :=
  let n := safeCols c
  if c.le 17 1 = 0 then match s.clWRec c.plate (c.le 20 4) with
    | .ok w => (c.le 20 4, 32) :: ((List.range n).map (wrecReads w (c.le 18 2))).flatten
    | .error _ => []
  else [(c.le 20 4, c.le 18 2 * n * (if c.le 17 1 = 0x84 then 4 else if c.le 17 1 ≤ 0x81 then 2 else 1))]

/-- R168: the reads of a drain record and of the channel table it names. -/
def drecReads (a : Nat) (r : DrainRec) (n : Nat) (folded : Bool) : List (Nat × Nat) :=
  (a, 64) :: (if folded then [] else [(r.sw, (if r.swBf16 then 2 else 4) * n)])

/-- SAFE_GEMM (R115): rows of A lie at the staged stride of its format, a B that is not quantised is packed. [DEDUCED, log entry 18; DESIGN CHOICE,
log entry 77] -/
def safeGemmBody (c : PlateCmd) (s : State) : Except Stop State := do
  let p := c.plate
  let af := c.bits 16 0 3
  let cf := c.bits 16 3 3
  let k := c.le 18 2
  let cAt := c.le 24 4
  let dAt := c.le 28 4
  let n := safeCols c
  need s (safeOk c [c.le 20 4, cAt, dAt])
  need s (decide (af ≤ 4 ∧ cf ≤ 4 ∧ 1 ≤ k ∧ (c.le 17 1 = 0 ∨ 0x80 ≤ c.le 17 1 ∧ c.le 17 1 ≤ 0x84)))
  let d ← if dAt = 0 then .ok none else (s.clDrainRec p dAt).map some
  let folded := decide (c.bits 2 0 1 = 1)
  let ks ← match d with
    | some r => if folded then .ok [] else (List.range n).mapM (s.clScale p r)
    | none => .ok []
  let b ← s.gemmB c
  let draw := s.free
  (List.range (safeRows c)).foldlM (fun t i => do
    let a ← t.clVals p (c.trayAddr + i * stagedStride af k) af k
    let old ← if c.bits 2 4 1 = 1 then (t.clVals p (cAt + i * stagedStride cf n) cf n).map (fun vs => vs.map (fun v => some (fencode fp32 v)))
      else .ok []
    let lrs ← match d with
      | some r => if c.bits 2 1 1 = 1 then (List.range n).mapM (fun j => (t.clLe p (r.lr + i * r.addStride + 4 * j) 4).map some) else .ok []
      | none => .ok []
    let ys := (List.range n).map (fun j =>
      gemmValue (sumFp32 draw (i * n + j) (products a (b.getD j []))) ks[j]? (lrs.getD j none) (old.getD j none))
    let reads := [(c.trayAddr + i * stagedStride af k, fmtSize af * k)] ++
      (if c.bits 2 4 1 = 1 then [(cAt + i * stagedStride cf n, fmtSize cf * n)] else []) ++
      (match d with
        | some r => (if c.bits 2 1 1 = 1 then [(r.lr + i * r.addStride, 4 * n)] else []) ++
          (if c.bits 2 2 1 = 1 ∧ c.bits 2 3 1 = 0 then [(r.rowmax + 4 * i, 4)] else [])
        | none => [])
    let t1 ← (t.clNotes p reads).clPut p (cAt + i * stagedStride cf n) ((ys.map (outVal cf)).flatten)
    match d with
    | some r =>
      if c.bits 2 2 1 = 1 then do
        let m ← if c.bits 2 3 1 = 1 then .ok 0 else t1.clLe p (r.rowmax + 4 * i) 4
        t1.clPut p (r.rowmax + 4 * i) (leBytes 4 (foldRowmax r.excl m ys))
      else .ok t1
    | none => .ok t1) ((s.nextDraw).clNotes p (s.gemmReads c ++ (match d with
      | some r => drecReads dAt r n folded
      | none => [])))

/-! ### SAFE_ROWOP (R117) -/

/-- R117: LEN of a SAFE_ROWOP. -/
def rowopLen (c : PlateCmd) : Nat := c.bits 8 12 19

/-- R117: mean of squares, and RMS normalisation of a row; FP32, rounded after each operation. -/
def rmsnormRow (draw key eps : Nat) (xs gamma : List Nat) : List Nat :=
  let vs := xs.map (fdecode fp32)
  let mean := fdiv (sumFp32 draw key (products vs vs)) (fofInt xs.length)
  let rms := fsqrt (fadd mean eps)
  List.zipWith (fun x g => fmul (fdiv x rms) g) xs gamma

/-- R117: layer normalisation of a row. -/
def layernormRow (draw key eps : Nat) (xs gamma beta : List Nat) : List Nat :=
  let n := fofInt xs.length
  let mu := fdiv (sumFp32 draw (2 * key) (xs.map (fdecode fp32))) n
  let ds := xs.map (fun x => fsub x mu)
  let vs := ds.map (fdecode fp32)
  let sd := fsqrt (fadd (fdiv (sumFp32 draw (2 * key + 1) (products vs vs)) n) eps)
  (List.range xs.length).map (fun j => fadd (fmul (fdiv (ds.getD j 0) sd) (gamma.getD j 0)) (beta.getD j 0))

/-- R48, R49: a row as G8 superblocks, and its saturations. `base` numbers its first draw. -/
def g8Row (xs : List FVal) (draw : Nat → Option Nat) : List Nat × Nat :=
  let blocks := ceilDiv xs.length 1024
  (List.range blocks).foldl (fun (a : List Nat × Nat) b =>
    let gs := (List.range 32).map (fun g => g8Group ((List.range 32).map (fun k => xs.getD (1024 * b + 32 * g + k) (.fin false 0 0)))
      (fun k => draw (1024 * b + 32 * g + k)))
    (a.1 ++ gs.map (fun g => g.1) ++ (gs.map (fun g => g.2.1)).flatten, gs.foldl (fun x g => x + g.2.2) a.2)) ([], 0)

/-- R48: bytes of `n` elements as G8 superblocks. -/
def g8Bytes (n : Nat) : Nat := ceilDiv n 1024 * 1056

/-- R49: values of `n` elements held as G8 superblocks. -/
def g8Vals (bs : List Nat) (n : Nat) : List FVal :=
  (List.range n).map (fun i =>
    let blk := bs.drop (i / 1024 * 1056)
    g8Value (blk.getD (i % 1024 / 32) 0) (blk.getD (32 + i % 1024) 0))

/-- Input row `r` of a SAFE_ROWOP as FP32. -/
def State.rowIn (s : State) (p a f n : Nat) : Except Stop (List Nat) :=
  if f = 5 then (s.clRead p a (g8Bytes n)).map (fun bs => (g8Vals bs n).map (fencode fp32))
  else (s.clVals p a f n).map (fun vs => vs.map (fencode fp32))

/-- The output bytes of an element-wise SAFE_ROWOP for one row. -/
def rowopOut (op of : Nat) (draw key eps : Nat) (xs bs gamma beta : List Nat) (v : Nat) : List Nat :=
  let ys :=
    if op = 1 then List.zipWith fadd xs bs
    else if op = 2 then List.zipWith fmul xs bs
    else if op = 3 then xs.map siluOf
    else if op = 4 then xs.map geluOf
    else if op = 5 then rmsnormRow draw key eps xs gamma
    else if op = 6 then layernormRow draw key eps xs gamma beta
    else if op = 7 then [fmaxOf xs]
    else if op = 8 then xs.map (fun x => expOf (fsub x v))
    else if op = 9 then [sumFp32 draw key (xs.map (fdecode fp32))]
    else if op = 10 then xs.map (fun x => fmul x v)
    else if op = 11 then xs.map (fun x => fdiv fone x)
    else xs
  (ys.map (outVal (if op = 7 ∨ op = 9 then 1 else of))).flatten

/-- R65: saturations by a quantiser of the plate counted. -/
def State.noteSats (s : State) (p n : Nat) : State := s.dens p 9 n

/-- R64: a plate command's quantiser bound to its stream. -/
def State.noteShared (s : State) (c : PlateCmd) (stream : Nat) : State :=
  s.bindStream (s.ownerOf c.plate) stream (quantiserOf c) { code := 0, die := dieOfPlate c.plate, unit := 3, inst := c.plate / 8 }

/-- R66: the conversions of CONVERT, G8_QUANT and G8_DEQUANT that the engine performs, and no others: FP32 to and from each format, FP16
and BF16 to FP8, and a copy; G8 from and to FP32. [DESIGN CHOICE, log entry 77] -/
def convertible (op f o : Nat) : Bool :=
  if op = 0 then decide (f = o ∨ f = 1 ∨ o = 1) || (decide (f = 0 ∨ f = 2) && decide (3 ≤ o))
  else if op = 12 then decide (f = 1)
  else if op = 13 then decide (o = 1)
  else true

/-- SAFE_ROWOP (R117); GAMMA and BETA are vectors of the input format, and need no alignment. [DEDUCED, log entry 18; DESIGN CHOICE, log entry 77] -/
def safeRowopBody (c : PlateCmd) (s : State) : Except Stop State := do
  let p := c.plate
  let n := s.ownerOf p
  let op := c.le 16 1
  let f := c.bits 17 0 3
  let o := c.bits 17 3 3
  let len := rowopLen c
  let stride := c.le 18 2
  let dest := c.le 24 4
  let pb := c.le 28 4
  let usesB := decide (op = 1 ∨ op = 2 ∨ op = 8 ∨ op = 10)
  let usesP := decide (op = 5 ∨ op = 6 ∨ op = 12)
  need s (decide (op ≤ 13 ∧ 1 ≤ len ∧ len ≤ 262144 ∧ c.trayAddr % 16 = 0 ∧ dest % 16 = 0 ∧
    (f ≤ 4 ∨ f = 5 ∧ op = 13) ∧ (o ≤ 4 ∨ o = 5 ∧ op = 12) ∧ (op = 12 → o = 5) ∧ (op = 13 → f = 5)) && convertible op f o)
  need s ((!usesB || decide (c.le 20 4 % 16 = 0)) && (!usesP || decide (pb % 16 = 0)))
  let blk ← if usesP then s.clRead p pb 64 else .ok []
  let pf (i k : Nat) : Nat := ofLe ((blk.drop i).take k)
  let gamma ← if op = 5 ∨ op = 6 then (s.rowIn p (pf 0 4) f len) else .ok []
  let beta ← if op = 6 then (s.rowIn p (pf 4 4) f len) else .ok []
  let stream := pf 12 3
  let key := (s.prt n).rngKey
  let ctr := s.streamCtr n stream
  let padded := ceilDiv len 1024 * 1024
  let draw := s.free
  let r ← (List.range (safeRows c)).foldlM (fun (a : State × Nat) i => do
    let xs ← a.1.rowIn p (c.trayAddr + i * stride) f len
    let bs ← if op = 1 ∨ op = 2 then a.1.rowIn p (c.le 20 4 + i * stride) f len else .ok []
    let v ← if op = 8 ∨ op = 10 then a.1.clLe p (c.le 20 4 + 4 * i) 4 else .ok 0
    let size := if f = 5 then g8Bytes len else fmtSize f * len
    let t := a.1.clNotes p ([(c.trayAddr + i * stride, size)] ++ (if op = 1 ∨ op = 2 then [(c.le 20 4 + i * stride, size)] else []) ++
      (if op = 8 ∨ op = 10 then [(c.le 20 4 + 4 * i, 4)] else []))
    if op = 12 then do
      let q := g8Row (xs.map (fdecode fp32)) (fun k => if stream = 0 then none else some (streamDraw key stream ctr (i * padded + k)))
      let t1 ← t.clPut p (dest + i * stride) q.1
      .ok (t1, a.2 + q.2)
    else do
      let at_ := if op = 7 ∨ op = 9 then dest + 4 * i else dest + i * stride
      let t1 ← t.clPut p at_ (rowopOut op o draw i (pf 8 4) xs bs gamma beta v)
      .ok (t1, a.2)) ((s.nextDraw).clNotes p ((if usesP then [(pb, 64)] else []) ++
        (if op = 5 ∨ op = 6 then [(pf 0 4, fmtSize f * len)] else []) ++ (if op = 6 then [(pf 4 4, fmtSize f * len)] else [])), 0)
  .ok (if op = 12 then (((r.1.noteSats p r.2).advanceStream n stream (safeRows c * padded)).noteShared c stream) else r.1)

/-! ### SAFE_LOWRANK (R118, R119) -/

/-- SAFE_LOWRANK, phase DOWN (R119). -/
def lowrankDown (c : PlateCmd) (rank : Nat) (s : State) : Except Stop State := do
  let p := c.plate
  let n := safeCols c
  let mat ← (List.range n).mapM (fun j => s.clVals p (c.le 16 4 + 2 * rank * j) 0 rank)
  let draw := s.free
  (List.range (safeRows c)).foldlM (fun t i => do
    let x ← t.clVals p (c.trayAddr + i * stagedStride 0 n) 0 n
    let z := (List.range rank).map (fun k => sumFp32 draw (i * rank + k) (products x (mat.map (fun r => r.getD k .nan))))
    (t.clNote p (c.trayAddr + i * stagedStride 0 n) (2 * n)).clPut p (c.le 20 4 + 4 * rank * i) ((z.map (leBytes 4)).flatten)) ((s.nextDraw).clNote p (c.le 16 4) (2 * rank * n))

/-- SAFE_LOWRANK, phase UP (R119): partial sums in ascending array order, then the product with B. -/
def lowrankUp (c : PlateCmd) (rank nsrc : Nat) (s : State) : Except Stop State := do
  let p := c.plate
  let n := safeCols c
  let d ← s.clDrainRec p (c.le 24 4)
  let mat ← (List.range rank).mapM (fun k => s.clVals p (c.le 16 4 + 2 * n * k) 0 n)
  let size := roundUp (safeRows c * rank * 4) 64
  let draw := s.free
  (List.range (safeRows c)).foldlM (fun t i => do
    let zs ← (List.range nsrc).mapM (fun a => t.clVals p (c.trayAddr + a * size + 4 * rank * i) 1 rank)
    let z := (List.range rank).map (fun k => match zs.map (fun r => fencode fp32 (r.getD k .nan)) with
      | [] => 0
      | v :: vs => vs.foldl fadd v)
    let ys := (List.range n).map (fun j => sumFp32 draw (i * n + j) (products (z.map (fdecode fp32)) (mat.map (fun r => r.getD j .nan))))
    ((t.clNotes p ((List.range nsrc).map (fun a => (c.trayAddr + a * size + 4 * rank * i, 4 * rank)))).clPut p (d.lr + i * d.addStride)
      ((ys.map (leBytes 4)).flatten))) ((s.nextDraw).clNotes p [(c.le 24 4, 64), (c.le 16 4, 2 * n * rank)])

/-- SAFE_LOWRANK (R119). [DEDUCED, log entry 18] -/
def safeLowrankBody (c : PlateCmd) (s : State) : Except Stop State := do
  let rank := c.bits 8 21 7
  let nsrc := c.bits 2 1 7
  let up := decide (c.bits 2 0 1 = 1)
  need s (safeOk c [c.le 16 4, if up then c.le 24 4 else c.le 20 4])
  need s (decide (1 ≤ rank ∧ rank ≤ 64 ∧ 1 ≤ nsrc))
  if up then lowrankUp c rank nsrc s else lowrankDown c rank s

/-! ### Burn path (R120–R129) -/

/-- R121: a burn list or sheet. -/
structure Sheet where
  count : Nat
  static : Nat
  decision : Nat
  clipped : Nat
  layer : Nat
  expo : Nat
  entries : List (Nat × Bool)
  deriving DecidableEq, Repr

/-- R121: a sheet from its 1,088 bytes. -/
def sheetOf (bs : List Nat) : Sheet :=
  let f (i n : Nat) : Nat := ofLe ((bs.drop i).take n)
  { count := f 0 2, static := f 2 2, decision := f 4 1, clipped := f 6 2, layer := f 8 2, expo := f 16 8,
    entries := (List.range (min (f 0 2) 256)).map (fun e => (f (64 + 4 * e) 3, decide (f (67 + 4 * e) 1 % 2 = 1))) }

/-- R121: the bytes of a sheet. -/
def sheetBytes (x : Sheet) : List Nat :=
  leBytes 2 x.count ++ leBytes 2 x.static ++ [x.decision, 0] ++ leBytes 2 x.clipped ++ leBytes 2 x.layer ++ List.replicate 6 0 ++
  leBytes 8 x.expo ++ List.replicate 40 0 ++
  ((x.entries.map (fun (e : Nat × Bool) => leBytes 3 e.1 ++ [if e.2 then 1 else 0])).flatten ++ List.replicate 1024 0).take 1024

/-- Strictly ascending numbers. -/
def ascending : List Nat → Bool
  | x :: y :: r => decide (x < y) && ascending (y :: r)
  | _ => true

/-- R122: the checks of a list or sheet. -/
def sheetOk (x : Sheet) : Bool :=
  decide (x.count ≤ 256 ∧ x.static ≤ x.count ∧ x.decision ≤ 2) &&
  ascending ((x.entries.take x.static).map Prod.fst) && ascending ((x.entries.drop x.static).map Prod.fst) &&
  (x.entries.take x.static).all (fun e => (x.entries.drop x.static).all (fun d => decide (d.1 ≠ e.1)))

/-- A list or sheet read and checked (R122). -/
def State.clSheet (s : State) (p a : Nat) : Except Stop Sheet := do
  let bs ← s.clRead p a 1088
  if sheetOk (sheetOf bs) then .ok (sheetOf bs) else faultWith s stMetaFault

/-- R123: the candidate of one column: its largest finite magnitude where that exceeds THRESH, else 0. -/
def candidateOf (thresh : Nat) (xs : List FVal) : Nat :=
  let m := (xs.filter (fun x => !vnonFinite x)).foldl (fun a x => if vlt a (vabs x) then vabs x else a) (.fin false 0 0)
  if vlt (fdecode fp32 thresh) m then fencode bf16 m else 0

/-- BURN_SCAN (R123). -/
def burnScanBody (c : PlateCmd) (s : State) : Except Stop State := do
  let p := c.plate
  let n := safeCols c
  let chan := c.le 28 3
  need s (safeOk c [c.le 16 4, c.le 20 4])
  let list ← s.clSheet p (c.le 16 4)
  let rows ← (List.range (safeRows c)).mapM (fun i => s.clVals p (c.trayAddr + i * stagedStride 0 n) 0 n)
  let vals := (List.range n).map (fun j =>
    if (list.entries.take list.static).any (fun e => decide (e.1 = chan + j)) then 0
    else candidateOf (c.le 24 4) (rows.map (fun r => r.getD j .nan)))
  let s1 := s.clNotes p ((c.le 16 4, 1088) :: (List.range (safeRows c)).map (fun i => (c.trayAddr + i * stagedStride 0 n, 2 * n)))
  s1.clPut p (c.le 20 4) (leBytes 4 chan ++ leBytes 2 n ++ List.replicate 58 0 ++
    ((vals.map (leBytes 2)).flatten ++ List.replicate 512 0).take 512)

/-- A candidate put in its place: magnitude descending, then channel ascending. -/
def insertCand (e : Nat × Nat) : List (Nat × Nat) → List (Nat × Nat)
  | [] => [e]
  | x :: xs => if x.2 < e.2 || (decide (x.2 = e.2) && decide (e.1 < x.1)) then e :: x :: xs else x :: insertCand e xs
/-- A channel put in its place, ascending. -/
def insertChan (e : Nat) : List Nat → List Nat
  | [] => [e]
  | x :: xs => if e < x then e :: x :: xs else x :: insertChan e xs

/-- R124: the decision: the dynamic channels, DECISION and CLIPPED. -/
def burnDecision (count cap : Nat) (fallback : Bool) (cands : List (Nat × Nat)) : List Nat × Nat × Nat :=
  let sorted := cands.foldl (fun (a : List (Nat × Nat)) e => insertCand e a) []
  if sorted.length + count ≤ cap then (sorted.map Prod.fst, 0, 0)
  else if fallback then ([], 2, 0)
  else ((sorted.take (cap - count)).map Prod.fst, 1, sorted.length + count - cap)

/-- Are ranges (start, length) disjoint? -/
def rangesDisjoint : List (Nat × Nat) → Bool
  | [] => true
  | r :: rs => rs.all (fun q => decide (r.1 + r.2 ≤ q.1 ∨ q.1 + q.2 ≤ r.1)) && rangesDisjoint rs

/-- R125, R126: the requests of the issuing context that have a row in the block take the warning. -/
def State.burnWarn (s : State) (p code : Nat) : State :=
  match (s.plate p).ctx with
  | some id =>
    let n := s.ownerOf p
    s.setPrt n { s.prt n with warnings := (s.prt n).warnings ++ [id * 65536 + code] }
  | none => s

/-- BURN_DECIDE (R124–R126, R153). [DEDUCED, log entry 19] -/
def burnDecideBody (c : PlateCmd) (s : State) : Except Stop State := do
  let p := c.plate
  let cl := p / 8
  let n := s.ownerOf p
  let ncand := c.le 24 2
  let cap := c.le 26 2
  let policy := c.le 28 1
  let layer := c.le 30 2
  need s (safeOk c [c.le 16 4, c.le 20 4] && decide (1 ≤ ncand ∧ ncand ≤ 128 ∧ cap ≤ 256 ∧ policy ≤ 1))
  let list ← s.clSheet p (c.le 16 4)
  let recs ← (List.range ncand).mapM (fun i => s.clRead p (c.trayAddr + 576 * i) 576)
  let f (bs : List Nat) (i k : Nat) : Nat := ofLe ((bs.drop i).take k)
  if decide (cap < list.static) || !rangesDisjoint (recs.map (fun bs => (f bs 0 4, f bs 4 2))) then faultWith s stMetaFault
  else
    let cands := (recs.map (fun bs => ((List.range (min (f bs 4 2) 256)).map (fun j => (f bs 0 4 + j, f bs (64 + 2 * j) 2))).filter
      (fun e => decide (e.2 ≠ 0)))).flatten
    let fb := decide (policy = 1) && decide (s.get fSAFE_CFG_FALLBACK_EN cl 0 = 1) && !s.staticMode p
    let d := burnDecision list.count cap fb cands
    let dyn := d.1.foldl (fun a e => insertChan e a) []
    let expo := s.get fPART_EXPO_NOW_EXPO n 0
    let sheet : Sheet :=
      { count := list.count + dyn.length, static := list.static, decision := d.2.1, clipped := d.2.2, layer := layer, expo := expo,
        entries := list.entries ++ dyn.map (fun e => (e, true)) }
    let s1 ← (s.clNotes p [(c.le 16 4, 1088), (c.trayAddr, 576 * ncand)]).clPut p (c.le 20 4) (sheetBytes sheet)
    let s2 := (((s1.put fBURN_LAST_LAYER cl 0 layer).put fBURN_LAST_COUNT cl 0 sheet.count).put fBURN_LAST_DECISION cl 0 d.2.1).put
      fBURN_LAST_EXPO cl 0 (expo % 2 ^ 32)
    let s3 := ((s2.dens (128 + cl) 4 dyn.length).dens (128 + cl) 5 d.2.2).dens (128 + cl) 6 (if d.2.1 = 2 then 1 else 0)
    let y := s3.prt n
    let s4 := s3.setPrt n { y with burnDecisions := y.burnDecisions + 1,
                                   burnFallbacks := if d.2.1 = 2 then y.burnFallbacks + 1 else y.burnFallbacks,
                                   burnLayers := if d.2.1 = 2 then y.burnLayers ++ [(cl, layer)] else y.burnLayers,
                                   burnCounts := smapSet (fun _ => 0) cl (smapGet (fun _ => 0) cl y.burnCounts + 1) y.burnCounts }
    .ok (if d.2.1 = 1 then s4.burnWarn p 0x0202 else if d.2.1 = 2 then s4.burnWarn p 0x0203 else s4)

/-- R127: one burn row and its staged row after BURN_APPLY. -/
def burnApplyRow (sheet : Sheet) (chan n : Nat) (vals : List Nat) : List Nat × List Nat :=
  let inRow (e : Nat × Bool) : Bool := decide (chan ≤ e.1 ∧ e.1 < chan + n)
  ((List.range 256).map (fun e => match sheet.entries[e]? with
      | some x => if inRow x then vals.getD (x.1 - chan) 0 else 0
      | none => 0),
    (List.range n).map (fun j => if sheet.entries.any (fun x => decide (x.1 = chan + j)) then 0 else vals.getD j 0))

/-- BURN_APPLY (R127). -/
def burnApplyBody (c : PlateCmd) (s : State) : Except Stop State := do
  let p := c.plate
  let n := safeCols c
  need s (safeOk c [c.le 16 4, c.le 20 4, c.le 24 4])
  let sheet ← s.clSheet p (c.le 16 4)
  if sheet.decision = 2 then .ok (s.clNote p (c.le 16 4) 1088)
  else
    (List.range (safeRows c)).foldlM (fun t i => do
      let a := c.trayAddr + i * stagedStride 0 n
      let bs ← t.clRead p a (2 * n)
      let vals := (List.range n).map (fun j => ofLe ((bs.drop (2 * j)).take 2))
      let r := burnApplyRow sheet (c.le 28 3) n vals
      let m := (r.2.map (fconv bf16 fp32)).foldl fmaxFold 0
      let t1 ← (t.clNote p a (2 * n)).clPut p (c.le 20 4 + 512 * i) ((r.1.map (leBytes 2)).flatten)
      let t2 ← t1.clPut p a ((r.2.map (leBytes 2)).flatten)
      t2.clPut p (c.le 24 4 + 4 * i) (leBytes 4 m)) (s.clNote p (c.le 16 4) 1088)

/-- R168: the reads of BURN_PRODUCT apart from the burn rows. -/
def productReads (c : PlateCmd) (sheet : Sheet) (w : WRec) (d : DrainRec) : List (Nat × Nat) :=
  let n := safeCols c
  let rows := if w.grouped then 128 else 160
  (c.le 16 4, 1088) :: (c.le 24 4, 32) :: drecReads (c.le 28 4) d n (decide (c.bits 3 0 1 = 1)) ++
  ((List.range sheet.entries.length).map (fun e =>
    if e < sheet.static then [(c.le 20 4 + e * stagedStride 0 n, 2 * n)]
    else
      let i := (sheet.entries.getD e (0, false)).1
      (List.range n).map (fun j => (w.tile + i / rows * w.tileStride + j * w.colBytes, colBytesRead w.fmt w.plane rows)))).flatten

/-- BURN_PRODUCT (R128). -/
def burnProductBody (c : PlateCmd) (s : State) : Except Stop State := do
  let p := c.plate
  let n := safeCols c
  let nsrc := c.bits 2 0 8
  let folded := decide (c.bits 3 0 1 = 1)
  need s (safeOk c [c.le 16 4, c.le 20 4, c.le 24 4, c.le 28 4])
  need s (decide (1 ≤ nsrc ∧ nsrc ≤ 128))
  let sheet ← s.clSheet p (c.le 16 4)
  let d ← s.clDrainRec p (c.le 28 4)
  let w ← s.clWRec p (c.le 24 4)
  let ws ← (List.range sheet.entries.length).mapM (fun e =>
    if e < sheet.static then s.clVals p (c.le 20 4 + e * stagedStride 0 n) 0 n
    else (List.range n).mapM (fun j => do
      let q ← s.clWeight p w (sheet.entries.getD e (0, false)).1 j
      let k ← if folded then .ok fone else s.clScale p d j
      .ok (fdecode fp32 (fmul (fofInt q) k))))
  (List.range (safeRows c)).foldlM (fun t i => do
    let srcs ← (List.range nsrc).mapM (fun a => t.clVals p (c.trayAddr + a * safeRows c * 512 + 512 * i) 0 256)
    let xs := (List.range sheet.entries.length).map (fun e => srcs.foldl (fun a r => vadd a (r.getD e .nan)) (.fin false 0 0))
    let ys := (List.range n).map (fun j => (List.range sheet.entries.length).foldl (fun acc e =>
      fencode fp32 (vadd (fdecode fp32 acc) (vmul (xs.getD e .nan) ((ws.getD e []).getD j .nan)))) 0)
    (t.clNotes p ((List.range nsrc).map (fun a => (c.trayAddr + a * safeRows c * 512 + 512 * i, 512)))).clPut p (d.burn + i * d.addStride)
      ((ys.map (leBytes 4)).flatten)) (s.clNotes p (productReads c sheet w d))

/-- R129, R270: the `n` commands after `c` in its plate program are passed over, those that wait behind it among them: they neither wait
nor signal. -/
def State.skipNext (s : State) (c : PlateCmd) (n : Nat) : State :=
  let x := s.plate c.plate
  s.setPlate c.plate { x with skip := c.index + 1 + n,
                              waiting := x.waiting.filter (fun w => !decide (c.index < w.cmd.index ∧ w.cmd.index < c.index + 1 + n)) }

/-- BURN_BRANCH (R129): run by the plate sequencer; the sheet lies at a cluster tray address that is a multiple of 16. [DESIGN CHOICE, log entry 77] -/
def burnBranchBody (c : PlateCmd) (s : State) : Except Stop State := do
  let p := c.plate
  let cond := c.le 20 1
  let skip := c.le 22 2
  need s (decide (cond ≤ 1 ∧ 1 ≤ skip ∧ c.le 16 4 % 16 = 0))
  let sheet ← s.clSheet p (c.le 16 4)
  let s1 := s.clNote p (c.le 16 4) 1088
  .ok (if decide (sheet.decision = 2) == decide (cond = 0) then s1.skipNext c skip else s1)

/-! ### Agitator (R132–R135) -/

/-- R133: is the sign of row position `i` negative? -/
def agitNeg (seed i : Nat) : Bool := (hashStep seed (i / 64)).testBit (i % 64)

/-- R132: stage `t` of the transform of a block. -/
def agitStage (t : Nat) (xs : List Nat) : List Nat :=
  (List.range xs.length).map (fun i =>
    if i.testBit t then fsub (xs.getD (i - 2 ^ t) 0) (xs.getD i 0) else fadd (xs.getD i 0) (xs.getD (i + 2 ^ t) 0))

/-- R132: one block that starts at row position `pos`. -/
def agitBlock (seed pos k : Nat) (xs : List Nat) : List Nat :=
  (List.range k).foldl (fun a t => agitStage t a)
    ((List.range xs.length).map (fun i => if agitNeg seed (pos + i) then xorNat (xs.getD i 0) (2 ^ 31) else xs.getD i 0))

/-- AGIT_ROTATE (R135). -/
def agitRotateBody (c : PlateCmd) (s : State) : Except Stop State := do
  let p := c.plate
  let rows := safeRows c
  let len := c.bits 8 12 17
  let k := c.le 16 1
  let fin := c.bits 17 0 2
  let fout := c.bits 17 2 2
  let stride := c.le 18 2
  let dest := c.le 20 4
  let base := 256 * c.le 2 2
  need s (decide (1 ≤ k ∧ k ≤ 14 ∧ 2 ≤ len ∧ len ≤ 65536 ∧ fin ≤ 1 ∧ fout ≤ 1 ∧ stride % 16 = 0 ∧ c.trayAddr % 16 = 0 ∧
    dest % 16 = 0 ∧ c.trayAddr < trayWin ∧ dest < trayWin))
  need s (decide (len % 2 ^ k = 0))
  (List.range rows).foldlM (fun t i => do
    let bs ← t.trayRead .grain p (c.trayAddr + i * stride) (fmtSize fin * len)
    let xs := (List.range len).map (fun j => fconv (fmtOfCode fin) fp32 (ofLe ((bs.drop (fmtSize fin * j)).take (fmtSize fin))))
    let ys := (List.range (len / 2 ^ k)).map (fun b => agitBlock (c.le 24 8) (base + b * 2 ^ k) k ((xs.drop (b * 2 ^ k)).take (2 ^ k)))
    (t.noteRead p (c.trayAddr + i * stride) (fmtSize fin * len)).trayPut .grain p (dest + i * stride)
      ((ys.flatten.map (outVal fout)).flatten)) s

end Sys2Proof.Machine
end

