-- ==== Sys2Proof/Machine/Tray.lean ====
section
/-! DEFINITION. Tray: the plate's DMA unit (R155–R162), semaphore signals (R148–R151), bank power (R163–R166) and wash
in the tray (R167). -/

namespace Sys2Proof.Machine

/-! ### Semaphores (R149, R150) -/

/-- R149: a semaphore raised, sticking at 65,535 with SEM_SAT logged. -/
def State.signal (s : State) (p i k : Nat) : State :=
  if 65535 < s.sem p i + k then
    (s.setSem p i 65535).log { code := 0x8302, die := dieOfPlate p, unit := 0, inst := p, part := s.ownerOf p,
                                     expo := s.get fPART_EXPO_NOW_EXPO (s.ownerOf p) 0, detail := leBytes 2 i }
  else s.setSem p i (s.sem p i + k)

/-! ### DMA (R155–R160) -/

/-- The bytes of a range become free values. -/
def State.openBytes (s : State) (a n : Nat) : State :=
  { s with mem := s.mem.openRange { lo := a, size := n, tag := s.free }, free := s.free + 1 }

/-- A range whose contents nothing states any longer: each byte becomes a free value, and its tags are STALE. [DEDUCED, log entry 20] -/
def State.openMem (s : State) (a n : Nat) : State := (s.staleTags a n).openBytes a n

/-- A range opened where its bank is AWAKE: only such a bank takes a write (R163). -/
def State.openAwake (s : State) (a n : Nat) : State :=
  if (s.sleepAt a n).isNone then s.openMem a n
  else ((linesOf a n).filter (fun l => (s.sleepAt l 1).isNone)).foldl (fun t l => t.openMem (max a l) (min (a + n) (l + 64) - max a l)) s

/-- 4 KiB blocks that lie whole in a range. -/
def wholeBlocks (a n : Nat) : List Nat := (blocksOf a n).filter (fun b => decide (a ≤ b ∧ b + 4096 ≤ a + n))

/-- R169, R321: whole blocks written by DMA take the tag VALID, in trays and in the Drawer. -/
def State.validTags (s : State) (a n : Nat) : State :=
  if isTray a || isDrawer a then
    ((wholeBlocks a n).filter s.tagged).foldl (fun t b => t.setTag b (.valid (crc32c (t.bytes b 4096)))) s
  else s

/-- A DMA read: range check, sleeping banks, uncorrectable lines, and the tags of whole blocks (R162, R169). [DEDUCED, log entry 20] -/
def State.dmaRead (s : State) (n a len : Nat) : Except Stop (List Nat) :=
  if !s.dmaGranted n a len true then .error (.fault s stCmdInvalid stRangeFault 0 0 a)
  else do
    let bs ← s.remoteBytes a len
    match (if isTray a || isDrawer a then (wholeBlocks a len).filter (fun b => s.tagBroken b) else []) with
    | [] => .ok bs
    | b :: rest => .error (.ue s (b :: rest) (ueCode a))

/-- R271: does a write touch the active generation range of a fine-tuning partition? -/
def State.hitsActiveGen (s : State) (n a len : Nat) : Bool :=
  let g := s.get fPART_STAT_GEN n 0
  let lo := s.get fPART_TRAIN_BASE_2M n g * 2 ^ 21
  let size := s.get fPART_TRAIN_SIZE_2M n g * 2 ^ 21
  decide (s.get fPART_LAYOUT_KIND n 0 = 1) && decide (a < lo + size ∧ lo < a + len)

/-- A DMA write lands: the lines up to the first one in a bank that is not AWAKE (R164), or all of them, whole blocks
tagged VALID (R169). [DEDUCED, log entry 20] -/
def State.dmaLand (s : State) (n a : Nat) (bs : List Nat) : Except Stop State :=
  if !s.dmaGranted n a bs.length false then .error (.fault s stCmdInvalid stRangeFault 0 0 a)
  else if s.held a bs.length then .error (.wait s .stack)
  else if s.hitsActiveGen n a bs.length then faultWith s stCmdInvalid
  else match s.sleepAt a bs.length with
    | some l =>
      let t := if l ≤ a then s else s.land a (bs.take (l - a))
      .error (.fault (t.dens (trayPlate l) 14 1) stCmdInvalid stBankAsleep (s.bankAt l) 0 a)
    | none =>
      match s.badWriteLine a bs.length with
      | some _ => .error (.lost (s.openMem a bs.length) (s.badWriteLines a bs.length) (ueCode a))
      | none => .ok ((s.land a bs).validTags a bs.length)

/-- R156, R270: the plate that a DSEM signal goes to, if the command carries one. -/
def State.dsemPlate (s : State) (c : PlateCmd) (en : Bool) (cnt dst : Nat) : Except Stop (Option Nat) :=
  if !en then .ok none
  else if cnt = 0 || !isTray dst || decide (s.partOfPlate (trayPlate dst) ≠ s.partOfPlate c.plate) then faultWith s stCmdInvalid
  else match (s.plate c.plate).ctx with
    | some id => if trayPlate dst ∈ lanePlates (s.ctx id) then .ok (some (trayPlate dst)) else faultWith s stCmdInvalid
    | none => .ok (some (trayPlate dst))

/-- R150, R153: the destination semaphore signalled; ignored in STATIC mode. -/
def State.dsem (s : State) (c : PlateCmd) (who : Option Nat) (i k : Nat) : State :=
  match who with
  | some q => if s.staticMode c.plate then s else s.signal q i k
  | none => s

/-- R154: a STATIC-mode write to tray that lands after DUE is a schedule miss. -/
def State.dueCheck (s : State) (c : PlateCmd) (due dst : Nat) : State :=
  let n := s.ownerOf c.plate
  if s.staticMode c.plate && isTray dst && decide (due < s.cycles c.plate) then
    let s1 := (s.dens c.plate 16 1).log
      { code := 0x0304, kind := s.lossKind n, die := dieOfPlate c.plate, unit := if 0x70 ≤ c.opc then 5 else 2,
        inst := if 0x70 ≤ c.opc then c.plate / 8 else c.plate, part := n,
        expo := s.get fPART_EXPO_NOW_EXPO n 0, addr := dst, detail := leBytes 4 c.index ++ leBytes 8 (s.cycles c.plate - due) }
    s1.partTrigger n 0x0304
  else s

/-- A DMA transfer whose source is uncorrectable leaves its destinations unstated: the data travels as POISON. [DEDUCED, log entry 20] -/
def openOnUe (dsts : List (Nat × Nat)) : Except Stop (List Nat) → Except Stop (List Nat)
  | .error (.ue s ls code) => .error (.ue (dsts.foldl (fun t d => t.openAwake d.1 d.2) s) ls code)
  | r => r

/-- LEN of R157. -/
def dmaLen (c : PlateCmd) : Nat := c.bits 8 0 24

/-- R157: range and alignment of LEN and a local offset. -/
def dmaOk (c : PlateCmd) (o : Nat) : Bool :=
  decide (16 ≤ dmaLen c ∧ dmaLen c ≤ 16777200 ∧ dmaLen c % 16 = 0 ∧ o % 16 = 0 ∧ o + dmaLen c ≤ trayWin)

/-- TRAY_COPY (R157). -/
def trayCopyBody (c : PlateCmd) (s : State) : Except Stop State := do
  let n := s.ownerOf c.plate
  let remote := c.le 16 6
  let out := decide (c.bits 22 0 1 = 1)
  let local_ := trayAddr c.plate c.trayAddr
  let src := if out then local_ else remote
  let dst := if out then remote else local_
  need s (dmaOk c c.trayAddr && decide (remote % 16 = 0))
  let who ← s.dsemPlate c (decide (c.bits 22 1 1 = 1)) (c.le 23 1) dst
  if !s.dmaGranted n remote (dmaLen c) (!out) then .error (.fault s stCmdInvalid stRangeFault 0 0 remote)
  else do
    let bs ← openOnUe [(dst, dmaLen c)] (s.dmaRead n src (dmaLen c))
    let s1 ← (s.noteRemote c.plate src (dmaLen c)).dmaLand n dst bs
    .ok ((s1.dsem c who (c.le 24 1) (c.le 23 1)).dueCheck c (c.le 26 4) dst)

/-- TRAY_GATHER (R158). -/
def trayGatherBody (c : PlateCmd) (s : State) : Except Stop State := do
  let n := s.ownerOf c.plate
  let count := c.bits 8 0 14
  let table := countOf (c.bits 8 14 18) 18
  let base := c.le 16 6
  let rb := c.le 22 2
  let idx := c.le 24 4
  let stride := roundUp rb 64
  need s (decide (1 ≤ count ∧ 16 ≤ rb ∧ rb ≤ 65520 ∧ rb % 16 = 0 ∧ base % 16 = 0 ∧ idx % 16 = 0 ∧ c.trayAddr % 16 = 0 ∧
    c.trayAddr + (count - 1) * stride + rb ≤ trayWin ∧ idx + 4 * count ≤ trayWin))
  let dst := trayAddr c.plate c.trayAddr
  let ib ← openOnUe ((List.range count).map (fun i => (dst + i * stride, rb))) (s.dmaRead n (trayAddr c.plate idx) (4 * count))
  let s1 ← (List.range count).foldlM (fun t i => do
    let v := ofLe ((ib.drop (4 * i)).take 4)
    let d := dst + i * stride
    if table ≤ v then do
      let t1 ← t.dmaLand n d ((List.range rb).map (fun k => if k % 2 = 0 then 0xC0 else 0x7F))
      .ok (t1.dens c.plate 15 1)
    else do
      let bs ← openOnUe [(d, rb)] (t.dmaRead n (base + v * rb) rb)
      (t.noteRemote c.plate (base + v * rb) rb).dmaLand n d bs) (s.noteRemote c.plate (trayAddr c.plate idx) (4 * count))
  .ok (s1.dueCheck c (c.le 28 4) dst)

/-- TRAY_BCAST (R159): each destination gets its signal as its last line is written. -/
def trayBcastBody (c : PlateCmd) (s : State) : Except Stop State := do
  let n := s.ownerOf c.plate
  let first := c.le 16 2
  let np := c.le 18 2
  let off := c.le 20 4
  need s (dmaOk c c.trayAddr && dmaOk c off && decide (first ≤ 127 ∧ 1 ≤ np ∧ np ≤ 128))
  let dests := (List.range np).map (fun i => trayAddr (first + i) off)
  match dests.find? (fun d => !s.granted n d (dmaLen c) false) with
  | some d => .error (.fault s stCmdInvalid stRangeFault 0 0 d)
  | none => do
    let who ← dests.mapM (fun d => s.dsemPlate c (decide (c.bits 30 0 1 = 1)) (c.le 25 1) d)
    let src := trayAddr c.plate c.trayAddr
    let bs ← openOnUe (dests.map (fun d => (d, dmaLen c))) (s.dmaRead n src (dmaLen c))
    let s1 ← (List.zip dests who).foldlM (fun t d => (t.dmaLand n d.1 bs).map (fun u => u.dsem c d.2 (c.le 24 1) (c.le 25 1)))
      (s.noteRemote c.plate src (dmaLen c))
    .ok (s1.dueCheck c (c.le 26 4) (trayAddr first off))

/-- TRAY_FILL (R160). -/
def trayFillBody (c : PlateCmd) (s : State) : Except Stop State := do
  need s (dmaOk c c.trayAddr)
  let dst := trayAddr c.plate c.trayAddr
  let s1 ← s.dmaLand (s.ownerOf c.plate) dst ((List.range (dmaLen c)).map (fun i => c.le (16 + i % 4) 1))
  .ok (s1.staleTags dst (dmaLen c))

/-! ### Bank power (R161, R163–R166) -/

/-- Transition of bank `b` of plate `p`, if it is CLOSING or WAKING. -/
def State.bankMove (s : State) (p b : Nat) : Option BankMove := smapGet (fun _ => none) (64 * p + b) s.banks
/-- Transition of a bank set. -/
def State.setBankMove (s : State) (p b : Nat) (m : Option BankMove) : State :=
  { s with banks := smapSet (fun _ => none) (64 * p + b) m s.banks }
/-- AWAKE bit of a bank. -/
def State.setAwake (s : State) (p b : Nat) (v : Bool) : State :=
  s.put fTRAY_PWR_AWAKE_AWAKE p 0 (putBits (s.get fTRAY_PWR_AWAKE_AWAKE p 0) b 1 (if v then 1 else 0))
/-- ASLEEP bit of a bank. -/
def State.setAsleep (s : State) (p b : Nat) (v : Bool) : State :=
  s.put fTRAY_PWR_ASLEEP_ASLEEP p 0 (putBits (s.get fTRAY_PWR_ASLEEP_ASLEEP p 0) b 1 (if v then 1 else 0))

/-- R166: is the bank pinned? -/
def State.pinned (s : State) (p b : Nat) : Bool := (s.get fTRAY_PIN_PINNED p 0).testBit b

/-- The target of a waiting TRAY_POWER: is it SLEEP? -/
def Waiter.sleeps (w : Waiter) : Bool := decide (w.cmd.le 24 1 = 0)
/-- Bank `b` counts as done for the waiting TRAY_POWER commands of plate `p` that satisfy `f` (R161, R163). [DEDUCED, log entry 21] -/
def State.bankDone (s : State) (p b : Nat) (f : Waiter → Bool) : State :=
  let x := s.plate p
  if x.waiting.any (fun w => decide (w.why = .power) && w.mask.testBit b && f w) then
    s.setPlate p { x with waiting := x.waiting.map (fun w =>
      if decide (w.why = .power) && w.mask.testBit b && f w then { w with mask := putBits w.mask b 1 0 } else w) }
  else s

/-- R163–R166: one bank takes a power request: SLEEP or WAKE. [DEDUCED, log entry 21] -/
def State.bankRequest (s : State) (p : Nat) (sleep : Bool) (b : Nat) : State :=
  if sleep && s.pinned p b then
    s.log { code := 0x8304, die := dieOfPlate p, unit := 1, inst := p, part := s.ownerOf p, detail := [b] }
  else match s.bankMove p b with
    | some m =>
      if sleep == m.closing then
        (if m.held.isSome then (s.bankDone p b (fun w => w.sleeps != m.closing)).setBankMove p b (some { m with held := none }) else s)
      else (s.bankDone p b (fun w => w.sleeps != m.closing)).setBankMove p b (some { m with held := some sleep })
    | none =>
      if sleep then
        (if s.bankAwake p b then (s.setAwake p b false).setBankMove p b (some { closing := true, held := none }) else s)
      else
        (if s.bankAsleep p b then (s.setAsleep p b false).setBankMove p b (some { closing := false, held := none }) else s)

/-- Banks of a mask. -/
def banksOf (mask : Nat) : List Nat := (List.range 64).filter (fun b => mask.testBit b)

/-- A request to every bank of a mask. -/
def State.bankRequests (s : State) (p : Nat) (sleep : Bool) (mask : Nat) : State :=
  (banksOf mask).foldl (fun t b => t.bankRequest p sleep b) s

/-- TRAY_POWER (R161): the request reaches every named bank. -/
def trayPowerBody (c : PlateCmd) (s : State) : Except Stop State := do
  need s (decide (c.le 24 1 ≤ 1))
  .ok (s.bankRequests c.plate (decide (c.le 24 1 = 0)) (c.le 16 8))

/-- R161: the banks that a TRAY_POWER just issued still waits for. [DEDUCED, log entry 21] -/
def State.powerPending (s : State) (c : PlateCmd) : Nat :=
  (banksOf (c.le 16 8)).foldl (fun m b =>
    if (s.bankMove c.plate b).isSome && !(decide (c.le 24 1 = 0) && s.pinned c.plate b) then m + 2 ^ b else m) 0

/-- TRAY_PWR_SLEEP and TRAY_PWR_WAKE from firmware (R164, R165). -/
def State.pwrSleep (s : State) (p mask : Nat) : State := s.bankRequests p true mask
/-- The wake request. -/
def State.pwrWake (s : State) (p mask : Nat) : State := s.bankRequests p false mask

/-- Does a device address lie in bank `b` of plate `p`? -/
def inBank (hash : Bool) (p b a : Nat) : Bool :=
  isTray a && decide (trayPlate a = p) && decide (bankOf hash (trayOff a) = b)

/-- R164, R165: contents, poison bits and block tags of a bank discarded: every line zero, every tag NONE. [DESIGN CHOICE, log entry 22] -/
def State.clearBank (s : State) (p b : Nat) : State :=
  let h := s.hashMode p
  let lo := trayAddr p (b / 8 * 2 ^ 20)
  let m1 : Memory := { s.mem with cells := s.mem.cells.filter (fun c => !inBank h p b c.1) }
  let m2 := if m1.opened.any (fun r => decide (r.lo < lo + 2 ^ 20 ∧ lo < r.lo + r.size)) then
      (List.range (2 ^ 20)).foldl (fun m i => if inBank h p b (lo + i) then m.set (lo + i) 0 else m) m1
    else m1
  { s with mem := m2,
           lineErr := s.lineErr.filter (fun e => !inBank h p b e.1),
           tags := s.tags.filter (fun e => !decide (lo ≤ e.1 ∧ e.1 < lo + 2 ^ 20)) }

/-- A held request starts, once its bank has settled (R163); a SLEEP that finds its bank pinned counts as done (R166). [DEDUCED, log entry 21] -/
def State.startHeld (s : State) (p b : Nat) (held : Option Bool) : State :=
  match held with
  | some sleep =>
    let t := s.bankRequest p sleep b
    if sleep && s.pinned p b then t.bankDone p b (fun w => w.sleeps) else t
  | none => s

/-- BANK_ISOLATED (R164): a CLOSING bank reaches ASLEEP. [DESIGN CHOICE, log entry 22] -/
def State.bankIsolate (s : State) (p b : Nat) : State :=
  match s.bankMove p b with
  | some m =>
    if m.closing then
      ((((s.setBankMove p b none).clearBank p b).setAsleep p b true).bankDone p b (fun w => w.sleeps)).startHeld p b m.held
    else s
  | none => s

/-- TRAY_PD_ABORT (R164): a power-down abandoned; a held WAKE needs nothing more. -/
def State.bankAbort (s : State) (p b : Nat) : State :=
  match s.bankMove p b with
  | some m =>
    if m.closing then
      (((s.setBankMove p b none).setAwake p b true).bankDone p b (fun _ => true)).log
        { code := 0x8303, die := dieOfPlate p, unit := 1, inst := p, part := s.ownerOf p, detail := [b] }
    else s
  | none => s

/-- BANK_AWAKE (R165): a WAKING bank reaches AWAKE, zero and clean. [DESIGN CHOICE, log entry 22] -/
def State.bankWoken (s : State) (p b : Nat) : State :=
  match s.bankMove p b with
  | some m =>
    if m.closing then s
    else
      let t := ((((s.setBankMove p b none).clearBank p b).setAwake p b true).bankDone p b (fun w => !w.sleeps)).startHeld p b m.held
      { t with washFrom := smapSet (fun _ => 0) (64 * p + b) s.now t.washFrom }
  | none => s

/-! ### Wash (R167, R168, R403) -/

/-- R404: partition whose golden map holds a line, if one does. [UNVERIFIED, log entry 56] -/
def State.goldPart (s : State) (a : Nat) : Option Nat := (List.range 16).find? (fun n => s.exists_ n && (s.goldRun n a).isSome)

/-- R403: a weight line met by wash or patrol is repaired at the next boundary. -/
def State.queueReload (s : State) (a : Nat) : State :=
  match s.goldPart a with
  | some n => if s.expoRuns n then s.setPrt n { s.prt n with washReloads := (s.prt n).washReloads ++ [a] } else s.repairWeight n a
  | none => s

/-- R167: the end of the 4 s in which a line of a tray is to be read: the periods of its bank began when it became AWAKE. -/
def State.washEnd (s : State) (p off : Nat) : Nat :=
  let t0 := smapGet (fun _ => 0) (64 * p + bankOf (s.hashMode p) off) s.washFrom
  t0 + ((s.now - t0) / 4000000000 + 1) * 4000000000

/-- A line that wash has read (R168, R403): an error is corrected or repaired. -/
def State.washLine (s : State) (p off : Nat) (ecc : Ecc) : State :=
  let a := trayAddr p (lineOf off)
  if ecc = .bad ∨ s.lineErrOf a = .bad then ((s.setLineErr a .bad).noteUeAs (s.ownerOf p) a 1).queueReload a
  else if ecc = .corrected ∨ s.lineErrOf a = .corrected then
    (((s.setLineErr a .corrected).bump fTRAY_ECC_STAT_CE p 0 1).dens p 18 1).noteCorrected (dieOfPlate p) 1 p 1
  else s

/-- A wash read of a line of an AWAKE bank, forced or not (R167, R168, R403, R419): wash skips other banks; a read beyond the cap is
deferred. -/
def State.washRead (s : State) (p off : Nat) (ecc : Ecc) (forced : Bool) : State :=
  if !s.bankAwake p (bankOf (s.hashMode p) off) then s
  else
    let b := s.bgAdmit p 1 trayCap
    if b.1 then
      let t : State := { b.2 with washHeld := b.2.washHeld.filter (fun e => !decide (e.1 = p ∧ e.2.1 = lineOf off)) }
      (if forced then t.dens p 17 1 else t).washLine p off ecc
    else { b.2 with washHeld := b.2.washHeld ++ [(p, lineOf off, s.washEnd p off)] }

/-- WASH_WRITE_BACK (R167): admitted while the line still holds the word wash read; dropped when it was rewritten. -/
def State.washWriteBack (s : State) (p off : Nat) : State :=
  let a := trayAddr p (lineOf off)
  if s.bankAwake p (bankOf (s.hashMode p) off) && decide (s.lineErrOf a = .corrected) then
    (if (s.bgAdmit p 1 trayCap).1 then (s.bgAdmit p 1 trayCap).2.setLineErr a .good else (s.bgAdmit p 1 trayCap).2)
  else s

end Sys2Proof.Machine
end

