-- ==== Sys2Proof/Machine/Sequencer.lean ====
section
/-! DEFINITION. Sequencer: the passage of time, windows, the lane scheduler, residency and swapping, and the commands a
plate sequencer runs itself (R250–R271). -/

namespace Sys2Proof.Machine

/-! ### Time (R326, R266) -/

/-- R326: a clock after `k` edges of the 500 MHz timebase, each of 2 ns at its rate; T64 wraps at 2^64. -/
def Clock.run (c : Clock) (k : Nat) : Clock := { c with time := (c.time + k * (2 * ((2 ^ 40 : Int) + c.rate)).toNat) % 2 ^ 104 }

/-- Does a plate's program clock count: is its context RUNNING on it (R266)? -/
def State.clocked (s : State) (x : Plate) : Bool :=
  match x.ctx with
  | some id => decide ((s.ctx id).run = .running) && !((s.ctx id).leaving && x.boundary) && !x.ended
  | none => false

/-- R419: trays whose 4 s have passed with a line still deferred log WASH_DEFERRED, once. -/
def State.noteWashLate (s : State) : State :=
  let late := s.washHeld.filter (fun e => decide (e.2.2 < s.now))
  ((late.map Prod.fst).eraseDups).foldl (fun t p =>
    t.log { code := 0x8A07, die := dieOfPlate p, unit := 1, inst := p, part := s.ownerOf p })
    { s with washHeld := s.washHeld.filter (fun e => !decide (e.2.2 < s.now)) }

/-- `k` edges of the timebase pass: the counters, the program clock of every plate with a running context, and the time that intake queues
are full and stacks throttled. [DESIGN CHOICE, log entry 1] -/
def State.elapse (s : State) (k : Nat) : State :=
  let tm : Timer := { s.timer with master := s.timer.master.run k, replicas := s.timer.replicas.map (fun c => c.run k) }
  let s1 : State := (s.plates.filter (fun e => s.clocked e.2)).foldl
    (fun u e => u.setPlate e.1 { e.2 with clock := e.2.clock + s.cycleRate e.1 * k }) { s with timer := tm }
  ((s1.countFull s.nowDie).countLevels s.nowDie).noteWashLate

/-- Edges until a clock shows at least `t`. -/
def edgesTo (c : Clock) (t : Nat) : Nat := ceilDiv (t * 2 ^ 40 - c.time) (2 * ((2 ^ 40 : Int) + c.rate)).toNat

/-- An event that the spec places at time `t` of partition `n` finds the clock there: time passes up to it. [DESIGN CHOICE, log entry 1; DESIGN CHOICE, log entry 10] -/
def State.reachTime (s : State) (n t : Nat) : State := s.elapse (edgesTo (s.timer.replicas.getD (s.homeDie n) s.timer.master) t)

/-! ### Exposure times (R250–R254) -/

/-- ADMIT_LEAD in ns. -/
def State.admitLead (s : State) (n : Nat) : Nat := 1000 * s.get fPART_EXPO_WIN0_ADMIT_LEAD n 0
/-- Offset of window `w` from the origin in ns: DISPATCH, COMBINE, DRAIN, COMMIT. -/
def State.windowOff (s : State) (n w : Nat) : Nat :=
  1000 * (if w = 0 then s.get fPART_EXPO_WIN0_DISPATCH n 0 else if w = 1 then s.get fPART_EXPO_WIN0_COMBINE n 0
    else if w = 2 then s.get fPART_EXPO_WIN1_DRAIN n 0 else s.get fPART_EXPO_WIN1_COMMIT n 0)
/-- R251, R254: the origin windows count from: the tick, or the start of the re-execution. -/
def State.origin (s : State) (n : Nat) : Nat := if (s.prt n).attempt = 1 then (s.prt n).reexecT else (s.prt n).tickT
/-- Time at which window `w` opens. -/
def State.windowAt (s : State) (n w : Nat) : Nat := s.origin n + s.windowOff n w

/-! ### Lanes (R263–R266) -/

/-- Is the exposure of partition `n` one whose contexts may run: released and not waiting for its re-execution? -/
def State.runsCtxs (s : State) (n : Nat) : Bool := s.expoRuns n && !(s.prt n).voided

/-- Do two contexts have the same lane? -/
def sameLane (x y : Ctx) : Bool := decide (x.laneFirst = y.laneFirst ∧ x.lanePlates = y.lanePlates)

/-- R264: READY resident contexts of the lane of `x`. -/
def State.rivals (s : State) (x : Ctx) : List (Nat × Ctx) :=
  s.ctxs.filter (fun e => decide (e.2.part = x.part ∧ e.2.run = .ready ∧ e.2.residency = 1) && e.2.takesPart && sameLane e.2 x)

/-- R264: is `a` chosen before `b`: lowest PRIO, longest wait, lowest ID? -/
def chosenBefore (a b : Nat × Ctx) : Bool :=
  decide (a.2.prio < b.2.prio ∨ (a.2.prio = b.2.prio ∧ (a.2.readySince < b.2.readySince ∨
    (a.2.readySince = b.2.readySince ∧ a.1 < b.1))))

/-- R264: the context the scheduler chooses for the lane of `x`. -/
def State.chosen (s : State) (x : Ctx) : Option Nat :=
  match s.rivals x with
  | [] => none
  | e :: es => some (es.foldl (fun b a => if chosenBefore a b then a else b) e).1

/-- R264 rules 1 and 2: must the running context make way at its next tile boundary? -/
def State.mustYield (s : State) (x : Ctx) : Bool :=
  (s.rivals x).any (fun e => decide (e.2.prio < x.prio) || (x.quantumDue && decide (e.2.prio = x.prio)))

/-- Does the context stand on its lane? -/
def State.onLane (s : State) (id : Nat) : Bool := (lanePlates (s.ctx id)).any (fun p => decide ((s.plate p).ctx = some id))

/-- R265: has every lane plate stopped at a tile boundary with its DMA done? -/
def State.laneStopped (s : State) (id : Nat) : Bool :=
  (lanePlates (s.ctx id)).all (fun p =>
    ((s.plate p).boundary || (s.plate p).ended) && !(s.plate p).waiting.any (fun w => w.begun))

/-- R265: bytes of a save slot. -/
def slotBytes (groups : Nat) : Nat := roundUp (groups * 20480 + 20992) 4096
/-- R265: tray offset of resident slot `i` of partition `n`. -/
def State.saveOff (s : State) (n i : Nat) : Nat := s.get fPART_SAVE_SAVE_OFF n 0 + i * slotBytes (s.get fPART_SCHED_SAVE_GROUPS n 0)

/-- The engine fills a range with data whose layout the spec does not state, where its banks take writes. [DESIGN CHOICE, log entry 45] -/
def State.engineFill (s : State) (a n : Nat) : State := (s.healLines a n).openAwake a n

/-- R85, R86: the 40 bits of an entry of the storage of 40-bit group `g`: its wide entry, or the two packed ones. -/
def storageWord (x : Plate) (g e : Nat) : Nat :=
  let v (k : Nat) : Nat := match x.group k with
    | some gr => smapGet (fun _ => 0) e gr.wide
    | none => 0
  match x.group (2 * g) with
  | some gr => if gr.packed then v (2 * g) % 2 ^ 20 + v (2 * g + 1) * 2 ^ 20 else v (2 * g)
  | none => v (2 * g + 1) * 2 ^ 20

/-- R89, R151: what a save slot holds of a plate's accumulator and semaphores: each wide entry of its open storage as 5 bytes, groups in
ascending order, then from SAVE_GROUPS × 20,480 on the 256 counters. [DESIGN CHOICE, log entry 45] -/
def savedGroups (x : Plate) : List Nat :=
  (((List.range 16).filter (fun g => (openMask x.groups).testBit (2 * g) || (openMask x.groups).testBit (2 * g + 1))).map (fun g =>
    ((List.range 4096).map (fun e => leBytes 5 (storageWord x g e))).flatten)).flatten
/-- R151: the 256 counters as 512 bytes. -/
def savedSems (x : Plate) : List Nat := ((List.range 256).map (fun i => leBytes 2 (smapGet (fun _ => 0) i x.sems))).flatten

/-- R89, R265: one lane plate saved: narrow entries promoted, ACTIVE and SHADOW not kept, the save slot written. [DESIGN CHOICE, log entry 45] -/
def State.savePlate (s : State) (id p : Nat) : State :=
  let x := s.plate p
  let ks := x.groups.map Prod.fst
  let pr := promoteNamed x ks
  let y : Plate :=
    { pr.1 with active := none, shadow := none, ctx := none, tagged := x.tagged.map (fun t => { t with preempted := true }) }
  let c := s.ctx id
  let s1 := (s.setCtx id { c with saved := c.saved ++ [(p, y)] }).setPlate p Plate.init
  let s2 := match c.resSlot with
    | some i =>
      let a := trayAddr p (s.saveOff c.part i)
      let groups := s.get fPART_SCHED_SAVE_GROUPS c.part 0
      ((s1.engineFill a (slotBytes groups)).writeAwake a (savedGroups y)).writeAwake (a + groups * 20480) (savedSems y)
    | none => s1
  (s2.notePromotion p (16 * ks.length) pr.2).dens p 20 1

/-- R263, R265: a context leaves its lane once every lane plate has stopped. -/
def State.vacate (s : State) (id : Nat) : State :=
  let c := s.ctx id
  let s1 := (lanePlates c).foldl (fun t p => if (t.plate p).ctx = some id then t.savePlate id p else t) (s.setCtx id { c with saved := [] })
  let y := s1.ctx id
  let z : Ctx :=
    { y with leaving := false, quantumDue := false, run := if y.run = .running then .ready else y.run,
             readySince := if y.run = .running then s.partNow c.part else y.readySince }
  s1.putCtx id z

/-- Contexts of partition `n` that stand on a lane. -/
def State.laneCtxs (s : State) (n : Nat) : List Nat := (s.partCtxs n).filter (fun id => s.onLane id)

/-- R264: the scheduler at work on every lane of a partition. -/
def State.schedule (s : State) (n : Nat) : State :=
  (s.laneCtxs n).foldl (fun t id =>
    let x := t.ctx id
    let t1 := if x.run = .running ∧ t.mustYield x then t.setCtx id { x with leaving := true } else t
    if (t1.ctx id).leaving && t1.laneStopped id then t1.vacate id else t1) s

/-! ### Progress (R268) -/

/-- Commands of a context that wait for progress or for Carrier blocks, on its lane or saved. -/
def State.ctxWaits (s : State) (id : Nat) (why : WaitWhy) : List PlateCmd :=
  let live := ((lanePlates (s.ctx id)).map (fun p => if (s.plate p).ctx = some id then (s.plate p).waiting else [])).flatten
  let kept := ((s.ctx id).saved.map (fun e => e.2.waiting)).flatten
  ((live ++ kept).filter (fun w => decide (w.why = why))).map (fun w => w.cmd)

/-- CTX of a CTX_WAIT. -/
def waitCtxOf (c : PlateCmd) : Nat := c.le 16 2
/-- VALUE of a CTX_WAIT. -/
def waitValOf (c : PlateCmd) : Nat := c.le 24 8

/-- R268: the awaited progress has been reached. -/
def State.waitMet (s : State) (c : PlateCmd) : Bool := decide (waitValOf c ≤ (s.ctx (waitCtxOf c)).progress)

/-- R268: a path of waits from context `id` to `goal`. -/
def State.waitPath (s : State) (goal : Nat) : Nat → Nat → Option (List Nat)
  | 0, _ => none
  | fuel + 1, id =>
    if id = goal then some [id]
    else ((s.ctxWaits id .progress).filter (fun c => !s.waitMet c)).findSome? (fun c =>
      (s.waitPath goal fuel (waitCtxOf c)).map (fun ps => id :: ps))

/-- ST_CTX_DEADLOCK (R257). -/
def stCtxDeadlock : Nat := 0x0803

/-- R268, R179: a waiting context's program ends with ST_CTX_DEADLOCK. -/
def State.deadlock (s : State) (id : Nat) : State :=
  match s.ctxWaits id .progress with
  | c :: _ => s.faultOf (some id) c 0x08 stCtxDeadlock stCtxDeadlock 0 0 0
  | [] => s

/-- R263: a BLOCKED context becomes READY. -/
def State.unblock (s : State) (id : Nat) : State :=
  let x := s.ctx id
  s.putCtx id { x with run := .ready, waitCtx := none, waitVal := 0, readySince := s.partNow x.part }

/-- R268: the waits of partition `n` re-examined: a context all of whose waits are met becomes READY; one that waits
on a DONE context below VALUE ends. Each round can end a context, which may settle others. -/
def State.settleWaits (s : State) (n : Nat) : Nat → State
  | 0 => s
  | fuel + 1 =>
    let blocked := (s.partCtxs n).filter (fun id => decide ((s.ctx id).run = .blocked) && !(s.ctxWaits id .progress).isEmpty)
    match blocked.find? (fun id => (s.ctxWaits id .progress).any (fun c => !s.waitMet c && decide ((s.ctx (waitCtxOf c)).run = .done))) with
    | some id => (s.deadlock id).settleWaits n fuel
    | none => blocked.foldl (fun t id => if (t.ctxWaits id .progress).all (fun c => t.waitMet c) then t.unblock id else t) s

/-! ### Residency and swapping (R267–R269) -/

/-- Do the work ranges of two contexts of one lane overlap? -/
def workOverlap (x y : Ctx) : Bool :=
  sameLane x y && decide (x.workOff < y.workOff + y.workBytes ∧ y.workOff < x.workOff + x.workBytes)

/-- Contexts that hold a resident slot of partition `n`. -/
def State.holders (s : State) (n : Nat) : List (Nat × Ctx) := s.ctxs.filter (fun e => decide (e.2.part = n) && e.2.resSlot.isSome)

/-- The lowest free resident slot. [DEDUCED, log entry 46] -/
def State.freeSlot (s : State) (n : Nat) : Option Nat :=
  (List.range (s.get fPART_LAYOUT_RESIDENT_MAX n 0)).find? (fun i => !(s.holders n).any (fun e => decide (e.2.resSlot = some i)))

/-- R267, R269: would the eviction of `v` (none: nobody) make room for `c` and clear its conflicts? -/
def State.roomFor (s : State) (n c : Nat) (v : Option Nat) : Bool :=
  let hs := (s.holders n).filter (fun e => decide (v ≠ some e.1))
  decide (hs.length < s.get fPART_LAYOUT_RESIDENT_MAX n 0) && hs.all (fun e => !workOverlap e.2 (s.ctx c))

/-- Bytes of one plate's part of a swap image (R267). -/
def State.imageBytes (s : State) (x : Ctx) : Nat :=
  slotBytes (s.get fPART_SCHED_SAVE_GROUPS x.part 0) + (if x.workSwap then x.workBytes else 0)

/-- A swap-in starts: the context takes a free slot and is MOVING. -/
def State.startIn (s : State) (n c : Nat) : State :=
  let x := s.ctx c
  (s.putCtx c { x with residency := 2, resSlot := s.freeSlot n }).setPrt n { s.prt n with swapIn := some c, swapOut := none }

/-- A swap starts: `v`, if any, is moved out first, then `c` in. -/
def State.startSwap (s : State) (n : Nat) (v : Option Nat) (c : Nat) : State :=
  match v with
  | none => s.startIn n c
  | some i => (s.putCtx i { s.ctx i with residency := 2 }).setPrt n { s.prt n with swapOut := some i, swapIn := some c }

/-- The first of some contexts by an order. -/
def firstBy (lt : Nat × Ctx → Nat × Ctx → Bool) : List (Nat × Ctx) → Option Nat
  | [] => none
  | e :: es => some (es.foldl (fun b a => if lt a b then a else b) e).1

/-- R268: the pair exchange of waiter `w`: the context it awaits is swapped in at once. -/
def State.exchangeFor (s : State) (n w : Nat) : Option State :=
  let targets := ((s.ctxWaits w .progress).map waitCtxOf).filter (fun t => decide ((s.ctx t).residency = 0) && (s.ctx t).takesPart)
  match targets with
  | [] => some s
  | t :: _ =>
    let idle := (s.holders n).filter (fun e => decide (e.2.residency = 1 ∧ (e.2.run = .done ∨ e.2.run = .disabled)))
    if s.roomFor n t none then some (s.startSwap n none t)
    else match firstBy (fun a b => decide (a.2.blockT64 < b.2.blockT64)) (idle.filter (fun e => s.roomFor n t (some e.1))) with
      | some v => some (s.startSwap n (some v) t)
      | none => if decide ((s.ctx w).residency = 1) && !s.onLane w && s.roomFor n t (some w) then some (s.startSwap n (some w) t) else none

/-- R269: the swap decision, with the pair exchanges still owed coming first (R268). -/
def State.swapDecide (s : State) (n : Nat) : State :=
  let x := s.prt n
  if x.swapIn.isSome || x.swapOut.isSome || !s.runsCtxs n then s
  else
    let due := x.exchange.filter (fun w => decide ((s.ctx w).run = .blocked))
    match due.findSome? (fun w => (s.exchangeFor n w).map (fun t => (w, t))) with
    | some (w, t) => t.setPrt n { t.prt n with exchange := due.filter (fun v => decide (v ≠ w)) }
    | none =>
      let s0 := s.setPrt n { x with exchange := due }
      let all := s.ctxs.filter (fun e => decide (e.2.part = n))
      match firstBy chosenBefore (all.filter (fun e => decide (e.2.residency = 0 ∧ e.2.run = .ready) && e.2.takesPart)) with
      | none => s0
      | some c =>
        if s.roomFor n c none then s0.startSwap n none c
        else
          let res := (s.holders n).filter (fun e => decide (e.2.residency = 1))
          let older (a b : Nat × Ctx) : Bool := decide (a.2.blockT64 < b.2.blockT64)
          match firstBy older (res.filter (fun e => decide (e.2.run = .done ∨ e.2.run = .disabled) && s.roomFor n c (some e.1))) with
          | some v => s0.startSwap n (some v) c
          | none =>
            if res.any (fun e => decide (e.2.run = .ready ∨ e.2.run = .running)) then s0
            else match firstBy older (res.filter (fun e => decide (e.2.run = .blocked) && !s.onLane e.1 && s.roomFor n c (some e.1))) with
              | none => s0
              | some v => if (s.ctx v).blockT64 + 1000 * (s.prt n).swapUs < s.partNow n then s0.startSwap n (some v) c else s0

/-- What follows every context state change: waits, lanes, swaps (R264, R268, R269). -/
def State.ctxEvent (s : State) (n : Nat) : State := ((s.settleWaits n ((s.partCtxs n).length + 1)).schedule n).swapDecide n

/-- R267, R437: an address of a swap outside the partition's ranges. -/
def State.swapFault (s : State) (n a : Nat) : State :=
  s.log { code := 0x8701, kind := 2, die := s.homeDie n, unit := 19, inst := n, part := n, expo := s.get fPART_EXPO_NOW_EXPO n 0, addr := a }

/-- R163, R267, R258, R401: one piece of a swap image copied under the partition's range check, whole blocks tagged; lines that cannot be read
or written are logged and concern the context, and the destination then holds nothing that is stated. [DESIGN CHOICE, log entry 45] -/
def State.swapCopy (s : State) (n id src dst len : Nat) : State :=
  if len = 0 then s
  else if !s.granted n src len true then s.swapFault n src
  else if !s.granted n dst len false then s.swapFault n dst
  else match s.badLines src len ++ s.badWriteLines dst len with
    | [] =>
      let s1 := s.noteRemote ((s.ctx id).laneFirst) src len
      if isTray dst then (s1.writeAwake dst (s1.bytes src len)).validTags dst len else s1.land dst (s1.bytes src len)
    | l :: ls => (((l :: ls).foldl (fun t a => t.noteUe n a) s).openAwake dst len).ueTrigger n l (ueCode l) (some id)

/-- R267: the pieces of a swap image of context `x` in resident slot `i`: tray address, image address, length. -/
def State.swapPieces (s : State) (x : Ctx) (i : Nat) : List (Nat × Nat × Nat) :=
  let slot := slotBytes (s.get fPART_SCHED_SAVE_GROUPS x.part 0)
  (List.range x.lanePlates).flatMap (fun k =>
    let img := x.saveHbm + k * s.imageBytes x
    (trayAddr (x.laneFirst + k) (s.saveOff x.part i), img, slot) ::
      (if x.workSwap then [(trayAddr (x.laneFirst + k) x.workOff, img + slot, x.workBytes)] else []))

/-- R267: the swap-out copy of `id`: its save slots and, with WORK_SWAP, its work ranges; the slot becomes free. -/
def State.finishOut (s : State) (n id : Nat) : State :=
  let x := s.ctx id
  let s1 := (s.swapPieces x (x.resSlot.getD 0)).foldl (fun t e => t.swapCopy n id e.1 e.2.1 e.2.2) s
  (s1.putCtx id { s1.ctx id with residency := 0, resSlot := none }).dens (144 + n) 6 1

/-- R267: the swap-in copy of `id`, which is then RESIDENT. -/
def State.finishIn (s : State) (n id : Nat) : State :=
  let x := s.ctx id
  let s1 := (s.swapPieces x (x.resSlot.getD 0)).foldl (fun t e => t.swapCopy n id e.2.1 e.1 e.2.2) s
  (s1.putCtx id { s1.ctx id with residency := 1 }).dens (144 + n) 5 1

/-- SWAP_COMPLETE (R267). An uncorrectable swap image voids the exposure, or in attempt 1 ends the context's requests
(R401, R403). -/
def State.swapComplete (s : State) (id : Nat) : State :=
  let n := (s.ctx id).part
  let x := s.prt n
  if x.swapOut = some id then
    let s1 := s.finishOut n id
    match x.swapIn with
    | some c => (s1.startIn n c).ctxEvent n
    | none => (s1.setPrt n { s1.prt n with swapOut := none }).ctxEvent n
  else if x.swapIn = some id ∧ x.swapOut = none then
    let s0 := s.setPrt n { x with swapIn := none }
    match s.badLine (s.ctx id).saveHbm ((s.ctx id).lanePlates * s.imageBytes (s.ctx id)) with
    | some l =>
      let t := s0.putCtx id { s0.ctx id with residency := 0, resSlot := none }
      ((t.noteUe n l).ueTrigger n l stHbmUe (some id)).ctxEvent n
    | none => (s0.finishIn n id).ctxEvent n
  else s

/-- QUANTUM_EXPIRY (R264): a running context becomes due for pre-emption at its next tile boundary. -/
def State.quantumExpiry (s : State) (id : Nat) : State :=
  let x := s.ctx id
  if s.runsCtxs x.part ∧ x.run = .running ∧ (s.prt x.part).quantum ≠ 0 then
    (s.setCtx id { x with quantumDue := true }).ctxEvent x.part
  else s

/-! ### Commands of the sequencer (R270, R268) -/

/-- R270: every lane plate has issued its SEQ_BARRIER with this BAR_ID. -/
def State.barrierMet (s : State) (p bar : Nat) : Bool :=
  match (s.plate p).ctx with
  | some id => (lanePlates (s.ctx id)).all (fun q => bar ∈ (s.plate q).bars)
  | none => true

/-- SEQ_AT (R270): late where the clock is past AT when the command comes to it, not where it has waited for AT. [DEDUCED, log entry 47] -/
def seqAtBody (c : PlateCmd) (s : State) : Except Stop State :=
  let clk := s.cycles c.plate
  let waited := (s.plate c.plate).waiting.any (fun w => decide (w.cmd = c ∧ w.why = .clock))
  if clk < c.le 16 8 then .error (.wait s .clock)
  else .ok (if c.le 16 8 < clk && !waited then s.dens c.plate 22 1 else s)

/-- SEQ_WINDOW (R266, R270). -/
def seqWindowBody (c : PlateCmd) (s : State) : Except Stop State := do
  need s (decide (c.le 16 1 ≤ 3) && (s.plate c.plate).boundary)
  if s.nowDie (dieOfPlate c.plate) < s.windowAt (s.ownerOf c.plate) (c.le 16 1) then .error (.wait s .window) else .ok s

/-- SEQ_BARRIER (R270). -/
def seqBarrierBody (c : PlateCmd) (s : State) : Except Stop State :=
  let x := s.plate c.plate
  let bar := c.le 16 1
  let s1 := if bar ∈ x.bars then s else s.setPlate c.plate { x with bars := x.bars ++ [bar] }
  if s1.barrierMet c.plate bar then .ok s1 else .error (.wait s1 .barrier)

/-- SEQ_SKIPIF (R270). -/
def seqSkipifBody (c : PlateCmd) (s : State) : Except Stop State := do
  need s (decide (c.le 16 1 ≤ 1 ∧ 1 ≤ c.le 18 2 ∧ c.trayAddr % 16 = 0))
  let w ← s.trayLe .grain c.plate c.trayAddr 4
  let s1 := s.noteRead c.plate c.trayAddr 4
  .ok (if decide (w = 0) == decide (c.le 16 1 = 0) then s1.skipNext c (c.le 18 2) else s1)

/-- CTX_POST (R268). -/
def ctxPostBody (c : PlateCmd) (s : State) : Except Stop State := do
  need s (decide (c.le 16 8 ≠ 0))
  match (s.plate c.plate).ctx with
  | some id => .ok (s.putCtx id { s.ctx id with progress := ((s.ctx id).progress + c.le 16 8) % 2 ^ 64 })
  | none => .ok s

/-- A context blocks (R263): it leaves its lane. -/
def State.block (s : State) (id : Nat) : State :=
  let x := s.ctx id
  if x.run = .running then s.putCtx id { x with run := .blocked, leaving := true, blockT64 := s.partNow x.part } else s

/-- CTX_WAIT (R266, R268). -/
def ctxWaitBody (c : PlateCmd) (s : State) : Except Stop State := do
  need s (s.plate c.plate).boundary
  let n := s.ownerOf c.plate
  let t := waitCtxOf c
  need s (decide ((s.ctx t).part = n) && (s.ctx t).takesPart &&
    decide (s.get fPART_LAYOUT_CTX_FIRST n 0 ≤ t ∧ t < s.get fPART_LAYOUT_CTX_FIRST n 0 + s.get fPART_LAYOUT_CTX_COUNT n 0))
  if s.waitMet c then .ok s
  else if (s.ctx t).run = .done then .error (.fault s stCtxDeadlock stCtxDeadlock 0 0 0)
  else match (s.plate c.plate).ctx with
    | none => .error (.wait s .progress)
    | some id =>
      match s.waitPath id (s.ctxs.length + 1) t with
      | some path => .error (.fault ((path.filter (fun i => decide (i ≠ id))).foldl (fun u i => u.deadlock i) s)
          stCtxDeadlock stCtxDeadlock 0 0 0)
      | none =>
        let x := s.ctx id
        let s1 := (s.setCtx id { x with waitCtx := some t, waitVal := waitValOf c }).block id
        let s2 := if (s.ctx t).residency = 0 ∧ x.run = .running then s1.setPrt n { s1.prt n with exchange := (s1.prt n).exchange ++ [id] } else s1
        .error (.wait s2 .progress)

/-- SEQ_FLIP (R271). -/
def seqFlipBody (c : PlateCmd) (s : State) : Except Stop State :=
  let n := s.ownerOf c.plate
  .ok (if s.get fPART_LAYOUT_KIND n 0 = 1 then s.setPrt n { s.prt n with flip := true } else s)

/-- R263: the context is DONE once SEQ_END has passed on every lane plate. -/
def State.checkDone (s : State) (id : Nat) : State :=
  let x := s.ctx id
  if (lanePlates x).all (fun p => decide ((s.plate p).ctx = some id) && (s.plate p).ended) then
    let s1 := (lanePlates x).foldl (fun t p => t.setPlate p { t.plate p with ctx := none }) s
    s1.putCtx id { x with run := .done, blockT64 := s.partNow x.part, leaving := false, quantumDue := false, waitCtx := none }
  else s

/-- SEQ_END (R270, R151): open groups closed without drain and logged, residues logged, the plate's program over. -/
def State.endProgram (s : State) (p : Nat) : State :=
  let open_ := openMask (s.plate p).groups
  let s1 := if open_ = 0 then s else
    s.log { code := 0x8203, die := dieOfPlate p, unit := 0, inst := p, part := s.ownerOf p,
            expo := s.get fPART_EXPO_NOW_EXPO (s.ownerOf p) 0, detail := leBytes 4 open_ }
  let who := (s.plate p).ctx
  let s2 := s1.clearSems p
  let s3 := s2.setPlate p { s2.plate p with groups := [], waiting := [], ended := true, boundary := true, active := none,
                                            shadow := none, reload := none, skip := 0, fetched := [] }
  match who with
  | some id => s3.checkDone id
  | none => s3

end Sys2Proof.Machine
end

