-- ==== Sys2Proof/Machine/Carrier.lean ====
section
/-! DEFINITION. Carrier: the Carrier and the Halide codec (R367–R390): layer entries, batches and messages, dispatch,
combine, reduction, the tables, and what arriving messages do. -/

namespace Sys2Proof.Machine

/-! ### Halide codec (R383–R385) -/

/-- R383: the canonical code of a table: (value, length, code) in the order codes are given out. -/
def halCodes (tbl : List Nat) : List (Nat × Nat × Nat) :=
  ((List.range 15).foldl (fun (a : List (Nat × Nat × Nat) × Option (Nat × Nat)) i =>
    (List.range 256).foldl (fun (b : List (Nat × Nat × Nat) × Option (Nat × Nat)) v =>
      if tbl.getD v 0 = i + 1 then
        let code := match b.2 with
          | none => 0
          | some (len, prev) => (prev + 1) * 2 ^ (i + 1 - len)
        (b.1 ++ [(v, i + 1, code)], some (i + 1, code))
      else b) a) ([], none)).1

/-- R383: is a table valid? -/
def halValid (tbl : List Nat) : Bool :=
  tbl.all (fun l => decide (l ≤ 15)) && tbl.any (fun l => decide (l ≠ 0)) &&
  decide ((tbl.filter (fun l => decide (l ≠ 0))).foldl (fun a l => a + 2 ^ (15 - l)) 0 ≤ 2 ^ 15)

/-- Bits of a code word, most significant first. -/
def codeBits (len code : Nat) : List Bool := (List.range len).map (fun i => code.testBit (len - 1 - i))

/-- R383: bits packed most significant first, padded with 0. [DESIGN CHOICE, log entry 53] -/
def packBits (bits : List Bool) : List Nat :=
  (List.range (ceilDiv bits.length 8)).map (fun i => (List.range 8).foldl (fun a k => 2 * a + (if bits.getD (8 * i + k) false then 1 else 0)) 0)

/-- R385: the coded form of a body, if every byte has a code. [DESIGN CHOICE, log entry 53] -/
def halEncode (tbl : List Nat) (body : List Nat) : Option (List Bool) :=
  let cs := halCodes tbl
  body.foldl (fun (acc : Option (List Bool)) b =>
    match acc, cs.find? (fun c => decide (c.1 = b)) with
    | some bits, some c => some (bits ++ codeBits c.2.1 c.2.2)
    | _, _ => none) (some [])

/-- R386 check 2: the body decoded, if every word is a code and none crosses the end. -/
def halDecode (cs : List (Nat × Nat × Nat)) : List Bool → Nat → Nat → List Nat → Option (List Nat)
  | [], len, _, acc => if len = 0 then some acc.reverse else none
  | b :: bs, len, code, acc =>
    let l := len + 1
    let c := 2 * code + (if b then 1 else 0)
    match cs.find? (fun e => decide (e.2.1 = l ∧ e.2.2 = c)) with
    | some e => halDecode cs bs 0 0 (e.1 :: acc)
    | none => if l = 15 then none else halDecode cs bs l c acc

/-- The first `n` bits of coded bytes. -/
def unpackBits (bytes : List Nat) (n : Nat) : List Bool := (List.range n).map (fun i => (bytes.getD (i / 8) 0).testBit (7 - i % 8))

/-- Table of slot `k` = class × 4 + slot. -/
def State.halTable (s : State) (n k : Nat) : List Nat := smapGet (fun _ => []) k (s.carrOf n).tables
/-- R389: epoch of a slot, in HAL_EPOCHc. -/
def State.halEpoch (s : State) (n k : Nat) : Nat := bitsOf (s.get fHAL_EPOCH_EPOCHS n (k / 4)) (16 * (k % 4)) 16
/-- R385: current slot of a class, if it has one. -/
def State.halCurrent (s : State) (n cls : Nat) : Option Nat :=
  if cls < 15 ∧ (s.get fHAL_SLOTS_HAS_CUR n 0).testBit cls then some (4 * cls + bitsOf (s.get fHAL_SLOTS_CUR n 0) (2 * cls) 2) else none

/-- R384: is a slot busy: does a message coded with it wait for transmission? -/
def State.halBusy (s : State) (n k : Nat) : Bool :=
  s.tx.any (fun e => decide (flowSrc e.1 = n) && e.2.blocks.any (fun b => !b.sent && decide (b.slotTag = some k)))

/-- HAL_LOAD (R383, R384, R388). -/
def halLoadBody (c : PlateCmd) (s : State) : Except Stop State := do
  let n := s.ownerOf c.plate
  let cls := c.le 16 1
  let slot := c.bits 17 0 2
  let k := 4 * cls + slot
  need s (decide (cls ≤ 14 ∧ c.trayAddr % 16 = 0))
  let tbl ← s.clRead c.plate c.trayAddr 256
  need s (halValid tbl)
  if s.halBusy n k then .error (.wait (s.dens (160 + s.homeDie n) 15 1) .slot)
  else
    let cr := s.carrOf n
    let s1 := ((s.clNote c.plate c.trayAddr 256).setCarr n { cr with tables := smapSet (fun _ => []) k tbl cr.tables }).put fHAL_EPOCH_EPOCHS n cls
      (putBits (s.get fHAL_EPOCH_EPOCHS n cls) (16 * slot) 16 (c.le 18 2))
    .ok (if c.bits 17 2 1 = 1 then
      (s1.put fHAL_SLOTS_CUR n 0 (putBits (s1.get fHAL_SLOTS_CUR n 0) (2 * cls) 2 slot)).put fHAL_SLOTS_HAS_CUR n 0
        (putBits (s1.get fHAL_SLOTS_HAS_CUR n 0) cls 1 1)
    else s1)

/-! ### Layer entries (R369, R370, R376, R377) -/

/-- R370: a layer entry. -/
structure LayerEnt where
  dzone : Nat
  rowBytes : Nat
  rzone : Nat
  outBytes : Nat
  cap : Nat
  nlocal : Nat
  k : Nat
  nexp : Nat
  hidden : Nat
  gateAll : Bool
  retFp32 : Bool
  dclass : Nat
  rclass : Nat
  deriving DecidableEq, Repr

/-- R370: a layer entry from its bytes. -/
def layerEnt (bs : List Nat) : LayerEnt :=
  let f (i n : Nat) : Nat := ofLe ((bs.drop i).take n)
  { dzone := f 0 6, rowBytes := f 6 2, rzone := f 8 6, outBytes := f 14 2, cap := f 16 2, nlocal := f 18 1, k := f 19 1, nexp := f 20 2,
    hidden := f 22 2, gateAll := decide (f 24 1 % 2 = 1), retFp32 := decide (f 24 1 / 2 % 2 = 1), dclass := f 25 1 % 16, rclass := f 26 1 % 16 }

/-- Does a range lie in the inbound region? -/
def State.inInbound (s : State) (n a len : Nat) : Bool :=
  let lo := s.get fCARR_INBUF_BASE_4K n 0 * 4096
  decide (lo ≤ a ∧ a + len ≤ lo + s.get fCARR_INBUF_SIZE_4K n 0 * 4096)

/-- R376: sub-zone index of local expert `x` and source rank `r`. -/
def subZone (nranks x r : Nat) : Nat := x * nranks + r
/-- Bytes of a dispatch zone's rows of `row` bytes each. -/
def zoneRows (e : LayerEnt) (nranks row : Nat) : Nat := e.nlocal * nranks * e.cap * row
/-- R376: address of the count of (x, r). -/
def countAddr (e : LayerEnt) (nranks x r : Nat) : Nat := e.dzone + zoneRows e nranks e.rowBytes + 2 * subZone nranks x r

/-- R370: the ranges a layer entry must keep. -/
def State.layerOk (s : State) (n : Nat) (e : LayerEnt) : Bool :=
  decide (e.rowBytes % 16 = 0 ∧ 16 ≤ e.rowBytes ∧ e.rowBytes ≤ 65472 ∧ e.outBytes % 16 = 0 ∧ 1 ≤ e.cap ∧ e.cap ≤ 4096 ∧ 1 ≤ e.k ∧ e.k ≤ 8 ∧
    1 ≤ e.nexp ∧ e.nexp ≤ 4096 ∧ 1 ≤ e.hidden ∧ e.hidden ≤ 16384 ∧ e.hidden * (if e.retFp32 then 4 else 2) ≤ e.outBytes) &&
  s.inInbound n e.dzone (zoneRows e (s.nranks n) e.rowBytes + 2 * (e.nlocal * s.nranks n)) &&
  s.inInbound n e.rzone (e.nexp * e.cap * e.outBytes)

/-- The entry of a layer, unchecked. -/
def State.layerRaw (s : State) (n l : Nat) : LayerEnt := layerEnt (s.bytes (s.get fCARR_LAYERS_ADDR n 0 + 64 * l) 64)

/-- R369, R370: the layer entry a command uses, or ST_META_FAULT. -/
def State.layerOf (s : State) (n l : Nat) : Except Stop LayerEnt := do
  let bs ← s.remoteRead n (s.get fCARR_LAYERS_ADDR n 0 + 64 * l) 64
  if s.layerOk n (layerEnt bs) then .ok (layerEnt bs) else faultWith s stMetaFault

/-- Where the entry of a layer stands, and its length. -/
def State.layerPlace (s : State) (n l : Nat) : Nat × Nat := (s.get fCARR_LAYERS_ADDR n 0 + 64 * l, 64)

/-- LAYER of a Carrier command. -/
def carrLayer (c : PlateCmd) : Nat := c.bits 2 0 8

/-- R369: home rank of global expert `e`. -/
def State.homeRank (s : State) (n e : Nat) : Nat := s.le (s.get fCARR_HOME_ADDR n 0 + 4 * e) 2
/-- R369: local index of global expert `e` at its home. -/
def State.homeLocal (s : State) (n e : Nat) : Nat := s.le (s.get fCARR_HOME_ADDR n 0 + 4 * e + 2) 1

/-! ### Messages (R372–R374, R379) -/

/-- R372: the 64-byte header of a Carrier message. -/
structure CarrHdr where
  kind : Nat
  cls : Nat
  slot : Nat
  coded : Bool
  poison : Bool
  epoch : Nat
  src : Nat
  dst : Nat
  layer : Nat
  expert : Nat
  rows : Nat
  msgs : Nat
  rawLen : Nat
  codedBits : Nat
  crc : Nat
  seq : Nat
  t64 : Nat
  expo : Nat
  firstRow : Nat
  idx : Nat
  ref : Nat
  deriving DecidableEq, Repr

/-- R372: the bytes of a header. -/
def carrHdrBytes (h : CarrHdr) : List Nat :=
  [h.kind, h.cls % 16 + 16 * (h.slot % 4) + (if h.coded then 64 else 0) + (if h.poison then 128 else 0)] ++ leBytes 2 h.epoch ++
  leBytes 2 h.src ++ leBytes 2 h.dst ++ leBytes 2 h.layer ++ leBytes 2 h.expert ++ leBytes 2 h.rows ++ leBytes 2 h.msgs ++
  leBytes 4 h.rawLen ++ leBytes 4 h.codedBits ++ leBytes 4 h.crc ++ leBytes 4 h.seq ++ leBytes 8 h.t64 ++ leBytes 8 h.expo ++
  leBytes 2 h.firstRow ++ leBytes 2 h.idx ++ leBytes 4 h.ref ++ List.replicate 8 0

/-- R372: a header read from a message. -/
def carrHdr (bs : List Nat) : CarrHdr :=
  let f (i n : Nat) : Nat := ofLe ((bs.drop i).take n)
  { kind := f 0 1, cls := f 1 1 % 16, slot := f 1 1 / 16 % 4, coded := decide (f 1 1 / 64 % 2 = 1), poison := decide (f 1 1 / 128 = 1),
    epoch := f 2 2, src := f 4 2, dst := f 6 2, layer := f 8 2, expert := f 10 2, rows := f 12 2, msgs := f 14 2, rawLen := f 16 4,
    codedBits := f 20 4, crc := f 24 4, seq := f 28 4, t64 := f 32 8, expo := f 40 8, firstRow := f 48 2, idx := f 50 2, ref := f 52 4 }

/-- Bytes a message takes on its way. -/
def carrHdrSize (h : CarrHdr) : Nat := 64 + (if h.coded then ceilDiv h.codedBits 8 else h.rawLen)

/-- CBT class of a message kind: GRAD for the gradient kinds, else CARRIER (R357, R372). -/
def kindClass (kind : Nat) : Nat := if kind = 2 ∨ kind = 3 then 1 else 0

/-- Outbound bytes a batch holds (R374). -/
def OutBatch.bytes (b : OutBatch) : Nat := b.msgs.foldl (fun a m => a + 64 + m.raw.length) 0
/-- Free bytes of the outbound region. -/
def State.outFree (s : State) (n : Nat) : Nat := s.get fCARR_OUTBUF_SIZE_4K n 0 * 4096 - (s.carrOf n).used

/-- R374: the region's contents are the Carrier's own from its first use on. -/
def State.openOutbound (s : State) (n : Nat) : State :=
  let c := s.carrOf n
  if c.opened then s
  else (s.setCarr n { c with opened := true }).engineFill (s.get fCARR_OUTBUF_BASE_4K n 0 * 4096) (s.get fCARR_OUTBUF_SIZE_4K n 0 * 4096)

/-- R373, R374: a batch copied into the outbound region: (expert, rows, first row, poison, body) of each message. -/
def State.queueBatch (s : State) (n kind layer dst cls : Nat) (ms : List (Nat × Nat × Nat × Bool × List Byte)) : State :=
  let s0 := s.openOutbound n
  let c := s0.carrOf n
  let msgs := (List.range ms.length).map (fun i =>
    let m := ms.getD i (0xFFFF, 0, 0, false, [])
    ({ seq := (c.srcSeq + i) % 2 ^ 32, expert := m.1, rows := m.2.1, firstRow := m.2.2.1, idx := i, poison := m.2.2.2.1, raw := m.2.2.2.2 } : OutMsg))
  let b : OutBatch :=
    { id := c.nextId, kind := kind, layer := layer, dst := dst, cls := cls, expo := s.get fPART_EXPO_NOW_EXPO n 0, attempt := (s.prt n).attempt,
      msgs := msgs, sent := false, accepted := false }
  s0.setCarr n { c with nextId := c.nextId + 1, srcSeq := (c.srcSeq + ms.length) % 2 ^ 32, used := c.used + b.bytes, out := c.out ++ [b] }

/-- R380: a batch of the running exposure is lost: the exposure is voided, or in attempt 1 its requests end with
ST_CARRIER_LOST. -/
def State.carrierLost (s : State) (n : Nat) : State := (s.put fCARR_STAT_LOST n 0 1).partTrigger n 0x0505

/-- R385: a message coded with its class's current slot, or raw. [DESIGN CHOICE, log entry 53] -/
def State.codeMsg (s : State) (n : Nat) (b : OutBatch) (m : OutMsg) (raw : Bool) : CarrHdr × List Nat × Option Nat :=
  let body := ofBytes m.raw
  let h : CarrHdr :=
    { kind := b.kind, cls := b.cls, slot := 0, coded := false, poison := m.poison, epoch := 0, src := s.selfRank n, dst := b.dst,
      layer := b.layer, expert := m.expert, rows := m.rows, msgs := b.msgs.length, rawLen := body.length, codedBits := 0, crc := crc32c body,
      seq := m.seq, t64 := s.nowDie (s.homeDie n), expo := b.expo, firstRow := m.firstRow, idx := m.idx, ref := 0 }
  match (if raw then none else s.halCurrent n b.cls) with
  | none => (h, body, none)
  | some k =>
    match halEncode (s.halTable n k) body with
    | none => (h, body, none)
    | some bits =>
      if body.length ≤ ceilDiv bits.length 8 then (h, body, none)
      else ({ h with slot := k % 4, coded := true, epoch := s.halEpoch n k, codedBits := bits.length }, packBits bits, some k)

/-- One message coded and put on the half toward its rank; with no route it is lost (R371). -/
def State.sendMsg (s : State) (n : Nat) (b : OutBatch) (m : OutMsg) (raw : Bool) : State :=
  match s.routeHalf n b.dst with
  | none => s.carrierLost n
  | some half =>
    let r := s.codeMsg n b m raw
    let d := 160 + s.homeDie n
    (((s.dens d 12 m.raw.length).dens d 13 r.2.1.length).dens d 14 (if r.1.coded then 0 else 1)).cbtSend
      (flowKey half (kindClass b.kind) n (s.peerPart n half)) b.expo b.attempt m.poison r.2.2 0 (toBytes (carrHdrBytes r.1 ++ r.2.1))

/-- A batch's messages transmitted, until a lost one voids the exposure. [DEDUCED, log entry 52] -/
def State.sendBatch (s : State) (n : Nat) (b : OutBatch) : State :=
  let c := s.carrOf n
  let s1 := s.setCarr n { c with out := c.out.map (fun x => if x.id = b.id then { x with sent := true } else x) }
  b.msgs.foldl (fun t m => if (t.prt n).voided then t else t.sendMsg n b m false) s1

/-- CARRIER_BATCH_SEND (R379): a batch is transmitted once its window is open; the event finds the clock there. [DESIGN CHOICE, log entry 10] -/
def State.carrierBatchSend (s : State) (n id : Nat) : State :=
  match (s.carrOf n).out.find? (fun b => decide (b.id = id) && !b.sent) with
  | none => s
  | some b => ((if b.kind ≤ 1 then s.reachTime n (s.windowAt n b.kind) else s).sendBatch n b)

/-- The batch queued last, sent at once: GRAD messages wait for no window (R379). -/
def State.sendLast (s : State) (n : Nat) : State :=
  match (s.carrOf n).out.getLast? with
  | some b => s.sendBatch n b
  | none => s

/-- A header-only message: ACCEPT or REJECT (R373, R386). -/
def State.sendReply (s : State) (n kind cls : Nat) (h : CarrHdr) (ref : Nat) : State :=
  let c := s.carrOf n
  let s1 := s.setCarr n { c with srcSeq := (c.srcSeq + 1) % 2 ^ 32 }
  let r : CarrHdr :=
    { kind := kind, cls := 15, slot := 0, coded := false, poison := false, epoch := 0, src := s.selfRank n, dst := h.src, layer := h.layer,
      expert := 0xFFFF, rows := 0, msgs := 1, rawLen := 0, codedBits := 0, crc := crc32c [], seq := c.srcSeq,
      t64 := s.nowDie (s.homeDie n), expo := h.expo, firstRow := 0, idx := 0, ref := ref }
  match s1.routeHalf n h.src with
  | none => s1.carrierLost n
  | some half => s1.cbtSend (flowKey half cls n (s1.peerPart n half)) h.expo (s.prt n).attempt false none 0 (toBytes (carrHdrBytes r))

/-! ### Inbound batches (R373, R376, R377) -/

/-- The inbound batch of a kind, layer and source. -/
def Carr.inBatch (c : Carr) (kind layer src : Nat) : InBatch :=
  (c.inn.find? (fun b => decide (b.kind = kind ∧ b.layer = layer ∧ b.src = src))).getD
    { kind := kind, layer := layer, src := src, total := none, got := [], counts := [], fails := [], grads := [], complete := false }
/-- The inbound batch replaced. -/
def Carr.setIn (c : Carr) (b : InBatch) : Carr :=
  { c with inn := c.inn.filter (fun x => !decide (x.kind = b.kind ∧ x.layer = b.layer ∧ x.src = b.src)) ++ [b] }
/-- Has every rank's batch of a kind landed for a layer (R377)? -/
def State.allIn (s : State) (n kind layer : Nat) : Bool :=
  (List.range (s.nranks n)).all (fun r => ((s.carrOf n).inBatch kind layer r).complete)
/-- R255: does the Carrier hold every combine block that the partition awaits? -/
def State.carrierHolds (s : State) (n : Nat) : Bool := (s.carrOf n).dispatched.all (fun l => s.allIn n 1 l)

/-- Rows a complete DISPATCH batch kept for an expert. -/
def keptRows (counts : List (Nat × Nat)) (e : Nat) : Nat := (counts.filter (fun c => decide (c.1 = e))).foldl (fun a c => a + c.2) 0

/-- R376: a complete DISPATCH batch: counts written, unfilled rows of its sub-zones zeroed. -/
def State.finishDispatch (s : State) (n l src : Nat) (counts : List (Nat × Nat)) : State :=
  let e := s.layerRaw n l
  let nr := s.nranks n
  let mine := (List.range e.nexp).filter (fun x => decide (s.homeRank n x = s.selfRank n))
  (List.range e.nlocal).foldl (fun t x =>
    let k := (mine.filter (fun g => decide (s.homeLocal n g = x))).foldl (fun a g => a + keptRows counts g) 0
    (t.writeLe (countAddr e nr x src) 2 k).write (e.dzone + (subZone nr x src * e.cap + k) * e.rowBytes)
      (List.replicate ((e.cap - k) * e.rowBytes) 0)) s

/-- A batch marked complete. -/
def State.markIn (s : State) (n kind l src : Nat) : State :=
  let c := s.carrOf n
  s.setCarr n (c.setIn { c.inBatch kind l src with complete := true })

/-- R376: address of row `j` of global expert `x` from rank `src` in the dispatch zone. -/
def State.dispatchAt (s : State) (n : Nat) (e : LayerEnt) (x src j : Nat) : Nat :=
  e.dzone + (subZone (s.nranks n) (s.homeLocal n x) src * e.cap + j) * e.rowBytes

/-- A poisoned row: every half-word 0x7FC0 (R158, R376). -/
def poisonRow (n : Nat) : List Nat := (List.range n).map (fun k => if k % 2 = 0 then 0xC0 else 0x7F)

/-- R376, R377: the rows of a checked message land in their zone, if the zone has the place. -/
def State.landRows (s : State) (n : Nat) (h : CarrHdr) (body : List Nat) (poison : Bool) : State :=
  let e := s.layerRaw n h.layer
  let w := if h.kind = 0 then e.rowBytes else e.outBytes
  let at_ := if h.kind = 0 then s.dispatchAt n e h.expert h.src h.firstRow else e.rzone + (h.expert * e.cap + h.firstRow) * e.outBytes
  if h.rows = 0 ∨ h.expert = 0xFFFF then s
  else if s.inInbound n at_ (h.rows * w) then s.write at_ (if poison then poisonRow (h.rows * w) else body.take (h.rows * w))
  else s

/-! ### Dispatch (R375) -/

/-- R375: one row's routing: poisoned or not, and its K slots (expert, gate); an empty slot has no expert. -/
structure Route where
  poisoned : Bool
  slots : List (Option Nat × Nat)
  deriving DecidableEq, Repr

/-- R375 steps 1–3. -/
def routeRow (k : Nat) (gateAll : Bool) (draw key : Nat) (zs : List Nat) : Route :=
  if zs.any (fun z => visNan (fdecode fp32 z) || decide (z = finf)) then { poisoned := true, slots := List.replicate k (none, fnan) }
  else
    let cand := ((List.range zs.length).map (fun e => (e, zs.getD e 0))).filter (fun e => !fnonFinite e.2)
    let sel := (sortToks cand).take k
    let zmax := (sel.headD (0, 0)).2
    let terms := (if gateAll then cand else sel).map (fun e => fdecode fp32 (expOf (fsub e.2 zmax)))
    let sum := sumFp32 draw key terms
    { poisoned := false,
      slots := sel.map (fun e => (some e.1, fdiv (expOf (fsub e.2 zmax)) sum)) ++ List.replicate (k - sel.length) (none, 0) }

/-- R375 step 4: positions assigned in row order: for each row its gate records (expert, position, gate), the rows kept
for each expert, and the slots dropped. -/
def assignSlots (cap : Nat) (next : SMap Nat) (dropped : Nat) (empty : Nat) :
    List (Option Nat × Nat) → List (Nat × Nat × Nat) → List (Nat × Nat) → List (Nat × Nat × Nat) × List (Nat × Nat) × SMap Nat × Nat
  | [], recs, kept => (recs.reverse, kept.reverse, next, dropped)
  | (none, g) :: xs, recs, kept => assignSlots cap next dropped empty xs ((empty, 0xFFFF, g) :: recs) kept
  | (some e, g) :: xs, recs, kept =>
    let j := smapGet (fun _ => 0) e next
    if j < cap then assignSlots cap (smapSet (fun _ => 0) e (j + 1) next) dropped empty xs ((e, j, g) :: recs) ((e, j) :: kept)
    else assignSlots cap next (dropped + 1) empty xs ((e, 0xFFFF, g) :: recs) kept

/-- Messages of the rows of one expert, as full as they go: rows per message at most. -/
def rowMsgs (expert width : Nat) (rows : List (Nat × List Nat)) : Nat → List (Nat × Nat × Nat × Bool × List Byte)
  | 0 => []
  | fuel + 1 =>
    if rows.isEmpty then []
    else
      let per := 65472 / width
      let now := rows.take per
      (expert, now.length, (now.headD (0, [])).1, false, toBytes ((now.map Prod.snd).flatten)) :: rowMsgs expert width (rows.drop per) fuel

/-- R373: the messages of a batch to one rank; with no rows, one empty message. -/
def batchMsgs (ms : List (Nat × Nat × Nat × Bool × List Byte)) : List (Nat × Nat × Nat × Bool × List Byte) :=
  if ms.isEmpty then [(0xFFFF, 0, 0, false, [])] else ms

/-- Outbound bytes of messages. -/
def msgsBytes (ms : List (Nat × Nat × Nat × Bool × List Byte)) : Nat := ms.foldl (fun a m => a + 64 + m.2.2.2.2.length) 0

/-- R373, R374: batches to every rank queued where the outbound region has room; `none` where it has not. -/
def State.queueAll (s : State) (n kind l cls : Nat) (byRank : Nat → List (Nat × Nat × Nat × Bool × List Byte)) : Option State :=
  let others := (List.range (s.nranks n)).filter (fun r => decide (r ≠ s.selfRank n))
  if others.foldl (fun a r => a + msgsBytes (batchMsgs (byRank r))) 0 ≤ s.outFree n then
    some (others.foldl (fun t r => t.queueBatch n kind l r cls (batchMsgs (byRank r))) s)
  else none

/-- CARR_DISPATCH (R370, R375, R376). -/
def carrDispatchBody (c : PlateCmd) (s : State) : Except Stop State := do
  let n := s.ownerOf c.plate
  let l := carrLayer c
  let rows := countOf (c.bits 8 0 12) 12
  let src := c.le 16 6
  let stride := c.le 22 2
  let logits := c.le 24 6
  need s (decide (src % 16 = 0 ∧ stride % 16 = 0 ∧ logits % 16 = 0 ∧ c.trayAddr % 16 = 0))
  let e ← s.layerOf n l
  need s (decide (l ∉ (s.carrOf n).dispatched))
  let _ ← s.remoteRead n (s.get fCARR_HOME_ADDR n 0) (4 * e.nexp)
  let lstride := roundUp (4 * e.nexp) 16
  let zs ← (List.range rows).mapM (fun r => do
    let bs ← s.remoteRead n (logits + r * lstride) (4 * e.nexp)
    .ok ((List.range e.nexp).map (fun i => ofLe ((bs.drop (4 * i)).take 4))))
  let routes := (List.range rows).map (fun r => routeRow e.k e.gateAll s.free r (zs.getD r []))
  let empty := (Config.freeValue (s.free + 1)).toNat % 65536
  let asg := routes.foldl (fun (a : List (List (Nat × Nat × Nat) × List (Nat × Nat)) × SMap Nat × Nat) rt =>
    let q := assignSlots e.cap a.2.1 a.2.2 empty rt.slots [] []
    (a.1 ++ [(q.1, q.2.1)], q.2.2.1, q.2.2.2)) ([], [], 0)
  let data ← (List.range rows).mapM (fun r =>
    if ((asg.1.getD r ([], [])).2).isEmpty then .ok [] else s.remoteRead n (src + r * stride) e.rowBytes)
  let rowsOf (x : Nat) : List (Nat × List Nat) :=
    ((List.range rows).map (fun r => (((asg.1.getD r ([], [])).2).filter (fun k => decide (k.1 = x))).map (fun k => (k.2, data.getD r [])))).flatten
  let experts (r : Nat) : List Nat := (List.range e.nexp).filter (fun x => decide (s.homeRank n x = r))
  let byRank (r : Nat) := ((experts r).map (fun x => rowMsgs x e.rowBytes (rowsOf x) (rowsOf x).length)).flatten
  let reads := [s.layerPlace n l, (s.get fCARR_HOME_ADDR n 0, 4 * e.nexp)] ++ (List.range rows).map (fun r => (logits + r * lstride, 4 * e.nexp)) ++
    ((List.range rows).filter (fun r => !((asg.1.getD r ([], [])).2).isEmpty)).map (fun r => (src + r * stride, e.rowBytes))
  match s.queueAll n 0 l e.dclass byRank with
  | none => .error (.wait (s.dens (160 + s.homeDie n) 8 1) .outSpace)
  | some s0 =>
    let s1 := s0.noteRemotes c.plate reads
    let recs := ((asg.1.map (fun a => (a.1.map (fun g => leBytes 2 g.1 ++ leBytes 2 g.2.1 ++ leBytes 4 g.2.2)).flatten))).flatten
    let s2 ← ({ s1 with free := s1.free + 2 } : State).clPut c.plate c.trayAddr recs
    let self := s.selfRank n
    let s3 := (experts self).foldl (fun t x => (rowsOf x).foldl (fun u j =>
      let a := u.dispatchAt n e x self j.1
      if u.inInbound n a e.rowBytes then u.write a j.2 else u) t) s2
    let s4 := (s3.finishDispatch n l self ((experts self).map (fun x => (x, (rowsOf x).length)))).markIn n 0 l self
    let cr := s4.carrOf n
    let s5 := (s4.setCarr n { cr with dispatched := cr.dispatched ++ [l] }).dens (160 + s.homeDie n) 9 asg.2.2
    .ok (if asg.2.2 = 0 then s5 else s5.burnWarn c.plate 0x0504)

/-! ### Waiting, returning, combining (R377, R378) -/

/-- A Carrier command that waits blocks its context (R263, R388). -/
def carrBlock {α : Type} (c : PlateCmd) (s : State) : Except Stop α :=
  match (s.plate c.plate).ctx with
  | some id => .error (.wait (s.block id) .carrier)
  | none => .error (.wait s .carrier)

/-- CARR_WAIT (R377). -/
def carrWaitBody (c : PlateCmd) (s : State) : Except Stop State := do
  let n := s.ownerOf c.plate
  need s (decide (c.le 16 1 ≤ 1) && (s.plate c.plate).boundary)
  let _ ← s.layerOf n (carrLayer c)
  if s.allIn n (c.le 16 1) (carrLayer c) then .ok (s.noteRemotes c.plate [s.layerPlace n (carrLayer c)]) else carrBlock c s

/-- CARR_RETURN (R377). -/
def carrReturnBody (c : PlateCmd) (s : State) : Except Stop State := do
  let n := s.ownerOf c.plate
  let l := carrLayer c
  let oz := c.le 16 6
  need s (decide (oz % 16 = 0))
  let e ← s.layerOf n l
  let nr := s.nranks n
  if !s.inInbound n oz (zoneRows e nr e.outBytes) then faultWith s stMetaFault
  else do
    let counts ← s.remoteRead n (countAddr e nr 0 0) (2 * (e.nlocal * nr))
    let kept (x r : Nat) : Nat := min (ofLe ((counts.drop (2 * subZone nr x r)).take 2)) e.cap
    let mine := (List.range e.nexp).filter (fun x => decide (s.homeRank n x = s.selfRank n ∧ s.homeLocal n x < e.nlocal))
    let locals := (List.range e.nlocal).filterMap (fun x => (mine.find? (fun g => decide (s.homeLocal n g = x))).map (fun g => (x, g)))
    let rowsOf (r : Nat) (x : Nat × Nat) : Except Stop (List (Nat × List Nat)) :=
      (List.range (kept x.1 r)).mapM (fun j => do
        let bs ← s.remoteRead n (oz + (subZone nr x.1 r * e.cap + j) * e.outBytes) e.outBytes
        .ok (j, bs))
    let all ← (List.range nr).mapM (fun r => locals.mapM (fun x => do
      let rs ← rowsOf r x
      .ok (x.2, rs)))
    let byRank (r : Nat) := ((all.getD r []).map (fun x => rowMsgs x.1 e.outBytes x.2 x.2.length)).flatten
    match s.queueAll n 1 l e.rclass byRank with
    | none => .error (.wait (s.dens (160 + s.homeDie n) 8 1) .outSpace)
    | some s0 =>
      let s1 := s0.noteRemotes c.plate ([s.layerPlace n l, (countAddr e nr 0 0, 2 * (e.nlocal * nr))] ++
        ((List.range nr).map (fun r => (locals.map (fun x => (List.range (kept x.1 r)).map (fun j =>
          (oz + (subZone nr x.1 r * e.cap + j) * e.outBytes, e.outBytes)))).flatten)).flatten)
      let self := s.selfRank n
      let s2 := (all.getD self []).foldl (fun t x => x.2.foldl (fun u j =>
        let a := e.rzone + (x.1 * e.cap + j.1) * e.outBytes
        if u.inInbound n a e.outBytes then u.write a j.2 else u) t) s1
      .ok (s2.markIn n 1 l self)

/-- R378: one output value: multiply-adds in slot order. -/
def combineValue (gates : List (Nat × List Nat)) (w i : Nat) : Nat :=
  gates.foldl (fun acc g => ffma g.1 (fconv (if w = 4 then fp32 else bf16) fp32 (ofLe ((g.2.drop (w * i)).take w))) acc) 0

/-- CARR_COMBINE (R378). -/
def carrCombineBody (c : PlateCmd) (s : State) : Except Stop State := do
  let n := s.ownerOf c.plate
  let l := carrLayer c
  let rows := countOf (c.bits 8 0 12) 12
  let dest := c.le 16 6
  let stride := c.le 22 2
  let fp := decide (c.le 24 1 = 1)
  need s (decide (c.le 24 1 ≤ 1 ∧ dest % 16 = 0 ∧ stride % 16 = 0 ∧ c.trayAddr % 16 = 0) && (s.plate c.plate).boundary)
  let e ← s.layerOf n l
  if !s.allIn n 1 l then carrBlock c s
  else do
    let recs ← s.clRead c.plate c.trayAddr (rows * e.k * 8)
    let w := if e.retFp32 then 4 else 2
    (List.range rows).foldlM (fun t r => do
      let slots := (List.range e.k).map (fun i =>
        let b := recs.drop ((r * e.k + i) * 8)
        (ofLe (b.take 2), ofLe ((b.drop 2).take 2), ofLe ((b.drop 4).take 4)))
      let live := slots.filter (fun q => decide (q.2.1 ≠ 0xFFFF))
      let gates ← live.mapM (fun q => do
        let bs ← t.remoteRead n (e.rzone + (q.1 * e.cap + q.2.1) * e.outBytes) e.outBytes
        .ok (q.2.2, bs))
      let nan := slots.any (fun q => visNan (fdecode fp32 q.2.2))
      let ys := (List.range e.hidden).map (fun i => if nan then fnan else combineValue gates w i)
      (t.noteRemotes c.plate (live.map (fun q => (e.rzone + (q.1 * e.cap + q.2.1) * e.outBytes, e.outBytes)))).remoteWrite n (dest + r * stride)
        ((ys.map (outVal (if fp then 1 else 0))).flatten)) ((s.noteRemotes c.plate [s.layerPlace n l]).clNote c.plate c.trayAddr (rows * e.k * 8))

/-! ### Reduction (R381) -/

/-- Bytes of a GRAD batch's superblocks, or `none` for those a poisoned message held. -/
def InBatch.superblock (b : InBatch) (i : Nat) : Option (List Nat) :=
  match b.grads.find? (fun g => decide (g.1 = i / 62)) with
  | some g => if g.2.1 then none else some (ofBytes ((g.2.2.drop (i % 62 * 1056)).take 1056))
  | none => none

/-- A NaN superblock (R49). [DEDUCED, log entry 52] -/
def nanSuperblock : List Nat := (g8Row (List.replicate 1024 .nan) (fun _ => none)).1

/-- FP32 values of a superblock; a poisoned one is all NaN. -/
def superVals (b : Option (List Nat)) : List Nat :=
  match b with
  | some bs => (g8Vals bs 1024).map (fencode fp32)
  | none => List.replicate 1024 fnan

/-- Messages of a GRAD batch: 62 superblocks at most in each (R381). -/
def gradMsgs (bs : List Nat) : List (Nat × Nat × Nat × Bool × List Byte) :=
  (List.range (ceilDiv bs.length 65472)).map (fun i =>
    let part := (bs.drop (i * 65472)).take 65472
    (0xFFFF, part.length / 1056, i * 62, false, toBytes part))

/-- SEG of a CARR_REDUCE. -/
def reduceSeg (c : PlateCmd) : Nat := c.le 2 2

/-- Is this rank the root of the gradient tree? -/
def State.isRoot (s : State) (n : Nat) : Bool := decide (s.parentOf n (s.selfRank n) = 0xFFFF)

/-- R381: may a CARR_REDUCE go on: its children's messages have come, or its GRAD_DOWN has? -/
def State.reduceReady (s : State) (n seg : Nat) : Bool :=
  if (s.carrOf n).reduced.any (fun r => decide (r.1 = seg)) then
    s.isRoot n || ((s.carrOf n).inBatch 3 seg (s.parentOf n (s.selfRank n))).complete
  else (s.children n).all (fun r => ((s.carrOf n).inBatch 2 seg r).complete)

/-- R381 step 5: the GRAD_DOWN content written to DEST and forwarded to the children. -/
def State.reduceDown (s : State) (n seg cls dest : Nat) (bs : List Nat) : Except Stop State := do
  if (s.children n).length * msgsBytes (gradMsgs bs) ≤ s.outFree n then do
    let s1 ← s.remoteWrite n dest bs
    .ok ((s.children n).foldl (fun t r => (t.queueBatch n 3 seg r cls (gradMsgs bs)).sendLast n) s1)
  else .error (.wait (s.dens (160 + s.homeDie n) 8 1) .outSpace)

/-- CARR_REDUCE (R381). -/
def carrReduceBody (c : PlateCmd) (s : State) : Except Stop State := do
  let n := s.ownerOf c.plate
  let seg := reduceSeg c
  let nsb := c.bits 8 0 16
  let src := c.le 16 6
  let dest := c.le 22 6
  let cls := c.le 28 1
  let stream := c.le 29 3
  need s (decide (1 ≤ nsb ∧ src % 16 = 0 ∧ dest % 16 = 0 ∧ cls ≤ 15) && (s.plate c.plate).boundary)
  if !s.reduceReady n seg then carrBlock c s
  else match (s.carrOf n).reduced.find? (fun r => decide (r.1 = seg)) with
    | some r =>
      let down := (s.carrOf n).inBatch 3 seg (s.parentOf n (s.selfRank n))
      let bs := if s.isRoot n then ofBytes r.2 else ((List.range nsb).map (fun i => (down.superblock i).getD nanSuperblock)).flatten
      s.reduceDown n seg cls dest bs
    | none => do
      let own ← s.remoteRead n src (1056 * nsb)
      let kids := (s.children n).map (fun r => (s.carrOf n).inBatch 2 seg r)
      let sums := ((List.range nsb).map (fun i =>
        kids.foldl (fun acc k => List.zipWith fadd acc (superVals (k.superblock i))) (superVals (some ((own.drop (1056 * i)).take 1056))))).flatten
      let ctr := s.streamCtr n stream
      let key := (s.prt n).rngKey
      let q := g8Row (sums.map (fdecode fp32)) (fun k => if stream = 0 then none else some (streamDraw key stream ctr k))
      if !s.isRoot n && decide (s.outFree n < msgsBytes (gradMsgs q.1)) then .error (.wait (s.dens (160 + s.homeDie n) 8 1) .outSpace)
      else
        let s1 := (((s.noteRemotes c.plate [(src, 1056 * nsb)]).noteSats c.plate q.2).advanceStream n stream (1024 * nsb)).noteShared c stream
        let cr := s1.carrOf n
        let s2 := s1.setCarr n { cr with reduced := cr.reduced ++ [(seg, toBytes q.1)] }
        if s.isRoot n then s2.reduceDown n seg cls dest q.1
        else
          let s3 := (s2.queueBatch n 2 seg (s.parentOf n (s.selfRank n)) cls (gradMsgs q.1)).sendLast n
          if s3.reduceReady n seg then
            let down := (s3.carrOf n).inBatch 3 seg (s.parentOf n (s.selfRank n))
            s3.reduceDown n seg cls dest (((List.range nsb).map (fun i => (down.superblock i).getD nanSuperblock)).flatten)
          else carrBlock c s3

/-- Is what a blocked Carrier command waits for there? -/
def State.carrReady (s : State) (c : PlateCmd) : Bool :=
  let n := s.ownerOf c.plate
  if c.opc = 0x91 then s.allIn n (c.le 16 1) (carrLayer c)
  else if c.opc = 0x93 then s.allIn n 1 (carrLayer c)
  else s.reduceReady n (reduceSeg c)

/-- R263: blocked contexts whose awaited blocks have all arrived become READY. -/
def State.settleCarrier (s : State) (n : Nat) : State :=
  (s.partCtxs n).foldl (fun t id =>
    let ws := t.ctxWaits id .carrier
    if (t.ctx id).run = .blocked ∧ !ws.isEmpty ∧ ws.all (fun c => t.carrReady c) then t.unblock id else t) s

/-! ### Arriving messages (R371, R374, R386) -/

/-- R386: the body of a message after the codec's checks, or the event of the check that fails. [DEDUCED, log entry 52] -/
def State.halCheck (s : State) (n : Nat) (h : CarrHdr) (body : List Nat) : Except Nat (List Nat) :=
  if h.coded then
    let k := 4 * h.cls + h.slot
    if h.cls = 15 ∨ (s.halTable n k).isEmpty ∨ s.halEpoch n k ≠ h.epoch then .error 16
    else match halDecode (halCodes (s.halTable n k)) (unpackBits body h.codedBits) 0 0 [] with
      | none => .error 18
      | some bs => if bs.length ≠ h.rawLen then .error 17 else if crc32c bs ≠ h.crc then .error 19 else .ok bs
  else if crc32c (body.take h.rawLen) ≠ h.crc then .error 19 else .ok (body.take h.rawLen)

/-- A checked message recorded in its batch; a batch that is then complete is finished and accepted (R373, R376). -/
def State.recordMsg (s : State) (n : Nat) (h : CarrHdr) (body : List Nat) (poison : Bool) : State :=
  let c := s.carrOf n
  let b := c.inBatch h.kind h.layer h.src
  let got := b.got ++ [h.idx]
  let done := (List.range h.msgs).all (fun i => i ∈ got)
  let b' : InBatch :=
    { b with total := some h.msgs, got := got, complete := done,
             counts := if h.kind = 0 ∧ h.expert ≠ 0xFFFF then b.counts ++ [(h.expert, h.rows)] else b.counts,
             grads := if h.kind = 2 ∨ h.kind = 3 then b.grads ++ [(h.idx, poison, toBytes body)] else b.grads }
  let s1 := s.setCarr n (c.setIn b')
  let s2 := if h.kind ≤ 1 then s1.landRows n h body poison else s1
  if done then
    let s3 := if h.kind = 0 then s2.finishDispatch n h.layer h.src b'.counts else s2
    s3.sendReply n 4 (kindClass h.kind) h h.kind
  else s2

/-- R386: a data message of the running exposure: checked, then landed, or rejected. A raw message whose CRC fails a
second time lands with POISON. -/
def State.takeData (s : State) (n : Nat) (h : CarrHdr) (body : List Nat) (poison : Bool) : State :=
  let c := s.carrOf n
  let b := c.inBatch h.kind h.layer h.src
  if b.complete ∨ h.idx ∈ b.got then s
  else match s.halCheck n h body with
    | .ok bs => s.recordMsg n h bs (poison || h.poison)
    | .error ev =>
      let s1 := s.dens (160 + s.homeDie n) ev 1
      let s2 := if ev = 16 then s1.log { code := 0x0506, kind := 5, die := s.homeDie n, unit := 10, inst := n, part := n, expo := h.expo }
        else if ev = 17 then s1.log { code := 0x0501, kind := 1, die := s.homeDie n, unit := 10, inst := n, part := n, expo := h.expo }
        else s1
      if !h.coded ∧ h.idx ∈ b.fails then s2.recordMsg n h (body.take h.rawLen) true
      else
        let s3 := if h.coded then s2 else s2.setCarr n (c.setIn { b with fails := b.fails ++ [h.idx] })
        s3.sendReply n 5 (kindClass h.kind) h h.seq

/-- ACCEPT (R374): the batch's outbound space is freed. -/
def State.takeAccept (s : State) (n : Nat) (h : CarrHdr) : State :=
  let c := s.carrOf n
  match c.out.find? (fun b => decide (b.dst = h.src ∧ b.kind = h.ref % 256 ∧ b.layer = h.layer ∧ b.expo = h.expo)) with
  | none => s
  | some b => s.setCarr n { c with used := c.used - b.bytes, out := c.out.filter (fun x => decide (x.id ≠ b.id)) }

/-- REJECT (R386): the rejected message's rows re-sent raw, with a new SRC_SEQ. -/
def State.takeReject (s : State) (n : Nat) (h : CarrHdr) : State :=
  let c := s.carrOf n
  match c.out.find? (fun b => decide (b.dst = h.src) && b.msgs.any (fun m => decide (m.seq = h.ref))) with
  | none => s
  | some b =>
    match b.msgs.find? (fun m => decide (m.seq = h.ref)) with
    | none => s
    | some m =>
      let m' := { m with seq := c.srcSeq }
      let b' := { b with msgs := b.msgs.map (fun x => if x.seq = h.ref then m' else x) }
      (s.setCarr n { c with srcSeq := (c.srcSeq + 1) % 2 ^ 32, out := c.out.map (fun x => if x.id = b.id then b' else x) }).sendMsg n b' m' true

/-- R371: a message for another rank sent on unchanged, if the outbound region has room for it. [DEDUCED, log entry 52] -/
def State.forwardMsg (s : State) (n : Nat) (h : CarrHdr) (m : CarrMsg) : State :=
  match s.routeHalf n h.dst with
  | none => s.carrierLost n
  | some half =>
    if m.body.length ≤ s.outFree n then
      let s0 := s.openOutbound n
      let c := s0.carrOf n
      ((s0.setCarr n { c with used := c.used + m.body.length }).dens (160 + s.homeDie n) 10 1).cbtSend
        (flowKey half (kindClass h.kind) n (s.peerPart n half)) h.expo m.attempt m.poison none m.body.length m.body
    else s.dens (160 + s.homeDie n) 11 1

/-- Is an exposure and attempt still to begin at this rank? -/
def State.notBegun (s : State) (n expo attempt : Nat) : Bool :=
  let now := s.get fPART_EXPO_NOW_EXPO n 0
  decide (now < expo) || (decide (now = expo) && (decide ((s.prt n).attempt < attempt) || !s.runsCtxs n && decide ((s.prt n).phase ≠ .committed)))

/-- R362, R371–R374, R386: a whole Carrier message for partition `n`: forwarded, taken, kept for an exposure or attempt
that has not begun here (whose lower attempts are discarded), or discarded. [DEDUCED, log entry 52] -/
def State.carrReceive (s : State) (n : Nat) (m : CarrMsg) : State :=
  let bs := ofBytes m.body
  let h := carrHdr bs
  if bs.length < 64 ∨ 5 < h.kind then s
  else if h.dst ≠ s.selfRank n then s.forwardMsg n h m
  else if h.kind = 4 then s.takeAccept n h
  else if h.kind = 5 then s.takeReject n h
  else if s.notBegun n h.expo m.attempt then
    let c := s.carrOf n
    s.setCarr n { c with early := c.early.filter (fun e =>
      !(decide ((carrHdr (ofBytes e.body)).expo = h.expo) && decide (e.attempt < m.attempt))) ++ [m] }
  else if h.expo = s.get fPART_EXPO_NOW_EXPO n 0 ∧ m.attempt = (s.prt n).attempt then
    (s.takeData n h (bs.drop 64) m.poison).settleCarrier n
  else s

/-- Messages kept for an exposure or attempt that has now begun. -/
def State.carrBegin (s : State) (n : Nat) : State :=
  let c := s.carrOf n
  if c.early.isEmpty then s
  else c.early.foldl (fun t m => t.carrReceive n m) (s.setCarr n { c with early := [] })

/-- CARRIER_LOST_TIMEOUT (R380): a batch of the exposure, or an ACCEPT, is still missing. -/
def State.carrierTimeout (s : State) (n : Nat) : State :=
  let c := s.carrOf n
  let open_ := c.out.any (fun b => decide (b.expo = s.get fPART_EXPO_NOW_EXPO n 0)) || !s.carrierHolds n ||
    (s.partCtxs n).any (fun id => !(s.ctxWaits id .carrier).isEmpty)
  if s.runsCtxs n && open_ then s.carrierLost n else s

end Sys2Proof.Machine
end

