-- ==== Sys2Proof/Machine/Dodge.lean ====
section
/-! DEFINITION. Dodge: the cluster's sparse engine (R173–R192). -/

namespace Sys2Proof.Machine

/-- R175: a sparse tile's header. -/
structure TileHdr where
  format : Nat
  vfmt : Nat
  bw : Nat
  nrows : Nat
  klen : Nat
  nnz : Nat
  nblk : Nat
  ptrOff : Nat
  idxOff : Nat
  valOff : Nat
  total : Nat
  deriving DecidableEq, Repr

/-- R175: a header from its 64 bytes. -/
def tileHdr (bs : List Nat) : TileHdr :=
  let f (i n : Nat) : Nat := ofLe ((bs.drop i).take n)
  { format := f 0 1, vfmt := f 1 1, bw := f 2 1, nrows := f 4 2, klen := f 8 4, nnz := f 12 4, nblk := f 16 4, ptrOff := f 20 4,
    idxOff := f 24 4, valOff := f 28 4, total := f 32 4 }

/-- BCR block width in elements. -/
def TileHdr.width (h : TileHdr) : Nat := 2 ^ h.bw
/-- Masks of a BITMAP row. -/
def TileHdr.masks (h : TileHdr) : Nat := ceilDiv h.klen 64
/-- Bytes of the row pointer array. -/
def TileHdr.ptrBytes (h : TileHdr) : Nat := (h.nrows + 1) * 4
/-- Bytes of the index or mask array. -/
def TileHdr.idxBytes (h : TileHdr) : Nat := if h.format = 1 then h.nblk * 2 else if h.format = 2 then h.nblk * 8 else 0
/-- Bytes of the value stream (check 13). -/
def TileHdr.valBytes (h : TileHdr) : Nat := if h.vfmt = 0 then ceilDiv h.nnz 5 else ceilDiv (h.nnz * h.vfmt) 8

/-- Do two ranges share a byte? -/
def overlap (a n b m : Nat) : Bool := decide (0 < n ∧ 0 < m ∧ a < b + m ∧ b < a + n)

/-- A failed check: its number, the offset of the first failing byte, and its code. -/
abbrev Failed := Nat × Nat × Nat

/-- Checks 1–4 of R178, on the header alone. `off` is the header's window offset. -/
def hdrChecks (h : TileHdr) (cols klen off : Nat) (dense : Bool) : Option Failed :=
  let bad (b : Bool) (n o : Nat) (next : Option Failed) : Option Failed := if b then some (n, o, stMetaFault) else next
  bad (!(decide (h.format = 1 ∨ h.format = 2) || (dense && decide (h.format = 0)))) 1 0 <|
  bad (decide (h.vfmt = 1 ∨ 8 < h.vfmt)) 2 1 <|
  bad (decide (h.format = 1 ∧ 3 < h.bw)) 2 2 <|
  bad (decide (h.nrows ≠ cols)) 3 4 <|
  bad (decide (h.klen ≠ klen)) 3 8 <|
  bad (decide (h.ptrOff % 16 ≠ 0 ∨ h.ptrOff < 64 ∨ h.total < h.ptrOff + h.ptrBytes)) 4 20 <|
  bad (decide (h.idxOff % 16 ≠ 0 ∨ h.idxOff < 64 ∨ h.total < h.idxOff + h.idxBytes) ||
    overlap h.ptrOff h.ptrBytes h.idxOff h.idxBytes) 4 24 <|
  bad (decide (h.valOff % 16 ≠ 0 ∨ h.valOff < 64 ∨ h.total < h.valOff) ||
    overlap h.ptrOff h.ptrBytes h.valOff h.valBytes || overlap h.idxOff h.idxBytes h.valOff h.valBytes) 4 28 <|
  bad (decide (h.total % 16 ≠ 0 ∨ trayWin < off + h.total)) 4 32 none

/-- The little-endian number of `n` bytes at offset `i` of a tile. -/
def tileLe (bs : List Nat) (i n : Nat) : Nat := ofLe ((bs.drop i).take n)
/-- ptr[j]. -/
def tilePtr (h : TileHdr) (bs : List Nat) (j : Nat) : Nat := tileLe bs (h.ptrOff + 4 * j) 4
/-- Index of BCR block `b`. -/
def tileIdx (h : TileHdr) (bs : List Nat) (b : Nat) : Nat := tileLe bs (h.idxOff + 2 * b) 2
/-- Mask `q` of a BITMAP tile. -/
def tileMask (h : TileHdr) (bs : List Nat) (q : Nat) : Nat := tileLe bs (h.idxOff + 8 * q) 8
/-- Positions of the set bits of row `j` of a BITMAP tile. -/
def rowBits (h : TileHdr) (bs : List Nat) (j : Nat) : List Nat :=
  (List.range (h.masks * 64)).filter (fun e => (tileMask h bs (j * h.masks + e / 64)).testBit (e % 64))

/-- First index of a range that fails. -/
def firstBad (n : Nat) (bad : Nat → Bool) : Option Nat := (List.range n).find? bad

/-- Checks 5–14 of R178, on the tile's bytes, in order. -/
def bodyChecks (h : TileHdr) (bs : List Nat) : Option Failed :=
  let p (j : Nat) : Nat := tilePtr h bs j
  let bad (o : Option Nat) (n : Nat) (off : Nat → Nat) (next : Option Failed) : Option Failed :=
    match o with
    | some i => some (n, off i, stMetaFault)
    | none => next
  let yes (b : Bool) : Option Nat := if b then some 0 else none
  bad (yes (decide (p 0 ≠ 0))) 5 (fun _ => h.ptrOff) <|
  bad (firstBad h.nrows (fun j => decide (p (j + 1) < p j))) 6 (fun j => h.ptrOff + 4 * (j + 1)) <|
  bad (yes (decide (p h.nrows ≠ (if h.format = 1 then h.nblk else h.nnz)))) 7 (fun _ => h.ptrOff + 4 * h.nrows) <|
  bad (yes (if h.format = 1 then decide (h.nnz ≠ h.nblk * h.width) else decide (h.nblk ≠ h.nrows * h.masks))) 8
    (fun _ => if h.format = 1 then 12 else 16) <|
  bad (if h.format = 1 then firstBad h.nblk (fun b => decide (tileIdx h bs b % h.width ≠ 0 ∨ h.klen < tileIdx h bs b + h.width)) else none)
    9 (fun b => h.idxOff + 2 * b) <|
  bad (if h.format = 1 then (List.range h.nrows).findSome? (fun j =>
      ((List.range (p (j + 1) - p j)).find? (fun i => decide (0 < i) &&
        decide (tileIdx h bs (p j + i) ≤ tileIdx h bs (p j + i - 1)))).map (fun i => p j + i)) else none)
    10 (fun b => h.idxOff + 2 * b) <|
  bad (if h.format = 2 then firstBad h.nrows (fun j => decide ((rowBits h bs j).length ≠ p (j + 1) - p j)) else none)
    11 (fun j => h.idxOff + 8 * (j * h.masks)) <|
  bad (if h.format = 2 then (List.range h.nrows).findSome? (fun j =>
      ((rowBits h bs j).find? (fun e => decide (h.klen ≤ e))).map (fun e => 8 * (j * h.masks) + e / 8)) else none)
    12 (fun o => h.idxOff + o) <|
  bad (yes (decide (h.total < h.valOff + h.valBytes))) 13 (fun _ => 28) <|
  match (if h.vfmt = 0 then firstBad h.valBytes (fun i => t5Invalid (bs.getD (h.valOff + i) 0)) else none) with
  | some i => some (14, h.valOff + i, stTritInvalid)
  | none => none

/-- R176: elements of row `j` as (reduction position, stream index). -/
def tileRow (h : TileHdr) (bs : List Nat) (j : Nat) : List (Nat × Nat) :=
  let p := tilePtr h bs j
  let q := tilePtr h bs (j + 1)
  if h.format = 1 then
    ((List.range (q - p)).map (fun i => (List.range h.width).map (fun e => (tileIdx h bs (p + i) + e, (p + i) * h.width + e)))).flatten
  else
    let ks := rowBits h bs j
    (List.range ks.length).map (fun i => (ks.getD i 0, p + i))

/-- R177: element `i` of the value stream. -/
def tileVal (h : TileHdr) (vals : List Nat) (i : Nat) : Int :=
  if h.vfmt = 0 then t5Weight vals i else wElemWeight h.vfmt vals i

/-- R181: segments of a row of `n` stored elements. -/
def segsOf (n : Nat) : Nat := ceilDiv n 4096

/-- R191: a command fault names no check: CHECK is 0. -/
def noCheck {α : Type} : Except Stop α → Except Stop α
  | .error (.fault t code status _ _ addr) => .error (.fault t code status 0 0 addr)
  | r => r

/-- A read by the Dodge engine. -/
def State.dodgeRead (s : State) (p a n : Nat) : Except Stop (List Nat) := noCheck (s.clRead p a n)

/-- R188, R189: ROWS and COLS in range, and the header's alignment. -/
def dodgeOk (c : PlateCmd) : Bool := decide (1 ≤ c.rows ∧ c.rows ≤ 256 ∧ 1 ≤ c.cols ∧ c.cols ≤ 256 ∧ c.trayAddr % 64 = 0)

/-- R182: the flush of one row of sums into a group's wide entries, as promotions with shift 0. -/
def flushRow (g : Group) (slot : Nat) (sums : List Int) : Group × Nat :=
  (List.range sums.length).foldl (fun (a : Group × Nat) j =>
    let k := slot * 256 + j
    let old := wideDecode 40 (smapGet (fun _ => 0) k a.1.wide)
    let new := widePromote 40 old (.fin (sums.getD j 0))
    ({ a.1 with wide := smapSet (fun _ => 0) k (wideEncode 40 new) a.1.wide },
      if wideSpecial new && decide (new ≠ old) then a.2 + 1 else a.2)) (g, 0)

/-- R40: an invalid T5 byte of a tile: the log names its tray address and, in the upper half of the last eight DETAIL bytes, its value beside
the offset that DODGE_FAULT_OFF holds. -/
def State.badTrit (s : State) (c : PlateCmd) (bs : List Nat) (f : Failed) : Stop :=
  let at_ := clusterAddr c.plate (c.trayAddr + f.2.1)
  .fault s stTritInvalid stTritInvalid f.1 (f.2.1 + bs.getD f.2.1 0 * 2 ^ 32) (trayAddr at_.1 at_.2)

/-- DODGE_SPMM (R180, R182, R188, R189). -/
def dodgeSpmmBody (c : PlateCmd) (s : State) : Except Stop State := do
  let p := c.plate
  let x := s.plate p
  let afmt := c.bits 16 0 2
  let klen := c.le 24 4
  let stride := c.le 18 2
  let act := c.le 20 4
  need s (dodgeOk c)
  need s (decide (1 ≤ c.rows ∧ c.rows ≤ 256 ∧ 1 ≤ klen ∧ klen ≤ 65536 ∧ afmt ≤ 2 ∧ stride % 16 = 0 ∧ act % 16 = 0 ∧
    c.rows * c.cols ≤ 16384 ∧ c.rows * klen ≤ 262144) && !c.packed && groupsInRange c && groupsOpen x c)
  let hb ← s.dodgeRead p c.trayAddr 64
  let h := tileHdr hb
  match hdrChecks h c.cols klen (c.trayAddr % 2 ^ 23) false with
  | some f => .error (.fault s f.2.2 f.2.2 f.1 f.2.1 0)
  | none => do
    let bs ← s.dodgeRead p c.trayAddr h.total
    match bodyChecks h bs with
    | some f => if f.2.2 = stTritInvalid then .error (s.badTrit c bs f) else .error (.fault s f.2.2 f.2.2 f.1 f.2.1 0)
    | none => do
      let tbl ← if afmt = 2 then noCheck (s.a4gTable p (c.bits 16 2 4)) else .ok []
      let len := if afmt = 1 then ceilDiv klen 2 else if afmt = 2 then ceilDiv klen 2 else klen
      let rows ← (List.range c.rows).mapM (fun t => s.dodgeRead p (act + t * stride) len)
      let codes := rows.map (rowCodes afmt klen tbl)
      let vals := (bs.drop h.valOff).take h.valBytes
      let weights := (List.range c.cols).map (fun j => (tileRow h bs j).map (fun e => (e.1, tileVal h vals e.2)))
      let sum (t : List Int) (j : Nat) : Int := (weights.getD j []).foldl (fun a e => a + e.2 * t.getD e.1 0) 0
      let r := (List.range c.rows).foldl (fun (a : Plate × Nat) t =>
        let key := groupKey false (c.first + t / 16)
        match a.1.group key with
        | none => a
        | some g =>
          let q := flushRow g (t % 16) ((List.range c.cols).map (sum (codes.getD t [])))
          (a.1.setGroup key (some q.1), a.2 + q.2)) (x, 0)
      let segs := weights.map (fun w => segsOf w.length)
      let s1 := (s.clNotes p ((c.trayAddr, h.total) :: (List.range c.rows).map (fun i => (act + i * stride, len)))).noteReads p
        (if afmt = 2 then s.a4gReads p (c.bits 16 2 4) else [])
      let s2 := (s1.setPlate p r.1).dens p 7 r.2
      .ok ((s2.dens (128 + p / 8) 12 segs.sum).dens (128 + p / 8) 13 (segs.filter (fun n => decide (1 < n))).length)

/-- DODGE_CHECK (R190). -/
def dodgeCheckBody (c : PlateCmd) (s : State) : Except Stop State := do
  let p := c.plate
  let dest := c.le 16 4
  let klen := c.le 20 4
  need s (dodgeOk c && decide (dest % 16 = 0 ∧ 1 ≤ klen ∧ klen ≤ 65536))
  let hb ← s.dodgeRead p c.trayAddr 64
  let h := tileHdr hb
  let put (t : State) (f : Failed) (segs : Nat) : Except Stop State :=
    noCheck <| t.clPut p dest (leBytes 2 f.2.2 ++ [f.1, 0] ++ leBytes 4 f.2.1 ++ leBytes 4 h.nnz ++ leBytes 4 segs)
  match hdrChecks h c.cols klen (c.trayAddr % 2 ^ 23) true with
  | some f => put (s.clNote p c.trayAddr 64) f 0
  | none =>
    if h.format = 0 then put (s.clNote p c.trayAddr 64) (0, 0, 0) 0
    else do
      let bs ← s.dodgeRead p c.trayAddr h.total
      let s1 := s.clNote p c.trayAddr h.total
      match bodyChecks h bs with
      | some f => put s1 f 0
      | none => put s1 (0, 0, 0) ((List.range h.nrows).foldl (fun n j => n + segsOf (tileRow h bs j).length) 0)

end Sys2Proof.Machine
end

