-- ==== Sys2Proof/Machine/Enlarger.lean ====
section
/-! DEFINITION. Enlarger: the cluster's attention mover (R193–R213). Its tray accesses are grain-side (R194). -/

namespace Sys2Proof.Machine

/-- A read at a cluster tray address by the Enlarger. -/
def State.enRead (s : State) (p a n : Nat) : Except Stop (List Nat) :=
  s.clusterRead .grain p a n
/-- A write at a cluster tray address by the Enlarger. -/
def State.enPut (s : State) (p a : Nat) (bs : List Nat) : Except Stop State :=
  s.clusterPut .grain p a bs

/-! ### ENL_FETCH (R195–R197, R207) -/

/-- What one token of a fetch delivers: its codes and the bits of its BF16 scale. -/
abbrev TokenCodes := List Nat × Nat

/-- A token that reads as padding. -/
def padToken (dim : Nat) : TokenCodes := (List.replicate dim 0, 0)

/-- The tokens of one page of the list, or why the command stops (R195). [DEDUCED, log entry 49] -/
def State.fetchPage (s : State) (p n page head dim cnt : Nat) (kind four : Bool) : Except Stop (List TokenCodes × State) :=
  if page = none32 then .ok (List.replicate cnt (padToken dim), s)
  else if page < s.get fPART_LAT_RANGE_FIRST n 0 ∨ s.get fPART_LAT_RANGE_FIRST n 0 + s.get fPART_LAT_RANGE_PAGES n 0 ≤ page then
    faultWith s stMetaFault
  else if (bitsOf (s.le (s.ptAddr n page + 1) 1) (if kind then 1 else 0) 1 = 1) ≠ (four = true) then faultWith s stMetaFault
  else
    let base := s.pageAddr n page + head * s.hsz n
    let stride := if kind then s.vstr n else s.kstr n
    let codes := if kind then base + 64 * s.kstr n + 128 else base
    let scales := if kind then base + 64 * (s.kstr n + s.vstr n) + 128 else base + 64 * s.kstr n
    if !s.granted n codes (64 * stride) true || !s.granted n scales 128 true then
      .error (.fault s stCmdInvalid stRangeFault 0 0 codes)
    else if s.held codes (64 * stride) || s.held scales 128 then .error (.wait s .stack)
    else
      let bad := ((linesOf codes (64 * stride)) ++ (linesOf scales 128)).filter (fun l => decide (s.lineErrOf l = .bad) || s.stackOffline l)
      match bad with
      | [] =>
        let tok (j : Nat) : TokenCodes :=
          let bs := s.bytes (codes + j * stride) stride
          ((List.range dim).map (fun d => if four then nibbleAt bs d else bs.getD d 0), s.le (scales + 2 * j) 2)
        .ok ((List.range cnt).map tok, (s.noteRemote p codes (64 * stride)).noteRemote p scales 128)
      | ls =>
        let s1 := ls.foldl (fun t l => t.noteUeAs n l 2) s
        let s2 := match s.frameAt n codes with
          | some f => s1.frameDamaged n f
          | none => s1
        .ok (List.replicate cnt (List.replicate dim 0, fmtNan bf16), s2)

/-- R197: column `d` of V tile `i`: planes of the codes of tokens 160 i … 160 i + 159. -/
def vtileColumn (b : Nat) (toks : List TokenCodes) (i d : Nat) : List Nat :=
  ((List.range b).map (fun pl => (List.range 20).map (fun y => (List.range 8).foldl (fun a k =>
    match toks[160 * i + 8 * y + k]? with
    | some t => if (t.1.getD d 0).testBit pl then a + 2 ^ k else a
    | none => a) 0))).flatten

/-- R196, R197: the bytes a fetch writes at DEST. -/
def fetchBytes (kind four : Bool) (dim : Nat) (toks : List TokenCodes) : List Nat :=
  if kind then
    let b := if four then 4 else 8
    ((List.range (ceilDiv toks.length 160)).map (fun i => ((List.range dim).map (vtileColumn b toks i)).flatten)).flatten
  else
    let kstr := codeStride dim four
    let recs := toks.map (fun t => ((if four then packNibbles t.1 else t.1) ++ List.replicate kstr 0).take kstr)
    recs.flatten ++ List.replicate ((roundUp toks.length 256 - toks.length) * kstr) 0

/-- ENL_FETCH (R195–R197, R207). -/
def enlFetchBody (c : PlateCmd) (s : State) : Except Stop State := do
  let p := c.plate
  let n := s.ownerOf p
  let ntok := c.bits 8 0 16
  let head := c.bits 2 0 8
  let plist := c.le 16 4
  let dim := c.le 20 2
  let kind := decide (c.bits 22 0 1 = 1)
  let four := decide (c.bits 22 1 1 = 1)
  let sdest := c.le 24 4
  need s (decide (1 ≤ ntok ∧ ntok ≤ 32768 ∧ head < s.get fPART_LAT_CFG_KVHEADS n 0 ∧ 1 ≤ dim ∧ dim ≤ s.get fPART_LAT_CFG_DIM n 0 ∧
    c.trayAddr % 16 = 0 ∧ plist % 16 = 0 ∧ sdest % 16 = 0))
  let np := ceilDiv ntok 64
  let pl ← s.enRead p plist (4 * np)
  let r ← (List.range np).foldlM (fun (a : List TokenCodes × State) i => do
    let q ← a.2.fetchPage p n (ofLe ((pl.drop (4 * i)).take 4)) head dim (min 64 (ntok - 64 * i)) kind four
    .ok (a.1 ++ q.1, q.2)) ([], s.clNote p plist (4 * np))
  let pad := roundUp ntok (if kind then 160 else 256)
  let s1 ← r.2.enPut p c.trayAddr (fetchBytes kind four dim r.1)
  let s2 ← s1.enPut p sdest (((r.1.map (fun (t : TokenCodes) => leBytes 2 t.2)).flatten ++ List.replicate (2 * pad) 0).take (2 * pad))
  let present := (List.range np).foldl (fun k i => if ofLe ((pl.drop (4 * i)).take 4) = none32 then k else k + min 64 (ntok - 64 * i)) 0
  .ok ((s2.dens (128 + p / 8) 18 (present * ((if four then ceilDiv dim 2 else dim) + 2))).dueCheck c (c.le 28 4) (trayAddr p 0))

/-! ### ENL_DEVELOP (R200–R202, R208) -/

/-- R201: an exponential of a non-positive number, 0 < e ≤ 1. -/
def expUnit (x : Nat) : Nat :=
  let e := expOf x
  if fnonFinite e || fle fone e then fone else max e 1

/-- R207: TAU positive and finite. -/
def tauOk (tau : Nat) : Bool := flt 0 tau && !fnonFinite tau

/-- What the develop pass writes for one row: M, L, SP and the codes of its valid keys. -/
structure Developed where
  m : Nat
  l : Nat
  sp : Nat
  codes : List Nat
  poison : Bool
  deriving DecidableEq, Repr

/-- FP32 −INF. -/
def fninf : Nat := 0xFF800000

/-- R201: one row with `n` valid scores and value scales. -/
def developRow (tau : Nat) (split : Bool) (scores vs : List Nat) : Developed :=
  if scores.any fnonFinite || vs.any fnonFinite then ⟨fnan, fnan, fnan, [], true⟩
  else if scores.isEmpty then ⟨fninf, 0, 0, [], false⟩
  else
    let m := scores.foldl (fun a x => if flt a x then x else a) fninf
    let sig := vs.foldl (fun a x => if flt a x then x else a) 0
    let sa := fdivNat fp32 (fdecode fp32 sig) 127
    let es := scores.map (fun x => expUnit (fmul tau (fsub x m)))
    let l := es.foldl fadd 0
    let code (k : Nat) : Nat :=
      if fle sa 0 then 0
      else
        let q := exactQuot (vmul (fdecode fp32 (es.getD k 0)) (fdecode fp32 (vs.getD k 0))) (fdecode fp32 sa)
        unsignedOf (roundQuot q.1 q.2.1 q.2.2 none) 8
    ⟨m, l, if split then sa else fdiv sa l, (List.range scores.length).map code, false⟩

/-- ENL_DEVELOP (R200–R202, R208). -/
def enlDevelopBody (c : PlateCmd) (s : State) : Except Stop State := do
  let p := c.plate
  let rows := c.bits 8 0 9
  let nkeys := c.bits 8 9 16
  let k0 := 32768 * c.bits 2 0 3
  let split := decide (c.bits 2 3 1 = 1)
  let vsAt := c.le 16 4
  let ptAt := c.le 20 4
  let stAt := c.le 24 4
  let tau := c.le 28 4
  need s (decide (1 ≤ rows ∧ rows ≤ 256 ∧ 1 ≤ nkeys ∧ nkeys ≤ 32768 ∧ c.trayAddr % 16 = 0 ∧ vsAt % 16 = 0 ∧ ptAt % 16 = 0 ∧
    stAt % 16 = 0) && tauOk tau)
  let st ← s.enRead p stAt (16 * rows)
  let ns := (List.range rows).map (fun t => min (ofLe ((st.drop (16 * t)).take 4) - k0) nkeys)
  let top := ns.foldl max 0
  let tab ← s.enRead p c.trayAddr (4 * ceilDiv top 256)
  let sheets := (List.range (ceilDiv top 256)).map (fun i => ofLe ((tab.drop (4 * i)).take 4))
  need s (sheets.all (fun a => decide (a % 16 = 0)))
  let vb ← s.enRead p vsAt (2 * top)
  let pb ← s.enRead p ptAt (4 * ceilDiv nkeys 160)
  let ptab := (List.range (ceilDiv nkeys 160)).map (fun i => ofLe ((pb.drop (4 * i)).take 4))
  need s (ptab.all (fun a => decide (a % 16 = 0)))
  let vs := (List.range top).map (fun k => fconv bf16 fp32 (ofLe ((vb.drop (2 * k)).take 2)))
  let ds ← (List.range rows).mapM (fun t => do
    let n := ns.getD t 0
    let scores ← (List.range (ceilDiv n 256)).mapM (fun q => do
      let bs ← s.enRead p (sheets.getD q 0 + 1024 * t) (4 * min 256 (n - 256 * q))
      .ok ((List.range (min 256 (n - 256 * q))).map (fun k => ofLe ((bs.drop (4 * k)).take 4))))
    .ok (developRow tau split scores.flatten (vs.take n)))
  let reads := [(stAt, 16 * rows), (c.trayAddr, 4 * ceilDiv top 256), (vsAt, 2 * top), (ptAt, 4 * ceilDiv nkeys 160)] ++
    ((List.range rows).map (fun t => (List.range (ceilDiv (ns.getD t 0) 256)).map (fun q =>
      (sheets.getD q 0 + 1024 * t, 4 * min 256 (ns.getD t 0 - 256 * q))))).flatten
  let s1 ← (List.range ptab.length).foldlM (fun t i =>
    t.enPut p (ptab.getD i 0) ((ds.map (fun d => ((d.codes.drop (160 * i)).take 160 ++ List.replicate 160 0).take 160)).flatten)) (s.clNotes p reads)
  let s2 ← (List.range rows).foldlM (fun t i =>
    let d := ds.getD i ⟨0, 0, 0, [], false⟩
    t.enPut p (stAt + 16 * i + 4) (leBytes 4 d.m ++ leBytes 4 d.l ++ leBytes 4 d.sp)) s1
  let masked := ns.foldl (fun a n => a + (nkeys - n)) 0
  let empty := (ns.filter (fun n => decide (n = 0))).length
  let poison := (ds.filter (fun d => d.poison)).length
  .ok (((s2.dens (128 + p / 8) 19 masked).dens (128 + p / 8) 20 empty).dens (128 + p / 8) 21 poison)

/-! ### ENL_MERGE (R204, R209) -/

/-- Is an FP32 number +0 or −0? -/
def fisZero (x : Nat) : Bool := decide (x % 2 ^ 31 = 0)

/-- R204: one row of the merge: per chunk (M, L, partial outputs). -/
def mergeRow (tau cols : Nat) (chunks : List (Nat × Nat × List Nat)) : List Nat × Bool :=
  let bad := chunks.any (fun c => visNan (fdecode fp32 c.1))
  let big := chunks.foldl (fun a c => if flt 0 c.2.1 && flt a c.1 then c.1 else a) fninf
  let r := chunks.foldl (fun (a : Nat × List Nat) c =>
    if fisZero c.2.1 then a
    else
      let w := expOf (fmul tau (fsub c.1 big))
      (fadd a.1 (fmul w c.2.1), (List.range cols).map (fun j => fadd (a.2.getD j 0) (fmul w (c.2.2.getD j 0)))))
    (0, List.replicate cols 0)
  if bad then (List.replicate cols fnan, true)
  else if fisZero r.1 then (List.replicate cols 0, false)
  else (r.2.map (fun a => fdiv a r.1), false)

/-- ENL_MERGE (R204, R209). -/
def enlMergeBody (c : PlateCmd) (s : State) : Except Stop State := do
  let p := c.plate
  let rows := c.bits 8 0 9
  let cols := c.bits 8 9 9
  let nch := c.bits 2 0 4
  let ofmt := c.bits 2 4 2
  let stAt := c.le 16 4
  let ostr := c.le 20 4
  let dest := c.le 24 4
  let tau := c.le 28 4
  need s (decide (1 ≤ rows ∧ rows ≤ 256 ∧ 1 ≤ cols ∧ cols ≤ 256 ∧ 2 ≤ nch ∧ nch ≤ 8 ∧ ofmt ≤ 2 ∧ c.trayAddr % 16 = 0 ∧ stAt % 16 = 0 ∧
    ostr % 16 = 0 ∧ dest % 16 = 0) && tauOk tau)
  let reads := ((List.range rows).map (fun t => ((List.range nch).map (fun k =>
    [(stAt + 4096 * k + 16 * t, 16), (c.trayAddr + k * ostr + t * roundUp (4 * cols) 64, 4 * cols)])).flatten)).flatten
  let r ← (List.range rows).foldlM (fun (a : State × Nat) t => do
    let chunks ← (List.range nch).mapM (fun k => do
      let st ← s.enRead p (stAt + 4096 * k + 16 * t) 16
      let os ← s.enRead p (c.trayAddr + k * ostr + t * roundUp (4 * cols) 64) (4 * cols)
      .ok (ofLe ((st.drop 4).take 4), ofLe ((st.drop 8).take 4), (List.range cols).map (fun j => ofLe ((os.drop (4 * j)).take 4))))
    let m := mergeRow tau cols chunks
    let s1 ← a.1.enPut p (dest + t * stagedStride ofmt cols) ((m.1.map (outVal ofmt)).flatten)
    .ok (s1, if m.2 then a.2 + 1 else a.2)) (s.clNotes p reads, 0)
  .ok (r.1.dens (128 + p / 8) 21 r.2)

end Sys2Proof.Machine
end

