-- ==== Sys2Proof/Machine/Issue.lean ====
section
/-! DEFINITION. Issue: how a plate command is issued, waits, runs and completes: units and their order (R105, R149, R155,
R270), fences (R153), group rules between commands (R88, R183), semaphores (R149), tags (R482), the start of a context on
its lane (R265) and the fetch of plate programs (R261). -/

namespace Sys2Proof.Machine

/-! ### Units -/

/-- The unit of a plate that runs an opcode: 0 sequencer, 1 load, 2 pass, 3 drain, 4 Safelight queue, 5 agitator, 6 DMA,
7 Dodge queue, 8 Enlarger, 9 Loupe, 10 Carrier (R105, R113, R149, R270). -/
def unitOf (opc : Nat) : Nat :=
  if opc < 0x20 ∨ opc = 0x47 then 0
  else if opc = 0x20 ∨ opc = 0x22 then 1
  else if opc = 0x21 ∨ opc = 0x23 ∨ opc = 0x24 ∨ opc = 0x27 then 2
  else if opc < 0x40 then 3
  else if opc < 0x50 then 4
  else if opc < 0x58 then 5
  else if opc < 0x60 then 6
  else if opc < 0x70 then 7
  else if opc < 0x82 then 8
  else if opc < 0x90 then 9
  else if opc < 0xA0 then 10
  else 0

/-- Commands that a unit holds before it holds the sequencer (R149). -/
def unitQueue : Nat := 8

/-- R149: is issue held: by a waiting sequencer command, or by a unit whose queue is full? -/
def issueHeld (earlier : List Waiter) : Bool :=
  earlier.any (fun w => decide (unitOf w.cmd.opc = 0)) ||
  earlier.any (fun w => decide (unitQueue ≤ (earlier.filter (fun v => decide (unitOf v.cmd.opc = unitOf w.cmd.opc))).length))

/-- R105, R155: does the command's own unit make it wait? DMA runs up to four commands at once, started in order. -/
def unitBusy (c : PlateCmd) (earlier : List Waiter) : Bool :=
  let mine := earlier.filter (fun w => decide (unitOf w.cmd.opc = unitOf c.opc))
  if unitOf c.opc = 6 then mine.any (fun w => !w.begun) || decide (4 ≤ mine.length) else !mine.isEmpty

/-- Opcodes that name groups which a draining group refuses (R88, R189). -/
def groupUser (opc : Nat) : Bool := decide (opc = 0x21 ∨ opc = 0x24 ∨ opc = 0x25 ∨ opc = 0x27 ∨ opc = 0x28 ∨ opc = 0x60)

/-- Does a waiting command with opcode `opc` name a group of `c`? -/
def waitsOnGroups (opc : Nat) (c : PlateCmd) (earlier : List Waiter) : Bool :=
  earlier.any (fun w => decide (w.cmd.opc = opc) && decide (groupsMask w.cmd &&& groupsMask c ≠ 0))

/-- R153, R270: a plate fence waits for every earlier command; so does WAIT_SEM in STATIC mode. CTX_POST waits for them
too (R268). -/
def State.isFence (s : State) (c : PlateCmd) : Bool :=
  decide (c.opc = 0x01 ∨ c.opc = 0x04 ∨ c.opc = 0x07) || (c.waitSem && s.staticMode c.plate)

/-- R88, R90, R105, R183: waits and faults between units. -/
def State.groupGate (s : State) (c : PlateCmd) (earlier : List Waiter) : Except Stop State :=
  if groupUser c.opc && waitsOnGroups 0x25 c earlier then faultWith s stCmdInvalid
  else if decide (c.opc = 0x23) && waitsOnGroups 0x25 c earlier then .error (.wait s .unit)
  else if decide (c.opc = 0x25) && [0x21, 0x23, 0x24, 0x27].any (fun o => waitsOnGroups o c earlier) then .error (.wait s .unit)
  else if decide (c.opc = 0x24 ∨ c.opc = 0x25 ∨ c.opc = 0x27 ∨ c.opc = 0x28) && waitsOnGroups 0x60 c earlier then .error (.wait s .unit)
  else if decide (c.opc = 0x23) && waitsOnGroups 0x60 c earlier then faultWith s stCmdInvalid
  else if decide (c.opc = 0x21 ∧ c.bits 17 0 1 = 1) && earlier.any (fun w => decide (unitOf w.cmd.opc = 1)) then .error (.wait s .unit)
  else .ok s

/-- R149: the semaphore wait of a command, test and subtract together; earlier waiters are served first. -/
def State.semGate (s : State) (c : PlateCmd) (earlier : List Waiter) : Except Stop State :=
  if !c.waitSem || s.staticMode c.plate then .ok s
  else if c.waitCnt = 0 then faultWith s stCmdInvalid
  else if s.sem c.plate c.waitIdx < c.waitCnt || earlier.any (fun w => decide (w.why = .sem ∧ w.cmd.waitIdx = c.waitIdx)) then
    .error (.wait s .sem)
  else .ok (s.setSem c.plate c.waitIdx (s.sem c.plate c.waitIdx - c.waitCnt))

/-- All that stands before a command's body. [DESIGN CHOICE, log entry 12] -/
def State.gate (s : State) (c : PlateCmd) (earlier : List Waiter) : Except Stop State :=
  if issueHeld earlier then .error (.wait s .unit)
  else if s.isFence c && !earlier.isEmpty then .error (.wait s .fence)
  else if unitBusy c earlier then .error (.wait s .unit)
  else do
    let s1 ← s.groupGate c earlier
    s1.semGate c earlier

/-! ### Bodies -/

/-- What the unit of a command does, by its opcode (R95, R113, R135, R156, R180, R194, R221, R270, R388). A reserved or
unassigned opcode faults (R97, R270, R501). -/
def bodyOf (c : PlateCmd) (s : State) : Except Stop State :=
  match c.opc with
  | 0x00 => .ok s
  | 0x01 => .ok s
  | 0x02 => seqAtBody c s
  | 0x03 => seqWindowBody c s
  | 0x04 => .ok s
  | 0x05 => seqBarrierBody c s
  | 0x06 => seqSkipifBody c s
  | 0x07 => ctxPostBody c s
  | 0x08 => ctxWaitBody c s
  | 0x09 => seqFlipBody c s
  | 0x20 => grainLoadBody c s
  | 0x21 => grainPassBody c s
  | 0x22 => grainLoadKeysBody c s
  | 0x23 => accOpenBody c s
  | 0x24 => accPromoteBody c s
  | 0x25 => accDrainBody c s
  | 0x26 => accQuantBody c s
  | 0x27 => accCloseBody c s
  | 0x28 => accDebugReadBody c s
  | 0x40 => safeGemmBody c s
  | 0x41 => safeRowopBody c s
  | 0x42 => safeLowrankBody c s
  | 0x43 => burnScanBody c s
  | 0x44 => burnDecideBody c s
  | 0x45 => burnApplyBody c s
  | 0x46 => burnProductBody c s
  | 0x47 => burnBranchBody c s
  | 0x50 => agitRotateBody c s
  | 0x58 => trayCopyBody c s
  | 0x59 => trayGatherBody c s
  | 0x5A => trayBcastBody c s
  | 0x5B => trayFillBody c s
  | 0x5C => trayPowerBody c s
  | 0x60 => dodgeSpmmBody c s
  | 0x61 => dodgeCheckBody c s
  | 0x70 => enlFetchBody c s
  | 0x71 => enlDevelopBody c s
  | 0x72 => enlMergeBody c s
  | 0x80 => latPlistBody c s
  | 0x81 => latWriteBody c s
  | 0x88 => loupeSampleBody c s
  | 0x90 => carrDispatchBody c s
  | 0x91 => carrWaitBody c s
  | 0x92 => carrReturnBody c s
  | 0x93 => carrCombineBody c s
  | 0x94 => carrReduceBody c s
  | 0x95 => halLoadBody c s
  | _ => faultWith s stCmdInvalid

/-! ### Completion -/

/-- Does the command's program still run after a body that may have voided the exposure? -/
def stillRuns (s t : State) (p : Nat) : Bool :=
  decide ((t.plate p).ctx = (s.plate p).ctx) && !(t.plate p).ended &&
    ((s.prt (s.ownerOf p)).voided == (t.prt (s.ownerOf p)).voided)

/-- R482: the sample record of a tagged command that has completed. -/
def State.untag (s : State) (c : PlateCmd) : State :=
  let x := s.plate c.plate
  match x.tagged.find? (fun g => decide (g.index = c.index)) with
  | some g =>
    let s1 := s.sample c.plate g (s.ownerOf c.plate) (x.ctx.getD 0xFFFF) (s.get fPART_EXPO_NOW_EXPO (s.ownerOf c.plate) 0) true false
    s1.setPlate c.plate { x with tagged := x.tagged.filter (fun h => decide (h.index ≠ c.index)) }
  | none => s

/-- R105: the commands of the load, pass and drain units, which signal in program order. -/
def signalsInOrder (opc : Nat) : Bool := decide (0x20 ≤ opc ∧ opc < 0x40)

/-- R105: does the signal of a command that has completed wait for an earlier command? -/
def State.signalWaits (s : State) (c : PlateCmd) : Bool :=
  c.signalSem && signalsInOrder c.opc &&
    (s.plate c.plate).waiting.any (fun w => signalsInOrder w.cmd.opc && decide (w.cmd.index < c.index))

/-- A command put among those of a plate whose signals wait, in program order. -/
def insertCmd (c : PlateCmd) : List PlateCmd → List PlateCmd
  | [] => [c]
  | x :: xs => if c.index < x.index then c :: x :: xs else x :: insertCmd c xs

/-- R149, R153: a command's SIGNAL_SEM at its signal point. BURN_BRANCH never signals (R113). -/
def State.signalOf (s : State) (c : PlateCmd) : State :=
  if !c.signalSem || s.staticMode c.plate || decide (c.opc = 0x47) then s
  else if c.sigCnt = 0 then s.plateFault c c.opc stCmdInvalid stCmdInvalid 0 0 0
  else s.signal c.plate c.sigIdx c.sigCnt

/-- The unit shared by several plates that serves a command: Safelight, Dodge and Enlarger of its cluster, the Carrier of its partition
(R111, R184, R194, R375). -/
def State.serverOf (s : State) (c : PlateCmd) : Option Nat :=
  let u := unitOf c.opc
  if u = 4 then some (3 * (c.plate / 8)) else if u = 7 then some (3 * (c.plate / 8) + 1) else if u = 8 then some (3 * (c.plate / 8) + 2)
  else if u = 10 then some (48 + s.ownerOf c.plate) else none

/-- R184: the plate that a shared unit has served last. [DESIGN CHOICE, log entry 3] -/
def State.noteServed (s : State) (c : PlateCmd) : State :=
  match s.serverOf c with
  | some k => { s with served := smapSet (fun _ => 127) k c.plate s.served }
  | none => s

/-- R105, R149: a command's signal, given now or kept until every earlier command of the grain array has given its own. -/
def State.giveSignal (s : State) (c : PlateCmd) : State :=
  if s.signalWaits c then s.setPlate c.plate { s.plate c.plate with unsent := insertCmd c (s.plate c.plate).unsent } else s.signalOf c

/-- A kept signal that waits for no earlier command any more is given. -/
def State.sendHeld (s : State) (p : Nat) : Option State :=
  match (s.plate p).unsent with
  | [] => none
  | c :: cs => if s.signalWaits c then none else some ((s.setPlate p { s.plate p with unsent := cs }).signalOf c)

/-- A command completes: its sample, its signal, and the end of the program for SEQ_END. -/
def State.finishCmd (s : State) (c : PlateCmd) : State :=
  let u := unitOf c.opc
  let s0 := if u = 1 ∨ u = 2 ∨ u = 3 ∨ u = 6 then s.noteWork c (decide (u = 1)) else s
  let s1 := ((s0.untag c).noteServed c).giveSignal c
  if c.opc = 0x01 && !(s1.plate c.plate).ended then s1.endProgram c.plate else s1

/-- R162, R398, R401: a write by a command that ends uncorrectable at its target, latent-store frames among them. -/
def State.plateLost (s : State) (c : PlateCmd) (lines : List Nat) (code : Nat) : State :=
  let n := s.ownerOf c.plate
  let s1 := lines.foldl (fun t a => t.noteUe n a) s
  s1.ueTrigger n (lines.headD 0) code (s1.plate c.plate).ctx

/-- R230, R398, R401, R403: a command that receives uncorrectable data. Pages of the latent store are marked BAD, and the
command goes on if it met no other line; any other line is a trigger. -/
def State.plateUe (s : State) (c : PlateCmd) (lines : List Nat) (code : Nat) : State :=
  let n := s.ownerOf c.plate
  let frame (a : Nat) : Option Nat := if isHbm a then s.frameAt n a else none
  let s1 := (lines.filterMap (fun a => (frame a).map (fun f => (a, f)))).foldl (fun t e => (t.noteUeAs n e.1 2).frameDamaged n e.2) s
  match lines.filter (fun a => (frame a).isNone) with
  | [] => s1.finishCmd c
  | others => s1.plateLost c others code

/-- Waiter `i` of plate `p` changed. -/
def State.setWaiter (s : State) (p i : Nat) (w : Waiter) : State :=
  s.setPlate p { s.plate p with waiting := (s.plate p).waiting.set i w }
/-- Waiter `i` of plate `p` removed. -/
def State.dropWaiter (s : State) (p i : Nat) : State :=
  s.setPlate p { s.plate p with waiting := (s.plate p).waiting.eraseIdx i }

/-- A body has succeeded in state `t`: the command completes, unless it is a DMA command that must still wait for banks
(R161) or for an earlier DMA command (R155); it is then waiter `i`. -/
def State.succeed (t : State) (c : PlateCmd) (i : Nat) : State :=
  let mask := if c.opc = 0x5C then t.powerPending c else 0
  let behind := decide (unitOf c.opc = 6) && ((t.plate c.plate).waiting.take i).any (fun w => w.begun)
  if mask ≠ 0 || behind then t.setWaiter c.plate i { cmd := c, why := .power, begun := true, mask := mask }
  else (t.dropWaiter c.plate i).finishCmd c

/-- May plate `p` go on issuing: not at a boundary at which its context makes way (R263–R265)? [DESIGN CHOICE, log entry 12] -/
def State.mayIssue (s : State) (p : Nat) : Bool :=
  let x := s.plate p
  !x.ended && (match x.ctx with
    | none => true
    | some id =>
      if (s.ctx id).leaving then !x.boundary
      else decide ((s.ctx id).run = .running) && !(x.boundary && s.mustYield (s.ctx id)))

/-- Has a waiter with this reason not yet passed its gate? -/
def atGate (why : WaitWhy) : Bool := decide (why = .sem ∨ why = .fence ∨ why = .unit)

/-- What a try at waiter `i` of a plate gave; `none` when nothing has changed. -/
def State.tried (s : State) (p i : Nat) (w : Waiter) (r : Except Stop State) : Option State :=
  match r with
  | .ok t => some (if stillRuns s t p then t.succeed w.cmd i else t)
  | .error (.fault t code status extra off addr) => some (t.plateFault w.cmd w.cmd.opc code status extra off addr)
  | .error (.ue t ls code) => some ((t.dropWaiter p i).plateUe w.cmd ls code)
  | .error (.lost t ls code) => some ((t.dropWaiter p i).plateLost w.cmd ls code)
  | .error (.wait t why) => if why = w.why then none else some (if stillRuns s t p then t.setWaiter p i { w with why := why } else t)

/-- R316: a command that waits for a STOPPED stack has done nothing of its work yet. -/
def heldWhole (s : State) : Except Stop State → Except Stop State
  | .error (.wait _ .stack) => .error (.wait s .stack)
  | r => r

/-- Waiter `i` of plate `p` tried, with the body given. [DEDUCED, log entry 13] -/
def State.tryWaiter (s : State) (p i : Nat) (body : PlateCmd → State → Except Stop State) : Option State :=
  match (s.plate p).waiting[i]? with
  | none => none
  | some w =>
    let earlier := (s.plate p).waiting.take i
    if !s.mayIssue p then none
    else if w.begun then
      (if w.mask = 0 && !earlier.any (fun v => v.begun) then some ((s.dropWaiter p i).finishCmd w.cmd) else none)
    else if atGate w.why then s.tried p i w ((s.gate w.cmd earlier).bind (fun t => heldWhole t (body w.cmd t)))
    else s.tried p i w (heldWhole s (body w.cmd s))

/-- The first waiter of plate `p` served by `k` (none: by a unit of the plate's own) that can go on. -/
def State.tryFor (s : State) (k : Option Nat) (p : Nat) : Option State :=
  (List.range (s.plate p).waiting.length).findSome? (fun i => match (s.plate p).waiting[i]? with
    | some w => if s.serverOf w.cmd = k then s.tryWaiter p i bodyOf else none
    | none => none)

/-- R184: plates in the order in which shared unit `k` takes their commands: round-robin from the one after the last it served. -/
def State.turnOrder (s : State) (k : Nat) (ps : List Nat) : List Nat :=
  let last := smapGet (fun _ => 127) k s.served
  ps.filter (fun p => decide (last < p)) ++ ps.filter (fun p => decide (p ≤ last))

/-- What comes next on some plates: a kept signal, a waiter of a plate's own units, or one of a shared unit. -/
def State.nextTry (s : State) (ps : List Nat) : Option State :=
  let shared := (ps.map (fun p => (s.plate p).waiting.filterMap (fun w => s.serverOf w.cmd))).flatten
  (ps.findSome? s.sendHeld).or ((ps.findSome? (s.tryFor none)).or
    (shared.findSome? (fun k => (s.turnOrder k ps).findSome? (s.tryFor (some k)))))

/-- Waiters go on, one after another, until none can. [DEDUCED, log entry 13] -/
def State.cascade (s : State) (ps : List Nat) : Nat → State
  | 0 => s
  | fuel + 1 => match s.nextTry ps with
    | none => s
    | some t => t.cascade ps fuel

/-- Everything that a change on the plates of partition `n` lets happen. [DEDUCED, log entry 13] -/
def State.wake (s : State) (n : Nat) : State :=
  if 16 ≤ n then s
  else
    let ps := (s.plates.map Prod.fst).filter (fun p => decide (s.ownerOf p = n))
    let fuel := 4 * (ps.foldl (fun k p => k + (s.plate p).waiting.length + (s.plate p).unsent.length) 0) + 4
    ((s.cascade ps fuel).settleCarrier n).ctxEvent n

/-! ### Issue -/

/-- R475, R482: a command tagged and counted, if fewer than four are followed. -/
def State.tagCmd (s : State) (p index opc : Nat) (forced : Bool) : State :=
  let x := s.plate p
  if x.tagged.any (fun g => decide (g.index = index)) then s
  else if x.tagged.length < 4 then
    (s.setPlate p { x with tagged := x.tagged ++ [{ index := index, opc := opc, forced := forced, fetched := s.nowDie (dieOfPlate p), preempted := false }] }).dens p 28 1
  else s.bump fDENS_STAT_SAMPLES_DROPPED 0 0 1

/-- A plate command issued to its unit, whose work on it is `body`. A command of a plate in no partition, whose program
has ended or whose exposure is voided, and one that is skipped (R129), has no effect. [DESIGN CHOICE, log entry 12] -/
def State.issue (s : State) (c : PlateCmd) (body : PlateCmd → State → Except Stop State) : State :=
  let n := s.ownerOf c.plate
  let x := s.plate c.plate
  if 16 ≤ n || x.ended || (s.prt n).voided then s
  else
    let y := { x with fetched := x.fetched.filter (fun f => decide (f.1 ≠ c.index)) }
    if c.index < x.skip then s.setPlate c.plate y
    else
      let i := x.waiting.length
      let w : Waiter := { cmd := c, why := .unit, begun := false, mask := 0 }
      let s1 := s.setPlate c.plate { y with waiting := x.waiting ++ [w] }
      let s2 := if c.tag then s1.tagCmd c.plate c.index c.opc true else s1
      ((s2.tryWaiter c.plate i body).getD s2).wake n

/-- A row's body: the unit's work on its own opcode, a fault on a reserved one. -/
def rowBody (opc : Nat) (body : PlateCmd → State → Except Stop State) (c : PlateCmd) (s : State) : Except Stop State :=
  if c.opc = opc then body c s else faultWith s stCmdInvalid

/-- PROMOTION (R82 (a)): a strip of an open group whose count has reached the interval is promoted. [DEDUCED, log entry 14] -/
def State.promotionAt (s : State) (p key strip : Nat) : State :=
  match (s.plate p).group key with
  | none => s
  | some g =>
    if g.n ≤ (smapGet (fun _ => StripAcc.zero) strip g.strips).count then
      let r := promoteStrip g strip
      (s.setPlate p ((s.plate p).setGroup key (some r.1))).notePromotion p stripSlots r.2
    else s

/-! ### Timed waits -/

/-- SEM_TIMEOUT (R149): a resident wait has passed SEM_TIMEOUT. -/
def State.semTimeout (s : State) (p index : Nat) : State :=
  match (s.plate p).waiting.find? (fun w => decide (w.cmd.index = index ∧ w.why = .sem)) with
  | none => s
  | some w => (s.plateFault w.cmd w.cmd.opc 0x0303 0x0303 0 0 0).wake (s.ownerOf p)

/-- SEQ_AT_REACHED (R270): the program clock has reached AT. [DESIGN CHOICE, log entry 10] -/
def State.seqAtReached (s : State) (p : Nat) : State :=
  match (s.plate p).waiting.find? (fun w => decide (w.why = .clock)) with
  | none => s
  | some w =>
    if s.clocked (s.plate p) then (s.elapse (ceilDiv (5 * w.cmd.le 16 8 - (s.plate p).clock) (s.cycleRate p))).wake (s.ownerOf p) else s

/-- SEQ_WINDOW_REACHED (R270): the plate's replica has reached the window. -/
def State.seqWindowReached (s : State) (p : Nat) : State :=
  match (s.plate p).waiting.find? (fun w => decide (w.why = .window)) with
  | none => s
  | some w => (s.reachTime (s.ownerOf p) (s.windowAt (s.ownerOf p) (w.cmd.le 16 1))).wake (s.ownerOf p)

/-! ### Contexts start (R263–R265) -/

/-- R89, R265: one lane plate of a context that starts: its saved state back, its last unswapped load reissued; a
save slot that reads uncorrectable is a trigger. [DESIGN CHOICE, log entry 45] -/
def State.startPlate (s : State) (id p : Nat) (saved : List (Nat × Plate)) : State :=
  let c := s.ctx id
  match saved.find? (fun e => decide (e.1 = p)) with
  | none => s.setPlate p { Plate.init with ctx := some id }
  | some e =>
    let s1 := s.setPlate p { e.2 with ctx := some id }
    let bad := match c.resSlot with
      | some i => s1.firstBad (trayAddr p (s1.saveOff c.part i)) (slotBytes (s1.get fPART_SCHED_SAVE_GROUPS c.part 0))
      | none => none
    match bad with
    | some l => (s1.noteUe c.part l).ueTrigger c.part l stTrayUe (some id)
    | none =>
      match e.2.reload with
      | none => s1
      | some ld => match (if ld.opc = 0x22 then grainLoadKeysBody ld s1 else grainLoadBody ld s1) with
        | .ok t => t
        | .error (.fault t code status extra off addr) => t.plateFault ld ld.opc code status extra off addr
        | .error (.ue t ls code) => t.plateUe ld ls code
        | .error (.lost t ls code) => t.plateLost ld ls code
        | .error (.wait t _) => t

/-- CONTEXT_START (R264, R265): the scheduler's choice begins issuing on a lane that every plate has left. -/
def State.contextStart (s : State) (id : Nat) : State :=
  let c := s.ctx id
  let n := c.part
  if c.run = .ready && decide (c.residency = 1) && c.takesPart && s.runsCtxs n && decide (s.chosen c = some id) &&
      (lanePlates c).all (fun p => decide ((s.plate p).ctx = none)) then
    let s1 := s.putCtx id { c with run := .running, chosenAt := s.partNow n, quantumDue := false, leaving := false, saved := [] }
    ((lanePlates c).foldl (fun t p => if (t.ctx id).run = .running then t.startPlate id p c.saved else t) s1).wake n
  else s

/-! ### Fetch (R261) -/

/-- R482: is a fetched command tagged at random? [DEDUCED, log entry 72] -/
def State.drawTag (s : State) (n : Nat) : Bool × State :=
  let k := fieldOf (s.prt n).dens 1 5
  if 8 ≤ k ∧ k ≤ 20 then (decide (s.fresh.1 % 2 ^ k = 0), s.fresh.2) else (false, s)

/-- The command word at an address. -/
def State.cmdWord (s : State) (a : Nat) : CmdWord := BitVec.ofNat 256 (ofLe (s.bytes a 32))

/-- One command fetched for plate `p`: position COUNT with no SEQ_END, and a position that fails the range check, fault
once every command before them has been issued; uncorrectable data is a trigger. -/
def State.fetchOne (s : State) (p : Nat) : State :=
  let x := s.plate p
  let n := s.ownerOf p
  match x.ctx with
  | none => s
  | some id =>
    let prog := (s.ctx id).progs.getD (p - (s.ctx id).laneFirst) (0, 0)
    let a := prog.1 + 32 * x.fetchPos
    let here : PlateCmd := { plate := p, index := x.fetchPos, word := 0 }
    if x.ended || !s.runsCtxs n then s
    else if prog.2 ≤ x.fetchPos then
      (if x.fetched.isEmpty && !x.waiting.any (fun w => decide (w.cmd.opc = 0x01)) then s.plateFault here 0 stCmdInvalid stCmdInvalid 0 0 0 else s)
    else if !s.granted n a 32 true then
      (if x.fetched.isEmpty then s.plateFault here 0 stCmdInvalid stRangeFault 0 0 a else s)
    else if s.held a 32 then s
    else match s.badLine a 32 with
      | some l => (s.noteUe n l).ueTrigger n l (ueCode l) (some id)
      | none =>
        let w := s.cmdWord a
        let c : PlateCmd := { plate := p, index := x.fetchPos, word := w }
        let d := (s.noteRemote p a 32).drawTag n
        let s1 := d.2.setPlate p { x with fetched := x.fetched ++ [(x.fetchPos, w)], fetchPos := x.fetchPos + 1 }
        if c.tag || d.1 then s1.tagCmd p c.index c.opc c.tag else s1

/-- PLATE_COMMAND_FETCH (R261): `k` commands fetched ahead of issue. -/
def State.fetchCmds (s : State) (p : Nat) : Nat → State
  | 0 => s
  | k + 1 => (s.fetchOne p).fetchCmds p k

end Sys2Proof.Machine
end

