-- ==== Sys2Proof/Machine/Module.lean ====
section
/-! DEFINITION. Module: the module's state (R452), the end of all work by FAULT (R407), a model taken offline (R406), and
the states of a stereo pair (R411, R415, R416). -/

namespace Sys2Proof.Machine

/-- ST_WEIGHT_UE (R16). -/
def stWeightUe : Nat := 0x0401
/-- ST_ENGINE_FAULT (R408). -/
def stEngineFault : Nat := 0x0404
/-- ST_PEER_LOST (R16). -/
def stPeerLost : Nat := 0x0503
/-- ST_SECURITY_LOCK (R16). -/
def stSecurityLock : Nat := 0x0701

/-! ### Module state (R452) -/

/-- PWR_STATE.STATE codes. -/
def modBoot : Nat := 2
/-- READY. -/
def modReady : Nat := 3
/-- SERVING. -/
def modServing : Nat := 4
/-- DRAINING. -/
def modDraining : Nat := 5
/-- FAULT. -/
def modFault : Nat := 6

/-- R452: every change of the module's state logs MODULE_STATE. -/
def State.setModule (s : State) (st : Nat) : State :=
  let old := s.g fPWR_STATE_STATE
  if old = st then s else (s.put fPWR_STATE_STATE 0 0 st).log { code := 0x8B01, unit := 20, detail := [old, st] }

/-- Is the engine in FAULT (R407)? -/
def State.inFault (s : State) : Bool := decide (s.g fREL_FAULT_FAULT = 1)
/-- Is the engine LOCKED (R442)? -/
def State.locked (s : State) : Bool := decide (s.g fSEC_STAT_LOCKED = 1)
/-- Does some partition run: RUNNING, or STOPPING with its last exposure still to commit? -/
def State.anyRunning (s : State) : Bool := (List.range 16).any (fun n => s.isRunning n)

/-- R452, R456: READY and SERVING follow the partitions; a drain is complete once none runs. -/
def State.moduleUpdate (s : State) : State :=
  let st := s.g fPWR_STATE_STATE
  if st = modReady ∧ s.anyRunning then s.setModule modServing
  else if st = modServing ∧ !s.anyRunning then s.setModule modReady
  else if st = modDraining ∧ !s.anyRunning then s.put fPWR_STATE_DRAINED 0 0 1
  else s

/-- R452: BOOT ends in READY once boot stages 1–3 are complete, every stack and Drawer package has trained and
GLOBAL_LOCK.SETUP is set. The bank booted from becomes the preferred one (R428), and the vault raises the security
version to the running image's (R429). -/
def State.tryReady (s : State) : State :=
  if s.g fPWR_STATE_STATE = modBoot ∧ s.supply.stages = 3 ∧ s.g fGLOBAL_LOCK_SETUP = 1 ∧ s.g fDRW_STAT_TRAINED = 15 ∧
      (List.range 8).all (fun h => decide (s.get fHBM_STAT_TRAINED h 0 = 1)) then
    let v := { s.vault with preferred := s.g fSEC_STAT_BOOT_BANK, svn := max s.vault.svn s.vault.fwSvn }
    (({ s with vault := v } : State).put fSEC_STAT_SVN 0 0 v.svn).setModule modReady
  else s

/-- PART_STAT.STATE changed, and the module's state with it. -/
def State.setPartState (s : State) (n v : Nat) : State := (s.put fPART_STAT_STATE n 0 v).moduleUpdate

/-! ### Pairs (R411–R416) -/

/-- State of a partition's pair. -/
def State.pairState (s : State) (n : Nat) : Nat := s.get fPART_PAIR_STAT_STATE n 0
/-- R397: a change of PART_PAIR_STAT.STATE, logged as PAIR_STATE. -/
def State.setPair (s : State) (n st : Nat) : State :=
  let old := s.pairState n
  if old = st then s
  else (s.put fPART_PAIR_STAT_STATE n 0 st).log { code := 0x8A03, kind := 5, die := s.homeDie n, unit := 18, inst := n, part := n, detail := [old, st] }
/-- Is the partition a shadow (R409)? -/
def State.isShadow (s : State) (n : Nat) : Bool := decide (s.get fPART_PAIR_ROLE n 0 = 1)

/-- R411, R416: held records of exposures up to `upTo` are written. -/
def State.releaseHeld (s : State) (n upTo : Nat) : State :=
  let x := s.prt n
  let due := x.heldRecs.filter (fun e => decide (e.2.2 ≤ upTo))
  due.foldl (fun t e => t.placeRecord e.1.ring e.1.reqId e.1.status e.1.flags e.1.token0 e.1.token1 e.2.1 e.2.2)
    (s.setPrt n { x with heldRecs := x.heldRecs.filter (fun e => !decide (e.2.2 ≤ upTo)) })

/-- Every held record written. -/
def State.releaseAllHeld (s : State) (n : Nat) : State := s.releaseHeld n (2 ^ 64)

/-- R413: the shadow's partial batch discarded. -/
def State.dropBatch (s : State) (n : Nat) : State :=
  let x := s.prt n
  s.setPrt n { x with batch := [], batchBytes := 0, batchBad := false }

/-- R416: PAIR_CLAIM for a partition, sent to the witness with the body of R468. [PRESUMED, log entry 69] -/
def State.sendClaim (s : State) (n : Nat) : State :=
  s.emit (.response 3 0x0E (leBytes 8 (s.g fFAB_SYSTEM_ID_ID) ++ leBytes 4 (s.g fGLOBAL_ENGINE_ID_ENGINE_ID) ++
    leBytes 4 (s.nbrEngine (s.get fPART_PAIR_HALF n 0)) ++ [n, s.get fPART_PAIR_ROLE n 0] ++ leBytes 2 (s.get fPART_PAIR_STAT_PAIR_EPOCH n 0)))

/-- R415, R416: a side that loses its partner: in SYNCING the pair ends, in MIRRORED it claims. -/
def State.pairLose (s : State) (n : Nat) : State :=
  let st := s.pairState n
  if st ≠ 1 ∧ st ≠ 2 then s
  else
    let s1 := s.log { code := stPeerLost, kind := 5, die := s.homeDie n, unit := 18, inst := n, part := n }
    if st = 2 then (s1.setPair n 3).sendClaim n
    else if s.isShadow n then
      let t := (s1.setPair n 0).dropBatch n
      t.setPrt n { t.prt n with pairLost := true }
    else (s1.setPair n 4).releaseAllHeld n

/-- R416: the claim is refused or unanswered: the primary is FENCED and writes no record, the shadow UNPAIRED. -/
def State.claimFails (s : State) (n : Nat) : State :=
  if s.isShadow n then
    let t := (s.setPair n 0).dropBatch n
    t.setPrt n { t.prt n with pairLost := true }
  else
    let t := s.setPair n 5
    t.setPrt n { t.prt n with heldRecs := [] }

/-- Partitions paired over half `h`, in SYNCING, MIRRORED or CLAIMING. -/
def State.pairedOver (s : State) (h : Nat) : List Nat :=
  (List.range 16).filter (fun n => s.exists_ n && decide (1 ≤ s.pairState n ∧ s.pairState n ≤ 3 ∧ s.get fPART_PAIR_HALF n 0 = h))

/-! ### Ends of work (R406, R407, R442, R454) -/

/-- The exposure in flight of a partition discarded, without re-execution and without records. Swaps in progress go on (R267). -/
def State.discardExposure (s : State) (n : Nat) : State :=
  let s1 := ((((s.partPlates n).foldl (fun t p => t.classSlots p 1 1) s).stopPlates n).carrClear n)
  let s2 := ((s1.partCtxs n).filter (fun c => (s1.ctx c).takesPart)).foldl (fun t c =>
    t.putCtx c { t.ctx c with run := .disabled, takesPart := false, progress := 0, waitCtx := none, reqs := [] }) s1
  let x := s2.prt n
  s2.setPrt n { x with phase := .idle, voided := false, attempt := 0, sampled := [], flip := false, warnings := [],
                       exchange := [], burnDecisions := 0, burnFallbacks := 0, burnLayers := [], burnCounts := [], reloads := [], firstDone := false }

/-- One tokenless record with FINAL for every request of a partition, written at once through firmware, with `code` or the pending code that
outranks it (R18), and the requests' releases. -/
def State.endAll (s : State) (n code : Nat) : State :=
  (s.partSlots n).foldl (fun t q =>
    let x := t.slot q
    let codes := [code, x.endCode, x.heldCode] ++ x.lesser
    let c := codes.foldl statusMax 0
    if x.noRecords then t.releaseSlot q
    else
      let e := t.embedEnd n x.ring x.reqId c flagFinal
      ((e.2.2.recordNow x.ring x.reqId e.1 e.2.1).logUnreported n x.reqId c codes).releaseSlot q) s

/-! ### Values that wait for a boundary (R252) -/

/-- R389: register values that waited for the boundary. [DEDUCED, log entry 43] -/
def State.applyLater (s : State) (n : Nat) : State :=
  ((s.prt n).later.foldl (fun t e => t.setReg e.1 (e.2.getD (s.reg e.1))) s).setPrt n { s.prt n with later := [] }

/-- Registers whose writes wait for the boundary take effect (R63, R248, R252, R389, R486). -/
def State.loadRegs (s0 : State) (n : Nat) : State :=
  let s := s0.applyLater n
  s.setPrt n { s.prt n with rngKey := s.get fPART_RNG_KEY_KEY n 0, growFloor := s.get fPART_LAT_ADMIT_GROW_FLOOR n 0,
                            dens := s.reg (fldAddr fPART_DENS_DENS_USER_EN n 0), seed := s.get fPART_CIDX_SEED_SEED n 0 }

/-! ### Rings that are being disabled (R278) -/

/-- Request slots of partition `n` whose record names ring `r`. -/
def State.ringSlots (s : State) (n r : Nat) : List Nat := (s.partSlots n).filter (fun q => decide ((s.slot q).ring = r))

/-- R304: RING_STAT.BUSY of the latest action goes to 0 once the action on its ring is complete. -/
def State.ringDone (s : State) (r : Nat) : State := if s.g fRING_STAT_RING = r then s.put fRING_STAT_BUSY 0 0 0 else s

/-- R278: DISABLE of a ring with no commit to wait for: its requests end without records and it is DISABLED. -/
def State.disableNow (s : State) (n r : Nat) : State :=
  let x := s.ring r
  let qs := s.ringSlots n r
  ((qs.foldl (fun t q => t.releaseSlot q) s).putRing r { x with state := 0, disabling := false, err := if qs.isEmpty then x.err else 4 }).ringDone r

/-- Rings whose DISABLE still waits for a commit when their partition stops at once. -/
def State.disableWaiting (s : State) (n : Nat) : State :=
  ((s.partRings n).filter (fun r => (s.ring r).disabling)).foldl (fun t r => t.disableNow n r) s

/-- R260, R68: a partition stops: at its current commit, or at once where no exposure runs; register values that still wait for a boundary
then take effect, since the partition is not RUNNING any more (R252). [DEDUCED, log entry 43] -/
def State.stopPart (s : State) (n : Nat) : State :=
  if (s.prt n).phase = .released then (s.setPrt n { s.prt n with stopping := true }).setPartState n 3
  else ((s.setPrt n { s.prt n with phase := .idle, stopping := false, firstDone := false }).setPartState n 1).loadRegs n |>.disableWaiting n

/-- R406: the model of a partition goes offline. -/
def State.goOffline (s : State) (n : Nat) : State :=
  if s.get fPART_REL_STAT_OFFLINE n 0 = 1 then s
  else
    let s1 := ((s.put fPART_REL_STAT_OFFLINE n 0 1).log
      { code := stWeightUe, kind := 3, die := s.homeDie n, unit := 16, inst := n, part := n }).endAll n stWeightUe
    let s2 := s1.setPrt n { s1.prt n with reloads := [] }
    if s2.get fPART_STAT_STATE n 0 = 2 then s2.stopPart n else s2

/-- R407: FAULT_NOTICE for a partition, on its PAIR half while that is MATCHED. [DEDUCED, log entry 55] -/
def State.faultNotice (s : State) (n cause : Nat) : State :=
  if s.matched (s.get fPART_PAIR_HALF n 0) then s.pairSend n 11 0 (s.get fPART_EXPO_NOW_EXPO n 0) [cause] else s

/-- R407: the engine enters FAULT, once; the first cause stays. -/
def State.enterFault (s : State) (cause : Nat) : State :=
  if s.inFault then s
  else
    let drain := s.draining
    let s1 := (s.put fREL_FAULT_CAUSE 0 0 cause).put fREL_FAULT_FAULT 0 0 1
    let ns := (List.range 16).filter (fun n => s.exists_ n)
    let s2 := ns.foldl (fun t n => t.discardExposure n) s1
    let s3 := ns.foldl (fun t n => if 1 ≤ t.pairState n ∧ t.pairState n ≤ 3 then t.faultNotice n cause else t) s2
    let s4 := ns.foldl (fun t n => if t.pairState n = 2 then t else t.endAll n stEngineFault) s3
    let s5 := (s4.log { code := 0x8A06, kind := 4, unit := 20, detail := [cause] }).setModule modFault
    if drain then s5.put fPWR_STATE_DRAINED 0 0 1 else s5

/-- R405, R406: models whose weight repair has failed go offline. -/
def State.settle (s : State) : State :=
  ((List.range 16).filter (fun n => (s.prt n).repairFailed)).foldl (fun t n =>
    (t.setPrt n { t.prt n with repairFailed := false }).goOffline n) s

/-! ### Flows that break (R350, R361) -/

/-- The owner of a flow is told that blocks of it are lost: the Carrier for CARRIER and GRAD (R380), the pair unit for
PAIR (R415). CONTROL traffic has no outcome of its own. -/
def State.flowLost (s : State) (k : Nat) : State :=
  let n := flowSrc k
  if flowCls k ≤ 1 then (if s.runsCtxs n then s.carrierLost n else s)
  else if flowCls k = 2 then s.pairLose n
  else s

/-- Every unacknowledged block of a flow discarded and the next epoch begun (R358); bytes that a forwarded message held
are free again (R371). -/
def State.cutFlow (s : State) (k : Nat) : State :=
  let f := s.txFlow k
  let held := f.blocks.foldl (fun a b => a + b.fwd) 0
  let s1 := if held = 0 then s else s.setCarr (flowSrc k) { s.carrOf (flowSrc k) with used := (s.carrOf (flowSrc k)).used - held }
  s1.setTx k { TxFlow.init with epoch := (f.epoch + 1) % 65536 }

/-- CBT flows of partition `n` that have sent anything. -/
def State.flowsOf (s : State) (n : Nat) : List Nat := (s.tx.map Prod.fst).filter (fun k => decide (flowSrc k = n))

end Sys2Proof.Machine
end

