-- ==== Sys2Proof/Machine/Ports.lean ====
section
/-! DEFINITION. Ports: links, neighbour records and neighbour states of the 16 port halves, LLDP, and the binding of
circuit plans (R345, R346, R349–R355). -/

namespace Sys2Proof.Machine

/-! ### Neighbour records (R351, R352) -/

/-- The neighbour record of a half replaced or removed, with FAB_NBRh. -/
def State.putNbr (s : State) (h : Nat) (o : Option Nbr) : State :=
  let s1 := { s with nbrs := smapSet (fun _ => none) h o s.nbrs }
  match o with
  | some r =>
    ((s1.put fFAB_NBR_ENGINE (h / 2) (h % 2) (if r.isEngine then r.engine else 0xFFFFFFFF)).put fFAB_NBR_HALF (h / 2) (h % 2)
      (if r.isEngine then r.half else 0)).put fFAB_NBR_VALID (h / 2) (h % 2) 1
  | none => ((s1.put fFAB_NBR_ENGINE (h / 2) (h % 2) 0xFFFFFFFF).put fFAB_NBR_HALF (h / 2) (h % 2) 0).put fFAB_NBR_VALID (h / 2) (h % 2) 0

/-- R351: JOB_ID that a half announces: its bound plan's, or 0. -/
def State.halfJob (s : State) (h : Nat) : Nat :=
  match s.planPart h with
  | some n => ((s.plan n).map (fun p => p.job)).getD 0
  | none => 0

/-- R351: what a half announces. -/
def State.halfLldp (s : State) (h : Nat) : LldpTx :=
  let split := s.get fFAB_PORT_CFG_SPLIT (h / 2) 0
  { chassis := s.get fFAB_MAC_MAC 0 0, port := h / 2, part := if split = 0 then 0 else 1 + h % 2, ttl := 4 * s.g fFAB_LLDP_TX_S,
    name := Config.systemName, system := s.g fFAB_SYSTEM_ID_ID, engine := s.g fGLOBAL_ENGINE_ID_ENGINE_ID, half := h, split := split,
    kind := s.halfKind h, job := s.halfJob h }

/-- R351, R352: one LLDPDU sent on an enabled half with link. -/
def State.sendLldp (s : State) (h : Nat) : State := if s.halfOn h && s.halfLink h then s.emit (.lldp h (s.halfLldp h)) else s

/-- R352: an LLDPDU on every half whose TLVs are not those they were in `old`. -/
def State.lldpChanged (s old : State) : State :=
  (List.range 16).foldl (fun t h => if t.halfLldp h = old.halfLldp h then t else t.sendLldp h) s

/-! ### Neighbour states (R353) -/

/-- R353: is a half used? -/
def State.halfUsed (s : State) (h : Nat) : Bool :=
  s.halfOn h && (decide (s.halfKind h = 1 ∨ s.halfKind h = 3) || (decide (s.halfKind h = 2) && (s.planPart h).isSome))

/-- When the link of a half was lost in an outage still shorter than LINKDOWN_MS, else 0. -/
def State.linkLostAt (s : State) (h : Nat) : Nat := smapGet (fun _ => 0) h s.linkLost

/-- Does a half count as up: link, or an outage that is only a flap so far (R352)? -/
def State.linkHeld (s : State) (h : Nat) : Bool := s.halfLink h || decide (s.linkLostAt h ≠ 0)

/-- R353: state and cause of a half as observed. -/
def State.observe (s : State) (h : Nat) : Nat × Nat :=
  if !s.halfOn h then (0, 0)
  else if !s.halfUsed h then (if (s.nbr h).isSome then (3, 0) else (0, 0))
  else if !s.linkHeld h then (2, 0)
  else if s.halfKind h = 1 then (1, 0)
  else match s.nbr h with
    | none => (2, 1)
    | some r =>
      if s.halfKind h = 3 then
        (if r.isEngine && decide (r.system = s.g fFAB_SYSTEM_ID_ID ∧ r.engine = s.get fFAB_INSTALL_EXPECT_ENGINE (h / 2) (h % 2) ∧
            r.half = s.get fFAB_INSTALL_EXPECT_HALF (h / 2) (h % 2)) then (1, 0) else (2, 2))
      else match s.planPart h with
        | none => (2, 2)
        | some n => match s.plan n with
          | none => (2, 2)
          | some p => match p.use h with
            | none => (2, 2)
            | some u =>
              if r.isEngine && decide (r.system = p.system ∧ r.engine = u.2.2.2 ∧ r.half = u.2.1) then
                (if r.job = p.job then (1, 0) else if r.job = 0 then (2, 3) else (2, 2))
              else (2, 2)

/-- State of a half written. -/
def State.putHalfState (s : State) (h st cause : Nat) : State :=
  if h % 2 = 0 then (s.put fFAB_PORT_STAT_STATE_A (h / 2) 0 st).put fFAB_PORT_STAT_CAUSE_A (h / 2) 0 cause
  else (s.put fFAB_PORT_STAT_STATE_B (h / 2) 0 st).put fFAB_PORT_STAT_CAUSE_B (h / 2) 0 cause

/-- R353, R415: a half observed again: a change of state raises PORT_STATE; a PAIR half that leaves MATCHED loses its
partners; one that becomes MATCHED sends what waits for it. -/
def State.refresh (s : State) (h : Nat) : State :=
  let old := s.halfState h
  let new := s.observe h
  let s1 := s.putHalfState h new.1 new.2
  if old = new.1 then s1
  else
    let r := (s.nbr h).getD { isEngine := false, chassis := 0, system := 0, engine := 0xFFFFFFFF, half := 0, job := 0, ttl := 0 }
    let s2 := s1.log { code := 0x8501, die := dieOfHalf h, unit := 13, inst := h,
                       detail := [h, old, new.1, new.2] ++ leBytes 6 r.chassis ++ leBytes 4 r.engine ++ [r.half] }
    let s3 := if old = 1 then (s2.pairedOver h).foldl (fun t n => t.pairLose n) s2 else s2
    if new.1 = 1 then s3.pumpHalf h else s3

/-! ### Links (R352, R353) -/

/-- Link bit of a half set. -/
def State.putLink (s : State) (h v : Nat) : State :=
  if h % 2 = 0 then s.put fFAB_PORT_STAT_LINK_A (h / 2) 0 v else s.put fFAB_PORT_STAT_LINK_B (h / 2) 0 v
/-- Time of a link outage set. -/
def State.setLost (s : State) (h t : Nat) : State := { s with linkLost := smapSet (fun _ => 0) h t s.linkLost }

/-- LINK_UP (R352): the end of a flap is counted and changes no state; any other link-up is observed. [DESIGN CHOICE, log entry 73] -/
def State.linkUp (s : State) (h : Nat) : State :=
  if !s.halfOn h || s.halfLink h then s
  else if s.linkLostAt h ≠ 0 then (((s.putLink h 1).setLost h 0).bump fFAB_PORT_STAT_FLAPS (h / 2) 0 1).sendLldp h
  else ((s.putLink h 1).sendLldp h).refresh h

/-- LINK_DOWN (R352). -/
def State.linkGone (s : State) (h : Nat) : State := if s.halfLink h then (s.putLink h 0).setLost h s.now else s

/-- LINKDOWN_TIMEOUT (R352, R353): the outage has passed LINKDOWN_MS. -/
def State.linkTimeout (s : State) (h : Nat) : State :=
  if s.halfLink h || decide (s.linkLostAt h = 0) then s else ((s.setLost h 0).putNbr h none).refresh h

/-- LLDPDU received (R352): the neighbour record is replaced; a time to live of 0 ends it at once. [DEDUCED, log entry 50] -/
def State.lldpRecv (s : State) (h : Nat) (m : LldpMsg) : State :=
  if !s.halfOn h then s
  else if m.ttl = 0 then (s.putNbr h none).refresh h
  else (s.putNbr h (some { isEngine := m.isEngine, chassis := m.chassis, system := m.system, engine := m.engine, half := m.half,
                           job := m.job, ttl := m.ttl })).refresh h

/-- NEIGHBOUR_EXPIRY (R352). -/
def State.nbrExpire (s : State) (h : Nat) : State := if (s.nbr h).isNone then s else (s.putNbr h none).refresh h

/-! ### Circuit plans (R350) -/

/-- R350: the bytes of a plan that are reserved. -/
def planReserved (i : Nat) : Bool :=
  decide (16 ≤ i ∧ i < 64) || (decide (64 ≤ i) && (decide ((i - 64) % 32 = 3) || decide (8 ≤ (i - 64) % 32 ∧ (i - 64) % 32 < 16)))

/-- R350: what BIND reads. -/
def readPlan (bs : List Nat) : Plan :=
  let le (i n : Nat) : Nat := ofLe ((bs.drop i).take n)
  { job := le 0 8, system := le 8 8,
    uses := (List.range 16).filterMap (fun h =>
      if le (64 + 32 * h) 1 = 1 then some (h, le (65 + 32 * h) 1 % 16, le (66 + 32 * h) 1 % 16, le (68 + 32 * h) 4) else none) }

/-- R350: number of the first condition of BIND that fails, or 0. [DEDUCED, log entry 50] -/
def State.bindErr (s : State) (n : Nat) (bs : List Nat) : Nat :=
  let p := readPlan bs
  let st := s.get fPART_STAT_STATE n 0
  if (st ≠ 1 ∧ st ≠ 2) ∨ (s.plan n).isSome then 1
  else if p.job = 0 ∨ p.system ≠ s.g fFAB_SYSTEM_ID_ID then 2
  else if p.uses.any (fun u => !s.halfOn u.1 || decide (s.halfKind u.1 ≠ 2)) then 3
  else if p.uses.any (fun u => (s.planPart u.1).isSome) then 4
  else if p.uses.any (fun u => decide (u.2.2.2 = s.g fGLOBAL_ENGINE_ID_ENGINE_ID)) ||
      (List.range 576).any (fun i => planReserved i && decide (bs.getD i 0 ≠ 0)) then 5
  else 0

/-- The plan of a partition set or removed. -/
def State.setPlan (s : State) (n : Nat) (p : Option Plan) : State := { s with plans := smapSet (fun _ => none) n p s.plans }

/-- R350: LLDPDUs on every half of a plan, and the halves observed again. -/
def State.planHalves (s : State) (p : Plan) : State :=
  p.uses.foldl (fun t u => t.refresh u.1) (p.uses.foldl (fun t u => t.sendLldp u.1) s)

/-- PART_CIRCUIT_BIND (R350). A plan outside the partition's HBM range reads as zeros. [DEDUCED, log entry 50] -/
def State.bindPlan (s : State) (n : Nat) : State :=
  let a := s.get fPART_CIRCUIT_PLAN_ADDR n 0
  let bs := if s.inHbm n a 576 then s.bytes a 576 else List.replicate 576 0
  let e := s.bindErr n bs
  let s1 := s.put fPART_CIRCUIT_ERR n 0 e
  if e ≠ 0 then s1
  else
    let p := readPlan bs
    let s2 := ((s1.flowsOf n).filter (fun k => (p.use (flowHalf k)).isSome)).foldl (fun t k => t.cutFlow k)
      ((s1.setPlan n (some p)).put fPART_CIRCUIT_BOUND n 0 1)
    s2.planHalves p

/-- R350: the plan of a partition unbound: every flow over its halves ends, and its owner is told of lost blocks. [DEDUCED, log entry 50] -/
def State.unbindNow (s : State) (n : Nat) : State :=
  match s.plan n with
  | none => s
  | some p =>
    let ks := (s.flowsOf n).filter (fun k => (p.use (flowHalf k)).isSome)
    let s1 := ks.foldl (fun t k => if (t.txFlow k).blocks.isEmpty then t.cutFlow k else (t.cutFlow k).flowLost k) s
    let s2 := { s1 with rx := s1.rx.filter (fun e => !(decide (flowDst e.1 = n) && (p.use (flowHalf e.1)).isSome)) }
    let x := s2.prt n
    ((((s2.setPlan n none).put fPART_CIRCUIT_BOUND n 0 0).put fPART_CIRCUIT_ERR n 0 0).setPrt n { x with unbind := false }).planHalves p

/-- PART_CIRCUIT_UNBIND (R350): at the next exposure boundary, or at once while the partition is CREATED. -/
def State.unbindPlan (s : State) (n : Nat) : State :=
  if (s.plan n).isNone then s
  else if s.isRunning n then s.setPrt n { s.prt n with unbind := true }
  else s.unbindNow n

/-- R354: a half of the partition's bound plan is not MATCHED. -/
def State.portsMissing (s : State) (n : Nat) : Bool :=
  match s.plan n with
  | some p => p.uses.any (fun u => !s.matched u.1)
  | none => false

end Sys2Proof.Machine
end

