-- ==== Sys2Proof/Machine/Exposure.lean ====
section
/-! DEFINITION. Exposure: ticks, the admission cut-off, release and commit (R250–R256, R262, R271, R290, R294), the actions
on a partition (R259, R260), and the state changes a primary mirrors at its commits (R410–R414). -/

namespace Sys2Proof.Machine

/-! ### Captures at the boundary (R248) -/

/-- R248: PART_LAT_STAT as captured at CREATE and at each boundary. -/
def State.captureLat (s : State) (n : Nat) : State :=
  let held := (List.range (s.nodeCount n)).filter (fun i =>
    decide (s.le (s.nodeAddr n i + 24) 1 = 1 ∧ s.le (s.nodeAddr n i + 20) 4 = 0 ∧ s.frameRefs n (s.le (s.nodeAddr n i + 12) 4) = 1))
  (s.put fPART_LAT_STAT_FREE n 0 (s.freeFrames n)).put fPART_LAT_STAT_RECLAIM n 0 held.length

/-! ### Mirroring at commit (R410–R414) -/

/-- R410: every mirrored structure of a partition but the cache pages, as ranges of device addresses. [DEDUCED, log entry 54] -/
def State.mirrorRanges (s : State) (n : Nat) : List (Nat × Nat) :=
  let hot := decide ((s.prt n).pairMode = 2)
  let records := [(s.get fPART_REQ_CFG_REQ_BASE n 0, 128 * s.get fPART_REQ_SLOTS_COUNT n 0)]
  let logs := ((s.partSlots n).map (fun q =>
    let x := s.slot q
    [(x.tokLog, 4 * (x.promptLen + x.gen)), (x.counts, 8192), (x.stops, 832)] ++ (if hot then [(x.framesAt, 4 * x.frames.length)] else []))).flatten
  let index := if hot then
      [(s.get fPART_LAT_PT_PT_ADDR n 0, 16 * s.get fPART_LAT_RANGE_PAGES n 0),
       (s.nodeBase n, s.get fPART_CIDX_CFG_NODES n 0 * 320 + (if s.get fPART_CIDX_CFG_NODES n 0 = 0 then 0 else 4 * 2 ^ s.get fPART_CIDX_CFG_BLOG2 n 0))]
    else []
  let rings := ((s.partRings n).map (fun r => [(s.ringEntry r + 32, 32), ((s.ring r).cqBase, 32 * 2 ^ (s.ring r).cqLog2)])).flatten
  let head := s.get fPART_INTAKE_IDX_HEAD n 0
  let intake := (List.range ((s.get fPART_INTAKE_IDX_TAIL n 0 + 2 ^ 32 - head) % 2 ^ 32)).map (fun i =>
    (s.get fPART_INTAKE_BASE n 0 + (head + i) % 2 ^ s.get fPART_INTAKE_LOG2 n 0 * 64, 64))
  (records ++ logs ++ index ++ rings ++ intake).filter (fun r => decide (r.2 ≠ 0))

/-- A range cut into pieces of at most 4,096 bytes. -/
def piecesOf (r : Nat × Nat) : List (Nat × Nat) :=
  (List.range (ceilDiv r.2 4096)).map (fun i => (r.1 + 4096 * i, min 4096 (r.2 - 4096 * i)))

/-- Write records of ranges sent as messages of one kind, a piece to a message; gives the bytes sent. -/
def State.sendRecords (s : State) (n kind : Nat) (src : State) (rs : List (Nat × Nat)) : State × Nat :=
  let ps := (rs.map piecesOf).flatten
  ps.foldl (fun (a : State × Nat) p =>
    let body := src.writeRec p.1 p.2
    ((a.1.pairSend n kind 0 (src.get fPART_EXPO_NOW_EXPO n 0) body).dens (144 + n) 10 body.length, a.2 + body.length)) (s, 0)

/-- R411: the STATE messages and COMMIT_END of the exposure that has just committed. The completion records they carry
are the held ones, as they will be written. [DEDUCED, log entry 54] -/
def State.mirrorCommit (s : State) (n : Nat) : State :=
  if s.isShadow n || decide (s.pairState n ≠ 1 ∧ s.pairState n ≠ 2) then s
  else
    let r := s.sendRecords n 1 (s.releaseAllHeld n) ((s.releaseAllHeld n).mirrorRanges n)
    r.1.pairSend n 2 0 (s.get fPART_EXPO_NOW_EXPO n 0) (leBytes 4 r.2)

/-- R413: SNAPSHOT records of every mirrored structure, the cache pages among them in a HOT pair. -/
def State.sendSnapshot (s : State) (n : Nat) : State :=
  let pages := if (s.prt n).pairMode = 2 then [(s.get fPART_LAT_POOL_BASE_4K n 0 * 4096, s.get fPART_LAT_RANGE_PAGES n 0 * s.pageBytes n)] else []
  (s.sendRecords n 4 s (s.mirrorRanges n ++ pages)).1

/-! ### Records at commit (R294) -/

/-- A record of a commit that names no request slot: held while the pair holds records. [DEDUCED, log entry 34] -/
def State.commitRecord (s : State) (n : Nat) (r : OwedRec) (t64 late : Nat) : State :=
  let r' : OwedRec := { r with status := statusMax r.status late, flags := r.flags + s.commitFlags n }
  let s1 := s.logUnreported n r.reqId r'.status [r.status, late]
  if s1.holdsRecords n then s1.setPrt n { s1.prt n with heldRecs := (s1.prt n).heldRecs ++ [(r', t64, s1.get fPART_EXPO_NOW_EXPO n 0)] }
  else s1.placeRecord r'.ring r'.reqId r'.status r'.flags r'.token0 r'.token1 t64 (s1.get fPART_EXPO_NOW_EXPO n 0)

/-- REQ_ID of a descriptor (R283). -/
def descReqId (d : DescWord) : Nat := bitsOf d.toNat 256 64

/-! ### Ticks (R250, R251) -/

/-- May a partition release exposures at all? [DEDUCED, log entry 41] -/
def State.mayRelease (s : State) (n : Nat) : Bool :=
  decide (s.get fPART_STAT_STATE n 0 = 2) && !s.inFault && !s.locked && decide (s.pairState n ≠ 5 ∧ s.get fPART_REL_STAT_OFFLINE n 0 = 0)

/-- R290: the STEP taken at a cut-off: the oldest of the lowest-numbered ring. -/
def oldestStep : List (Nat × DescWord) → Option (Nat × DescWord)
  | [] => none
  | e :: es => some (es.foldl (fun b a => if a.1 < b.1 then a else b) e)

/-- The step mailbox written (R290). -/
def State.putMailbox (s : State) (n : Nat) (d : DescWord) : State :=
  let a := s.get fPART_STEP_ADDR n 0
  if s.inReserved a 64 then s.sysWrite (s.homeDie n) a (leBytes 64 d.toNat)
  else if s.inHbm n a 64 then s.landLe a 64 d.toNat
  else s

/-- R290: does a ring still hand on descriptors: ACTIVE and not being disabled? -/
def Ring.fetches (x : Ring) : Bool := decide (x.state = 1) && !x.disabling

/-- R18, R290, R354, R456: the step mailbox at a cut-off of a fine-tuning partition: the STEP is taken from the head of its ring. One that
cannot run completes at once, with the code that outranks the others. -/
def State.takeStep (s : State) (n : Nat) : State :=
  if s.get fPART_LAYOUT_KIND n 0 ≠ 1 then s
  else match oldestStep ((s.prt n).stepPending.filter (fun e => (s.ring e.1).fetches)) with
    | none => s.putMailbox n 0
    | some e =>
      let s1 := (s.setPrt n { s.prt n with stepPending := (s.prt n).stepPending.filter (fun f => decide (f.1 ≠ e.1)) }).consume e.1
      let codes := (if s.draining then [stDraining] else []) ++ (if (s.prt n).portMissing then [stPortMissing] else [])
      let c := codes.foldl statusMax 0
      if c ≠ 0 then ((s1.recordNow e.1 (descReqId e.2) c 0).logUnreported n (descReqId e.2) c codes).putMailbox n 0
      else (s1.setPrt n { s1.prt n with stepTaken := some e }).putMailbox n e.2

/-- ADMISSION_CUTOFF (R252): ADMIT_LEAD before the tick that may release the next exposure, service commands that have
arrived become due, port states are read, and the step mailbox is written. The event finds the clock there. -/
def State.cutoff (s : State) (n : Nat) : State :=
  let x := s.prt n
  let t := s.tickTime n x.nextK - s.admitLead n
  let ready := match x.phase with
    | .idle => decide (x.startT ≤ t)
    | .committed => decide (x.commitT ≤ t)
    | _ => false
  if !s.mayRelease n || x.cutoffDone || !ready then s
  else
    let s1 := s.reachTime n t
    let y := s1.prt n
    (s1.setPrt n { y with svc := y.svc.map (fun c => { c with due := true }), portMissing := s1.portsMissing n, cutoffDone := true }).takeStep n

/-- R415: HEARTBEAT at every tick of a paired partition's primary. -/
def State.heartbeatSend (s : State) (n k : Nat) : State :=
  if !s.isShadow n && !s.locked && decide (s.pairState n = 1 ∨ s.pairState n = 2) then s.pairSend n 9 0 k [] else s

/-- EXPOSURE_TICK (R250, R251): the next tick of a running partition, at its time: it lets an exposure be released, or is dark. A tick at which
the exposure before has not committed is dark also where the partition releases no more. No number is given twice (R15).
[DESIGN CHOICE, log entry 10; DEDUCED, log entry 41] -/
def State.tick (s : State) (n : Nat) : State :=
  if !s.isRunning n || s.inFault then s
  else
    let k := (s.prt n).nextK
    let t := s.tickTime n k
    let s1 := (s.cutoff n).reachTime n t
    let s2 := (s1.setPrt n { s1.prt n with nextK := k + 1 }).heartbeatSend n k
    let x := s2.prt n
    let dark := (s2.bump fPART_STAT_SLIP n 0 1).dens (144 + n) 2 1
    if x.firstDone ∧ x.phase = .released then dark
    else if !s2.mayRelease n then s2
    else if !x.firstDone then
      if x.startT + s.admitLead n ≤ t then
        let e := if x.tookOver then x.nextExpo else max k x.nextExpo
        (s2.setPrt n { x with phase := .ticked, tickT := t, tickK := k, nextExpo := e, tookOver := false, firstDone := true }).put fPART_STAT_SLIP n 0 (k - e)
      else s2
    else if x.phase = .committed ∧ x.commitT + s.admitLead n ≤ t then s2.setPrt n { x with phase := .ticked, tickT := t, tickK := k }
    else dark

/-! ### Context records at release (R261, R262) -/

/-- R261: the fields of a context record that firmware writes, over the engine's own copy. -/
def State.readCtx (s : State) (n id : Nat) : Ctx :=
  let a := s.ctxRec n id
  let gen := decide (s.get fPART_LAYOUT_KIND n 0 = 1 ∧ s.get fPART_STAT_GEN n 0 = 1)
  { s.ctx id with
    part := n, prio := s.le (a + 2) 1 % 4, workSwap := decide (s.le (a + 1) 1 / 2 % 2 = 1), laneFirst := s.le (a + 4) 2,
    lanePlates := s.le (a + 6) 2, progTable := s.le (if gen then a + 32 else a + 8) 6, saveHbm := s.le (a + 16) 6,
    workOff := s.le (a + 24) 4, workBytes := s.le (a + 28) 4 }

/-- Is a context's record readable: within the HBM range, with no uncorrectable line? -/
def State.ctxReadable (s : State) (n id : Nat) : Bool := s.inHbm n (s.ctxRec n id) 256 && (s.badLine (s.ctxRec n id) 256).isNone

/-- Contexts of a partition whose record is readable with ENABLE set, ascending. -/
def State.enabledCtxs (s : State) (n : Nat) : List (Nat × Ctx) :=
  (((List.range (s.get fPART_LAYOUT_CTX_COUNT n 0)).map (fun i => s.get fPART_LAYOUT_CTX_FIRST n 0 + i)).filter (fun id =>
    s.ctxReadable n id && decide (s.le (s.ctxRec n id + 1) 1 % 2 = 1))).map (fun id => (id, s.readCtx n id))

/-- Does a lane lie in the partition's clusters? [DEDUCED, log entry 44] -/
def State.laneOk (s : State) (n : Nat) (x : Ctx) : Bool :=
  decide (1 ≤ x.lanePlates ∧ x.laneFirst + x.lanePlates ≤ 128) && (lanePlates x).all (fun p => s.ownsCluster n (p / 8))

/-- R262: two lanes that are neither equal nor disjoint, or equal with work ranges that overlap and are not both
swapped. [DEDUCED, log entry 44] -/
def laneClash (x y : Ctx) : Bool :=
  if sameLane x y then workOverlap x y && !(x.workSwap && y.workSwap)
  else decide (x.laneFirst < y.laneFirst + y.lanePlates ∧ y.laneFirst < x.laneFirst + x.lanePlates)

/-- Address of the first program-table entry of a context that cannot be read, and is it out of range rather than
uncorrectable? -/
def State.progBad (s : State) (n : Nat) (x : Ctx) : Option (Nat × Bool) :=
  (List.range x.lanePlates).findSome? (fun i =>
    let a := x.progTable + 16 * i
    if !s.inHbm n a 16 then some (a, true) else (s.badLine a 16).map (fun l => (l, false)))

/-- R262: why a context does not run: 1 lane, 2 clash, 3 record, 4 program table. [DEDUCED, log entry 44] -/
def State.notRun (s : State) (n id why : Nat) : State :=
  s.log { code := 0x8804, die := s.homeDie n, unit := 0, inst := n, part := n,
          expo := s.get fPART_EXPO_NOW_EXPO n 0, addr := s.ctxRec n id, detail := leBytes 2 id ++ [why] }

/-- An address outside the HBM range, logged as RANGE_FAULT, or an uncorrectable line, logged as MEM_UE. -/
def State.notReadable (s : State) (n addr : Nat) (range : Bool) : State :=
  if range then
    s.log { code := 0x8701, kind := 2, die := s.homeDie n, unit := 19, inst := n, part := n,
            expo := s.get fPART_EXPO_NOW_EXPO n 0, addr := addr }
  else s.noteUeAs n addr 5

/-- A swap that moves context `id` is given up; one that was to make room for it leaves the other context resident. [DESIGN CHOICE, log entry 45] -/
def State.dropSwap (s : State) (n id : Nat) : State :=
  let x := s.prt n
  if x.swapIn = some id ∨ x.swapOut = some id then
    let s1 := s.setPrt n { x with swapIn := none, swapOut := none }
    match x.swapOut with
    | some v => if v = id then s1 else s1.putCtx v { s1.ctx v with residency := 1 }
    | none => s1
  else s

/-- A context that takes no part: DISABLED, its resident slot given up without a save. -/
def State.disableCtx (s : State) (n id : Nat) : State :=
  let x : Ctx :=
    { s.ctx id with part := n, run := .disabled, takesPart := false, residency := 0, resSlot := none, saved := [], waitCtx := none,
                    leaving := false, quantumDue := false }
  (s.dropSwap n id).putCtx id x

/-- R262: a context that takes part becomes READY. -/
def State.readyCtx (s : State) (n id : Nat) (x : Ctx) : State :=
  s.putCtx id { x with run := .ready, takesPart := true, progress := 0, waitCtx := none, waitVal := 0, reqs := [], endCode := 0, flip := false,
                       quantumDue := false, leaving := false, saved := [], readySince := s.partNow n,
                       progs := (List.range x.lanePlates).map (fun i => (s.le (x.progTable + 16 * i) 6, s.le (x.progTable + 16 * i + 8) 4)) }

/-- R262 for one context. -/
def State.releaseCtx (s : State) (n : Nat) (en : List (Nat × Ctx)) (id : Nat) : State :=
  if !s.ctxReadable n id then
    let a := s.ctxRec n id
    let bad := (s.badLine a 256).getD a
    ((s.disableCtx n id).notRun n id 3).notReadable n bad (!s.inHbm n a 256)
  else match en.find? (fun e => decide (e.1 = id)) with
    | none => s.disableCtx n id
    | some e =>
      if !s.laneOk n e.2 then (s.disableCtx n id).notRun n id 1
      else if en.any (fun o => decide (o.1 < id) && laneClash o.2 e.2) then (s.disableCtx n id).notRun n id 2
      else match s.progBad n e.2 with
        | some (a, range) => ((s.disableCtx n id).notRun n id 4).notReadable n a range
        | none => s.readyCtx n id e.2

/-! ### Release (R251) -/

/-- EXPOSURE_RELEASE (R251): the exposure of the latest tick is released once the walkers and every reload have
finished (R221, R399, R403). -/
def State.release (s : State) (n : Nat) : State :=
  let x := s.prt n
  if x.phase ≠ .ticked ∨ !s.mayRelease n ∨ x.svc.any (fun c => c.due) ∨ !x.reloads.isEmpty then s
  else
    let e := x.nextExpo
    let now := s.partNow n
    let s1 := ((s.endMoved n).dens (144 + n) 3 ((now - x.tickT) / 1000)).snapBoundary n e
    let s2 := (s1.partPlates n).foldl (fun t p => if t.plate p = Plate.init then t else t.setPlate p Plate.init) s1
    let y := s2.prt n
    let s3 := (s2.setPrt n { y with phase := .released, attempt := 0, voided := false, nextExpo := e + 1, sampled := [], flip := false,
                                     warnings := [], burnDecisions := 0, burnFallbacks := 0, burnLayers := [], burnCounts := [],
                                     bound := y.bound.filter (fun b => decide (b.2 % 2 = 0)),
                                     exchange := [], quantum := s.get fPART_SCHED_QUANTUM_US n 0, swapUs := s.get fPART_SCHED_SWAP_US n 0,
                                     lateLimit := s.get fPART_EXPO_PERIOD_LATE_LIMIT n 0 }).put fPART_EXPO_NOW_EXPO n 0 e
    let ids := (List.range (s3.get fPART_LAYOUT_CTX_COUNT n 0)).map (fun i => s3.get fPART_LAYOUT_CTX_FIRST n 0 + i)
    let en := s3.enabledCtxs n
    let s4 := ((ids.foldl (fun t id => t.releaseCtx n en id) s3).carrBegin n).ctxEvent n
    match (s4.prt n).voidNext with
    | some (v, from_) => if v = e then (s4.setPrt n { s4.prt n with voidNext := none }).voidFrom n 0 (some from_) else s4
    | none => s4

/-! ### Commit (R255, R256, R294) -/

/-- ST_EXPO_LATE (R16). -/
def stExpoLate : Nat := 0x0801

/-- R278, R295, R403: requests whose ring is being disabled, or has stopped with lost records, end with no record. -/
def State.endRings (s : State) (n : Nat) : State :=
  (s.partSlots n).foldl (fun t q =>
    let r := t.ring (t.slot q).ring
    if r.disabling ∨ (r.state = 2 ∧ (r.err = 2 ∨ r.recordUe)) then
      let t1 := t.setSlot q { t.slot q with cancel := true, noRecords := true }
      if r.disabling then t1.setRing (t.slot q).ring { r with err := 4 } else t1
    else t) s

/-- R278: rings whose DISABLE waited for the commit become DISABLED. -/
def State.finishRings (s : State) (n : Nat) : State :=
  (s.partRings n).foldl (fun t r =>
    if (t.ring r).disabling then (t.putRing r { t.ring r with state := 0, disabling := false }).ringDone r else t) s

/-- R255, R256: lateness of a commit at `t64`: the counters, LATE_RUN, HOLD and the event; gives EXPO_LATE or 0. -/
def State.lateness (s : State) (n t64 : Nat) : Nat × State :=
  let x := s.prt n
  let p := s.period n
  let s1 := if x.tickT + p < t64 + 1000 * s.get fPART_EXPO_WIN1_GUARD n 0 then s.dens (144 + n) 4 1 else s
  if x.tickT + p < t64 then
    let run := satAdd (s.get fPART_STAT_LATE_RUN n 0) 1 255
    let s2 := ((s1.dens (144 + n) 1 1).put fPART_STAT_LATE_RUN n 0 run).log
      { code := stExpoLate, die := s.homeDie n, unit := 0, inst := n, part := n, expo := s.get fPART_EXPO_NOW_EXPO n 0 }
    if x.lateLimit ≠ 0 ∧ x.lateLimit ≤ run then
      (stExpoLate, if s2.get fPART_STAT_HOLD n 0 = 1 then s2 else (s2.put fPART_STAT_HOLD n 0 1).log
        { code := 0x8803, die := s.homeDie n, unit := 0, inst := n, part := n, expo := s.get fPART_EXPO_NOW_EXPO n 0, detail := [run] })
    else (stExpoLate, s2)
  else (0, s1.put fPART_STAT_LATE_RUN n 0 0)

/-- R131: clusters of partition `n` in which the share of FALLBACK decisions has reached the cluster's STORM_PCT; 0 disables the event. -/
def State.stormClusters (s : State) (n : Nat) : List Nat :=
  let x := s.prt n
  (s.clusters n).filter (fun c =>
    let pct := s.get fSAFE_CFG_STORM_PCT c 0
    let fell := (x.burnLayers.filter (fun l => decide (l.1 = c))).length
    decide (pct ≠ 0 ∧ fell ≠ 0 ∧ pct * smapGet (fun _ => 0) c x.burnCounts ≤ 100 * fell))

/-- R131: FALLBACK_STORM with the layer numbers, eight of 16 bits to an entry. [DEDUCED, log entry 19] -/
def State.storm (s : State) (n : Nat) : State :=
  let layers := ((s.prt n).burnLayers.filter (fun l => decide (l.1 ∈ s.stormClusters n))).map Prod.snd
  (List.range (ceilDiv layers.length 8)).foldl (fun t i =>
    t.log { code := 0x8201, die := s.homeDie n, unit := 3, inst := n, part := n, expo := s.get fPART_EXPO_NOW_EXPO n 0,
            detail := (((layers.drop (8 * i)).take 8).map (leBytes 2)).flatten }) s

/-- R240, R481: the working slots of a committed attempt: the share of the rows sampled for drafts that were rejected is wasted, the rest
retired. -/
def State.classCommit (s : State) (n : Nat) : State :=
  let rows := (s.prt n).sampled.foldl (fun a r => a + r.tokens.length) 0
  let lost := (s.prt n).sampled.foldl (fun a r => a + (r.drafts.length - r.accepted)) 0
  (s.partPlates n).foldl (fun t p => t.classSlots p lost rows) s

/-- R261: the E fields written at a commit in the record of every context that was DONE, EXPO among them. -/
def State.writeExpos (s : State) (n expo : Nat) : State :=
  (s.partCtxs n).foldl (fun t id => if (t.ctx id).takesPart then t.writeCtxRec id (some expo) else t) s

/-- R456 step 4: at the first commit after the drain deadline every request ends and the partition stops. -/
def State.drainCommit (s : State) (n : Nat) : State :=
  if (s.drainDue || decide (s.supply.drainAt ≤ s.now)) && s.draining && decide (s.pairState n ≠ 2) then
    let t := s.endAll n stDraining
    t.setPrt n { t.prt n with stopping := true }
  else s

/-- What ends an exposure at its commit: STOP, the boundary's own actions, and values that take effect (R252, R260,
R350, R403, R423, R456). -/
def State.boundary (s : State) (n t64 : Nat) : State :=
  let x := s.prt n
  let s1 := s.setPrt n { x with phase := .committed, commitT := t64, sampled := [], warnings := [], flip := false, cutoffDone := false, washReloads := [] }
  let s2 := x.washReloads.foldl (fun t a => t.repairWeight n a) s1
  let s3 := if x.unbind then s2.unbindNow n else s2
  let s4 := if x.unpair then (((s3.setPrt n { s3.prt n with unpair := false }).setPair n 0).releaseAllHeld n) else s3
  let s5 := (s4.loadRegs n).captureLat n
  if s5.draining && decide (s5.pairState n = 2) && !s5.isShadow n then s5.setPartState n 3
  else if x.stopping || decide (s5.get fPART_STAT_STATE n 0 = 3) then
    (s5.setPrt n { s5.prt n with phase := .idle, stopping := false, firstDone := false }).setPartState n 1
  else s5

/-- R255: may the exposure of a partition commit? -/
def State.mayCommit (s : State) (n : Nat) : Bool :=
  s.runsCtxs n && (s.partCtxs n).all (fun id => !(s.ctx id).takesPart || decide ((s.ctx id).run = .done)) && s.carrierHolds n

/-- EXPOSURE_COMMIT (R255): every context that takes part is DONE and the Carrier holds every combine block: the steps of
R235 for each request, in slot order, and the records of R294. -/
def State.commit (s : State) (n : Nat) : State :=
  if !s.mayCommit n then s
  else
    let t64 := s.partNow n
    let expo := s.get fPART_EXPO_NOW_EXPO n 0
    let l := ((s.classCommit n).endRings n).lateness n t64
    let s1 := (l.2.partSlots n).foldl (fun t q => t.commitSlot n q t64 expo l.1) l.2
    let s1' := s1.endMoves n
    let s2 := (s1'.prt n).owed.foldl (fun t r => t.commitRecord n r t64 l.1) (s1'.setPrt n { s1'.prt n with owed := [] })
    let flip := (s2.prt n).flip && decide (s2.get fPART_LAYOUT_KIND n 0 = 1)
    let s3 := match (s2.prt n).stepTaken with
      | some e => (s2.setPrt n { s2.prt n with stepTaken := none }).commitRecord n
          { ring := e.1, reqId := descReqId e.2, status := 0, flags := flagFinal, token0 := noToken, token1 := if flip then 1 else 0 } t64 l.1
      | none => s2
    let s4 := if flip then s3.put fPART_STAT_GEN n 0 (1 - s3.get fPART_STAT_GEN n 0) else s3
    let s5 := (((s4.finishRings n).writeExpos n expo).storm n).drainCommit n
    (s5.mirrorCommit n).boundary n t64

/-! ### Re-execution (R399) -/

/-- REEXECUTION_START (R399 step 5): once every reload has ended, attempt 1 begins. -/
def State.reexecute (s : State) (n : Nat) : State :=
  let x := s.prt n
  if !x.voided || decide (x.phase ≠ .released) || !x.reloads.isEmpty || s.inFault then s
  else (((s.setPrt n { x with voided := false, attempt := 1, reexecT := s.partNow n }).restartCtxs n).carrBegin n).ctxEvent n

/-! ### Actions on a partition (R259, R260) -/

/-- Do two ranges (first, count) overlap? An empty one overlaps none. -/
def rangesMeet (a n b m : Nat) : Bool := decide (n ≠ 0 ∧ m ≠ 0 ∧ a < b + m ∧ b < a + n)

/-- R254: are the period and windows in order? -/
def State.windowsOk (s : State) (n : Nat) : Bool :=
  let p := s.period n
  let g := 1000 * s.get fPART_EXPO_WIN1_GUARD n 0
  decide (100000 ≤ p ∧ p ≤ 1000000000 ∧ s.windowOff n 0 ≤ s.windowOff n 1 ∧ s.windowOff n 1 ≤ s.windowOff n 2 ∧ s.windowOff n 2 ≤ s.windowOff n 3 ∧
    s.windowOff n 3 + g ≤ p ∧ s.admitLead n ≤ g ∧ g ≤ p)

/-- R259: the first condition of CREATE that fails, or 0. [DEDUCED, log entry 42] -/
def State.createErr (s : State) (n : Nat) : Nat :=
  let others := (List.range 16).filter (fun m => decide (m ≠ n) && s.exists_ m)
  let get (f : Fld) (m : Nat) : Nat := s.get f m 0
  let cl := get fPART_LAYOUT_CLUSTERS n
  let train (i : Nat) : Nat × Nat := (s.get fPART_TRAIN_BASE_2M n i * 2 ^ 21, s.get fPART_TRAIN_SIZE_2M n i * 2 ^ 21)
  if cl = 0 ∨ others.any (fun m => decide (cl &&& get fPART_LAYOUT_CLUSTERS m ≠ 0)) then 1
  else if s.hbmSize n = 0 ∨ 0x00C000000000 < s.hbmLo n + s.hbmSize n ∨ others.any (fun m => rangesMeet (s.hbmLo n) (s.hbmSize n) (s.hbmLo m) (s.hbmSize m)) then 2
  else if get fPART_RINGS_COUNT n = 0 ∨ 131072 < get fPART_RINGS_FIRST n + get fPART_RINGS_COUNT n ∨
      others.any (fun m => rangesMeet (get fPART_RINGS_FIRST n) (get fPART_RINGS_COUNT n) (get fPART_RINGS_FIRST m) (get fPART_RINGS_COUNT m)) then 3
  else if 8 ≤ (s.clusters n).length ∧ get fPART_TRAY_CFG_MODE n = 0 then 4
  else if get fPART_LAYOUT_RESIDENT_MAX n = 0 ∨ 256 < others.foldl (fun a m => a + get fPART_LAYOUT_RESIDENT_MAX m) (get fPART_LAYOUT_RESIDENT_MAX n) then 5
  else if !s.windowsOk n then 6
  else if 16777216 < get fPART_LAT_RANGE_FIRST n + get fPART_LAT_RANGE_PAGES n ∨
      (get fPART_LAT_RANGE_PAGES n ≠ 0 ∧ !s.inHbm n (get fPART_LAT_POOL_BASE_4K n * 4096) (get fPART_LAT_RANGE_PAGES n * s.pageBytes n)) then 7
  else if 65536 < get fPART_REQ_SLOTS_FIRST n + get fPART_REQ_SLOTS_COUNT n ∨
      others.any (fun m => rangesMeet (get fPART_REQ_SLOTS_FIRST n) (get fPART_REQ_SLOTS_COUNT n) (get fPART_REQ_SLOTS_FIRST m) (get fPART_REQ_SLOTS_COUNT m)) ∨
      get fPART_REQ_SLOTS_SVC_RING n < get fPART_RINGS_FIRST n ∨ get fPART_RINGS_FIRST n + get fPART_RINGS_COUNT n ≤ get fPART_REQ_SLOTS_SVC_RING n then 8
  else if get fPART_LAYOUT_CTX_COUNT n = 0 ∨ 4096 < get fPART_LAYOUT_CTX_FIRST n + get fPART_LAYOUT_CTX_COUNT n ∨
      others.any (fun m => rangesMeet (get fPART_LAYOUT_CTX_FIRST n) (get fPART_LAYOUT_CTX_COUNT n) (get fPART_LAYOUT_CTX_FIRST m) (get fPART_LAYOUT_CTX_COUNT m)) then 9
  else if (if get fPART_TRAY_CFG_MODE n = 1 then 0x600000 else 0x800000) <
      get fPART_SAVE_SAVE_OFF n + get fPART_LAYOUT_RESIDENT_MAX n * slotBytes (get fPART_SCHED_SAVE_GROUPS n) then 10
  else if get fPART_LAYOUT_KIND n = 1 ∧ ((train 0).2 = 0 ∨ (train 1).2 = 0 ∨ !s.inHbm n (train 0).1 (train 0).2 ∨ !s.inHbm n (train 1).1 (train 1).2 ∨
      rangesMeet (train 0).1 (train 0).2 (train 1).1 (train 1).2) then 11
  else 0

/-- R260: an action in the wrong state is ignored and logged: 0 CREATE, 1 START, 2 STOP, 3 DESTROY. -/
def State.actionIgnored (s : State) (n action : Nat) : State :=
  s.log { code := 0x8802, die := s.homeDie n, unit := 21, inst := n, part := n, detail := [action] }

/-- R258: a structure of partition `n` that CREATE writes does not lie in its HBM range: RANGE_FAULT, and nothing of it is written.
[DEDUCED, log entry 42] -/
def State.storeFault (s : State) (n a : Nat) : State :=
  s.log { code := 0x8701, kind := 2, die := s.homeDie n, unit := 19, inst := n, part := n, addr := a }

/-- R259, R499: the page table, node array and bucket table as CREATE writes them. -/
def State.initStore (s : State) (n : Nat) : State :=
  let pages := s.get fPART_LAT_RANGE_PAGES n 0
  let pt := s.get fPART_LAT_PT_PT_ADDR n 0
  let nodes := s.get fPART_CIDX_CFG_NODES n 0
  let buckets := 2 ^ s.get fPART_CIDX_CFG_BLOG2 n 0
  let s1 := if pages = 0 then s
    else if !s.inHbm n pt (16 * pages) then s.storeFault n pt
    else (List.range pages).foldl (fun t i =>
      t.ptWrite n (i / s.layers n) (pt + 16 * i) (ptBytes 0 0 (i % s.layers n) 0 0 0 none32 none32)) s
  if nodes = 0 then s1
  else if !s.inHbm n (s.nodeBase n) (nodes * 320 + 4 * buckets) then s1.storeFault n (s.nodeBase n)
  else
    let s2 := (List.range nodes).foldl (fun t i => t.idxWrite n (s.nodeBase n + 320 * i + 24) [0]) s1
    (List.range buckets).foldl (fun t i => t.idxWrite n (s.nodeBase n + nodes * 320 + 4 * i) (leBytes 4 none32)) s2

/-- R147: trays whose mapping or mode is another than when they were last placed: every byte has moved, so what each address holds is not
stated. [DEDUCED, log entry 75] -/
def State.mapTrays (s : State) (n : Nat) : State :=
  let m := (s.get fPART_TRAY_CFG_MODE n 0, s.get fPART_TRAY_CFG_HASH n 0)
  (s.partPlates n).foldl (fun t p =>
    let old := smapGet (fun _ => none) p t.trayMap
    let u := if old = none ∨ old = some m then t else t.openMem (trayAddr p 0) trayWin
    { u with trayMap := smapSet (fun _ => none) p (some m) u.trayMap }) s

/-- PART_CREATE (R147, R259, R310). -/
def State.createPart (s : State) (n : Nat) : State :=
  if s.exists_ n then s.actionIgnored n 0
  else
    let e := s.createErr n
    let s0 := s.put fPART_STAT_ERR n 0 e
    if e ≠ 0 then s0.log { code := 0x8801, unit := 21, inst := n, part := n, detail := [e] }
    else
      let near := if s.get fPART_LAYOUT_PLACEMENT n 0 = 0 then [(s.hbmLo n, s.hbmSize n)] else []
      let s1 := { s0.openMem (s.hbmLo n) (s.hbmSize n) with nearBands := near ++ s0.nearBands, streams := s0.streams.filter (fun x => decide (x.1 / 2 ^ 24 ≠ n)) }
      let s2 := (((s1.setPrt n Part.init).put fPART_STAT_STATE n 0 1).mapTrays n).initStore n
      (s2.loadRegs n).captureLat n

/-- PART_START (R251, R260). [DEDUCED, log entry 41] -/
def State.startPart (s : State) (n : Nat) : State :=
  if s.get fPART_STAT_STATE n 0 ≠ 1 ∨ s.get fPART_REL_STAT_OFFLINE n 0 = 1 ∨ s.locked ∨ (s.isShadow n ∧ 1 ≤ s.pairState n ∧ s.pairState n ≤ 3) then
    s.actionIgnored n 1
  else if !s.windowsOk n then (s.put fPART_STAT_ERR n 0 6).actionIgnored n 1
  else
    let now := s.partNow n
    let x : Part :=
      { s.prt n with startT := now, firstDone := false, tookOver := false, phase := .idle, stopping := false, cutoffDone := false,
                     nextK := ceilDiv (now - s.get fPART_EXPO_BASE_BASE n 0) (s.period n) }
    (((s.setPrt n x).put fPART_STAT_SLIP n 0 0).put fPART_STAT_ERR n 0 0).setPartState n 2

/-- PART_STOP (R260). -/
def State.stopAction (s : State) (n : Nat) : State :=
  if s.get fPART_STAT_STATE n 0 = 2 then s.stopPart n else s.actionIgnored n 2

/-- R260, R166, R275, R310, R350, R435: a partition removed: its plan unbound, its rings DISABLED, its contexts, pins, OFFLINE and content key
gone. The bytes of a NEAR_ONLY range lie elsewhere from then on. -/
def State.removePart (s : State) (n : Nat) : State :=
  let s1 := s.unbindNow n
  let s2 := (s1.partRings n).foldl (fun t r => t.putRing r { t.ring r with state := 0, disabling := false }) s1
  let s3 := (s2.partCtxs n).foldl (fun t c => t.setCtx c Ctx.init) s2
  let s4 := (s3.partPlates n).foldl (fun t p =>
    (if t.plate p = Plate.init then t else t.setPlate p Plate.init).put fTRAY_PIN_PINNED p 0 0) s3
  let near := s4.nearBands.any (fun b => decide (b.1 = s.hbmLo n))
  let s5 := { s4 with nearBands := s4.nearBands.filter (fun b => decide (b.1 ≠ s.hbmLo n)), carr := smapErase n s4.carr,
                      vault := { s4.vault with content := s4.vault.content.filter (fun m => decide (m ≠ n)) } }
  let s6 := if near then s5.openMem (s.hbmLo n) (s.hbmSize n) else s5
  (((s6.setPrt n Part.init).put fPART_REL_STAT_OFFLINE n 0 0).put fPART_PAIR_STAT_STATE n 0 0).setPartState n 0

/-- PART_DESTROY (R260). -/
def State.destroyPart (s : State) (n : Nat) : State :=
  if s.get fPART_STAT_STATE n 0 = 1 ∧ (s.partSlots n).isEmpty then s.removePart n else s.actionIgnored n 3

end Sys2Proof.Machine
end

