-- ==== Sys2Proof/Machine/Hbm.lean ====
section
/-! DEFINITION. Hbm: stacks and Drawer packages: training, thermal levels, the write-combining buffers, patrol, and how
a stack or the Drawer answers a read or a write that reaches it in a message (R307–R325, R420). -/

namespace Sys2Proof.Machine

/-! ### Training (R312, R324) -/

/-- STACK_TRAINING (R312): the stack's bit in GLOBAL_IDENT.STACKS is set; a failure leaves the stack's bit clear in GLOBAL_IDENT.STACKS and the engine enters FAULT. -/
def State.trainStack (s : State) (h : Nat) (ok : Bool) (repaired : Nat) : State :=
  let s1 := s.put fHBM_STAT_REPAIRED h 0 repaired
  let m := s.g fGLOBAL_IDENT_STACKS
  if ok then ((s1.put fHBM_STAT_TRAINED h 0 1).put fGLOBAL_IDENT_STACKS 0 0 (m ||| 2 ^ h)).tryReady
  else
    ((s1.put fHBM_STAT_TRAINED h 0 0).put fGLOBAL_IDENT_STACKS 0 0 (if m.testBit h then m - 2 ^ h else m)).enterFault 2

/-- DRAWER_TRAINING (R324). -/
def State.trainDrawer (s : State) (k : Nat) (ok : Bool) : State :=
  let m := s.g fDRW_STAT_TRAINED
  if ok then (s.put fDRW_STAT_TRAINED 0 0 (m ||| 2 ^ k)).tryReady
  else (s.put fDRW_STAT_TRAINED 0 0 (if m.testBit k then m - 2 ^ k else m)).enterFault 4

/-! ### Reads and writes that reach memory in messages (R309–R321) -/

/-- A write to HBM (R313): whole lines go to their stacks at once, a partial line into the write-combining buffer, and the write is
acknowledged once all of it is written; a write to an OFFLINE stack ends with ST_HBM_UE (R316). [DEDUCED, log entry 28] -/
def State.hbmWrite (s : State) (p : UciePort) (hd : UcieHdr) (data : List Byte) : State :=
  let a := hd.addr
  let n := data.length
  let ls := linesOf a n
  if ls.any (fun l => s.stackOffline l) then s.replyOn (backPort p) (wrAckHdr hd 1 stHbmUe) []
  else
    let s0 := ({ s with mem := s.mem.write a (ofBytes data) } : State).noteWritten a n
    let s1 := (ls.filter (fun l => coversLine a n l)).foldl (fun t l => (t.setLineErr l .good).overwriteEntry l) s0
    let part := ls.filter (fun l => !coversLine a n l)
    if part.isEmpty then s1.replyOn (backPort p) (wrAckHdr hd 0 0) []
    else part.foldl (fun t l => t.mergeLine [(hd, p)] (t.stackOf l) l (unitsOf a n l)) s1

/-- R319, R321: a write to the Drawer: a whole block sets its tag VALID with the CRC it came with, any other write
STALE; blocks of the reserved range have no tag. -/
def State.drawerWrite (s : State) (hd : UcieHdr) (data : List Byte) : State :=
  let a := hd.addr
  let n := data.length
  let s1 := ({ s with mem := s.mem.write a (ofBytes data) } : State).dens 186 2 n
  let s2 := s1.healLines a n
  if a < drawerBase + s.reserved then s2
  else if n = 4096 ∧ a % 4096 = 0 then s2.setTag a (.valid hd.word)
  else s2.staleTags a n

/-- R230: an uncorrectable line of HBM that lies in a page of a partition's latent store damages its frame. -/
def State.ownFrame (s : State) (l : Nat) : State :=
  match (List.range 16).find? (fun n => s.exists_ n && isHbm l && s.inHbm n l 64) with
  | some n => (s.lineInFrame n l).2
  | none => s

/-- Corrected and uncorrectable lines of a read counted (R168, R317, R319), MEM_UE logged for each uncorrectable one; a
whole block that fails its tag is counted too. Gives whether the data travels with POISON. -/
def State.noteMsgRead (s : State) (n a len : Nat) : Bool × State :=
  let ls := linesOf a len
  let bad := ls.filter (fun l => decide (s.lineErrOf l = .bad) || s.stackOffline l)
  let ce := ls.filter (fun l => decide (s.lineErrOf l = .corrected))
  let s1 := bad.foldl (fun t l => (t.noteUe n l).ownFrame l) s
  let s2 := ce.foldl (fun t l =>
    if isHbm l then (t.bump fHBM_ECC_STAT_CE (t.stackOf l) 0 1).noteCorrected (t.stackOf l / 4) 11 (t.stackOf l) 1
    else if isTray l then ((t.bump fTRAY_ECC_STAT_CE (trayPlate l) 0 1).dens (trayPlate l) 18 1).noteCorrected (dieOfPlate (trayPlate l)) 1 (trayPlate l) 1
    else (t.bump fDRW_ECC_STAT_LINK_CE 0 0 1).noteCorrected 2 12 0 1) s1
  if decide (len = 4096 ∧ a % 4096 = 0) && s.tagBroken a && bad.isEmpty then (true, s2.noteUe n a) else (!bad.isEmpty, s2)

/-- Bytes of a read counted at the stack or the Drawer (R325): a line read over link 0 is a far one. -/
def State.countRead (s : State) (p : UciePort) (a n : Nat) : State :=
  if isHbm a then (linesOf a n).foldl (fun t l =>
    (t.dens (162 + t.stackOf l) 1 (min (a + n) (l + 64) - max a l)).dens (162 + t.stackOf l) 3 (if p.link = 0 then 1 else 0)) s
  else if isDrawer a then s.dens 186 1 n
  else s

/-! ### Temperature (R315, R316) -/

/-- R315: entry temperature of level `k` with warning temperature `w`. -/
def levelEntry (w k : Nat) : Nat := w + 3 * (k - 1)

/-- R315: the highest level at or below `k` that a reading does not leave. [DEDUCED, log entry 29] -/
def levelDown (w t : Nat) : Nat → Nat
  | 0 => 0
  | k + 1 => if t + 2 ≤ levelEntry w (k + 1) then levelDown w t k else k + 1

/-- R315: the highest of levels 1–4 that a reading reaches, or 0. [DEDUCED, log entry 29] -/
def levelReached (w t : Nat) : Nat := (List.range 4).foldl (fun a i => if levelEntry w (i + 1) ≤ t then i + 1 else a) 0

/-- R315, R316: the level after a reading: STOPPED (5) at 105 °C, left for level 4 at 100 °C. [DEDUCED, log entry 29] -/
def nextLevel (w old t : Nat) : Nat :=
  if 105 ≤ t then 5
  else if old = 5 then (if t ≤ 100 then 4 else 5)
  else max (levelReached w t) (levelDown w t old)

end Sys2Proof.Machine
end

