-- ==== Sys2Proof/Machine/Ucie.lean ====
section
/-! DEFINITION. Ucie: retraining and the removal of modules, the answers that messages get, and re-sends (R24–R32, R393). -/

namespace Sys2Proof.Machine

/-! ### Retraining (R24, R31, R32, R393) -/

/-- R393: entries that compute die `d` held while its link to ZD retrained are sent to the log. -/
def State.flushDieLog (s : State) (d : Nat) : State :=
  (s.dieLog.filter (fun e => decide (e.die = d))).foldl (fun t e => t.logWrite e)
    { s with dieLog := s.dieLog.filter (fun e => !decide (e.die = d)) }

/-- Entries of a link's die flushed once none of its modules retrains. -/
def State.linkBack (s : State) (link : Nat) : State :=
  if link = 0 ∨ s.linkDown (link - 1) then s else s.flushDieLog (link - 1)

/-- One direction of a module restarts its stream: what its receiver holds stands from before the retrain. -/
def UcieLane.restart (l : UcieLane) : UcieLane :=
  { l with retraining := false, aligned := true, got := l.got.map (fun g => { g with old := true }) }

/-- R31: the messages that a direction had not finished before the retrain are sent again in full, in order. -/
def State.resendFlight (s : State) (link module : Nat) (up : Bool) : State :=
  ((s.lane link module up).flight.filter (fun m => !m.delivered)).foldl (fun t m => t.emit (.ucie link module up m.hdr m.data)) s

/-- UCIE_RETRAIN_COMPLETE (R31): both streams restart; messages not finished before are sent again, and then those that waited.
[DESIGN CHOICE, log entry 73] -/
def State.retrained (s : State) (link module repaired : Nat) : State :=
  if !(s.lane link module true).retraining then s
  else
    let s1 := [true, false].foldl (fun t up => t.setLane link module up (t.lane link module up).restart) s
    let s2 := (s1.bump fGLOBAL_UCIE_STAT_RETRAINS 0 link 1).bump fGLOBAL_UCIE_STAT_REPAIRED 0 link repaired
    let s3 := ((s2.linkBack link).resendFlight link module true).resendFlight link module false
    (s3.pumpUcie link module true).pumpUcie link module false

/-- R32: a message of a removed module placed on the one that the new number of modules gives it, with what the receiver holds of it. -/
def State.replace (s : State) (link : Nat) (up : Bool) (got : List UcieGot) (m : UcieMsg) : State :=
  match s.moduleFor link m.hdr.cls m.hdr.addr with
  | none => s
  | some k =>
    let l := s.lane link k up
    let held := (got.filter (fun g => decide (g.typ = m.hdr.typ ∧ g.tag = m.hdr.tag))).map (fun g => { g with old := true })
    (s.setLane link k up { l with outbox := l.outbox ++ [m], got := l.got ++ held }).pumpUcie link k up

/-- R32: what one direction of a removed module had not delivered, in order: sent messages that only wait for their answer, sent messages
whose delivery is not known, which are sent again, and those not sent yet. -/
def UcieLane.left (l : UcieLane) : List UcieMsg :=
  let lost := l.flight.filter (fun m => !m.delivered)
  l.outbox.filter (fun m => m.delivered && !lost.any (fun x => decide (x.hdr = m.hdr))) ++ lost ++ l.outbox.filter (fun m => !m.delivered)

/-- R32: fewest active modules with which the engine keeps serving. -/
def leastModules (link : Nat) : Nat := if link = 0 then 12 else 2

/-- UCIE_RETRAIN_TIMEOUT (R32): the module leaves its link until the next power-up. [DESIGN CHOICE, log entry 31] -/
def State.removeModule (s : State) (link module : Nat) : State :=
  if !(s.lane link module true).retraining then s
  else
    let m := s.get fGLOBAL_UCIE_STAT_ACTIVE 0 link
    let s1 := ((s.put fGLOBAL_UCIE_STAT_ACTIVE 0 link (if m.testBit module then m - 2 ^ module else m)).put fGLOBAL_UCIE_STAT_DEGRADED 0 link 1).log
      { code := 0x8401, kind := 5, unit := 14, inst := link, detail := [link, module] }
    let s2 := [true, false].foldl (fun t up =>
      let l := t.lane link module up
      l.left.foldl (fun u x => u.replace link up l.got x) (t.setLane link module up UcieLane.init)) s1
    let s3 := s2.linkBack link
    if (s3.activeModules link).length < leastModules link then s3.enterFault 1 else s3

/-! ### Answers (R30) -/

/-- The lane and place of a kept message by its TYPE and TAG. -/
def State.findMsg (s : State) (link : Nat) (up : Bool) (typ tag : Nat) : Option (Nat × Nat × UcieMsg) :=
  (List.range (if link = 0 then 24 else 4)).findSome? (fun k =>
    match (s.lane link k up).outbox.findIdx? (fun m => m.delivered && decide (m.hdr.typ = typ ∧ m.hdr.tag = tag)) with
    | some i => ((s.lane link k up).outbox[i]?).map (fun m => (k, i, m))
    | none => none)

/-- A kept message is done with: its answer has come. -/
def State.dropMsg (s : State) (link k : Nat) (up : Bool) (i : Nat) : State :=
  let l := s.lane link k up
  s.setLane link k up
    { l with outbox := l.outbox.eraseIdx i,
             flight := l.flight.map (fun m => if (l.outbox[i]?).any (fun x => decide (x.hdr = m.hdr)) then { m with delivered := true } else m) }

/-- R30: a transfer has been given up, or has ended uncorrectable: MEM_UE where it was given up, and the outcome of
uncorrectable data for the partition that made it (R398, R403). [DESIGN CHOICE, log entry 31] -/
def State.transferLost (s : State) (h : UcieHdr) (givenUp : Bool) : State :=
  let a := h.addr
  let n := if h.flags.testBit 3 then 16 else h.part
  let blk := a / 4096 * 4096
  let s1 := if givenUp then
      s.log { code := 0x8404, kind := 1, die := if isTray a then dieOfPlate (trayPlate a) else if isHbm a then s.stackOf a / 4 else 2,
              unit := if isTray a then 1 else if isHbm a then 11 else 12, part := if h.flags.testBit 3 then 0xFF else n, addr := blk }
    else s
  if n = 16 then s1
  else match (if isHbm a then s1.frameAt n a else none) with
    | some f => s1.frameDamaged n f
    | none => s1.ueTrigger n blk (ueCode a) none

/-- R30: a kept message sent again, at most 3 times. -/
def State.resendMsg (s : State) (link k : Nat) (up : Bool) (i : Nat) (m : UcieMsg) : State :=
  let s1 := if isHbm m.hdr.addr then s.bump fHBM_ECC_STAT_CRC_RETRY (s.stackOf m.hdr.addr) 0 1 else s
  if 3 ≤ m.resends then (s1.dropMsg link k up i).transferLost m.hdr true
  else
    let l := s1.lane link k up
    (s1.setLane link k up { l with outbox := l.outbox.set i { m with resends := m.resends + 1, delivered := false } }).pumpUcie link k up

/-- RD_CPL (R30, R31): data checked against WORD; ERR, POISON and a good answer end the request; an answer to no request
is a repeat and is discarded. -/
def State.recvCpl (s : State) (p : UciePort) (h : UcieHdr) (data : List Byte) : State :=
  let s0 := (s.arrive p h).1
  match (if (s.arrive p h).2 then s0.findMsg p.link (!p.up) 1 h.tag else none) with
  | none => s0
  | some (k, i, m) =>
    if h.flags.testBit 0 then s0.dropMsg p.link k (!p.up) i
    else if crc32c (ofBytes data) ≠ h.word then s0.resendMsg p.link k (!p.up) i m
    else if h.flags.testBit 2 then (s0.dropMsg p.link k (!p.up) i).transferLost m.hdr false
    else s0.dropMsg p.link k (!p.up) i

/-- WR_ACK (R30, R162): RETRY has the write sent again; ERR with an uncorrectable code has that outcome; else the write
is done. -/
def State.recvAck (s : State) (p : UciePort) (h : UcieHdr) : State :=
  let s0 := (s.arrive p h).1
  match (if (s.arrive p h).2 then s0.findMsg p.link (!p.up) 3 h.tag else none) with
  | none => s0
  | some (k, i, m) =>
    if h.flags.testBit 1 then s0.resendMsg p.link k (!p.up) i m
    else
      let s1 := s0.dropMsg p.link k (!p.up) i
      let st := h.word % 65536
      if h.flags.testBit 0 && decide (st = stTrayUe ∨ st = stHbmUe ∨ st = stDrawerUe) then s1.transferLost m.hdr false else s1

/-- EVENT (R393, R394): an entry of a compute die written into the log; cells not carried are 0. -/
def State.recvEvent (s : State) (p : UciePort) (h : UcieHdr) (data : List Byte) : State :=
  let bs := (ofBytes data ++ List.replicate 64 0).take 64
  let le (i n : Nat) : Nat := ofLe ((bs.drop i).take n)
  let src := le 16 2
  if !(s.arrive p h).2 then (s.arrive p h).1
  else (s.arrive p h).1.logWrite
    { code := le 0 2, kind := le 2 1, seq := le 4 4, t64 := le 8 8, die := src % 4, unit := src / 4 % 64, inst := src / 256,
      part := le 18 1, expo := le 24 8, reqId := le 32 8, addr := le 40 6, detail := (bs.drop 48).take 16 }

end Sys2Proof.Machine
end

