-- ==== Sys2Proof/Machine/Vault.lean ====
section
/-! DEFINITION. Vault: measurement slots, signatures, the configuration digest and the attestation report
(R409, R426, R430, R432, R433). -/

namespace Sys2Proof.Machine

/-- ST_KEY_ERASED (R438). -/
def stKeyErased : Nat := 0x0703
/-- ST_AUTH_FAIL (R438). -/
def stAuthFail : Nat := 0x0702

/-- SHA-512 as a number whose lowest byte is the digest's first. [DESIGN CHOICE, log entry 61] -/
def sha512 (bs : List Nat) : Nat := (Config.sha512 bs).toNat

/-- R430: slot `i` extended with data. -/
def State.extendSlot (s : State) (i : Nat) (bs : List Nat) : State :=
  let v := s.vault
  { s with vault := { v with slots := v.slots.set i (sha512 (leBytes 64 (v.slots.getD i 0) ++ leBytes 64 (sha512 bs))) } }

/-- Bytes of the 16 measurement slots. -/
def State.slotBytes (s : State) : List Nat := (s.vault.slots.map (leBytes 64)).flatten

/-- R426: a signature with IK: its salt is random, so its bytes are free. [DESIGN CHOICE, log entry 61] -/
def State.sign (s : State) : List Nat × State :=
  ((List.range 512).map (fun i => (Config.signByte s.free i).toNat), { s with free := s.free + 1 })

/-- The DER certificates of the IK chain. [DESIGN CHOICE, log entry 61] -/
def ikChain : List Nat := (List.range Config.chainLen).map (fun i => (Config.chainByte i).toNat)

/-- Mask of the retained bits of a register. [DEDUCED, log entry 35] -/
def retainedMask (r : RegSpec) : Word64 := r.fields.foldl (fun m f => if f.retained then fieldPut m f.lo f.w (2 ^ f.w - 1) else m) 0

/-- Addresses of a register in block instance `i`. -/
def regAddrs (b : Block) (i : Nat) (r : RegSpec) : List Nat := (List.range r.count).map (fun j => blockBase b i + r.off + r.stride * j)

/-- R409: the configuration digest of a partition: CRC-32C over the retained fields of its PART block but ROLE, eight
bytes a register in address order, then bytes 0–31 of the ring table entries of its rings. [DEDUCED, log entry 35] -/
def State.configDigest (s : State) (n : Nat) : Nat :=
  let regs := ((blockRegs .part).filter (fun r => decide (retainedMask r ≠ 0))).map (fun r =>
    (regAddrs .part n r).map (fun a =>
      let v := (s.reg a &&& retainedMask r).toNat
      leBytes 8 (if a = fldAddr fPART_PAIR_ROLE n 0 then v - (bitsOf v fPART_PAIR_ROLE.lo fPART_PAIR_ROLE.w) <<< fPART_PAIR_ROLE.lo else v)))
  let rings := (List.range (s.get fPART_RINGS_COUNT n 0)).map (fun i => s.bytes (s.ringEntry (s.get fPART_RINGS_FIRST n 0 + i)) 32)
  crc32c (regs.flatten.flatten ++ rings.flatten)

/-- Bytes of an attestation report (R432). -/
def reportBytes : Nat := 1664

/-- R433: the report for partition `n` over a 64-byte nonce. -/
def State.report (s : State) (n : Nat) (nonce : List Nat) : List Nat × State :=
  let flags := s.g fSEC_STAT_LOCKED + 2 * s.g fSEC_STAT_DEBUG + 4 * s.get fPART_REL_STAT_OFFLINE n 0
  let body := leBytes 2 1 ++ [n, flags] ++ leBytes 4 (s.g fGLOBAL_ENGINE_ID_ENGINE_ID) ++ leBytes 8 s.now ++
    leBytes 8 (s.get fPART_EXPO_NOW_EXPO n 0) ++ leBytes 8 (s.get fPART_GOLD_ID_MODEL_ID n 0) ++ leBytes 4 (s.configDigest n) ++
    leBytes 4 (s.g fSEC_STAT_SVN) ++ List.replicate 24 0 ++ nonce ++ s.slotBytes
  (body ++ s.sign.1, s.sign.2)

end Sys2Proof.Machine
end

