-- ==== Sys2Proof/Machine/Rings.lean ====
section
/-! DEFINITION. Rings: enabling and disabling rings, doorbells, descriptors and what the ring unit and firmware do with
them, the intake queue and firmware's records (R275–R297, R432, R500). -/

namespace Sys2Proof.Machine

/-! ### Enabling and disabling (R277, R278) -/

/-- R277: a ring as its table entry describes it. -/
def State.readEntry (s : State) (r : Nat) : Ring :=
  let a := s.ringEntry r
  { Ring.init with
    state := 1, sqBase := s.le a 6, sqLog2 := s.le (a + 6) 1, cqLog2 := s.le (a + 7) 1, cqBase := s.le (a + 8) 6, kind := s.le (a + 14) 1,
    winBase := s.le (a + 16) 6, win4k := s.le (a + 24) 4 }

/-- Submission ring, completion ring and payload window of a ring as (base, bytes). -/
def Ring.areas (x : Ring) : List (Nat × Nat) :=
  [(x.sqBase, 64 * 2 ^ x.sqLog2), (x.cqBase, 32 * 2 ^ x.cqLog2), (x.winBase, 4096 * x.win4k)]

/-- R277: the first condition of ENABLE that fails, or 0. -/
def State.enableErr (s : State) (r : Nat) : Nat :=
  if (s.ring r).state ≠ 0 then 1
  else match s.partOfRing r with
    | none => 2
    | some n =>
      if 3 ≤ s.get fPART_STAT_STATE n 0 then 2
      else if !s.inReserved (s.ringEntry r) 64 then 4
      else
        let x := s.readEntry r
        let meet (i j : Nat) : Bool :=
          let a := x.areas.getD i (0, 0)
          let b := x.areas.getD j (0, 0)
          decide (a.2 ≠ 0 ∧ b.2 ≠ 0 ∧ a.1 < b.1 + b.2 ∧ b.1 < a.1 + a.2)
        if x.sqLog2 < 4 ∨ 16 < x.sqLog2 ∨ x.cqLog2 < 4 ∨ 18 < x.cqLog2 ∨ 1 < x.kind then 3
        else if x.areas.any (fun a => decide (a.2 ≠ 0) && !s.inReserved a.1 a.2) || meet 0 1 || meet 0 2 || meet 1 2 then 4
        else if (x.kind = 1) ≠ (r = s.get fPART_REQ_SLOTS_SVC_RING n 0) then 5
        else 0

/-- RING_STAT after an action. -/
def State.ringStat (s : State) (r err : Nat) : State :=
  ((s.put fRING_STAT_RING 0 0 r).put fRING_STAT_ERR 0 0 err).put fRING_STAT_BUSY 0 0 0

/-- RING_ENABLE (R277): nothing of the ring's earlier life stays with its partition. -/
def State.enableRing (s : State) (r : Nat) : State :=
  let e := s.enableErr r
  let n := (s.partOfRing r).getD 0
  let x := s.prt n
  let s1 := s.setPrt n { x with stepPending := x.stepPending.filter (fun e => decide (e.1 ≠ r)),
                                embeds := x.embeds.filter (fun e => decide (e.ring ≠ r)), moves := x.moves.filter (fun m => decide (m.ring ≠ r)) }
  if e = 0 then (s1.ringStat r 0).putRing r (s.readEntry r) else s.ringStat r e

/-- RING_DISABLE (R278): at the next commit, with RING_STAT.BUSY up to then (R304), or at once while the partition does not run. -/
def State.disableRing (s : State) (r : Nat) : State :=
  let s1 := s.ringStat r 0
  let x := s1.ring r
  if x.state = 0 then s1
  else match s1.partOfRing r with
    | none => s1.putRing r { x with state := 0, disabling := false }
    | some n =>
      if s1.isRunning n then (s1.setRing r { x with disabling := true }).put fRING_STAT_BUSY 0 0 1 else s1.disableNow n r

/-! ### Doorbells (R279–R281) -/

/-- The doorbell slot of a ring as last written; zero bytes before. -/
def State.doorbellSlot (s : State) (r : Nat) : List Byte := smapGet (fun _ => List.replicate 64 0) r s.doorbells

/-- A doorbell write or field that is ignored. -/
def State.doorbellIgnored (s : State) (r : Nat) : State := s.dens (s.ringBlock r) 3 1

/-- R280: the slot forwarded to the home die; a forward that still waits for its link carries the latest content. -/
def State.forwardDoorbell (s : State) (r : Nat) (slot : List Byte) : State :=
  let link := 1 + s.homeDie ((s.partOfRing r).getD 0)
  let h : UcieHdr := { typ := 5, flags := 0, len := 4, cls := 0, part := (s.partOfRing r).getD 0, tag := 0, addr := doorbellBase + 64 * r, word := 0 }
  match s.moduleFor link 0 h.addr with
  | none => s
  | some k =>
    let l := s.lane link k false
    match l.outbox.findIdx? (fun m => decide (m.hdr = h)) with
    | some i => s.setLane link k false { l with outbox := l.outbox.set i { hdr := h, data := slot, resends := 0, delivered := false } }
    | none => s.ucieSend link false h slot

/-- DOORBELL_WRITE (R280). -/
def State.doorbellWrite (s : State) (addr : Nat) (data : List Byte) : State :=
  let n := data.length
  let r := (addr - doorbellBase) / 64
  if !isDoorbell addr then s
  else if (n ≠ 4 ∧ n ≠ 8 ∧ n ≠ 64) ∨ addr % n ≠ 0 then s.doorbellIgnored r
  else
    let o := addr % 64
    let old := s.doorbellSlot r
    let new := old.take o ++ data ++ old.drop (o + n)
    let s1 := { s with doorbells := smapSet (fun _ => List.replicate 64 0) r new s.doorbells }
    if (s1.ring r).state = 1 then s1.forwardDoorbell r new else s1.doorbellIgnored r

/-- R281: SQ_TAIL of a forwarded slot. -/
def State.takeTail (s : State) (r tail : Nat) : State :=
  let x := s.ring r
  if sub32 tail x.sqHead ≤ 2 ^ x.sqLog2 ∨ tail = x.sqTailSeen then s.putRing r { x with sqTailSeen := tail } else s.stopRing r 1

/-- R281: CQ_HEAD of a forwarded slot. -/
def State.takeHead (s : State) (r head : Nat) : State :=
  let x := s.ring r
  if sub32 x.cqTail head ≤ sub32 x.cqTail x.cqHeadSeen then s.putRing r { x with cqHeadSeen := head } else s.doorbellIgnored r

/-- R281: a forwarded slot at the home die. -/
def State.ringDoorbell (s : State) (r : Nat) (slot : List Byte) : State :=
  if (s.ring r).state ≠ 1 then s.doorbellIgnored r
  else
    let bs := ofBytes slot
    (s.takeTail r (ofLe (bs.take 4))).takeHead r (ofLe ((bs.drop 4).take 4))

/-! ### Descriptors (R283–R287) -/

/-- OPC of a descriptor. -/
def descOpc (d : DescWord) : Nat := bitsOf d.toNat 0 8
/-- FENCE. -/
def descFence (d : DescWord) : Bool := decide (bitsOf d.toNat 8 1 = 1)
/-- CONTEXT. -/
def descCtx (d : DescWord) : Nat := bitsOf d.toNat 80 16
/-- LENGTH. -/
def descLen (d : DescWord) : Nat := bitsOf d.toNat 96 32
/-- PAYLOAD. -/
def descPayload (d : DescWord) : Nat := bitsOf d.toNat 128 48

/-- Does a range lie in a ring's payload window? -/
def Ring.inWindow (x : Ring) (a n : Nat) : Bool := decide (x.winBase ≤ a ∧ a + n ≤ x.winBase + 4096 * x.win4k)

/-- R287: the first of checks 1–6 that fails, or 0. [DEDUCED, log entry 32] -/
def State.descErr (s : State) (n r : Nat) (d : DescWord) : Nat :=
  let x := s.ring r
  let o := descOpc d
  if 8 < o then 1
  else if bitsOf d.toNat 32 32 ≠ r ∨ bitsOf d.toNat 64 8 ≠ n then 2
  else if (x.kind = 0 ∧ (o = 8 ∨ (o = 6 ∧ s.get fPART_LAYOUT_KIND n 0 ≠ 1))) ∨ (x.kind = 1 ∧ o ≠ 0 ∧ o ≠ 8) then 3
  else if descLen d ≠ 0 ∧ (descPayload d % 16 ≠ 0 ∨ !x.inWindow (descPayload d) (descLen d)) then 4
  else if descCtx d ≠ 0xFFFF ∧
      (descCtx d < s.get fPART_LAYOUT_CTX_FIRST n 0 ∨ s.get fPART_LAYOUT_CTX_FIRST n 0 + s.get fPART_LAYOUT_CTX_COUNT n 0 ≤ descCtx d) then 5
  else if o = 8 ∧ descLen d ≠ 32 then 6
  else 0

/-- R287: one record with FINAL and ST_DESC_INVALID, with the check's number. -/
def State.descInvalid (s : State) (r : Nat) (d : DescWord) (check : Nat) : State :=
  (s.recordNow r (descReqId d) stDescInvalid check).dens (s.ringBlock r) 2 1

/-- R289: a firmware-class descriptor copied to the intake queue, and the intake interrupt raised. -/
def State.toIntake (s : State) (n : Nat) (d : DescWord) : State :=
  let t := s.get fPART_INTAKE_IDX_TAIL n 0
  let a := s.intakeAt n t
  let s1 := if s.inReserved a 64 then s.sysWrite (s.homeDie n) a (leBytes 64 d.toNat) else s
  (s1.put fPART_INTAKE_IDX_TAIL n 0 (t + 1)).emit (.intakeIrq n)

/-! ### What firmware does with a descriptor (R285, R287, R294, R406, R432) -/

/-- R285, R287: check 7 of a GENERATE. -/
def State.generateOk (s : State) (d : DescWord) : Bool :=
  let a := descPayload d
  let x : Slot :=
    { Slot.init with promptLen := s.le a 4, maxNew := s.le (a + 4) 4, temp := s.le (a + 16) 4, topK := s.le (a + 20) 2, topP := s.le (a + 24) 4,
                     minP := s.le (a + 28) 4, rep := s.le (a + 32) 4, pres := s.le (a + 36) 4, freq := s.le (a + 40) 4, stops := a + 64, stream := 1 }
  decide (896 ≤ descLen d ∧ descLen d = 896 + 4 * s.le a 4) && s.paramsValid x

/-- R285, R287: check 7 of an EMBED. -/
def State.embedOk (s : State) (r : Nat) (d : DescWord) : Bool :=
  let a := descPayload d
  let out := s.le (a + 8) 6
  let cap := s.le (a + 16) 4
  decide (64 ≤ descLen d ∧ descLen d = 64 + 4 * s.le a 4 ∧ 1 ≤ s.le a 4 ∧ out % 16 = 0 ∧ cap % 16 = 0 ∧ 16 ≤ cap) && (s.ring r).inWindow out cap

/-- Requests of a ring with a client's request ID (R283). -/
def State.targets (s : State) (n r id : Nat) : List Nat := (s.ringSlots n r).filter (fun q => decide ((s.slot q).reqId = id))

/-- R294: the record of a CANCEL, PARK or RESUME: owed at the commit of its targets' outcome, or at the next one where it found none. -/
def State.oweTarget (s : State) (n r : Nat) (d : DescWord) (found : Bool) (svc : List (Nat × Nat)) (slots : List Nat) : State :=
  let x := s.prt n
  if found then s.setPrt n { x with moves := x.moves ++ [{ ring := r, reqId := descReqId d, svc := svc, slots := slots }] }
  else s.setPrt n { x with owed := x.owed ++
    [{ ring := r, reqId := descReqId d, status := 0, flags := flagFinal, token0 := noToken, token1 := 0 }] }

/-- A service command that firmware issues on the partition's service ring, with a REQ_ID of its own choice (R220, R284):
the command's ring and REQ_ID. [DESIGN CHOICE, log entry 33] -/
def State.firmwareSvc (s : State) (n : Nat) (w : CmdWord) : List (Nat × Nat) × State :=
  let r := s.get fPART_REQ_SLOTS_SVC_RING n 0
  if (s.ring r).state ≠ 1 then ([], s)
  else
    let f := s.fresh
    let x := f.2.ring r
    ([(r, f.1)], (f.2.setRing r { x with handed := x.handed + 1 }).setPrt n
      { f.2.prt n with svc := (f.2.prt n).svc ++ [{ ring := r, reqId := f.1, word := w, due := false }] })

/-- R294: firmware ends the targets of a CANCEL: requests by LAT_END with CANCEL (R247), and a target that is still in the
intake queue by one tokenless record with FINAL and CANCELLED. [DESIGN CHOICE, log entry 33] -/
def State.cancelDesc (s : State) (n r : Nat) (d : DescWord) : State :=
  let id := bitsOf d.toNat 320 64
  let qs := s.targets n r id
  let ws := s.waitingFor n r id
  let s1 := qs.foldl (fun t q => (t.latCancel n q).2) s
  let s2 := ws.foldl (fun t i =>
    let u := (t.embedEnd n r id 0 (flagFinal + flagCancelled))
    (u.2.2.placeRecord r id 0 (flagFinal + flagCancelled) noToken u.2.1 (t.nowDie (t.homeDie n)) (t.get fPART_EXPO_NOW_EXPO n 0)).markAnswered n i) s1
  s2.oweTarget n r d (!qs.isEmpty || !ws.isEmpty) [] qs

/-- R284: firmware issues LAT_PARK or LAT_RESUME for each target. [DESIGN CHOICE, log entry 33] -/
def State.moveDesc (s : State) (n r : Nat) (d : DescWord) (id : Nat) (cmd : Nat → CmdWord) : State :=
  let qs := s.targets n r id
  let o := qs.foldl (fun a q => ((a.1 ++ (a.2.firmwareSvc n (cmd q)).1), (a.2.firmwareSvc n (cmd q)).2)) (([] : List (Nat × Nat)), s)
  o.2.oweTarget n r d (!qs.isEmpty) o.1 []

/-- LAT_PARK of slot `q` with a time to live (R220). -/
def parkWord (q ttl : Nat) : CmdWord := BitVec.ofNat 256 (0x85 + q * 2 ^ 32 + ttl * 2 ^ 128)
/-- LAT_RESUME of slot `q` (R220). -/
def resumeWord (q : Nat) : CmdWord := BitVec.ofNat 256 (0x86 + q * 2 ^ 32)

/-- ATTEST (R432): firmware checks the payload, writes the report, and posts the one record. -/
def State.attestDesc (s : State) (n r : Nat) (d : DescWord) : State :=
  let a := descPayload d
  let out := s.le (a + 64) 6
  let cap := s.le (a + 72) 4
  let chain := if s.le (a + 80) 1 % 2 = 1 then ikChain else []
  let need := reportBytes + chain.length
  if s.vault.fogged then s.recordNow r (descReqId d) stKeyErased 0
  else if descLen d ≠ 96 ∨ out % 16 ≠ 0 ∨ !(s.ring r).inWindow out cap then s.descInvalid r d 7
  else if cap < need then s.descInvalid r d 8
  else
    let t := s.report n (s.bytes a 64)
    (t.2.write out (t.1 ++ chain)).recordNow r (descReqId d) 0 need

/-- An EMBED that has passed check 7: where its output goes (R285). -/
def State.noteEmbed (s : State) (n r : Nat) (d : DescWord) : State :=
  let a := descPayload d
  s.setPrt n { s.prt n with embeds := (s.prt n).embeds ++ [{ ring := r, reqId := descReqId d, out := s.le (a + 8) 6, cap := s.le (a + 16) 4 }] }

/-- What firmware does with a descriptor of the intake queue as soon as it arrives there, as its newest entry. Admission itself, with its
choice of slot and stream, comes with firmware's LAT_ADMIT on the service ring. [DESIGN CHOICE, log entry 33] -/
def State.firmwareDesc (s : State) (n r : Nat) (d : DescWord) : State :=
  let o := descOpc d
  let t := d.toNat
  let i := sub32 (s.get fPART_INTAKE_IDX_TAIL n 0) 1
  if o = 1 ∨ o = 2 then
    if s.get fPART_REL_STAT_OFFLINE n 0 = 1 then (s.recordNow r (descReqId d) stWeightUe 0).markAnswered n i
    else if o = 1 ∧ s.generateOk d then s
    else if o = 2 ∧ s.embedOk r d then s.noteEmbed n r d
    else (s.descInvalid r d 7).markAnswered n i
  else if o = 3 then s.cancelDesc n r d
  else if o = 4 then s.moveDesc n r d (bitsOf t 352 32 + bitsOf t 384 32 * 2 ^ 32) (fun q => parkWord q (bitsOf t 320 32))
  else if o = 5 then s.moveDesc n r d (bitsOf t 320 64) resumeWord
  else s.attestDesc n r d

/-- SERVICE (R221, R247, R282): the walkers read the payload's 32-byte command; LAT_END with CANCEL takes effect at the
first commit after its arrival, every other command waits for a boundary. -/
def State.serviceDesc (s : State) (n r : Nat) (d : DescWord) : State :=
  let a := descPayload d
  match s.firstBad a 32 with
  | some l => (s.noteUeAs n l 2).stopRing r 3
  | none =>
    let w : CmdWord := BitVec.ofNat 256 (s.le a 32)
    let o := svcOpc w
    if o < 0x84 ∨ 0x87 < o then s.oweSvc n (r, descReqId d) stCmdInvalid
    else if o = 0x87 ∧ bitsOf w.toNat 128 1 = 1 then
      let c := s.latCancel n (svcSlot w)
      c.2.oweSvc n (r, descReqId d) c.1
    else s.setPrt n { s.prt n with svc := (s.prt n).svc ++ [{ ring := r, reqId := descReqId d, word := w, due := false }] }

/-! ### The ring unit (R282, R284, R289–R291) -/

/-- R282–R291: the ring unit takes descriptor `d` at SQ_HEAD of ring `r`: none where it leaves it pending: the ring is not
ACTIVE or is being disabled, nothing is pending, FENCE waits for earlier FINAL records, or the intake queue is full. A STEP is noted and
stays pending until a cut-off takes it. [DEDUCED, log entry 32] -/
def State.takeDesc (s : State) (r : Nat) (d : DescWord) : Option State :=
  let x := s.ring r
  match s.partOfRing r with
  | none => none
  | some n =>
    let o := descOpc d
    if !x.fetches || decide (x.sqHead = x.sqTailSeen) || (descFence d && decide (x.finals < x.handed)) then none
    else if s.locked ∧ x.kind = 0 ∧ o ≠ 7 then some ((s.consume r).recordNow r (descReqId d) stSecurityLock 0)
    else
      let e := s.descErr n r d
      if e ≠ 0 then some ((s.consume r).descInvalid r d e)
      else if o = 0 then some ((s.consume r).recordNow r (descReqId d) 0 0)
      else if s.intakeFull n then none
      else if o = 6 then
        some (s.setPrt n { s.prt n with stepPending := (s.prt n).stepPending.filter (fun e => decide (e.1 ≠ r)) ++ [(r, d)] })
      else if o = 8 then some ((s.consume r).serviceDesc n r d)
      else some (((s.consume r).toIntake n d).firmwareDesc n r d)

/-- Descriptor `i` of a ring as memory holds it. -/
def State.descAt (s : State) (r i : Nat) : DescWord := BitVec.ofNat 512 (s.le ((s.ring r).sqBase + i % 2 ^ (s.ring r).sqLog2 * 64) 64)

/-- Descriptors read in one read, taken in order until one stays pending or the ring stops. [DEDUCED, log entry 32] -/
def State.takeRead (s : State) (r : Nat) : List DescWord → State
  | [] => s
  | d :: ds => match s.takeDesc r d with
    | some t => if (t.ring r).sqHead = (s.ring r).sqHead then t else t.takeRead r ds
    | none => s

/-- DESCRIPTOR_FETCH (R282, R34): one read of at most `count` pending descriptors, at most 64, not past the end of the ring, as RD_REQ and
RD_CPL of CONTROL; it waits while the link cannot carry them. -/
def State.fetchDescs (s : State) (r count : Nat) : State :=
  let x := s.ring r
  let pending := sub32 x.sqTailSeen x.sqHead
  let k := min (min count 64) (min pending (2 ^ x.sqLog2 - x.sqHead % 2 ^ x.sqLog2))
  let a := x.sqBase + x.sqHead % 2 ^ x.sqLog2 * 64
  let d := s.ringDie r
  if !x.fetches || decide (k = 0) then s
  else if !s.ctlOpen d true 1 || !s.ctlOpen d false (1 + 4 * k) then
    { s with fetchHeld := if (r, count) ∈ s.fetchHeld then s.fetchHeld else s.fetchHeld ++ [(r, count)] }
  else
    let bs := s.bytes a (64 * k)
    let req := sysHdr 1 0 a (4 * k)
    let cpl (poison : Bool) : UcieHdr := { req with typ := 2, flags := if poison then 12 else 8, len := 4 * k, word := crc32c bs }
    let s1 := (s.sendCtl d true req []).dens (s.ringBlock r) 1 k
    match s.firstBad a (64 * k) with
    | some l => ((s1.sendCtl d false (cpl true) bs).noteUeAs ((s.partOfRing r).getD 16) l 2).stopRing r 3
    | none => (s1.sendCtl d false (cpl false) bs).takeRead r ((List.range k).map (fun i => s.descAt r (x.sqHead + i)))

/-- R29, R33, R34: once a link takes CONTROL messages again, the ring units' writes and reads that waited for it are made. -/
def State.linkServe (s : State) : State :=
  let s1 := s.flushCtl
  s1.fetchHeld.foldl (fun t e => t.fetchDescs e.1 e.2) { s1 with fetchHeld := [] }

/-- One descriptor row: the descriptor `d` is the one that stands at SQ_HEAD, and the ring unit takes it; RING_DESC_FETCHED counts it.
[DEDUCED, log entry 32] -/
def State.oneDesc (s : State) (r opc : Nat) (d : DescWord) : State :=
  if descOpc d = opc then ((s.dens (s.ringBlock r) 1 1).takeDesc r d).getD s else s

/-- FENCE_RELEASE (R291): the FENCE descriptor at SQ_HEAD is handed on once every earlier one has its FINAL record. -/
def State.fenceRelease (s : State) (r : Nat) : State :=
  let x := s.ring r
  if x.finals = x.handed ∧ descFence (s.descAt r x.sqHead) then s.fetchDescs r 1 else s

/-- PART_INTAKE_IDX HEAD write (R289, R305): a value past TAIL is ignored; the ring unit resumes handing on. -/
def State.intakeHead (s : State) (n head : Nat) : State :=
  let t := s.get fPART_INTAKE_IDX_TAIL n 0
  let h := s.get fPART_INTAKE_IDX_HEAD n 0
  if sub32 t h < sub32 head h then s
  else
    let x := s.prt n
    let s1 := s.setPrt n { x with answered := x.answered.filter (fun i => decide (sub32 i head < 2 ^ 31)) }
    (s.partRings n).foldl (fun t r => t.fetchDescs r 64) (s1.put fPART_INTAKE_IDX_HEAD n 0 head)

/-- PART_FW_RECORD POST (R500). [DEDUCED, log entry 34] -/
def State.fwRecordPost (s : State) (n : Nat) : State :=
  let a := s.get fPART_FW_RECORD_ADDR n 0
  let r := s.get fPART_FW_RING_RING n 0
  let x := s.ring r
  if !s.inReserved a 32 then s
  else if s.partOfRing r ≠ some n then s.put fPART_FW_RECORD_ERR n 0 2
  else
    let room := decide (sub32 x.cqTail x.cqHeadSeen < 2 ^ x.cqLog2)
    let placed := decide (x.state = 1 ∨ (x.state = 2 ∧ x.err ≠ 2 ∧ !x.recordUe)) && room && !s.fencedRing r
    let s1 := if s.le (a + 8) 2 = stDescInvalid then s.dens (s.ringBlock r) 2 1 else s
    (s1.placeRecord r (s.le a 8) (s.le (a + 8) 2) (s.le (a + 10) 2) (s.le (a + 12) 4) (s.le (a + 16) 4) (s.le (a + 20) 8) (s.le (a + 28) 4)).put
      fPART_FW_RECORD_ERR n 0 (if placed then 0 else 1)

end Sys2Proof.Machine
end

