-- ==== Sys2Proof/Machine/Messages.lean ====
section
/-! DEFINITION. Messages: what a die does with an RD_REQ, a WR or a DOORBELL that reaches it, requests held for a STOPPED
stack, temperature readings and patrol (R11, R30, R33, R162, R313–R321, R420, R437). -/

namespace Sys2Proof.Machine

/-! ### Range check (R11, R33, R320, R436) -/

/-- R33, R320, R436: may a message make its access? SYS lifts the partition check, never that of the tag store. [DEDUCED, log entry 30] -/
def State.msgGranted (s : State) (h : UcieHdr) (n : Nat) (isRead : Bool) : Bool :=
  !s.hitsTagStore h.addr n &&
  (h.flags.testBit 3 || s.dmaGranted h.part h.addr n isRead)

/-- R437: one RANGE_FAULT entry. -/
def State.rangeFault (s : State) (h : UcieHdr) : State :=
  s.log { code := 0x8701, kind := 2, die := 2, unit := 19, part := if h.flags.testBit 3 then 0xFF else h.part, addr := h.addr }

/-- Does a range lie in memory: HBM, Drawer or trays? -/
def isMemory (a n : Nat) : Bool :=
  (isHbm a && isHbm (a + (n - 1))) || (isDrawer a && isDrawer (a + (n - 1))) || (isTray a && isTray (a + (n - 1)))

/-- Does an address lie in a region of R10? [DESIGN CHOICE, log entry 8] -/
def inRegion (a : Nat) : Bool := isHbm a || isDrawer a || isTray a || isDoorbell a || decide (regionRegs ≤ a)

/-! ### RD_REQ (R27, R33, R314–R321) -/

/-- An RD_CPL with data, its CRC-32C and POISON where the data is uncorrectable (R30). -/
def State.sendCpl (s : State) (p : UciePort) (h : UcieHdr) (poison : Bool) (bs : List Nat) : State :=
  s.replyOn (backPort p) { h with typ := 2, flags := if poison then 4 else 0, len := bs.length / 16, word := crc32c bs } (toBytes bs)

/-- An RD_CPL with ERR and a status. -/
def State.cplErr (s : State) (p : UciePort) (h : UcieHdr) (status : Nat) : State :=
  s.replyOn (backPort p) { h with typ := 2, flags := 1, len := 0, word := status } []

/-- A read of memory served at once. [DEDUCED, log entry 27] -/
def State.serveRead (s : State) (p : UciePort) (h : UcieHdr) : State :=
  let n := 16 * (h.word % 65536)
  match s.sleepAt h.addr n with
  | some _ => s.cplErr p h stBankAsleep
  | none =>
    let r := (s.countRead p h.addr n).noteMsgRead (if h.flags.testBit 3 then 16 else h.part) h.addr n
    r.2.sendCpl p h r.1 (s.bytes h.addr n)

/-- RD_REQ (R27): checked, then served by its target. A read of registers by a message is of no register's size and
returns 0 (R6). None where SYS opens an address that lies in no region. -/
def State.recvRead (s : State) (p : UciePort) (h : UcieHdr) : Option State :=
  let n := 16 * (h.word % 65536)
  let s1 := (s.arrive p h).1
  if !(s.arrive p h).2 then some s1
  else if !s.msgGranted h n true then some ((s1.rangeFault h).cplErr p h stRangeFault)
  else if isMemory h.addr n then
    (if s.held h.addr n then some { s1 with hbmHeld := s1.hbmHeld ++ [(p, h, [])] } else some (s1.serveRead p h))
  else if isDoorbell h.addr then
    some (s1.sendCpl p h false ((List.range n).map (fun i =>
      ((s.doorbellSlot ((h.addr + i - doorbellBase) / 64)).getD ((h.addr + i) % 64) 0).toNat)))
  else if regionRegs ≤ h.addr then some (s1.sendCpl p h false (List.replicate n 0))
  else none

/-! ### WR (R30, R33, R313, R319, R321) -/

/-- R30: data that was uncorrectable at its source is stored as uncorrectable. [DEDUCED, log entry 27] -/
def State.poisonLines (s : State) (a n : Nat) : State := (linesOf a n).foldl (fun t l => t.setLineErr l .bad) s

/-- R319: a write of the Drawer: where its link ECC fails and its two retries as well, it is answered with ST_DRAWER_UE and leaves what it
named without stated contents; else it is done and acknowledged. [DESIGN CHOICE, log entry 73] -/
def State.serveDrawer (s : State) (p : UciePort) (h : UcieHdr) (data : List Byte) : State :=
  let s1 : State := { s with free := s.free + 1 }
  if Config.drawerLinkFails s.free then ((s1.dens 186 3 1).openMem h.addr data.length).replyOn (backPort p) (wrAckHdr h 1 stDrawerUe) []
  else
    let t := s1.drawerWrite h data
    (if h.flags.testBit 2 then t.poisonLines h.addr data.length else t).replyOn (backPort p) (wrAckHdr h 0 0) []

/-- A write of memory done. [DEDUCED, log entry 27] -/
def State.serveWrite (s : State) (p : UciePort) (h : UcieHdr) (data : List Byte) : State :=
  let a := h.addr
  let n := data.length
  let poison := h.flags.testBit 2
  let ok (t : State) : State := t.replyOn (backPort p) (wrAckHdr h 0 0) []
  if isHbm a then
    let t := s.hbmWrite p h data
    if poison then t.poisonLines a n else t
  else match s.sleepAt a n with
    | some l => (s.dens (trayPlate l) 14 1).replyOn (backPort p) (wrAckHdr h 1 stBankAsleep) []
    | none =>
      if isDrawer a then s.serveDrawer p h data
      else
        let u := s.write a (ofBytes data)
        let t := if n = 4096 ∧ a % 4096 = 0 then u.setTag a (.valid h.word) else u
        ok (if poison then t.poisonLines a n else t)

/-- WR (R30): the CRC checked, then the range, then the write done and acknowledged. A write of registers by a message is of
no register's size and is ignored (R6). None where SYS opens an address that lies in no region. -/
def State.recvWrite (s : State) (p : UciePort) (h : UcieHdr) (data : List Byte) : Option State :=
  let n := data.length
  let s1 := (s.arrive p h).1
  if !(s.arrive p h).2 then some s1
  else if crc32c (ofBytes data) ≠ h.word then some (s1.replyOn (backPort p) (wrAckHdr h 2 0) [])
  else if !s.msgGranted h n false then some ((s1.rangeFault h).replyOn (backPort p) (wrAckHdr h 1 stRangeFault) [])
  else if isMemory h.addr n then
    (if s.held h.addr n then some { s1 with hbmHeld := s1.hbmHeld ++ [(p, h, data)] } else some (s1.serveWrite p h data))
  else if isDoorbell h.addr then some ((s1.doorbellWrite h.addr data).replyOn (backPort p) (wrAckHdr h 0 0) [])
  else if regionRegs ≤ h.addr then some (s1.replyOn (backPort p) (wrAckHdr h 0 0) [])
  else none

/-- DOORBELL (R281): a forwarded slot reaches the home die. -/
def State.recvDoorbell (s : State) (p : UciePort) (h : UcieHdr) (data : List Byte) : State :=
  if (s.arrive p h).2 then (s.arrive p h).1.ringDoorbell ((h.addr - doorbellBase) / 64) data else (s.arrive p h).1

/-! ### Stacks that stop (R315, R316) -/

/-- A request held for a stack. -/
abbrev HeldReq := UciePort × UcieHdr × List Byte

/-- Bytes that a held request reads or writes. -/
def heldLen (e : HeldReq) : Nat := if e.2.1.typ = 1 then 16 * (e.2.1.word % 65536) else e.2.2.length
/-- R311: the partition whose turn serves a request; SYS requests are one further partition. -/
def heldPart (e : HeldReq) : Nat := if e.2.1.flags.testBit 3 then 16 else e.2.1.part
/-- Do two requests touch a common line? -/
def sameLines (a b : HeldReq) : Bool :=
  decide (lineOf a.2.1.addr < b.2.1.addr + heldLen b ∧ lineOf b.2.1.addr < a.2.1.addr + heldLen a)

/-- R311: which of a partition's requests, in the order they came, is served now: the first read that passes no earlier write of its lines,
else the first. -/
def nextOf (es : List (HeldReq × Nat)) : Option Nat :=
  match (List.range es.length).find? (fun i => match es[i]? with
    | some e => decide (e.1.2.1.typ = 1) && !(es.take i).any (fun f => decide (f.1.2.1.typ ≠ 1) && sameLines f.1 e.1)
    | none => false) with
  | some i => some i
  | none => if es.isEmpty then none else some 0

/-- R311: partitions take turns of one 64-byte line; a request is served whole with its last line. Gives the order in which requests are
served. [DEDUCED, log entry 28] -/
def turns : Nat → Nat → List (HeldReq × Nat) → List HeldReq
  | 0, _, _ => []
  | fuel + 1, last, es =>
    match (List.range 17).find? (fun k => es.any (fun e => decide (heldPart e.1 = (last + 1 + k) % 17))) with
    | none => []
    | some k =>
      let n := (last + 1 + k) % 17
      let mine := es.filter (fun e => decide (heldPart e.1 = n))
      match nextOf mine with
      | none => []
      | some i => match mine[i]? with
        | none => []
        | some e =>
          if e.2 ≤ 1 then e.1 :: turns fuel n (es.erase e)
          else turns fuel n (es.replace e (e.1, e.2 - 1))

/-- R311: the order in which held requests are served: CONTROL messages first, then by turns. -/
def serveOrder (es : List HeldReq) : List HeldReq :=
  let rest := (es.filter (fun e => decide (e.2.1.cls ≠ 0))).map (fun e => (e, (linesOf e.2.1.addr (heldLen e)).length))
  es.filter (fun e => decide (e.2.1.cls = 0)) ++ turns (rest.foldl (fun k e => k + e.2 + 1) 0) 16 rest

/-- Requests held that no STOPPED stack keeps any longer are served (R311, R316). [DEDUCED, log entry 28] -/
def State.releaseStack (s : State) : State :=
  let free (e : HeldReq) : Bool := !s.held e.2.1.addr (heldLen e)
  (serveOrder (s.hbmHeld.filter free)).foldl (fun t e => if e.2.1.typ = 1 then t.serveRead e.1 e.2.1 else t.serveWrite e.1 e.2.1 e.2.2)
    { s with hbmHeld := s.hbmHeld.filter (fun e => !free e) }

/-- R316: plates' commands that waited for a STOPPED stack go on. -/
def State.wakeHeld (s : State) : State :=
  (List.range 16).foldl (fun t n =>
    if t.plates.any (fun e => decide (t.ownerOf e.1 = n) && e.2.waiting.any (fun w => decide (w.why = .stack))) then t.wake n else t) s

/-- HBM_TEMP_READ (R315, R316): the reading sets the level; a stack that leaves STOPPED serves what it held. [DEDUCED, log entry 29] -/
def State.tempRead (s : State) (k t : Nat) : State :=
  let s1 := s.put fHBM_STAT_TEMP_C k 0 t
  if s.get fHBM_STAT_OFFLINE k 0 = 1 then s1
  else
    let old := s.get fHBM_STAT_LEVEL k 0
    let new := nextLevel (s.get fHBM_THERM_WARN_C k 0) old t
    if old = new then s1
    else
      let s2 := (s1.put fHBM_STAT_LEVEL k 0 new).log { code := 0x8402, kind := 5, die := k / 4, unit := 11, inst := k, detail := [old, new, t % 256] }
      if old = 5 then s2.releaseStack.wakeHeld else s2

/-- HBM_OFFLINE (R316): a stack STOPPED for longer than STOP_MAX_MS: everything held, and everything later, is
uncorrectable, and the engine enters FAULT. -/
def State.stackOfflineNow (s : State) (k : Nat) : State :=
  if s.get fHBM_STAT_LEVEL k 0 ≠ 5 ∨ s.get fHBM_STAT_OFFLINE k 0 = 1 then s
  else
    let s1 := (s.put fHBM_STAT_OFFLINE k 0 1).log { code := 0x8403, kind := 4, die := k / 4, unit := 11, inst := k }
    ((s1.wcbOf k).foldl (fun t e => t.fillEntry k e) s1).releaseStack.wakeHeld.enterFault 3

/-! ### Patrol (R317, R403, R420) -/

/-- The partition whose HBM or Drawer range holds an address. -/
def State.partAt (s : State) (a : Nat) : Option Nat :=
  (List.range 16).find? (fun n => s.exists_ n && (s.inHbm n a 1 || decide (s.drwLo n ≤ a ∧ a < s.drwLo n + s.drwSize n)))

/-- R403, R420: an uncorrectable line met by patrol: PATROL_UE, then a weight block is repaired and a frame's requests
end; any other line stays damaged. -/
def State.patrolBad (s : State) (a : Nat) : State :=
  let n := (s.partAt a).getD 16
  let s1 := (s.noteUeAs n a 2).log { code := 0x8405, kind := 2, unit := 16, part := if n = 16 then 0xFF else n, addr := a }
  match s.goldPart a with
  | some _ => s1.queueReload a
  | none => if n = 16 then s1
    else match (if isHbm a then s1.frameAt n a else none) with
      | some f => s1.frameDamaged n f
      | none => s1

/-- HBM_PATROL_READ (R317, R420): a corrected line is written back. A STOPPED stack is not read. -/
def State.patrolHbm (s : State) (a : Nat) (e : Ecc) : State :=
  let l := lineOf a
  let h := s.stackOf l
  if s.get fHBM_STAT_TRAINED h 0 = 0 ∨ s.stackHolds l then s
  else if !s.bgRoom (stackKey h) 64 hbmCap then (s.bgAdmit (stackKey h) 64 hbmCap).2
  else
    let s1 := (s.bgUse (stackKey h) 64).dens 186 4 1
    if e = .bad ∨ s.lineErrOf l = .bad ∨ s.stackOffline l then (s1.setLineErr l .bad).patrolBad l
    else if e = .corrected ∨ s.lineErrOf l = .corrected then
      ((s1.setLineErr l .good).bump fHBM_ECC_STAT_CE h 0 1).noteCorrected (h / 4) 11 h 1
    else s1

/-- DRAWER_PATROL_READ (R319, R420). -/
def State.patrolDrawer (s : State) (a : Nat) (e : Ecc) : State :=
  let l := lineOf a
  let s1 := (s.bgUse drawerKey 64).dens 186 4 1
  if !s.bgRoom drawerKey 64 drawerCap then (s.bgAdmit drawerKey 64 drawerCap).2
  else if e = .bad ∨ s.lineErrOf l = .bad then ((s1.setLineErr l .bad).dens 186 3 1).patrolBad l
  else if e = .corrected ∨ s.lineErrOf l = .corrected then
    ((s1.setLineErr l .good).bump fDRW_ECC_STAT_LINK_CE 0 0 1).noteCorrected 2 12 0 1
  else s1

end Sys2Proof.Machine
end

