-- ==== Sys2Proof/Machine/FrontEnd.lean ====
section
/-! DEFINITION. FrontEnd: the two ways in which clients reach rings: RoCEv2 and the HTTP/2 front end (R298–R303). -/

namespace Sys2Proof.Machine

/-! ### RoCEv2 (R298–R300) -/

/-- A range widened to whole 4 KiB pages: memory regions are registered at that granularity. -/
def pages (a n : Nat) : Nat × Nat := (a / 4096 * 4096, roundUp (a % 4096 + n) 4096)

/-- Does `[a, a + n)` lie in a range? -/
def within (a n : Nat) (r : Nat × Nat) : Bool := decide (r.1 ≤ a ∧ a + n ≤ r.1 + r.2)

/-- The ring that a queue pair's memory regions are registered for (R298): firmware numbers the queue pairs. [DESIGN CHOICE, log entry 36] -/
def qpRing (qp : Nat) : Nat := qp % 131072

/-- R300: do all 64 rings whose slots and entries share a page with ring `r` belong to one partition? Else no RDMA access is granted to its
doorbell page and its ring table page. -/
def State.pageOwned (s : State) (r : Nat) : Bool :=
  (s.partOfRing r).isSome && (List.range 64).all (fun i => decide (s.partOfRing (r / 64 * 64 + i) = s.partOfRing r))

/-- R298, R300: may a queue pair write here: the submission ring, payload window or doorbell page of its ring? [DESIGN CHOICE, log entry 36] -/
def State.rdmaWritable (s : State) (qp a n : Nat) : Bool :=
  let r := qpRing qp
  let x := s.ring r
  decide (x.state ≠ 0) && (within a n (pages x.sqBase (64 * 2 ^ x.sqLog2)) || within a n (x.winBase, 4096 * x.win4k) ||
    (s.pageOwned r && within a n (pages (doorbellBase + 64 * r) 64)))

/-- R298, R300: may a queue pair read here: the completion ring or payload window of its ring, or bytes 32–63 of a ring table entry of its
page? [DESIGN CHOICE, log entry 36] -/
def State.rdmaReadable (s : State) (qp a n : Nat) : Bool :=
  let r := qpRing qp
  let x := s.ring r
  decide (x.state ≠ 0) && (within a n (pages x.cqBase (32 * 2 ^ x.cqLog2)) || within a n (x.winBase, 4096 * x.win4k) ||
    (s.pageOwned r && (List.range 64).any (fun i => within a n (s.ringEntry (r / 64 * 64 + i) + 32, 32))))

/-- RDMA_WRITE (R298, R299): visible in ZD's memory before any later write of the queue pair. -/
def State.rdmaWrite (s : State) (qp a : Nat) (data : List Byte) : State :=
  if !s.rdmaWritable qp a data.length then s.emit (.rdmaNak qp)
  else if isDoorbell a then s.doorbellWrite a data
  else s.write a (ofBytes data)

/-- RDMA_READ (R298). -/
def State.rdmaRead (s : State) (qp a n : Nat) : State :=
  if s.rdmaReadable qp a n then s.emit (.rdmaData qp (toBytes (s.bytes a n))) else s.emit (.rdmaNak qp)

/-! ### HTTP/2 (R301–R303) -/

/-- An open connection. -/
def State.conn (s : State) (k : Nat) : Option Conn := smapGet (fun _ => none) k s.conns
/-- A connection replaced or closed. -/
def State.setConn (s : State) (k : Nat) (c : Option Conn) : State := { s with conns := smapSet (fun _ => none) k c s.conns }

/-- Bytes of the CREDENTIALS record in force. -/
def State.credsInForce (s : State) : List Nat :=
  match (s.flash.recs.filter (fun r => decide (r.kind = 2))).getLast? with
  | some r => if s.vault.fogged then [] else ofBytes r.creds
  | none => []

/-- R301: free rings of a client's pool: DISABLED, and taken by no connection. [DESIGN CHOICE, log entry 37] -/
def State.freeRings (s : State) (client : Nat) : List Nat :=
  (Config.clientPool s.credsInForce client).filter (fun r =>
    decide ((s.ring r).state = 0) && s.conns.all (fun e => match e.2 with
      | some c => c.full || decide (c.ring ≠ r)
      | none => true))

/-- A response that is a status alone (R301, R302). -/
def State.httpStatus (s : State) (k stream status : Nat) : State := s.emit (.http k stream status false [] true)

/-- A connection without a ring: GOAWAY (NO_ERROR), and 503 for each of its streams (R301). -/
def State.connectFull (s : State) (k client : Nat) : State :=
  (s.setConn k (some { client := client, ring := 0, tail := 0, head := 0, streams := [], full := true })).emit (.goaway k)

/-- HTTP2_CONNECTION (R301, R427): without a front-end key no handshake succeeds; else the connection takes a free ring of its client's
pool, enabled by firmware, and announces its SETTINGS; without one every stream is answered with 503, and GOAWAY closes it. -/
def State.connect (s : State) (client : Nat) : State :=
  if !s.vault.feKey then s else
  let k := s.nextConn
  let s1 := { s with nextConn := (k + 1) % 2 ^ 32 }
  match s.freeRings client with
  | r :: _ =>
    let s2 := s1.enableRing r
    if (s2.ring r).state = 1 then
      (s2.setConn k (some { client := client, ring := r, tail := 0, head := 0, streams := [], full := false })).emit
        (.settings k 0 (2 ^ (s2.ring r).sqLog2))
    else s2.connectFull k client
  | [] => s1.connectFull k client

/-- A descriptor that the front end writes on a connection's ring, with its doorbell (R302). [DESIGN CHOICE, log entry 37] -/
def State.feDescriptor (s : State) (k : Nat) (c : Conn) (d : Nat) : State :=
  let x := s.ring c.ring
  let a := x.sqBase + c.tail % 2 ^ x.sqLog2 * 64
  let c' := { c with tail := (c.tail + 1) % 2 ^ 32 }
  ((s.writeLe a 64 d).setConn k (some c')).doorbellWrite (doorbellBase + 64 * c.ring) (toBytes (leBytes 4 c'.tail ++ leBytes 4 c'.head))

/-- A 64-byte descriptor from its fields (R283). -/
def makeDesc (opc flags ring part ctx len payload deadline reqId args : Nat) : Nat :=
  opc % 256 + flags % 16 * 2 ^ 8 + ring % 2 ^ 32 * 2 ^ 32 + part % 256 * 2 ^ 64 + ctx % 65536 * 2 ^ 80 + len % 2 ^ 32 * 2 ^ 96 +
  payload % 2 ^ 48 * 2 ^ 128 + deadline % 2 ^ 64 * 2 ^ 192 + reqId % 2 ^ 64 * 2 ^ 256 + args % 2 ^ 192 * 2 ^ 320

/-- A CANCEL that the front end issues for a stream, on a stream number of its own (R302, R303). [DESIGN CHOICE, log entry 37] -/
def State.feCancel (s : State) (k : Nat) (c : Conn) (id : Nat) : State :=
  let c' := { c with streams := c.streams ++ [{ id := 2 ^ 32 - 1 - id, begun := true, dropped := true, held := [] }] }
  s.feDescriptor k c' (makeDesc 3 0 c.ring ((s.partOfRing c.ring).getD 0) 0xFFFF 0 0 0 (k * 2 ^ 32 + (2 ^ 32 - 1 - id)) (k * 2 ^ 32 + id))

/-- Streams of a connection that its client opened and that have not ended. -/
def Conn.open_ (c : Conn) : Nat := (c.streams.filter (fun t => !t.dropped)).length

/-- HTTP2_POST (R301, R302): one descriptor for the stream, 404 for an unknown path, 503 without a ring; a stream beyond
SETTINGS_MAX_CONCURRENT_STREAMS is refused. [DESIGN CHOICE, log entry 37] -/
def State.httpPost (s : State) (k : Nat) (r : PostReq) : State :=
  match s.conn k with
  | none => s
  | some c =>
    if c.full then s.httpStatus k r.stream 503
    else if r.opc ∉ [1, 2, 3, 4, 5, 7] then s.httpStatus k r.stream 404
    else if 2 ^ (s.ring c.ring).sqLog2 ≤ c.open_ then s.emit (.rstStream k r.stream)
    else
      let x := s.ring c.ring
      let n := r.body.length
      let room := (4096 * x.win4k - n) / 16 + 1
      let a := x.winBase + 16 * (Config.payloadAt c.ring c.tail % room)
      let s1 := if n = 0 ∨ 4096 * x.win4k < n then s else s.write a (ofBytes r.body)
      let target := k * 2 ^ 32 + r.target % 2 ^ 32
      let args := if r.opc = 4 then r.ttl % 2 ^ 32 + target % 2 ^ 64 * 2 ^ 32 else if r.opc = 3 ∨ r.opc = 5 then target else 0
      s1.feDescriptor k { c with streams := c.streams ++ [{ id := r.stream, begun := false, dropped := false, held := [] }] }
        (makeDesc r.opc r.flags c.ring ((s.partOfRing c.ring).getD 0) r.context n (if n = 0 then 0 else a) r.deadline (k * 2 ^ 32 + r.stream % 2 ^ 32) args)

/-- RST_STREAM (R302): the client resets a stream: CANCEL of its request. -/
def State.rstStream (s : State) (k id : Nat) : State :=
  match s.conn k with
  | none => s
  | some c =>
    if c.streams.any (fun t => decide (t.id = id)) then
      s.feCancel k { c with streams := c.streams.map (fun t => if t.id = id then { t with dropped := true, held := [] } else t) } id
    else s

/-- Bytes that a stream holds. -/
def Strm.bytes (t : Strm) : Nat := 32 * t.held.length

/-- R303: above 4 MiB held, the stream that holds the most is reset and its request cancelled. -/
def State.shed (s : State) (k : Nat) : State :=
  match s.conn k with
  | none => s
  | some c =>
    if c.streams.foldl (fun a t => a + t.bytes) 0 ≤ 4194304 then s
    else match c.streams with
      | [] => s
      | t :: ts =>
        let big := ts.foldl (fun a b => if a.bytes < b.bytes then b else a) t
        (s.emit (.rstStream k big.id)).feCancel k
          { c with streams := c.streams.map (fun u => if u.id = big.id then { u with dropped := true, held := [] } else u) } big.id

/-- Has a record FINAL set? -/
def recFinal (r : List Byte) : Bool := decide (ofLe (((ofBytes r).drop 10).take 2) % 2 = 1)

/-- R302: what is sent for the records of one stream: 200 with the first, or 400 for ST_DESC_INVALID before any other; END_STREAM with the
FINAL record. -/
def State.sendRecordsOf (s : State) (k : Nat) (t : Strm) : State :=
  match t.held with
  | [] => s
  | first :: _ =>
    let status := ofLe (((ofBytes first).drop 8).take 2)
    let code := if t.begun then 0 else if status = stDescInvalid then 400 else 200
    s.emit (.http k t.id code (decide (code ≠ 400)) t.held.flatten (t.held.any recFinal))

/-- R303: with the client's flow-control window open, what is held goes out, and a stream whose FINAL record has gone is over. -/
def State.sendOut (s : State) (k : Nat) : State :=
  match s.conn k with
  | none => s
  | some c =>
    let s1 := c.streams.foldl (fun t u => t.sendRecordsOf k u) s
    let sent (t : Strm) : Strm := if t.held.isEmpty then t else { t with begun := true, held := [] }
    s1.setConn k (some { c with streams := (c.streams.filter (fun t => !t.held.any recFinal)).map sent })

/-- R302, R303: the next record of a connection's completion ring consumed, CQ_HEAD advanced, and the record held for its stream; that of a
stream that was reset is dropped. -/
def State.takeRecord (s : State) (k : Nat) : State :=
  match s.conn k with
  | none => s
  | some c =>
    let x := s.ring c.ring
    if c.full ∨ c.head = x.cqTail then s
    else
      let rec_ := toBytes (s.bytes (x.cqBase + c.head % 2 ^ x.cqLog2 * 32) 32)
      let id := ofLe ((ofBytes rec_).take 4)
      let add (t : Strm) : Strm := if t.id = id ∧ !t.dropped then { t with held := t.held ++ [rec_] } else t
      let done (t : Strm) : Bool := t.dropped && decide (t.id = id) && recFinal rec_
      let c1 : Conn := { c with head := (c.head + 1) % 2 ^ 32, streams := (c.streams.filter (fun t => !done t)).map add }
      (s.setConn k (some c1)).doorbellWrite (doorbellBase + 64 * c.ring) (toBytes (leBytes 4 c1.tail ++ leBytes 4 c1.head))

/-- FE_RECORD_CONSUME (R303): the next record of the connection's completion ring, if there is one, is consumed and held for its stream;
with the client's flow-control window open, what is held goes out. -/
def State.feConsume (s : State) (k : Nat) (window : Bool) : State :=
  let s1 := s.takeRecord k
  (if window then s1.sendOut k else s1).shed k

/-- HTTP2_CONNECTION_END (R301): firmware cancels the connection's requests and disables its ring, which returns to the
pool. -/
def State.connEnd (s : State) (k : Nat) : State :=
  match s.conn k with
  | none => s
  | some c => if c.full then s.setConn k none else (s.setConn k none).disableRing c.ring

end Sys2Proof.Machine
end

