-- ==== Sys2Proof/Machine/Timer.lean ====
section
/-! DEFINITION. Timer: strobes and TIME messages, the PTP servo, and 1PPS (R326–R342). -/

namespace Sys2Proof.Machine

/-- The servo replaced. -/
def State.setServo (s : State) (v : Servo) : State := { s with timer := { s.timer with servo := v } }
/-- TIMER_STAT.STATE: 0 FREERUN, 1 ACQUIRING, 2 LOCKED, 3 HOLDOVER. -/
def State.timerState (s : State) : Nat := s.g fTIMER_STAT_STATE

/-- An event of the timer. -/
def State.timerEvent (s : State) (code : Nat) (detail : List Nat) : State := s.log { code := code, die := 2, unit := 15, detail := detail }

/-- R333: every change of the servo's state raises TIMER_STATE. -/
def State.setTimerState (s : State) (st : Nat) : State :=
  let old := s.timerState
  if old = st then s else (s.put fTIMER_STAT_STATE 0 0 st).timerEvent 0x8901 [old, st]

/-! ### Strobes (R328, R329, R334, R337) -/

/-- A clock in T64+16 units. -/
def Clock.t6416 (c : Clock) : Nat := c.time / 2 ^ 24
/-- A clock moved by a signed number of T64+16 units. -/
def Clock.shift (c : Clock) (d : Int) : Clock := { c with time := (c.time + d * 2 ^ 24).toNat % 2 ^ 104 }

/-- R337: a counter that moves forward past ticks of a running partition of its die makes each of them dark; one that moves
backward releases no tick twice. [DEDUCED, log entry 41] -/
def State.passTicks (s : State) (d old new : Nat) : State :=
  ((List.range 16).filter (fun n => s.isRunning n && decide (s.homeDie n = d ∧ old < new))).foldl (fun t n =>
    let x := t.prt n
    let k := ceilDiv (new - t.get fPART_EXPO_BASE_BASE n 0) (t.period n)
    if k ≤ x.nextK then t
    else
      let t1 := t.setPrt n { x with nextK := k }
      if x.firstDone then (t1.bump fPART_STAT_SLIP n 0 (k - x.nextK)).dens (144 + n) 2 (k - x.nextK) else t1) s

/-- R329: replica `d` at a strobe: with LOAD it takes the master's value; without, an unequal value is a slip, repaired,
counted and logged. -/
def State.strobeReplica (s : State) (d : Nat) : State :=
  let c := s.timer.replicas.getD d Clock.init
  let frame := s.timer.master.t6416
  let diff : Int := (frame : Int) - c.t6416
  let msg := match c.pending with
    | some m => if m.strobe = s.timer.strobe % 65536 then some m else none
    | none => none
  let c1 := if diff = 0 then c else c.shift diff
  let c2 : Clock := { c1 with rate := (msg.map (fun m => m.rate)).getD c1.rate, pending := if msg.isSome then none else c1.pending }
  let s1 := { s with timer := { s.timer with replicas := s.timer.replicas.set d c2 } }
  let s2 := s1.passTicks d (clockT64 c) (clockT64 c2)
  if diff = 0 ∨ (msg.map (fun m => m.load)).getD false then s2
  else (s2.bump fTIMER_STAT_RELOADS 0 0 1).timerEvent 0x8903 (d :: leBytes 8 (unsignedOf diff 64))

/-- R328, R33: the TIME message for the coming strobe, to one compute die, with SYS set. -/
def State.sendTime (s : State) (d : Nat) : State :=
  let k := s.timer.strobe + 1
  let load := match s.timer.servo.step with
    | some (at_, _) => decide (at_ = k)
    | none => false
  s.ucieSend (1 + d) false
    { typ := 8, flags := 8, len := 0, cls := 0, part := 0, tag := k % 65536, addr := 0,
      word := unsignedOf s.timer.servo.rate 30 + (if load then 2 ^ 30 else 0) } []

/-- STROBE (R328, R329, R334): a step held for this strobe moves the master, which takes the RATE announced for it; each
replica follows; then TIME for the next strobe is sent. -/
def State.strobeEdge (s : State) : State :=
  let k := s.timer.strobe + 1
  let v := s.timer.servo
  let due := match v.step with
    | some (at_, d, mine) => if at_ = k then some (d, mine) else none
    | none => none
  let m0 := s.timer.master
  let m := match due with
    | some (d, _) => m0.shift (d * 65536)
    | none => m0
  let s1 := { s with timer := { s.timer with strobe := k, master := { m with rate := v.rate }, servo := { v with step := if due.isSome then none else v.step } } }
  let s2 := match due with
    | some (d, mine) => (if mine then s1.bump fTIMER_STAT_STEPS 0 0 1 else s1).timerEvent 0x8902 (leBytes 8 (unsignedOf d 64))
    | none => s1
  ((s2.strobeReplica 0).strobeReplica 1).sendTime 0 |>.sendTime 1

/-- TIME (R328): a replica takes a message for a coming strobe; a late one is discarded and logged. -/
def State.recvTime (s : State) (d : Nat) (m : TimeMsg) : State :=
  let ahead := (m.strobe + 65536 - s.timer.strobe % 65536) % 65536
  if ahead = 0 ∨ 32768 ≤ ahead then s.timerEvent 0x8905 (d :: leBytes 2 m.strobe)
  else
    let c := s.timer.replicas.getD d Clock.init
    { s with timer := { s.timer with replicas := s.timer.replicas.set d { c with pending := some m } } }

/-! ### Reference (R327) -/

/-- TIMER_REF_LOST (R327). -/
def State.refLost (s : State) : State := if s.g fTIMER_STAT_REF_OK = 1 then (s.put fTIMER_STAT_REF_OK 0 0 0).timerEvent 0x8904 [] else s

/-- REF_SEL_WRITE (R327). -/
def State.refSel (s : State) (v : Bool) : State :=
  (s.put fTIMER_CFG_REF_SEL 0 0 (if v then 1 else 0)).put fTIMER_STAT_REF_OK 0 0 (if v then 1 else 0)

/-! ### Servo (R330–R336) -/

/-- The UPSTREAM port in use: the lowest with that role (R331). [DEDUCED, log entry 76] -/
def State.upstream (s : State) : Option Nat := s.timer.servo.roles.findIdx? (fun r => decide (r = 1))

/-- R346, R355: does a half carry PTP frames: enabled, with link, neither UNUSED nor EXTRA? -/
def State.ptpOpen (s : State) (n : Nat) : Bool := s.halfOn n && s.halfLink n && decide (s.halfKind n ≠ 0 ∧ s.halfState n ≠ 3)

/-- Is a port DOWNSTREAM, on a half that carries PTP? -/
def State.isDown (s : State) (n : Nat) : Bool := decide (s.timer.servo.roles.getD n 0 = 2) && s.ptpOpen n

/-- A time in ns as half picoseconds. [DEDUCED, log entry 39] -/
def halfPs (t : Nat) : Int := 2000 * (t : Int)
/-- TX_LAT or RX_LAT, in sixteenths of a ns, as half picoseconds. [DEDUCED, log entry 39] -/
def latPs (l : Nat) : Int := 125 * (l : Int)

/-- R334: a step of `d` ns is held for the second strobe from now, so that TIME with LOAD is sent one strobe ahead. [DESIGN CHOICE, log entry 38] -/
def State.holdStep (s : State) (d : Int) (mine : Bool) : State :=
  if s.timer.servo.step.isSome then s else s.setServo { s.timer.servo with step := some (s.timer.strobe + 2, d, mine) }

/-- R327, R334: the servo slews: it chooses a RATE, which the spec leaves to it within 30 bits. [DESIGN CHOICE, log entry 38] -/
def State.slew (s : State) : State :=
  let r := s.fresh
  r.2.setServo { r.2.timer.servo with rate := signedOf r.1 30 }

/-- R333, R334: the servo takes one offset in ns: it acquires, locks, steps or slews. [DESIGN CHOICE, log entry 38] -/
def State.measure (s : State) (off : Int) : State :=
  let s0 := s.put fTIMER_OFFSET_OFFSET 0 0 (unsignedOf off 32)
  let big := decide ((s.g fTIMER_LIMITS_STEP_NS : Int) < off.natAbs)
  let near := decide ((off.natAbs : Nat) ≤ s.g fTIMER_CFG_LOCK_NS)
  let st := s.timerState
  let s1 := if st = 0 ∨ st = 3 then (s0.setTimerState 1).setServo { (s0.setTimerState 1).timer.servo with goodRun := 0 } else s0
  if big then
    let s2 := if st = 2 then s1.setTimerState 1 else s1
    (s2.setServo { s2.timer.servo with goodRun := 0 }).holdStep (-off) true
  else
    let s2 := s1.slew
    if s2.timerState = 1 then
      let g := if near then s2.timer.servo.goodRun + 1 else 0
      let s3 := s2.setServo { s2.timer.servo with goodRun := g }
      if 16 ≤ g then s3.setTimerState 2 else s3
    else s2

/-- IEEE 1588: the offset from the upstream, in ns, from t1, t2, the mean path delay and ASYM_PS. [DEDUCED, log entry 39] -/
def State.ptpOffset (s : State) (n : Nat) : Int :=
  let v := s.timer.servo
  (v.t2 - v.t1 - halfPs (s.g fTIMER_OFFSET_PATH) - 2 * signedOf (s.get fTIMER_PORT_ASYM_PS 0 n) 24) / 2000

/-- Is a message of port `n` one of the accepted upstream (R331, R332)? -/
def State.fromUpstream (s : State) (n : Nat) : Bool := decide (s.upstream = some n) && s.timer.servo.accepted && s.ptpOpen n

/-- SYNC (R330, R333): a one-step Sync gives an offset at once, a two-step one with its Follow_Up. -/
def State.recvSync (s : State) (n : Nat) (m : SyncMsg) : State :=
  if !s.fromUpstream n then s
  else
    let t2 := halfPs m.rx - latPs (s.get fTIMER_PORT_RX_LAT 0 n)
    if m.twoStep then
      let s1 := s.setServo { s.timer.servo with sync := some m, t2 := t2 }
      if s.timerState = 0 ∨ s.timerState = 3 then (s1.setTimerState 1).setServo { (s1.setTimerState 1).timer.servo with goodRun := 0 } else s1
    else
      let s1 := s.setServo { s.timer.servo with sync := none, t1 := halfPs m.t1, t2 := t2 }
      s1.measure (s1.ptpOffset n)

/-- FOLLOW_UP (R330). -/
def State.recvFollowUp (s : State) (n seq t1 : Nat) : State :=
  match s.timer.servo.sync with
  | some m =>
    if s.fromUpstream n ∧ m.seq = seq then
      let s1 := s.setServo { s.timer.servo with sync := none, t1 := halfPs t1 }
      s1.measure (s1.ptpOffset n)
    else s
  | none => s

/-- DELAY_REQ (R330): a downstream request answered with the time of its arrival. -/
def State.recvDelayReq (s : State) (n seq rx : Nat) : State :=
  if s.isDown n then s.emit (.ptp n 3 seq (leBytes 8 (rx - s.get fTIMER_PORT_RX_LAT 0 n / 16))) else s

/-- DELAY_REQ_INTERVAL (R330): the upstream port sends Delay_Req; `tx` is its time of departure. -/
def State.sendDelayReq (s : State) (tx : Nat) : State :=
  match s.upstream with
  | some n =>
    let q := (s.timer.servo.delaySeq + 1) % 65536
    if !s.ptpOpen n then s else (s.setServo { s.timer.servo with delaySeq := q, t3 := halfPs tx + latPs (s.get fTIMER_PORT_TX_LAT 0 n) }).emit (.ptp n 2 q [])
  | none => s

/-- DELAY_RESP (R330): the mean path delay. [DEDUCED, log entry 39] -/
def State.recvDelayResp (s : State) (n seq t4 : Nat) : State :=
  let v := s.timer.servo
  if s.fromUpstream n ∧ seq = v.delaySeq then
    s.put fTIMER_OFFSET_PATH 0 0 (unsignedOf ((v.t2 - v.t1 + halfPs t4 - v.t3) / 4000) 32)
  else s

/-- R333: the upstream is lost. -/
def State.upstreamLost (s : State) : State :=
  let s1 := if s.timerState = 2 then (s.setServo { s.timer.servo with leftLocked := s.now }).setTimerState 3
    else if s.timerState = 1 then s.setTimerState 0 else s
  s1.setServo { s1.timer.servo with goodRun := 0, sync := none }

/-- ANNOUNCE (R332, R336): accepted with the PTP timescale; an arbitrary one loses the upstream. [DEDUCED, log entry 76] -/
def State.recvAnnounce (s : State) (n : Nat) (m : AnnMsg) : State :=
  if s.upstream ≠ some n ∨ !s.ptpOpen n then s
  else if !m.ptpScale then (s.setServo { s.timer.servo with accepted := false }).upstreamLost.timerEvent 0x8906 [n]
  else
    let h := m.steps + 1
    let s1 := (s.setServo { s.timer.servo with accepted := true, ann := some m }).put fTIMER_STAT_STEPS_REMOVED 0 0 (min h 255)
    let deep := s.g fTIMER_STAT_DEEP
    let s2 := s1.put fTIMER_STAT_DEEP 0 0 (if 8 < h then 1 else 0)
    if 8 < h ∧ deep = 0 then s2.timerEvent 0x8907 [min h 255] else s2

/-- UPSTREAM_LOST (R333): no Sync or no Announce for 3 intervals. -/
def State.upstreamGone (s : State) : State := (s.setServo { s.timer.servo with accepted := false }).upstreamLost

/-- HOLDOVER_LIMIT (R333, R335): the estimate, 0.5 × 10⁻⁶ of the time since LOCKED was left, exceeds HOLD_LIMIT_NS. -/
def State.holdoverLimit (s : State) : State :=
  if s.timerState = 3 ∧ 2000000 * s.g fTIMER_LIMITS_HOLD_LIMIT_NS < s.now - s.timer.servo.leftLocked then s.setTimerState 0 else s

/-- R332: what a downstream Announce says: stepsRemoved, clockClass, clockAccuracy, currentUtcOffset. -/
def State.announceBody (s : State) : List Nat :=
  let a := s.timer.servo.ann.getD { ptpScale := true, steps := 0, clockClass := 248, clockAccuracy := 0xFE, utcOffset := 0 }
  let cls := if s.timerState = 2 then a.clockClass else if s.timerState = 3 then 7 else 248
  let acc := if s.timerState = 2 then a.clockAccuracy else 0xFE
  leBytes 2 (s.g fTIMER_STAT_STEPS_REMOVED) ++ [cls, acc] ++ leBytes 2 a.utcOffset

/-- SYNC_INTERVAL (R330–R332, R342): changed roles take effect; every DOWNSTREAM port sends Sync, Follow_Up where it is
two-step, and Announce. [DEDUCED, log entry 76] -/
def State.syncInterval (s : State) : State :=
  let roles := (List.range 16).map (fun n => s.get fTIMER_PORT_ROLE 0 n)
  let many := decide (1 < (roles.filter (fun r => decide (r = 1))).length)
  let v := s.timer.servo
  let s1 := s.setServo { v with roles := roles, seqSync := (v.seqSync + 1) % 65536 }
  let s2 := if s1.upstream = s.upstream then s1
    else s1.setServo { s1.timer.servo with accepted := false, ann := none, sync := none }
  let s3 := s2.put fTIMER_STAT_UPSTREAM 0 0 (s2.upstream.getD 0)
  let s4 := if many && decide (roles ≠ v.roles) then s3.timerEvent 0x8906 [(s3.upstream.getD 0)] else s3
  ((List.range 16).filter (fun n => s4.isDown n)).foldl (fun t n =>
    let stamp := leBytes 8 (t.now + t.get fTIMER_PORT_TX_LAT 0 n / 16)
    let t1 := if t.get fTIMER_PORT_TWO_STEP 0 n = 1 then (t.emit (.ptp n 0 v.seqSync [])).emit (.ptp n 1 v.seqSync stamp)
      else t.emit (.ptp n 0 v.seqSync stamp)
    t1.emit (.ptp n 4 v.seqSync t1.announceBody)) s4

/-! ### 1PPS (R339) -/

/-- PPS_IN_EDGE (R339): stamped; in DISCIPLINE, with no UPSTREAM port, it loads TIMER_SET's value or serves as the
whole-second phase. -/
def State.ppsIn (s : State) : State :=
  let mode := s.g fTIMER_CFG_PPS_IN
  if mode = 0 then s
  else
    let s1 := s.put fTIMER_PPS_IN_TS_T64 0 0 s.now
    if mode ≠ 2 ∨ s.upstream.isSome then s1
    else match s.timer.servo.setValue with
      | some v => (s1.setServo { s1.timer.servo with setValue := none }).holdStep ((v : Int) - s.now) false
      | none =>
        let ph := s.now % 1000000000
        s1.measure (if ph < 500000000 then (ph : Int) else (ph : Int) - 1000000000)

/-- TIMER_SET (R339, R13): a value of 0, which is no real time, stands for 1; ignored unless 1PPS disciplines the timer and no port is UPSTREAM. -/
def State.timerSetWrite (s : State) (v : Nat) : State :=
  if s.g fTIMER_CFG_PPS_IN = 2 ∧ s.upstream.isNone then s.setServo { s.timer.servo with setValue := some (max 1 v) } else s

/-- R339: the next time after now at which 1PPS out rises: a whole second plus PPS_OUT.OFFSET_NS. -/
def State.nextPps (s : State) : Nat :=
  let off := signedOf (s.g fTIMER_PPS_OUT_OFFSET_NS) 32
  ((((s.now : Int) - off) / 1000000000 + 1) * 1000000000 + off).toNat

/-- PPS_OUT_EDGE (R339): 1PPS out rises, unless it is off or held low in FREERUN and ACQUIRING; the clock runs up to the edge.
[DESIGN CHOICE, log entry 10] -/
def State.ppsOut (s : State) : State :=
  if s.g fTIMER_CFG_PPS_OUT_EN = 1 ∧ (s.g fTIMER_CFG_PPS_OUT_FREE = 1 ∨ 2 ≤ s.timerState) then
    (s.elapse (edgesTo s.timer.master s.nextPps)).emit .pps
  else s

end Sys2Proof.Machine
end

