-- ==== Sys2Proof/Machine/Pair.lean ====
section
/-! DEFINITION. Pair: stereo pairs and the messages of classes PAIR and CONTROL (R402, R405, R409–R418, R423, R456). -/

namespace Sys2Proof.Machine

/-! ### Pairing (R409, R414, R423) -/

/-- R409: the first condition of ENABLE that fails, or 0. -/
def State.pairErr (s : State) (n : Nat) (p : PartnerView) : Nat :=
  let h := s.get fPART_PAIR_HALF n 0
  let mode := s.get fPART_PAIR_MODE n 0
  let st := s.get fPART_STAT_STATE n 0
  if mode = 0 ∨ s.halfKind h ≠ 3 ∨ !s.matched h then 1
  else if (!s.isShadow n ∧ st ≠ 1 ∧ st ≠ 2) ∨ (s.isShadow n ∧ (st ≠ 1 ∨ (s.prt n).startT ≠ 0)) then 2
  else if p.role = s.isShadow n ∨ p.mode ≠ mode then 3
  else if p.digest ≠ s.configDigest n then 4
  else if p.goldId ≠ s.get fPART_GOLD_ID_MODEL_ID n 0 then 5
  else 0

/-- PART_PAIR_ENABLE (R409, R414): SYNCING. A partition already in SYNCING, MIRRORED or CLAIMING stays as it is. -/
def State.pairEnable (s : State) (n : Nat) (p : PartnerView) : State :=
  if 1 ≤ s.pairState n ∧ s.pairState n ≤ 3 then s
  else
    let e := s.pairErr n p
    let s1 := s.put fPART_PAIR_STAT_ERR n 0 e
    if e ≠ 0 then s1
    else
      let x := s1.prt n
      ((s1.setPrt n { x with pairMode := s.get fPART_PAIR_MODE n 0, pairLost := false, mirrored := [], batch := [], batchBytes := 0, batchBad := false }).put
        fPART_PAIR_STAT_MISSES n 0 0).setPair n 1

/-- PART_PAIR_DISABLE (R423): UNPAIRED at the next boundary; at once where no boundary follows. -/
def State.pairDisable (s : State) (n : Nat) : State :=
  if s.pairState n = 0 then s
  else if s.isRunning n then s.setPrt n { s.prt n with unpair := true }
  else ((s.setPair n 0).dropBatch n).releaseAllHeld n

/-- SNAPSHOT_COPY_DONE (R413, R414): every mirrored structure has been sent; SYNC_END ends SYNCING. -/
def State.syncDone (s : State) (n : Nat) : State :=
  if s.isShadow n || decide (s.pairState n ≠ 1) then s
  else ((s.sendSnapshot n).pairSend n 5 0 (s.get fPART_EXPO_NOW_EXPO n 0) []).setPair n 2

/-! ### The shadow's copy (R413) -/

/-- R413: the write records of a body: address and bytes of each. -/
def readRecords (bs : List Nat) : Nat → List (Nat × List Nat)
  | 0 => []
  | fuel + 1 =>
    if bs.length < 16 then []
    else
      let len := ofLe ((bs.drop 8).take 4)
      (ofLe (bs.take 6), (bs.drop 16).take len) :: readRecords (bs.drop (16 + len)) fuel

/-- R413: may a record of partition `n` be written at `a`: its HBM range, its Drawer range, or its rings with their
table entries, payload windows and intake queue? -/
def State.mirrorOk (s : State) (n a len : Nat) : Bool :=
  let within (r : Nat × Nat) : Bool := decide (r.1 ≤ a ∧ a + len ≤ r.1 + r.2)
  s.inHbm n a len || within (s.drwLo n, s.drwSize n) || within (s.get fPART_INTAKE_BASE n 0, 64 * 2 ^ s.get fPART_INTAKE_LOG2 n 0) ||
  within (s.ringEntry (s.get fPART_RINGS_FIRST n 0), 64 * s.get fPART_RINGS_COUNT n 0) ||
  (List.range (s.get fPART_RINGS_COUNT n 0)).any (fun i => (s.readEntry (s.get fPART_RINGS_FIRST n 0 + i)).areas.any within)

/-- Is the partition a shadow that takes mirrored data? -/
def State.takesMirror (s : State) (n : Nat) : Bool := s.isShadow n && decide (s.pairState n = 1 ∨ s.pairState n = 2)

/-- CACHE and SNAPSHOT (R413): records written on arrival; one outside the partition's ranges spoils the batch. -/
def State.mirrorNow (s : State) (n : Nat) (body : List Nat) : State :=
  if !s.takesMirror n then s
  else (readRecords body (body.length / 16 + 1)).foldl (fun t r =>
    if t.mirrorOk n r.1 r.2.length then t.write r.1 r.2 else t.setPrt n { t.prt n with batchBad := true }) s

/-- STATE (R413): records held until COMMIT_END. -/
def State.mirrorState (s : State) (n : Nat) (body : List Nat) : State :=
  if !s.takesMirror n then s
  else
    let rs := readRecords body (body.length / 16 + 1)
    let x := s.prt n
    s.setPrt n { x with batch := x.batch ++ rs, batchBytes := x.batchBytes + body.length,
                        batchBad := x.batchBad || rs.any (fun r => !s.mirrorOk n r.1 r.2.length) }

/-- Does an address lie in the partition's intake queue? -/
def State.inIntake (s : State) (n a : Nat) : Bool :=
  decide (s.get fPART_INTAKE_BASE n 0 ≤ a ∧ a < s.get fPART_INTAKE_BASE n 0 + 64 * 2 ^ s.get fPART_INTAKE_LOG2 n 0)

/-- COMMIT_END (R413): the batch applied whole and acknowledged; one of another size is discarded; one with a record
outside the ranges is discarded, answered with ERR, and ends the pair here. [DEDUCED, log entry 54] -/
def State.mirrorCommitEnd (s : State) (n expo : Nat) (body : List Nat) : State :=
  if !s.takesMirror n then s
  else
    let x := s.prt n
    let s1 := s.dropBatch n
    if x.batchBad then
      let t := (s1.pairSend n 3 1 expo []).setPair n 0
      t.setPrt n { t.prt n with pairLost := true }
    else if x.batchBytes ≠ ofLe (body.take 4) then s1
    else
      let s2 := x.batch.foldl (fun t r => t.write r.1 r.2) s1
      let s3 := s2.setPrt n { s2.prt n with nextExpo := expo + 1, mirrored := (x.batch.map Prod.fst).filter (fun a => s.inIntake n a) }
      (s3.put fPART_PAIR_STAT_APPLIED n 0 expo).pairSend n 3 0 expo []

/-- SYNC_END at the shadow (R414). -/
def State.recvSyncEnd (s : State) (n : Nat) : State := if s.isShadow n ∧ s.pairState n = 1 then s.setPair n 2 else s

/-! ### COMMIT_ACK (R411, R413, R456) -/

/-- R416: a FENCED primary closes its front-end connections. -/
def State.closeConns (s : State) (n : Nat) : State :=
  s.conns.foldl (fun t e => match e.2 with
    | some c => if t.partOfRing c.ring = some n then (t.setConn e.1 none).emit (.goaway e.1) else t
    | none => t) s

/-- R456 step 2: a draining primary hands its partition over. -/
def State.handOver (s : State) (n : Nat) : State :=
  let s1 := ((s.faultNotice n 0).setPair n 5).closeConns n
  (s1.setPrt n { s1.prt n with phase := .idle, firstDone := false, stopping := false }).setPartState n 1

/-- COMMIT_ACK (R411, R413): the held records of the exposure are written; ERR ends mirroring here. -/
def State.recvCommitAck (s : State) (n expo flags : Nat) : State :=
  if s.isShadow n || decide (s.pairState n ≠ 1 ∧ s.pairState n ≠ 2) then s
  else if flags % 2 = 1 then (s.setPair n 4).releaseAllHeld n
  else
    let waited := (s.now - (s.prt n).commitT) / 1000
    let s1 := ((s.releaseHeld n expo).put fPART_PAIR_STAT_APPLIED n 0 expo).dens (144 + n) 11 (if (s.prt n).heldRecs.isEmpty then 0 else waited)
    if s1.draining ∧ s1.get fPART_STAT_STATE n 0 = 3 ∧ (s1.prt n).phase = .committed ∧ s1.pairState n = 2 ∧ (s1.prt n).heldRecs.isEmpty then
      s1.handOver n
    else s1

/-! ### Heartbeats (R415) -/

/-- HEARTBEAT (R415): the shadow answers, and its run of misses ends. -/
def State.recvHeartbeat (s : State) (n k : Nat) : State :=
  if s.takesMirror n && !s.locked then (s.put fPART_PAIR_STAT_MISSES n 0 0).pairSend n 10 0 k [] else s

/-- HB_ACK (R415). -/
def State.recvHbAck (s : State) (n : Nat) : State :=
  if !s.isShadow n && decide (s.pairState n = 1 ∨ s.pairState n = 2) then s.put fPART_PAIR_STAT_MISSES n 0 0 else s

/-- HEARTBEAT_MISS (R415): the third miss in a row loses the partner. A LOCKED engine makes no claim (R442). -/
def State.heartbeatMiss (s : State) (n : Nat) : State :=
  if s.locked || decide (s.pairState n ≠ 1 ∧ s.pairState n ≠ 2) then s
  else
    let m := s.get fPART_PAIR_STAT_MISSES n 0 + 1
    let s1 := s.put fPART_PAIR_STAT_MISSES n 0 (min m 3)
    if 3 ≤ m then s1.pairLose n else s1

/-! ### Takeover (R416–R418) -/

/-- R418: a request rebuilt from its mirrored record: the fields firmware wrote and those the engine did. [DEDUCED, log entry 55] -/
def State.rebuildSlot (s : State) (n q : Nat) : State :=
  let a := s.get fPART_REQ_CFG_REQ_BASE n 0 + (q - s.get fPART_REQ_SLOTS_FIRST n 0) * 128
  let st := s.le (a + 12) 1
  if st = 0 ∨ 4 < st then s.setSlot q Slot.init
  else
    let x := s.loadRecord n q
    let hot := decide ((s.prt n).pairMode = 2)
    let len := s.le (a + 28) 4
    let listed := (List.range (ceilDiv len 64)).map (fun b => s.le (x.framesAt + 4 * b) 4)
    let frames := if !hot then [] else if st = 1 then listed else listed.filter (fun f => decide (s.frameState n f = 2))
    let nodes := (frames.map (fun f => s.frameNode n f)).takeWhile (fun i => decide (i ≠ none32))
    let y : Slot :=
      { x with state := st, len := len, gen := s.le (a + 32) 4, matched := s.le (a + 36) 4, frames := frames, published := nodes,
               everRun := decide (s.le (a + 36) 4 < len),
               reserved := if hot ∧ st = 1 then min (ceilDiv (x.promptLen + x.reserve) 64) 4096 - frames.length else 0 }
    let s1 := s.setSlot q y
    if st = 1 ∧ hot then s1 else s1.expireSlot q

/-- R418: a ring rebuilt from its mirrored table entry. Its FENCE counts start at the requests still unfinished. [DEDUCED, log entry 55] -/
def State.rebuildRing (s : State) (n r : Nat) : State :=
  let a := s.ringEntry r
  if !s.inReserved a 64 ∨ s.le (a + 48) 1 = 0 ∨ 2 < s.le (a + 48) 1 then s
  else
    let open_ := (s.ringSlots n r).length
    s.setRing r { s.readEntry r with
                  state := s.le (a + 48) 1, err := s.le (a + 49) 1, sqHead := s.le (a + 32) 4, cqTail := s.le (a + 36) 4,
                  sqTailSeen := s.le (a + 40) 4, cqHeadSeen := s.le (a + 44) 4, handed := open_, finals := 0 }

/-- R418: mirrored intake entries that firmware had not consumed, placed again in the queue. [DEDUCED, log entry 55] -/
def State.rebuildIntake (s : State) (n : Nat) : State :=
  let es := (s.prt n).mirrored.map (fun a => s.le a 64)
  es.foldl (fun t d => t.toIntake n (BitVec.ofNat 512 d)) ((s.put fPART_INTAKE_IDX_TAIL n 0 0).put fPART_INTAKE_IDX_HEAD n 0 0)

/-- R417: takeover by the shadow: rebuild, PAIR_EPOCH, TAKEN_OVER, TAKEOVER logged, and START; the first release is numbered APPLIED + 1.
[DEDUCED, log entry 55] -/
def State.takeover (s : State) (n : Nat) : State :=
  let s1 := s.dropBatch n
  let slots := (List.range (s.get fPART_REQ_SLOTS_COUNT n 0)).map (fun i => s.get fPART_REQ_SLOTS_FIRST n 0 + i)
  let s2 := if (s1.prt n).pairMode = 1 then s1.initStore n else s1
  let s3 := slots.foldl (fun t q => t.rebuildSlot n q) s2
  let s4 := (List.range (s.get fPART_RINGS_COUNT n 0)).foldl (fun t i => t.rebuildRing n (s.get fPART_RINGS_FIRST n 0 + i)) s3
  let s5 := ((s4.rebuildIntake n).loadRegs n).captureLat n
  let s6 := (s5.put fPART_PAIR_STAT_PAIR_EPOCH n 0 (s.get fPART_PAIR_STAT_PAIR_EPOCH n 0 + 1)).setPair n 6
  let s7 := s6.log { code := 0x8A04, kind := 3, die := s.homeDie n, unit := 18, inst := n, part := n, expo := (s.prt n).nextExpo }
  let t := s7.startPart n
  let x := t.prt n
  t.setPrt n { x with tookOver := true, nextExpo := if x.nextExpo = 0 then t.get fPART_PAIR_STAT_APPLIED n 0 + 1 else x.nextExpo }

/-- FAULT_NOTICE (R415, R416): the partner is lost; a MIRRORED shadow takes over without a claim. -/
def State.recvFaultNotice (s : State) (n : Nat) : State :=
  if s.isShadow n ∧ (s.pairState n = 2 ∨ s.pairState n = 3) then
    let s1 := if s.pairState n = 2 then s.log { code := stPeerLost, kind := 5, die := s.homeDie n, unit := 18, inst := n, part := n } else s
    s1.takeover n
  else s.pairLose n

/-- The claim of a partition fails (R416). -/
def State.claimLost (s : State) (n : Nat) : State :=
  let s1 := s.claimFails n
  if s.isShadow n then s1 else s1.closeConns n

/-- WITNESS_ANSWER (R416). -/
def State.witness (s : State) (n : Nat) (grant : Bool) : State :=
  if s.pairState n ≠ 3 then s
  else if !grant then s.claimLost n
  else if s.isShadow n then s.takeover n
  else (s.setPair n 4).releaseAllHeld n

/-- CLAIM_TIMEOUT (R416): no answer within WITNESS_MS. -/
def State.claimTimeout (s : State) (n : Nat) : State := if s.pairState n = 3 then s.claimLost n else s

/-- PART_PAIR_FORCE_TAKEOVER (R416, R423): a shadow in CLAIMING, or UNPAIRED after loss. -/
def State.forceTake (s : State) (n : Nat) : State :=
  if s.isShadow n ∧ (s.pairState n = 3 ∨ (s.pairState n = 0 ∧ (s.prt n).pairLost)) then s.takeover n else s

/-! ### VOID (R402) -/

/-- VOID: forwarded where it is for another rank; else the exposure is voided, or its attempt 1 ended, or the message
logged where the exposure has committed. [DEDUCED, log entry 54; DEDUCED, log entry 57] -/
def State.recvVoid (s : State) (n : Nat) (m : PairMsg) : State :=
  if m.dstRank ≠ s.selfRank n ∧ (s.plan n).isSome then
    match s.routeHalf n m.dstRank with
    | some h => s.pairSendOn h (s.peerPart n h) n 12 0 m.srcRank m.dstRank m.expo []
    | none => s
  else
    let now := s.get fPART_EXPO_NOW_EXPO n 0
    if s.expoRuns n ∧ m.expo = now then
      if (s.prt n).attempt = 0 then s.voidFrom n 0 (some m.srcRank) else s.partTrigger n 0x0505
    else if now < m.expo ∨ (s.prt n).nextExpo = m.expo then s.setPrt n { s.prt n with voidNext := some (m.expo, m.srcRank) }
    else s.log { code := 0x8A01, kind := 5, die := s.homeDie n, unit := 18, inst := n, part := n, expo := m.expo }

/-! ### Weight blocks from the partner (R405) -/

/-- FETCH: a golden block sent where it is whole, else FETCH_FAIL. [UNVERIFIED, log entry 56] -/
def State.recvFetch (s : State) (n : Nat) (m : PairMsg) : State :=
  let e := ofLe ((ofBytes m.body).take 4)
  let i := ofLe (((ofBytes m.body).drop 4).take 4)
  let base := s.get fPART_GOLD_MAP_ADDR n 0
  let hbm := s.le (base + 16 * e) 6 + 4096 * i
  let ok := decide (e < s.get fPART_GOLD_CNT_ENTRIES n 0 ∧ i < s.le (base + 16 * e + 12) 4) && s.goldGood n e i hbm
  if ok then s.pairSend n 7 0 m.expo (s.bytes hbm 4096) else s.pairSend n 8 0 m.expo []

/-- FETCH_DATA: the block written to HBM whole, and the reload done again. -/
def State.recvFetchData (s : State) (n : Nat) (m : PairMsg) : State :=
  match (s.prt n).reloads with
  | hbm :: rest =>
    if m.body.length ≠ 4096 then s
    else ((s.setPrt n { s.prt n with reloads := rest }).write hbm (ofBytes m.body)).repairWeight n hbm
  | [] => s

/-- FETCH_FAIL and FETCH_TIMEOUT (R405, R406): the repair fails. -/
def State.fetchFails (s : State) (n : Nat) : State := if (s.prt n).reloads.isEmpty then s else s.goOffline n

/-! ### Messages by KIND (R412) -/

/-- A PAIR or CONTROL message delivered to partition `n`; a reserved KIND is discarded and logged. -/
def State.pairReceive (s : State) (n kind : Nat) (m : PairMsg) : State :=
  if !s.exists_ n then s
  else match kind with
    | 0 => s.mirrorNow n (ofBytes m.body)
    | 1 => s.mirrorState n (ofBytes m.body)
    | 2 => s.mirrorCommitEnd n m.expo (ofBytes m.body)
    | 3 => s.recvCommitAck n m.expo m.flags
    | 4 => s.mirrorNow n (ofBytes m.body)
    | 5 => s.recvSyncEnd n
    | 6 => s.recvFetch n m
    | 7 => s.recvFetchData n m
    | 8 => s.fetchFails n
    | 9 => s.recvHeartbeat n m.expo
    | 10 => s.recvHbAck n
    | 11 => s.recvFaultNotice n
    | 12 => s.recvVoid n m
    | _ => s.log { code := 0x8AFF, die := s.homeDie n, unit := 18, inst := n, part := n, detail := [kind] }

end Sys2Proof.Machine
end

