-- ==== Sys2Proof/Machine/Fabric.lean ====
section
/-! DEFINITION. Fabric: frames received by the port halves, the receiving side of Chenyx Block Transport, its re-sends
and give-ups, and MACsec keys (R344, R346–R348, R355, R358–R362). -/

namespace Sys2Proof.Machine

/-! ### The receiving side of a flow (R358–R360) -/

/-- Receiving side of a flow. -/
def State.rxFlow (s : State) (k : Nat) : RxFlow := smapGet (fun _ => RxFlow.init) k s.rx
/-- Receiving side of a flow replaced. -/
def State.setRx (s : State) (k : Nat) (f : RxFlow) : State := { s with rx := smapSet (fun _ => RxFlow.init) k f s.rx }

/-- R358: distance of a SEQ above another, mod 2^32. -/
def seqAhead (base q : Nat) : Nat := (q + 2 ^ 32 - base % 2 ^ 32) % 2 ^ 32

/-- R359: does the flow hold a SEQ already? -/
def RxFlow.has (f : RxFlow) (q : Nat) : Bool := decide (2 ^ 31 ≤ seqAhead f.cum q) || f.got.any (fun x => decide (x = q))

/-- CUM moved past every SEQ received. -/
def rxAdvance (f : RxFlow) : Nat → RxFlow
  | 0 => f
  | fuel + 1 =>
    if f.got.any (fun x => decide (x = f.cum)) then
      rxAdvance { f with cum := (f.cum + 1) % 2 ^ 32, got := f.got.filter (fun x => decide (x ≠ f.cum)) } fuel
    else f

/-- R360: a SEQ received and not yet covered by an ACK. -/
def rxTake (f : RxFlow) (q : Nat) : RxFlow :=
  rxAdvance { f with got := f.got ++ [q], since := f.since + 1, due := true } (f.got.length + 1)

/-- R360: the bitmap of an ACK. -/
def RxFlow.bitmap (f : RxFlow) : Nat :=
  f.got.foldl (fun a q => let d := seqAhead (f.cum + 1) q
                          if d < 256 then a ||| 2 ^ d else a) 0

/-- R360: an ACK of a flow sent, for the flow with engines and partitions swapped; a half that may send nothing holds it (R348). -/
def State.sendAck (s : State) (k : Nat) : State :=
  let f := s.rxFlow k
  let h := flowHalf k
  let s1 := s.setRx k { f with since := 0, due := false, ackHeld := !s.maySend h }
  if s.maySend h then
    ((s1.emit (.cbtAck h (flowCls k) (flowDst k) (flowSrc k) f.epoch f.cum f.bitmap)).dens (170 + h) 1 (s1.frameLen h 40)).usePn h
  else s1

/-- ACKs that a half has held. -/
def State.heldAcks (s : State) (h : Nat) : State :=
  (s.rx.filter (fun e => decide (flowHalf e.1 = h) && e.2.ackHeld)).foldl (fun t e => t.sendAck e.1) s

/-- CBT_ACK_TIMER (R360). -/
def State.ackTimer (s : State) (k : Nat) : State := if (s.rxFlow k).due then s.sendAck k else s

/-! ### The checks on a frame (R359) -/

/-- R359: the first check that a frame fails, or 0; `epoch` is the flow's. -/
def State.cbtCheck (s : State) (h : Nat) (m : CbtHdr) (epoch : Nat) : Nat :=
  let mac := !s.protected_ h || (m.macsecOk && (s.sec h).sak)
  if !m.fcsOk then 1
  else if !mac then 2
  else if !m.addrOk ∨ (s.halfKind h ≠ 2 ∧ s.halfKind h ≠ 3) ∨ !s.matched h then 3
  else if !m.crcOk then 4
  else if !m.wellFormed ∨ 4 ≤ m.cls then 5
  else if m.srcEngine ≠ s.nbrEngine h ∨ m.dstEngine ≠ s.g fGLOBAL_ENGINE_ID_ENGINE_ID ∨
      (s.halfKind h = 2 ∧ !(match s.plan m.dstPart with
        | some p => (match p.use h with
          | some u => decide (u.2.2.1 = m.srcPart)
          | none => false)
        | none => false)) ∨
      (s.halfKind h = 3 ∧ m.cls < 2) then 6
  else if m.epoch < epoch then 7
  else 0

/-- R359, R366: the event that counts a failed check. [DEDUCED, log entry 25] -/
def checkEvent (c : Nat) : Nat :=
  if c = 1 then 3 else if c = 2 then 4 else if c = 4 then 5 else if c = 5 then 6 else if c = 7 then 8 else 7

/-- A failed check counted; a failed check 5 logs at most once per flow and minute. -/
def State.cbtFail (s : State) (h k c : Nat) : State :=
  let s1 := s.dens (170 + h) (checkEvent c) 1
  if c = 6 then
    let f := s1.rxFlow k
    if f.loggedAt = 0 ∨ f.loggedAt + 60000000000 ≤ s1.now then
      (s1.setRx k { f with loggedAt := s1.now }).log
        { code := 0x8504, die := dieOfHalf h, unit := 13, inst := h, detail := leBytes 4 k }
    else s1
  else s1

/-- Bytes of a frame received, and its ECN mark once the frame itself is good (R361, R366). [DEDUCED, log entry 51; DESIGN CHOICE, log entry 73] -/
def State.cbtArrive (s : State) (h : Nat) (m : CbtHdr) (len : Nat) : State :=
  let s1 := s.dens (170 + h) 2 (s.frameLen h len)
  s1.dens (170 + h) 11 (if m.fcsOk ∧ m.ecn then 1 else 0)

/-! ### DATA (R359–R362) -/

/-- R412: a PAIR or CONTROL message as its header has it. -/
def readPair (bs : List Nat) : PairMsg :=
  { attempt := bs.getD 2 0, flags := bs.getD 3 0, srcRank := ofLe ((bs.drop 4).take 2), dstRank := ofLe ((bs.drop 6).take 2),
    expo := ofLe ((bs.drop 8).take 8), seq := ofLe ((bs.drop 20).take 4), body := toBytes ((bs.drop 32).take (ofLe ((bs.drop 16).take 4))) }

/-- A complete message given to its owner: the Carrier for CARRIER and GRAD, the pair unit for PAIR and CONTROL. -/
def State.cbtDeliver (s : State) (n cls attempt : Nat) (poison : Bool) (body : List Byte) : State :=
  if cls < 2 then (s.carrReceive n { attempt := attempt, poison := poison, body := body }).wake n
  else
    let bs := ofBytes body
    if bs.length < 32 then s else s.pairReceive n (bs.getD 0 0) (readPair bs)

/-- R359: the blocks of a message are held from block 0 to the one with LAST. -/
def msgComplete (bs : List RxBlock) : Bool :=
  match bs.find? (fun b => b.last) with
  | none => false
  | some l => (List.range (l.offset + 1)).all (fun i => bs.any (fun b => decide (b.offset = i)))

/-- The body of a complete message. -/
def msgBody (bs : List RxBlock) : List Byte :=
  (List.range bs.length).flatMap (fun i => ((bs.find? (fun b => decide (b.offset = i))).map (fun b => b.body)).getD [])

/-- R362: does the destination partition judge a block by its exposure? A shadow that copies its partner releases no
exposure of its own. [DEDUCED, log entry 51] -/
def State.hasWindow (s : State) (n : Nat) : Bool := !(s.isShadow n && decide (1 ≤ s.pairState n ∧ s.pairState n ≤ 3))

/-- An ACK sent once 32 blocks wait for one (R360). -/
def State.ackFull (s : State) (k : Nat) : State := if 32 ≤ (s.rxFlow k).since then s.sendAck k else s

/-- CBT_DATA (R359–R362). -/
def State.recvData (s : State) (h : Nat) (m : CbtMsg) : State :=
  if !s.halfOn h || !s.halfLink h then s
  else
    let k := flowKey h m.hdr.cls m.hdr.srcPart m.hdr.dstPart
    let s1 := s.cbtArrive h m.hdr m.body.length
    let c := s1.cbtCheck h m.hdr (s1.rxFlow k).epoch
    if c ≠ 0 then s1.cbtFail h k c
    else
      let f0 := s1.rxFlow k
      let f := if f0.epoch < m.hdr.epoch then { RxFlow.init with epoch := m.hdr.epoch, loggedAt := f0.loggedAt } else f0
      let n := m.hdr.dstPart
      let now := s1.get fPART_EXPO_NOW_EXPO n 0
      if f.has m.seq then ((s1.setRx k f).dens (170 + h) 9 1).sendAck k
      else if s1.hasWindow n && decide (now + 1 < m.expo) then s1.setRx k f
      else if s1.hasWindow n && decide (m.expo + 1 < now) then ((s1.setRx k (rxTake f m.seq)).dens (170 + h) 8 1).ackFull k
      else
        let b : RxBlock := { msg := m.msg, offset := m.offset, last := m.last, poison := m.poison, expo := m.expo, attempt := m.attempt, body := m.body }
        let g := rxTake f m.seq
        let same (x : RxBlock) : Bool := decide (x.msg = m.msg ∧ x.expo = m.expo ∧ x.attempt = m.attempt)
        let held := g.held ++ [b]
        let whole := held.filter same
        if msgComplete whole then
          (((s1.setRx k { g with held := held.filter (fun x => !same x) }).ackFull k).cbtDeliver n m.hdr.cls m.attempt
            (whole.any (fun x => x.poison)) (msgBody whole))
        else (s1.setRx k { g with held := held }).ackFull k

/-! ### Re-sends and give-ups (R361) -/

/-- R361: a flow gives up: FAB_FLOW_BROKEN with the flow and the first lost SEQ, its owner told, the next epoch begun. -/
def State.giveUp (s : State) (k : Nat) : State :=
  match (s.txFlow k).blocks with
  | [] => s
  | b :: _ =>
    ((s.cutFlow k).log { code := 0x8502, die := dieOfHalf (flowHalf k), unit := 13, inst := flowHalf k, part := flowSrc k,
                         detail := leBytes 4 k ++ leBytes 4 b.seq }).flowLost k

/-- R361: one block re-sent. -/
def State.resendBlock (s : State) (k seq : Nat) : State :=
  let f := s.txFlow k
  match f.blocks.find? (fun b => decide (b.seq = seq)) with
  | none => s
  | some b =>
    (s.setTx k { f with blocks := f.blocks.map (fun x => if x.seq = seq then { x with resends := x.resends + 1 } else x) }).emitBlock k b true

/-- May a block be re-sent now: its half MATCHED and able to send (R348, R354)? [DEDUCED, log entry 51] -/
def State.canResend (s : State) (k : Nat) : Bool := s.matched (flowHalf k) && s.maySend (flowHalf k)

/-- R361: blocks to be re-sent; one that has been re-sent MAX_RESEND times makes the flow give up. -/
def State.resendAll (s : State) (k : Nat) (qs : List Nat) : State :=
  if !s.canResend k then s
  else if ((s.txFlow k).blocks).any (fun b => qs.any (fun q => decide (q = b.seq)) && decide (s.g fFAB_CBT_CFG_MAX_RESEND ≤ b.resends)) then s.giveUp k
  else qs.foldl (fun t q => t.resendBlock k q) s

/-- CBT_RTO (R361): a sent block has no ACK for RTO_US. [DEDUCED, log entry 51] -/
def State.rto (s : State) (k seq : Nat) : State :=
  if ((s.txFlow k).blocks).any (fun b => decide (b.seq = seq) && b.sent) then s.resendAll k [seq] else s

/-- CBT_GIVEUP_TIMEOUT (R361): a block of the flow has been queued for GIVEUP_US. -/
def State.giveUpTimeout (s : State) (k : Nat) : State := s.giveUp k

/-- R360: has an ACK a SEQ received? -/
def ackHas (cum bitmap q : Nat) : Bool :=
  decide (2 ^ 31 ≤ seqAhead cum q) || (decide (q ≠ cum % 2 ^ 32) && decide (seqAhead (cum + 1) q < 256) && bitmap.testBit (seqAhead (cum + 1) q))

/-- R360, R361, R371: an ACK frees the blocks it covers, and the outbound bytes forwarded messages held for them. -/
def State.ackFree (s : State) (k cum bitmap : Nat) : State :=
  let f := s.txFlow k
  let gone := f.blocks.filter (fun b => b.sent && ackHas cum bitmap b.seq)
  let fwd := gone.foldl (fun a b => a + b.fwd) 0
  let s1 := s.setTx k { f with blocks := f.blocks.filter (fun b => !(b.sent && ackHas cum bitmap b.seq)) }
  if fwd = 0 then s1 else s1.setCarr (flowSrc k) { s1.carrOf (flowSrc k) with used := (s1.carrOf (flowSrc k)).used - fwd }

/-- R361: sent blocks an ACK shows missing while it shows a later one received. -/
def ackGaps (f : TxFlow) (cum bitmap : Nat) : List Nat :=
  ((f.blocks.filter (fun b => b.sent && (List.range 256).any (fun i => bitmap.testBit i && decide (seqAhead cum b.seq < i + 1)))).map
    (fun b => b.seq))

/-- CBT_ACK (R360, R361): the flow acknowledged is the one with engines and partitions swapped. -/
def State.recvAckBlock (s : State) (h : Nat) (m : CbtAckMsg) : State :=
  if !s.halfOn h || !s.halfLink h then s
  else
    let k := flowKey h m.hdr.cls m.hdr.dstPart m.hdr.srcPart
    let s1 := s.cbtArrive h m.hdr 40
    let c := s1.cbtCheck h m.hdr (s1.txFlow k).epoch
    if c ≠ 0 then s1.cbtFail h (flowKey h m.hdr.cls m.hdr.srcPart m.hdr.dstPart) c
    else if m.hdr.epoch ≠ (s1.txFlow k).epoch then s1
    else
      let s2 := s1.ackFree k m.cum m.bitmap
      ((s2.resendAll k (ackGaps (s2.txFlow k) m.cum m.bitmap)).pump k).wake (flowSrc k)

/-! ### PAUSE and MACsec keys (R344, R347, R348) -/

/-- PAUSE_FRAME (R344): dropped; the 64 bytes of the frame count as received. [DEDUCED, log entry 51] -/
def State.pauseFrame (s : State) (h : Nat) : State :=
  if s.halfOn h && s.halfLink h then s.dens (170 + h) 2 64 else s

/-- MACSEC_SAK_INSTALL (R347, R348): MKA installs a SAK: packet numbers start again, at most two association numbers are
in use, and held blocks go. -/
def State.installSak (s : State) (h an : Nat) : State :=
  if s.get fFAB_MACSEC_CFG_ENABLE (h / 2) (h % 2) = 0 then s
  else
    let m := s.sec h
    let ans := (m.ans.filter (fun a => decide (a ≠ an))) ++ [an]
    (s.setSec h { ever := true, sak := true, exhausted := false, pn := 0, ans := ans.drop (ans.length - 2) }).heldAcks h |>.pumpHalf h

end Sys2Proof.Machine
end

