-- ==== Sys2Proof/Machine/Security.lean ====
section
/-! DEFINITION. Security: the light-leak alarm, lock and fog, signed tokens, model packages and SPDM
(R425–R447). -/

namespace Sys2Proof.Machine

/-! ### Zeroed and decrypted ranges (R435, R443) -/

/-- Every line of a range rewritten: no error known of it. -/
def State.healRange (s : State) (a n : Nat) : State :=
  { s with lineErr := s.lineErr.filter (fun e => !decide (a ≤ e.1 ∧ e.1 < a + n)) }
/-- A range zeroed. [DEDUCED, log entry 60] -/
def State.zeroRange (s : State) (a n : Nat) : State := { (s.healRange a n) with mem := s.mem.zero a n }

/-- Ranges that fog zeroes: all HBM, all trays, and the Drawer before and behind the error log (R443). [DEDUCED, log entry 60] -/
def State.fogRanges (s : State) : List (Nat × Nat) :=
  let a := s.g fREL_LOG_BASE
  let b := a + 64 * 2 ^ s.g fREL_LOG_LOG2
  let dEnd := drawerBase + 0x4000000000
  [(0, 0x00C000000000), (trayBase, 0x40000000)] ++
  (if s.inReserved a (b - a) then [(drawerBase, a - drawerBase), (b, dEnd - b)] else [(drawerBase, 0x4000000000)])

/-! ### LOCK (R442) -/

/-- A partition stopped at once and returned to CREATED; what waited for its next commit takes effect (R252, R278). -/
def State.lockPart (s : State) (n : Nat) : State :=
  let s1 := s.discardExposure n
  let s2 := s1.setPrt n { s1.prt n with stopping := false }
  if s2.isRunning n then ((s2.setPartState n 1).loadRegs n).disableWaiting n else s2

/-- R442: the engine enters LOCKED; `records` says whether requests are told. -/
def State.enterLocked (s : State) (records : Bool) : State :=
  if s.locked then s
  else
    let ns := (List.range 16).filter (fun n => s.exists_ n)
    let s1 := ({ s with vault := { s.vault with locked := true } } : State).put fSEC_STAT_LOCKED 0 0 1
    let s2 := ns.foldl (fun t n => t.lockPart n) s1
    if records then ns.foldl (fun t n => if t.pairState n = 2 then t else t.endAll n stSecurityLock) s2 else s2

/-! ### Fog (R443) -/

/-- R443 step 1: keys erased, links without a SAK, front-end connections reset, a decryption cut short. -/
def State.eraseKeys (s : State) (all : Bool) : State :=
  let v := s.vault
  let s1 := { s with vault := { v with content := [], feKey := v.feKey && !all, fogged := v.fogged || all, pkg := none }, conns := [] }
  let s2 := s1.macsec.foldl (fun t e => t.setSec e.1 { e.2 with sak := false }) s1
  let s3 := if v.pkg.isSome then (s2.put fSEC_PKG_CTRL_BUSY 0 0 0).put fSEC_PKG_CTRL_STATUS 0 0 stKeyErased else s2
  if all then s3.put fSEC_STAT_FOGGED_ALL 0 0 1 else s3

/-- R443 step 2: a partition destroyed without a record. -/
def State.fogPart (s : State) (n : Nat) : State :=
  let s1 := s.discardExposure n
  ((s1.partSlots n).foldl (fun t q => t.setSlot q Slot.init) s1).removePart n

/-- R443: fog. While the zeroing runs the contents of the ranges are free. A fog in progress goes on; a stricter one
erases its further keys (R444). [DEDUCED, log entry 59; DEDUCED, log entry 60] -/
def State.fog (s : State) (all : Bool) : State :=
  let s1 := (s.enterLocked false).eraseKeys all
  if s.g fSEC_STAT_FOG_BUSY = 1 then s1
  else
    let ns := (List.range 16).filter (fun n => s1.exists_ n)
    let s2 := (ns.foldl (fun t n => t.fogPart n) s1)
    let s3 := { s2 with rings := s2.rings.filter (fun _ => false), tags := [], wcb := [], nearBands := [] }
    let s4 := s3.fogRanges.foldl (fun t r => (t.healRange r.1 r.2).openMem r.1 r.2) s3
    (s4.put fSEC_STAT_FOG_BUSY 0 0 1).moduleUpdate

/-- FOG_DONE (R443). [DEDUCED, log entry 60] -/
def State.fogDone (s : State) : State :=
  if s.g fSEC_STAT_FOG_BUSY = 0 then s
  else
    let s1 := s.fogRanges.foldl (fun t r => t.zeroRange r.1 r.2) s
    (s1.put fSEC_STAT_FOG_BUSY 0 0 0).log { code := 0x8706, kind := 4, unit := 19 }

/-! ### The alarm (R440, R441, R444) -/

/-- Policy of a source: 0 LOG, 1 LOCK, 2 FOG_SESSION, 3 FOG_ALL. -/
def State.alarmPolicy (s : State) (src : Nat) : Nat := bitsOf (s.g fSEC_ALARM_POLICY_POLICY) (2 * src) 2

/-- LIGHT_LEAK_ALARM (R440, R441, R444): the source logged and latched, and its policy applied over what is in force. [DEDUCED, log entry 58] -/
def State.alarm (s : State) (src : Nat) : State :=
  let p := s.alarmPolicy src
  let s1 := ((s.put fSEC_ALARM_STAT_LATCHED 0 0 (s.g fSEC_ALARM_STAT_LATCHED ||| 2 ^ src)).put fSEC_ALARM_STAT_LAST 0 0 src).log
    { code := 0x8702, kind := 4, unit := 19, detail := [src, p] }
  if p = 0 then s1
  else if p = 1 then s1.enterLocked true
  else s1.fog (decide (p = 3))

/-- R426: a failure of verification logged and counted; enough of them within 60 s fire SIGFAIL. [DEDUCED, log entry 58] -/
def State.sigFail (s : State) : State :=
  let now := s.now
  let fs := s.vault.sigFails.filter (fun t => decide (now < t + 60000000000)) ++ [now]
  let s1 := (({ s with vault := { s.vault with sigFails := fs } } : State).put fSEC_SIGFAIL_COUNT 0 0 (min fs.length 65535)).log
    { code := 0x8703, kind := 5, unit := 19 }
  if s1.g fSEC_SIGFAIL_LIMIT ≤ fs.length then s1.alarm 5 else s1

/-! ### Tokens (R439, R445) -/

/-- SEC_NONCE_READ (R439): a fresh value, which counts as the latest read. -/
def State.nonceRead (s : State) : State :=
  let r := s.fresh
  { (r.2.put fSEC_NONCE_NONCE 0 0 r.1) with vault := { r.2.vault with nonce := some (r.1, s.now) } }

/-- R439: the common conditions on a token of 1,152 bytes. [DESIGN CHOICE, log entry 61] -/
def State.tokenOk (s : State) (bs : List Nat) : Bool :=
  let part (i n : Nat) : List Nat := (bs.drop i).take n
  (match s.vault.nonce with
   | some (v, t) => decide (ofLe (part 8 8) = v ∧ s.now < t + 60000000000)
   | none => false) &&
  decide (ofLe (part 4 4) = s.g fGLOBAL_ENGINE_ID_ENGINE_ID) && Config.verify (part 128 512) (part 0 640) (part 640 512)

/-- PLATE_DEBUG.ACC_VISIBLE of every plate. -/
def State.setVisible (s : State) (v : Nat) : State := (List.range 128).foldl (fun t p => t.put fPLATE_DEBUG_ACC_VISIBLE p 0 v) s

/-- R439: a DEBUG token accepted. -/
def State.debugUnlock (s : State) (bs : List Nat) : State :=
  let s1 := if ofLe ((bs.drop 24).take 4) % 2 = 1 then s.setVisible 1 else s
  ((({ s1 with vault := { s1.vault with debugEnd := ofLe ((bs.drop 16).take 8) } } : State).put fSEC_STAT_DEBUG 0 0 1).extendSlot 14 [1]).log
    { code := 0x8705, kind := 5, unit := 19 }

/-- R439: does a DEBUG token's further condition hold: the Santozor debug key, no partition, not LOCKED? -/
def State.debugOk (s : State) (bs : List Nat) : Bool :=
  decide ((bs.drop 128).take 512 = Config.debugKey) && !(List.range 16).any (fun n => s.exists_ n) && !s.locked

/-- R445: do a LOCK_CLEAR token's further conditions hold: the operator's key, the current measurements? -/
def State.clearOk (s : State) (bs : List Nat) : Bool :=
  decide (leBytes 64 (sha512 ((bs.drop 128).take 512)) = ((List.range 8).map (fun j => leBytes 8 (s.get fSEC_OPER_KEY_DIGEST 0 j))).flatten ∧
    (bs.drop 64).take 64 = leBytes 64 (sha512 ((s.vault.slots.take 5).map (leBytes 64)).flatten))

/-- R445: a lock cleared, unless FOG_ALL has occurred (R443). [DEDUCED, log entry 58] -/
def State.clearLock (s : State) : State :=
  if s.vault.fogged || !s.locked then s
  else (({ s with vault := { s.vault with locked := false } } : State).put fSEC_STAT_LOCKED 0 0 0).log { code := 0x8707, kind := 4, unit := 19 }

/-- SEC_TOKEN.SUBMIT (R439, R440, R445): the token at SEC_TOKEN.ADDR checked and applied; the nonce is used up; any token of
either kind fires the DEBUG source first. [DEDUCED, log entry 58] -/
def State.submitToken (s : State) : State :=
  let a := s.g fSEC_TOKEN_ADDR
  let bs := if s.inReserved a 1152 then s.bytes a 1152 else []
  let kind := ofLe (bs.take 2)
  let ok := s.tokenOk bs
  let s1 := { s with vault := { s.vault with nonce := none } }
  let s2 := if kind = 1 ∨ kind = 2 then s1.alarm 6 else s1
  if kind = 1 ∧ ok ∧ s2.debugOk bs then s2.debugUnlock bs
  else if kind = 2 ∧ ok ∧ s2.clearOk bs then s2.clearLock
  else s2.sigFail

/-- KIND of the token at SEC_TOKEN.ADDR. -/
def State.tokenKind (s : State) : Nat := if s.inReserved (s.g fSEC_TOKEN_ADDR) 1152 then s.le (s.g fSEC_TOKEN_ADDR) 2 else 0

/-- DEBUG_TOKEN (R439): a submission of anything but a LOCK_CLEAR token. -/
def State.debugToken (s : State) : State := if s.tokenKind = 2 then s else s.submitToken
/-- LOCK_CLEAR_TOKEN (R445). -/
def State.lockClearToken (s : State) : State := if s.tokenKind = 2 then s.submitToken else s

/-- DEBUG_UNLOCK_EXPIRY (R439): the clock runs up to EXPIRY; slot 14 keeps its value. [DESIGN CHOICE, log entry 10] -/
def State.debugExpiry (s : State) : State :=
  if s.g fSEC_STAT_DEBUG = 0 then s
  else
    let t := s.elapse (edgesTo s.timer.master s.vault.debugEnd)
    (({ t with vault := { t.vault with debugEnd := 0 } } : State).setVisible 0).put fSEC_STAT_DEBUG 0 0 0

/-- SEC_EXTEND (R430, R447): slots 5–12, with a 64-byte digest in the reserved range; other writes are ignored. [DEDUCED, log entry 59] -/
def State.secExtend (s : State) (slot a : Nat) : State :=
  if 5 ≤ slot ∧ slot ≤ 12 ∧ a % 64 = 0 ∧ s.inReserved a 64 then s.extendSlot slot (s.bytes a 64) else s

/-! ### Model packages (R434, R435) -/

/-- R434: DATA_OFF and PLAIN_BYTES of the package at an address. -/
def State.pkgSizes (s : State) (a : Nat) : Nat × Nat := (s.le (a + 4) 4, s.le (a + 16) 8)

/-- Does a package's source lie in the reserved range or in the partition's HBM range? -/
def State.pkgSrcOk (s : State) (n a len : Nat) : Bool := s.inReserved a len || s.inHbm n a len

/-- The vault's package and SEC_PKG_CTRL.BUSY and STATUS set. -/
def State.setPkg (s : State) (p : Option (Nat × Nat × Nat × Nat)) (status : Nat) : State :=
  (({ s with vault := { s.vault with pkg := p } } : State).put fSEC_PKG_CTRL_BUSY 0 0 (if p.isSome then 1 else 0)).put fSEC_PKG_CTRL_STATUS 0 0 status

/-- SEC_PKG_CTRL_START (R435): one package at a time; the ranges checked first; after FOG_ALL the package key is gone. [DEDUCED, log entry 59] -/
def State.pkgStart (s : State) (n : Nat) : State :=
  if s.g fSEC_PKG_CTRL_BUSY = 1 then s
  else
    let src := s.g fSEC_PKG_SRC_ADDR
    let dst := s.g fSEC_PKG_DST_ADDR
    let z := s.pkgSizes src
    let s1 := s.put fSEC_PKG_CTRL_PART 0 0 n
    if !s.pkgSrcOk n src 576 ∨ !s.pkgSrcOk n src (z.1 + z.2) ∨ !s.inHbm n dst z.2 ∨ rangesMeet src (z.1 + z.2) dst z.2 then s1.setPkg none 0x0704
    else if s.vault.fogged then s1.setPkg none stKeyErased
    else s1.setPkg (some (n, src, dst, z.2)) 0

/-- SEC_PKG_DONE (R434, R435): the plaintext stands at the destination and the content key in the vault; on a failure the
`chunks` already written are zeroed and the failure counts toward SIGFAIL. [DEDUCED, log entry 59] -/
def State.pkgDone (s : State) (ok : Bool) (chunks : Nat) : State :=
  match s.vault.pkg with
  | none => s
  | some (n, _, dst, size) =>
    if ok then
      let s1 := ((s.healRange dst size).openMem dst size).setPkg none 0
      { s1 with vault := { s1.vault with content := s1.vault.content.filter (fun m => decide (m ≠ n)) ++ [n] } }
    else ((s.zeroRange dst (min size (chunks * 2 ^ 26))).setPkg none stAuthFail).sigFail

/-! ### SPDM (R431, R443) -/

/-- An SPDM response. [PRESUMED, log entry 40; PRESUMED, log entry 69] -/
def State.spdm (s : State) (code : Nat) (body : List Nat) : State := s.emit (.response 1 code body)
/-- ERROR with a code: 0x01 InvalidRequest, 0x03 Busy, 0x05 Unspecified, 0x07 UnsupportedRequest. [PRESUMED, log entry 40] -/
def State.spdmError (s : State) (e : Nat) : State := s.spdm 0x7F [e]
/-- A request served unless fog is busy (R443); `ik` says whether it needs the identity key. -/
def State.spdmServe (s : State) (ik : Bool) (t : State) : State :=
  if s.g fSEC_STAT_FOG_BUSY = 1 then s.spdmError 0x03 else if ik && s.vault.fogged then s.spdmError 0x05 else t

/-- GET_VERSION: version 1.3. [PRESUMED, log entry 40] -/
def State.spdmVersion (s : State) : State := s.spdmServe false (s.spdm 0x04 [0x13])
/-- GET_CAPABILITIES: CERT, CHAL, and MEAS with signature. [PRESUMED, log entry 40] -/
def State.spdmCaps (s : State) : State := s.spdmServe false (s.spdm 0x61 (leBytes 4 0x16))
/-- NEGOTIATE_ALGORITHMS: SHA-512 measurements, RSAPSS_4096, SHA-512. [PRESUMED, log entry 40] -/
def State.spdmAlgs (s : State) : State := s.spdmServe false (s.spdm 0x63 (leBytes 4 0x08 ++ leBytes 4 0x40 ++ leBytes 4 0x04))
/-- GET_DIGESTS: slot 0. -/
def State.spdmDigests (s : State) : State := s.spdmServe false (s.spdm 0x01 ([1] ++ leBytes 64 (sha512 ikChain)))
/-- GET_CERTIFICATE: a portion of the IK chain and the bytes that remain behind it. [PRESUMED, log entry 40] -/
def State.spdmCert (s : State) (off len : Nat) : State :=
  s.spdmServe false (
    if ikChain.length ≤ off then s.spdmError 0x01
    else
      let bs := (ikChain.drop off).take len
      s.spdm 0x02 ([0] ++ leBytes 2 bs.length ++ leBytes 2 (ikChain.length - off - bs.length) ++ bs))
/-- CHALLENGE: signed with IK; only certificate slot 0 exists. -/
def State.spdmChallenge (s : State) (slot nonce : Nat) : State :=
  s.spdmServe true (
    if slot ≠ 0 then s.spdmError 0x01
    else
      let r := s.fresh
      let g := r.2.sign
      g.2.spdm 0x03 ([0] ++ leBytes 64 (sha512 ikChain) ++ leBytes 8 r.1 ++ leBytes 32 nonce ++ g.1))

/-- R431: measurement block `i`: slots 0–15, then SEC_STAT bits [15:0] as eight raw bytes. -/
def State.measBlock (s : State) (i : Nat) : List Nat :=
  if i ≤ 16 then leBytes 64 (s.vault.slots.getD (i - 1) 0) else leBytes 8 ((s.reg (fldAddr fSEC_STAT_LOCKED 0 0)).toNat % 65536)

/-- GET_MEASUREMENTS: the number of blocks, all of them, or one; signed with IK. -/
def State.spdmMeas (s : State) (index nonce : Nat) : State :=
  s.spdmServe true (
    if 17 < index ∧ index ≠ 255 then s.spdmError 0x01
    else
      let g := s.sign
      let body := if index = 0 then [17] else if index = 255 then ((List.range 17).map (fun i => s.measBlock (i + 1))).flatten else s.measBlock index
      g.2.spdm 0x60 ([index] ++ body ++ leBytes 32 nonce ++ g.1))

/-- Any other request (R431). -/
def State.spdmOther (s : State) : State := s.spdmServe false (s.spdmError 0x07)

end Sys2Proof.Machine
end

