-- ==== Sys2Proof/Machine/Power.lean ====
section
/-! DEFINITION. Power: input, rails, resets, the boot stages before settings, drain, and the power governor
(R428–R430, R448–R460, R492, R495). -/

namespace Sys2Proof.Machine

/-! ### Off and on (R448–R453) -/

/-- What the vault keeps without power, and at every reset (R425, R430, R451). -/
def Vault.kept (v : Vault) : Vault :=
  { Vault.init with locked := v.locked, fogged := v.fogged, svn := v.svn, preferred := v.preferred, once := v.once, feKey := v.feKey }

/-- SEC_STAT's fields that come from the vault (R447). -/
def State.vaultRegs (s : State) : State :=
  ((s.put fSEC_STAT_LOCKED 0 0 (if s.vault.locked then 1 else 0)).put fSEC_STAT_FOGGED_ALL 0 0 (if s.vault.fogged then 1 else 0)).put
    fSEC_STAT_SVN 0 0 s.vault.svn

/-- R451: the module goes OFF: nothing is kept but the flash and the vault's non-volatile store, and nothing is logged. [DESIGN CHOICE, log entry 4] -/
def State.powerOff (s : State) : State :=
  { State.reset with pending := s.pending, out := s.out, vault := s.vault.kept, flash := { s.flash with savedAt := 0 }, nextConn := s.nextConn,
                     free := s.free, supply := { Supply.init with main := 0, mated := s.supply.mated, presence := s.supply.presence, inRange := false, charged := false } }

/-- The supply with its main switch in PRECHARGE. -/
def State.precharge (s : State) : State :=
  { s with supply := { s.supply with main := 1, mated := true, inRange := false, charged := false } }

/-- R452: the main switch closes once presence is mated, the input in range and the precharge complete; BOOT begins. [DESIGN CHOICE, log entry 4; DEDUCED, log entry 62] -/
def State.tryClose (s : State) : State :=
  let u := s.supply
  if u.main = 1 ∧ u.presence ∧ u.inRange ∧ u.charged then
    (({ s with supply := { Supply.init with main := 2 } } : State).vaultRegs).log { code := 0x8B01, unit := 20, detail := [1, modBoot] }
  else s

/-- CONTACT_48V_MATE (R452). -/
def State.contactMate (s : State) : State := if s.supply.main = 0 then s.precharge else s

/-- PRECHARGE_COMPLETE (R452), with the input in units of 10 mV. -/
def State.prechargeDone (s : State) (vin : Nat) : State :=
  if s.supply.main ≠ 1 then s
  else ({ s with supply := { s.supply with charged := true, inRange := decide (4000 ≤ vin ∧ vin ≤ 6000) } } : State).tryClose

/-- PRECHARGE_TIMEOUT (R452). -/
def State.prechargeTimeout (s : State) : State := if s.supply.main = 1 then s.powerOff else s

/-- PRESENCE_MATED (R451, R492). [DEDUCED, log entry 62] -/
def State.presenceMated (s : State) : State :=
  let s1 := { s with supply := { s.supply with presence := true } }
  if s.supply.main = 0 ∧ s.supply.mated then s1.precharge else s1.tryClose

/-- PRESENCE_BREAK (R453, R457): the main switch opens. -/
def State.presenceBreak (s : State) : State :=
  let s1 := { s with supply := { s.supply with presence := false } }
  if s.supply.main = 0 then s1 else s1.powerOff

/-- INPUT_OUT_OF_RANGE (R448): below 36 V or above 60 V. Below 36 V the input no longer counts as mated. [DEDUCED, log entry 62] -/
def State.inputOut (s : State) (vin : Nat) : State :=
  if 3600 ≤ vin ∧ vin ≤ 6000 then s
  else
    let s1 := { s with supply := { s.supply with mated := s.supply.mated && decide (3600 ≤ vin) } }
    if s.supply.main = 0 then s1 else s1.powerOff

/-- INPUT_OVERCURRENT (R448). -/
def State.overcurrent (s : State) : State := if s.supply.main = 0 then s else s.powerOff

/-- INPUT_RANGE (R448): below 40 V for more than 1 ms, at or above 36 V. -/
def State.inputRange (s : State) (vin : Nat) : State :=
  if vin < 3600 ∨ 4000 ≤ vin then s
  else ((s.put fPWR_INPUT_VIN 0 0 vin).log { code := 0x8B02, unit := 20, detail := leBytes 2 vin }).enterFault 6

/-! ### Rails (R449, R450) -/

/-- R449: the step of a rail. -/
def railStep (r : Nat) : Nat := if r < 2 then 1 else if r < 3 then 2 else if r < 5 then 3 else if r < 9 then 4 else 5

/-- Is a rail power-good? -/
def State.railGood (s : State) (r : Nat) : Bool := (s.g fPWR_STAT_RAIL_PG).testBit r

/-- RAIL_POWER_GOOD (R449): a step begins only when every rail of the step before it is power-good. -/
def State.railUp (s : State) (r : Nat) : State :=
  if (List.range 13).all (fun q => decide (railStep r ≤ railStep q) || s.railGood q) then s.put fPWR_STAT_RAIL_PG 0 0 (s.g fPWR_STAT_RAIL_PG ||| 2 ^ r) else s

/-- RAIL_FAULT (R450): the main switch opens, without any record or log entry. -/
def State.railFault (s : State) : State := if s.supply.main = 2 then s.powerOff else s

/-- R453: PWRGD. -/
def State.pwrgd (s : State) : Bool := decide (s.supply.main = 2 ∧ s.g fPWR_STAT_RAIL_PG = 0x1FFF)
/-- R453: is ALARM_N driven low? -/
def State.alarmLow (s : State) : Bool :=
  decide (s.supply.main = 2) && (decide (s.g fPWR_STATE_STATE = modFault) || s.locked || decide (s.g fSEC_ALARM_STAT_LATCHED ≠ 0))
/-- R453, R456: is REMOVE_OK_N driven low? [DEDUCED, log entry 62] -/
def State.removeOkLow (s : State) : Bool := decide (s.supply.main = 2 ∧ s.g fPWR_STATE_DRAINED = 1)

/-! ### Warm reset (R454) -/

/-- R454: a warm reset: every register and volatile store at its reset value, rails on, BOOT. The timebase runs on; what
memory holds is no longer known; a fog in progress goes on (R444). [DEDUCED, log entry 63] -/
def State.warmReset (s : State) : State :=
  if s.supply.main ≠ 2 then s
  else
    let clk (c : Clock) : Clock := { c with rate := 0, pending := none }
    let old := s.g fPWR_STATE_STATE
    let s1 : State :=
      { State.reset with
        pending := s.pending, out := s.out, mem := s.mem, vault := s.vault.kept, flash := s.flash, nextConn := s.nextConn, free := s.free,
        timer := { Timer.init with master := clk s.timer.master, replicas := s.timer.replicas.map clk, strobe := s.timer.strobe },
        supply := { Supply.init with resetLow := s.supply.resetLow, mated := s.supply.mated, presence := s.supply.presence } }
    let s2 := ((s1.openBytes 0 0x00C000000000).openBytes drawerBase 0x4000000000).openBytes trayBase 0x40000000
    let keep (t : State) (f : Fld) (i k : Nat) : State := t.put f i k (s.get f i k)
    let s2 := (List.range 3).foldl (fun t l =>
      [fGLOBAL_UCIE_STAT_ACTIVE, fGLOBAL_UCIE_STAT_DEGRADED, fGLOBAL_UCIE_STAT_RETRAINS, fGLOBAL_UCIE_STAT_REPAIRED].foldl (fun u f => keep u f 0 l) t) s2
    let s2 := (List.range 8).foldl (fun t h => keep t fHBM_STAT_OFFLINE h 0) s2
    let s3 := ((s2.vaultRegs).put fPWR_STAT_RAIL_PG 0 0 (s.g fPWR_STAT_RAIL_PG)).put fSEC_STAT_FOG_BUSY 0 0 (s.g fSEC_STAT_FOG_BUSY)
    if old = modBoot then s3 else s3.log { code := 0x8B01, unit := 20, detail := [old, modBoot] }

/-- RESET_N (R453, R495): a low of 10 µs; ignored while OFF or in PRECHARGE. [DEDUCED, log entry 63] -/
def State.resetN (s : State) : State :=
  if s.supply.main ≠ 2 then s else ({ s with supply := { s.supply with resetLow := true } } : State).warmReset

/-- RESET_N_RELEASE (R495). -/
def State.resetRelease (s : State) : State := { s with supply := { s.supply with resetLow := false } }

/-- BOOT_WATCHDOG (R452): READY not reached within 300 s. A module whose banks have both failed stays in BOOT. [DEDUCED, log entry 63] -/
def State.bootWatchdog (s : State) : State :=
  if s.g fPWR_STATE_STATE = modBoot ∧ !s.supply.stuck then s.warmReset.log { code := 0x8B05, unit := 20 } else s

/-! ### Boot stages 1 and 2 (R428–R430, R470) -/

/-- R430: a slot extended with data whose SHA-512 digest is given. -/
def State.extendDigest (s : State) (i d : Nat) : State :=
  let v := s.vault
  { s with vault := { v with slots := v.slots.set i (sha512 (leBytes 64 (v.slots.getD i 0) ++ leBytes 64 d)) } }

/-- R429: the image of a bank verifies, and its SVN is not below the security version. [DESIGN CHOICE, log entry 61] -/
def State.bankOk (s : State) (r : BootScan) (bank : Nat) : Bool :=
  match if bank = 0 then r.bankA else r.bankB with
  | some v => r.vaultOk && decide (s.vault.svn ≤ v)
  | none => false

/-- SVN of a bank's image. -/
def scanSvn (r : BootScan) (bank : Nat) : Nat := (if bank = 0 then r.bankA else r.bankB).getD 0

/-- R426: a bank whose signature fails counts toward SIGFAIL. [DEDUCED, log entry 66] -/
def State.countBank (s : State) (r : BootScan) (bank : Nat) : State :=
  if (if bank = 0 then r.bankA else r.bankB).isNone then s.sigFail else s

/-- The supply's boot progress set. -/
def State.setStage (s : State) (n : Nat) (stuck second : Bool) : State :=
  { s with supply := { s.supply with stages := n, stuck := stuck, second := second } }

/-- R428, R470: the bank that stage 1 begins with, and is it a one-time request? -/
def State.firstBank (s : State) : Nat × Bool :=
  if s.supply.second then (s.g fSEC_STAT_BOOT_BANK, false)
  else match s.vault.once with
    | some b => (b, true)
    | none => (s.vault.preferred, false)

/-- Stage 1 goes on with a bank: slot 0, and BOOT_BANK_FALLBACK for one that is not preferred. [DEDUCED, log entry 66] -/
def State.bootFrom (s : State) (r : BootScan) (bank : Nat) (second : Bool) : State :=
  let s1 := ((s.put fSEC_STAT_BOOT_BANK 0 0 bank).extendDigest 0 r.digest).setStage 1 false second
  if bank ≠ s.vault.preferred ∧ !s.supply.second then s1.log { code := 0x8704, unit := 19, detail := [bank] } else s1

/-- BOOT_STAGE_1 (R428, R440, R470, R496): after step 3 of the rails; the lid latch, the vault, and the loader of the
preferred bank, or of the other. A one-time request is honoured at the next boot only. [DEDUCED, log entry 62] -/
def State.bootStage1 (s : State) (r : BootScan) : State :=
  if s.g fPWR_STATE_STATE ≠ modBoot ∨ s.supply.stages ≠ 0 ∨ s.supply.stuck ∨ !(List.range 5).all (fun i => s.railGood i) then s
  else
    let f := s.firstBank
    let s1 := if r.lidOpen then s.alarm 0 else s
    let s2 := if f.2 then ({ s1 with vault := { s1.vault with once := none } } : State).put fPWR_STATE_BOOT_TRY 0 0 1 else s1
    if s2.bankOk r f.1 then s2.bootFrom r f.1 s.supply.second
    else
      let s3 := s2.countBank r f.1
      if s.supply.second then s3.setStage 0 true true
      else if s3.bankOk r (1 - f.1) then s3.bootFrom r (1 - f.1) true
      else (s3.countBank r (1 - f.1)).setStage 0 true true

/-- BOOT_STAGE_2 (R428): firmware and microcode of the bank; a failure turns the boot to the other bank, once. [DEDUCED, log entry 66] -/
def State.bootStage2 (s : State) (r : BootScan) : State :=
  if s.g fPWR_STATE_STATE ≠ modBoot ∨ s.supply.stages ≠ 1 then s
  else
    let b := s.g fSEC_STAT_BOOT_BANK
    if s.bankOk r b then
      let s1 := { s with vault := { s.vault with fwSvn := scanSvn r b } }
      (r.ucode.foldl (fun t d => t.extendDigest 2 d) (s1.extendDigest 1 r.digest)).setStage 2 false s.supply.second
    else
      let s1 := s.countBank r b
      if s.supply.second then s1.setStage 0 true true
      else
        let s2 := (s1.put fSEC_STAT_BOOT_BANK 0 0 (1 - b)).setStage 0 false true
        if 1 - b ≠ s.vault.preferred then s2.log { code := 0x8704, unit := 19, detail := [1 - b] } else s2

/-! ### Drain (R456) -/

/-- PWR_CTRL_DRAIN and the Vetas command DRAIN (R456): a deadline of 1–3,600 s, 0 for 60 s; a later drain may only shorten
it. [DEDUCED, log entry 65] -/
def State.drain (s : State) (deadline : Nat) : State :=
  let st := s.g fPWR_STATE_STATE
  let at_ := s.now + (if deadline = 0 then 60 else deadline) * 1000000000
  if 3600 < deadline then s
  else if st = modDraining then { s with supply := { s.supply with drainAt := min s.supply.drainAt at_ } }
  else if st = modFault then (s.setModule modDraining).put fPWR_STATE_DRAINED 0 0 1
  else if st = modReady ∨ st = modServing then
    let s1 := ({ s with supply := { s.supply with drainAt := at_ }, drainDue := false } : State).setModule modDraining
    let ns := (List.range 16).filter (fun n => s1.exists_ n && s1.isShadow n && decide (1 ≤ s1.pairState n ∧ s1.pairState n ≤ 3))
    (ns.foldl (fun t n => t.pairDisable n) s1).moduleUpdate
  else s

/-- DRAIN_DEADLINE (R456): the clock runs up to the deadline. [DESIGN CHOICE, log entry 10; DEDUCED, log entry 65] -/
def State.drainDeadline (s : State) : State :=
  if s.draining then { (s.elapse (edgesTo s.timer.master s.supply.drainAt)) with drainDue := true } else s

/-- PWR_STATE.DRAIN_LEFT_S: seconds before the drain deadline. [DEDUCED, log entry 65] -/
def State.drainLeft (s : State) : Nat := if s.draining then ceilDiv (s.supply.drainAt - s.now) 1000000000 else 0

/-! ### The power governor (R459) -/

/-- The limit L. -/
def State.powerLimit (s : State) : Nat := min (s.g fPWR_CAP_CAP_W) 2000

/-- PWR_STAT.DUTY: the lowest duty over partitions. -/
def State.dutyStat (s : State) : State :=
  s.put fPWR_STAT_DUTY 0 0 (((List.range 16).filter (fun n => s.exists_ n)).foldl (fun m n => min m (s.get fPART_PWR_CAP_DUTY n 0)) 16)

/-- A partition's issue duty set; each change logs POWER_THROTTLE. -/
def State.setDuty (s : State) (n d : Nat) : State :=
  let old := s.get fPART_PWR_CAP_DUTY n 0
  if old = d then s else ((s.put fPART_PWR_CAP_DUTY n 0 d).dutyStat).log { code := 0x8B03, unit := 20, inst := n, part := n, detail := [old, d] }

/-- Existing partitions. -/
def State.allParts (s : State) : List Nat := (List.range 16).filter (fun n => s.exists_ n)

/-- R459: the slow loop's estimate of a duty that meets L has no stated value. [DESIGN CHOICE, log entry 64] -/
def State.estimateDuty (s : State) (n : Nat) : State := let r := s.fresh
                                                        r.2.setDuty n (r.1 % 17)

/-- POWER_SAMPLE (R448, R459): a 10 µs sample, in units of 10 mV, 10 mA and 1 W, and the fast loops. [DESIGN CHOICE, log entry 64] -/
def State.powerSample (s : State) (vin iin pinW : Nat) : State :=
  let s1 := ((s.put fPWR_INPUT_VIN 0 0 vin).put fPWR_INPUT_IIN 0 0 iin).put fPWR_INPUT_PIN_W 0 0 pinW
  let run := if s.powerLimit < pinW then s.supply.overRun + 1 else 0
  let s2 := if 2400 < pinW then s1.allParts.foldl (fun t n => t.setDuty n (t.get fPART_PWR_CAP_DUTY n 0 / 2)) s1 else s1
  let s3 := if 800 ≤ run then s2.allParts.foldl (fun t n => t.estimateDuty n) s2 else s2
  { s3 with supply := { s3.supply with overRun := if 800 ≤ run then 0 else run } }

/-- R459: a lowering in proportion to estimated power: each partition's share has no stated value. [DESIGN CHOICE, log entry 64] -/
def State.lowerShare (s : State) (n : Nat) : State :=
  let r := s.fresh
  r.2.setDuty n (r.1 % (r.2.get fPART_PWR_CAP_DUTY n 0 + 1))

/-- POWER_SLOW_LOOP (R459): partitions above their own cap first, then every partition; raised by 1/16 where the mean lies
5 % below the limit and the junctions 3 °C below theirs. [DESIGN CHOICE, log entry 64] -/
def State.powerSlow (s : State) (r : SlowLoop) : State :=
  let s1 := s.put fPWR_INPUT_P100_W 0 0 r.p100W
  if r.overTemp then s1.enterFault 6
  else
    let L := s1.powerLimit
    let cap (n : Nat) : Nat := s1.get fPART_PWR_CAP_CAP_W n 0
    let overCap := s1.allParts.filter (fun n => decide (cap n ≠ 0 ∧ cap n < r.partW.getD n 0))
    let hot := decide (L < r.p100W ∨ s1.g fPWR_CAP_JTHROT_C < r.tjC)
    if !overCap.isEmpty then overCap.foldl (fun t n => t.setDuty n (t.get fPART_PWR_CAP_DUTY n 0 - 1)) s1
    else if hot then s1.allParts.foldl (fun t n => t.lowerShare n) s1
    else if 100 * r.p100W ≤ 95 * L ∧ r.tjC + 3 ≤ s1.g fPWR_CAP_JTHROT_C then
      (s1.allParts.filter (fun n => decide (cap n = 0 ∨ 100 * r.partW.getD n 0 ≤ 95 * cap n))).foldl
        (fun t n => t.setDuty n (min 16 (t.get fPART_PWR_CAP_DUTY n 0 + 1))) s1
    else s1

/-! ### Droop (R460) -/

/-- DROOP_STRETCH (R460): the die's clock periods stretched by one quarter; logged at most once per 10 ms. -/
def State.droopStretch (s : State) (d : Nat) : State :=
  let u := s.supply
  if u.stretched.any (fun x => decide (x = d)) then s
  else
    let s1 := s.bump fPWR_STAT_STRETCHES 0 0 1
    let n := u.droops + 1
    if u.droopLog = 0 ∨ u.droopLog + 10000000 ≤ s.now then
      ({ s1 with supply := { u with stretched := u.stretched ++ [d], droops := 0, droopLog := s.now } } : State).log
        { code := 0x8B04, unit := 20, inst := d, detail := leBytes 4 n }
    else { s1 with supply := { u with stretched := u.stretched ++ [d], droops := n } }

/-- DROOP_RECOVER (R460). -/
def State.droopRecover (s : State) (d : Nat) : State :=
  { s with supply := { s.supply with stretched := s.supply.stretched.filter (fun x => decide (x ≠ d)) } }

end Sys2Proof.Machine
end

