-- ==== Sys2Proof/Machine/RegAccess.lean ====
section
/-! DEFINITION. RegAccess: reading and writing registers, with the actions their fields trigger (R5–R9, R37, R147, R248,
R260, R305, R389). -/

namespace Sys2Proof.Machine

/-! ### Reading (R6, R8, R439) -/

/-- R88, R106: PLATE_ACC_STAT.DRAINING: open storage that an ACC_DRAIN which has been issued names. -/
def State.drainingGroups (s : State) (p : Nat) : Nat :=
  openMask (s.plate p).groups &&& (((s.plate p).waiting.filter (fun w => decide (w.cmd.opc = 0x25))).foldl (fun m w => m ||| groupsMask w.cmd) 0)

/-- R88, R106: PLATE_ACC_STAT.OPEN: a 40-bit group sets the bits of both its packed numbers; a draining group is not open. -/
def State.openGroups (s : State) (p : Nat) : Nat := openMask (s.plate p).groups ^^^ s.drainingGroups p

/-- Commands of one unit that wait on a cluster's plates. -/
def State.queuedFor (s : State) (c unit : Nat) : Nat :=
  min 255 ((List.range 8).foldl (fun a i => a + ((s.plate (8 * c + i)).waiting.filter (fun w => decide (unitOf w.cmd.opc = unit))).length) 0)

/-- SEC_SIGFAIL.COUNT: failures in the current 60 s. -/
def State.sigFailCount (s : State) : Nat :=
  min 65535 (s.vault.sigFails.filter (fun t => decide (s.now < t + 60000000000))).length

/-- What a register reads as (R8): its stored value, a value that waits for a boundary, or what the engine computes. -/
def State.readWord (s : State) (addr : Nat) : Word64 :=
  match findReg addr with
  | none => 0
  | some r =>
    let v := s.reg addr
    if r.spec.name = "PLATE_ACC_STAT" then fieldPut (fieldPut v 0 32 (s.openGroups r.inst)) 32 32 (s.drainingGroups r.inst)
    else if r.spec.name = "SAFE_STAT" then fieldPut v 0 8 (s.queuedFor r.inst 4)
    else if r.spec.name = "DODGE_STAT" then fieldPut v 0 8 (s.queuedFor r.inst 7)
    else if r.spec.name = "ENL_STAT" then fieldPut v 0 8 (s.queuedFor r.inst 8)
    else if r.spec.name = "TIMER_NOW" then BitVec.ofNat 64 s.now
    else if r.spec.name = "SEC_SIGFAIL" then fieldPut v 8 16 s.sigFailCount
    else if r.spec.name = "PWR_STATE" then fieldPut v 32 32 s.drainLeft
    else if r.blk = .part then (smapGet (fun _ => none) addr (s.prt r.inst).later).getD v
    else v

/-- A register read: SEC_NONCE gives a fresh value at every read (R439). -/
def State.readReg (s : State) (addr : Nat) : Word64 × State :=
  if addr = fldAddr fSEC_NONCE_NONCE 0 0 then
    let t := s.nonceRead
    (t.reg addr, t)
  else (s.readWord addr, s)

/-! ### Writing (R8, R147, R248, R260, R305) -/

/-- Registers of a PART block that are read at CREATE: a write while the partition exists is ignored (R248, R260, R305). [DEDUCED, log entry 43] -/
def frozenRegs : List String :=
  ["PART_LAT_CFG", "PART_LAT_RANGE", "PART_LAT_POOL", "PART_LAT_PT", "PART_REQ_CFG", "PART_REQ_SLOTS", "PART_CIDX_CFG", "PART_DRW_CFG",
   "PART_HBM", "PART_RINGS", "PART_SAVE", "PART_TRAIN", "PART_INTAKE", "PART_STEP"]
/-- Fields that are read at CREATE, in registers whose other fields are not (R147, R260). -/
def frozenFields : List (String × List String) :=
  [("PART_TRAY_CFG", ["MODE", "HASH", "SYNC"]), ("PART_LAYOUT", ["CLUSTERS", "KIND", "RESIDENT_MAX", "CTX_FIRST", "CTX_COUNT"]),
   ("PART_SCHED", ["SAVE_GROUPS"])]
/-- Registers that may be written while the partition is CREATED but not while it runs (R260). -/
def windowRegs : List String := ["PART_EXPO_BASE", "PART_EXPO_PERIOD", "PART_EXPO_WIN0", "PART_EXPO_WIN1"]
/-- Registers whose writes wait for the boundary while the partition runs (R389). [DEDUCED, log entry 43] -/
def laterRegs : List String :=
  ["CARR_RANKS", "CARR_HOME", "CARR_LAYERS", "CARR_TREE", "CARR_JOB", "CARR_OUTBUF", "CARR_INBUF", "CARR_CFG"]

/-- Is a write of a field ignored because its partition exists or runs? [DEDUCED, log entry 43] -/
def State.fieldFrozen (s : State) (r : RegAt) (f : FieldSpec) : Bool :=
  decide (r.blk = .part) &&
  ((s.exists_ r.inst && (frozenRegs.any (fun x => x == r.spec.name) ||
      frozenFields.any (fun x => x.1 == r.spec.name && x.2.any (fun y => y == f.name)))) ||
   (s.isRunning r.inst && windowRegs.any (fun x => x == r.spec.name) && f.name != "LATE_LIMIT"))

/-- R8: does a field accept a value: within its range, unless it takes 0 as well; TIMER_PPS_OUT's offset is signed. -/
def fieldAccepts (r : RegSpec) (f : FieldSpec) (v : Nat) : Bool :=
  if r.name = "TIMER_PPS_OUT" then decide (v ≤ 1000000 ∨ 2 ^ 32 - 1000000 ≤ v)
  else decide (f.okLo ≤ v ∧ v ≤ f.okHi) || (f.zeroOk && decide (v = 0))

/-- R5, R8: one field of a write. [DEDUCED, log entry 43] -/
def State.writeField (s : State) (r : RegAt) (new old : Word64) (f : FieldSpec) : Word64 :=
  let x := fieldOf new f.lo f.w
  let locked := decide (s.g fGLOBAL_LOCK_SETUP = 1)
  match f.acc with
  | .ro => old
  | .wo => old
  | .rw1c => fieldPut old f.lo f.w (fieldOf (old &&& ~~~new) f.lo f.w)
  | .rwl => if locked || !fieldAccepts r.spec f x then old else fieldPut old f.lo f.w x
  | _ => if s.fieldFrozen r f || !fieldAccepts r.spec f x then old else fieldPut old f.lo f.w x

/-- R8: the value a register holds after a write. -/
def State.writtenWord (s : State) (r : RegAt) (old new : Word64) : Word64 :=
  r.spec.fields.foldl (fun v f => s.writeField r new v f) old

/-- R37: bytes of the SEC block's RWL fields, eight a register in address order. [DEDUCED, log entry 35] -/
def State.secRwl (s : State) : List Nat :=
  ((blockRegs .sec).filter (fun r => r.fields.any (fun f => decide (f.acc = .rwl)))).flatMap (fun r =>
    (regAddrs .sec 0 r).flatMap (fun a =>
      leBytes 8 ((s.reg a &&& r.fields.foldl (fun m f => if f.acc = .rwl then fieldPut m f.lo f.w (2 ^ f.w - 1) else m) 0).toNat)))

/-- GLOBAL_LOCK_SETUP (R37, R430, R452): every RWL field locked, slot 3 extended, and BOOT may end. [DEDUCED, log entry 35] -/
def State.lockSetup (s : State) : State :=
  if s.g fGLOBAL_LOCK_SETUP = 1 then s
  else ((s.put fGLOBAL_LOCK_SETUP 0 0 1).extendSlot 3 s.secRwl).tryReady

/-- PART_PAIR.ENABLE written as a register: what the partner holds is not part of the write, and free. [DEDUCED, log entry 42] -/
def State.pairEnableFree (s : State) (n : Nat) : State :=
  let a := s.fresh
  let b := a.2.fresh
  let c := b.2.fresh
  let d := c.2.fresh
  d.2.pairEnable n { role := decide (a.1 % 2 = 1), mode := b.1 % 4, digest := c.1 % 2 ^ 32, goldId := d.1 }

/-- Wakes the commands of a plate's partition. -/
def State.wakePlate (s : State) (p : Nat) : State := s.wake (s.ownerOf p)

/-- Bit `i` of a written word. -/
def bitSet (v : Word64) (i : Nat) : Bool := decide (fieldOf v i 1 = 1)

/-- R260: the actions of a write to PART_CTRL, lowest bit first. [DEDUCED, log entry 42] -/
def State.partCtrl (s : State) (n : Nat) (v : Word64) : State :=
  let s1 := if bitSet v 0 then s.createPart n else s
  let s2 := if bitSet v 1 then s1.startPart n else s1
  let s3 := if bitSet v 2 then s2.stopAction n else s2
  if bitSet v 3 then s3.destroyPart n else s3

/-- R423: the actions of a write to PART_PAIR, lowest bit first. [DEDUCED, log entry 42] -/
def State.pairCtrl (s : State) (n : Nat) (v : Word64) : State :=
  let at_ (f : Fld) : Bool := bitSet v f.lo
  let s1 := if at_ fPART_PAIR_ENABLE then s.pairEnableFree n else s
  let s2 := if at_ fPART_PAIR_DISABLE then s1.pairDisable n else s1
  if at_ fPART_PAIR_FORCE_TAKEOVER then s2.forceTake n else s2

/-- What a write does beyond the fields it sets; `old` is the state before it. [DEDUCED, log entry 42] -/
def State.trigger (s old : State) (r : RegAt) (v : Word64) : State :=
  let n := r.inst
  let name := r.spec.name
  if name = "PART_CTRL" then s.partCtrl n v
  else if name = "TRAY_PWR_SLEEP" then (s.pwrSleep n v.toNat).wakePlate n
  else if name = "TRAY_PWR_WAKE" then (s.pwrWake n v.toNat).wakePlate n
  else if name = "RING_CTRL" then
    let ring := fieldOf v fRING_CTRL_RING.lo fRING_CTRL_RING.w
    let en := bitSet v fRING_CTRL_ENABLE.lo
    let dis := bitSet v fRING_CTRL_DISABLE.lo
    if en && !dis then s.enableRing ring else if dis && !en then s.disableRing ring else s
  else if name = "PART_FW_RECORD" then (if bitSet v fPART_FW_RECORD_POST.lo then s.fwRecordPost n else s)
  else if name = "PART_CIRCUIT" then
    (if bitSet v 48 && !bitSet v 49 then s.bindPlan n else if bitSet v 49 && !bitSet v 48 then s.unbindPlan n else s)
  else if name = "PART_PAIR" then s.pairCtrl n v
  else if name = "TIMER_CFG" then (if s.g fTIMER_CFG_REF_SEL = old.g fTIMER_CFG_REF_SEL then s else s.refSel (decide (s.g fTIMER_CFG_REF_SEL = 1)))
  else if name = "TIMER_SET" then s.timerSetWrite v.toNat
  else if name = "REL_FAULT" then (if bitSet v fREL_FAULT_FW_FAULT.lo then s.enterFault 5 else s)
  else if name = "SEC_EXTEND" then s.secExtend (fieldOf v 48 4) (fieldOf v 0 48)
  else if name = "SEC_PKG_CTRL" then (if bitSet v 4 then s.pkgStart (fieldOf v 0 4) else s)
  else if name = "SEC_TOKEN" then (if bitSet v 48 then s.submitToken else s)
  else if name = "PWR_CTRL" then
    (let t := if bitSet v 0 then s.drain (fieldOf v 1 12) else s
     if bitSet v 13 then t.warmReset else t)
  else if name = "DENS_SNAP_CFG" then (if bitSet v fDENS_SNAP_CFG_NOW.lo then s.snapNow else s)
  else if name = "PART_LAT_CFG" then s.put fPART_LAT_CFG_PAGE_BLOCKS n 0 (s.pageBytes n / 4096)
  else if name = "FAB_PORT_CFG" ∨ name = "FAB_INSTALL" then ((s.lldpChanged old).refresh (2 * n)).refresh (2 * n + 1)
  else if name = "FAB_SYSTEM_ID" then (List.range 16).foldl (fun t h => t.refresh h) (s.lldpChanged old)
  else if name = "GLOBAL_ENGINE_ID" ∨ name = "FAB_LLDP" then s.lldpChanged old
  else s

/-- Densitometer counter registers, whose write clears OVF as well (R477). -/
def densCtrRegs : List String :=
  ["DENS_CTR_PLATE", "DENS_CTR_CLUSTER", "DENS_CTR_PART", "DENS_CTR_HBM", "DENS_CTR_PORTA", "DENS_CTR_PORTB", "DENS_CTR_CD0", "DENS_CTR_CD1",
   "DENS_CTR_ENGINE"]

/-- REL_LOG_IDX HEAD write (R422): a value that would pass TAIL is ignored. -/
def State.logHead (s : State) (head : Nat) : State :=
  let h := s.g fREL_LOG_IDX_HEAD
  if sub32 (s.g fREL_LOG_IDX_TAIL) h < sub32 head h then s else s.put fREL_LOG_IDX_HEAD 0 0 head

/-- R6, R8: a 64-bit write of a register: its fields, then what the write triggers. Registers that take effect at a
boundary do so at once while no exposure of the partition can run. -/
def State.writeReg (s : State) (addr : Nat) (v : Word64) : State :=
  match findReg addr with
  | none => s
  | some r =>
    if r.spec.name = "GLOBAL_LOCK" then (if bitSet v 0 then s.lockSetup else s)
    else if r.spec.name = "REL_LOG_IDX" then s.logHead (fieldOf v fREL_LOG_IDX_HEAD.lo fREL_LOG_IDX_HEAD.w)
    else if r.spec.name = "PART_INTAKE_IDX" then s.intakeHead r.inst (fieldOf v fPART_INTAKE_IDX_HEAD.lo fPART_INTAKE_IDX_HEAD.w)
    else if densCtrRegs.any (fun x => x == r.spec.name) then s.setReg addr (fieldPut 0 0 48 (fieldOf v 0 48))
    else if r.spec.name = "TRAY_CONF" then
      s.setReg addr (fieldPut (fieldPut 0 0 48 (fieldOf v 0 48)) 63 1 (if fieldOf v 0 48 = 2 ^ 48 - 1 then 1 else 0))
    else if r.blk = .part ∧ s.get fPART_STAT_STATE r.inst 0 = 2 ∧ laterRegs.any (fun x => x == r.spec.name) then
      s.setPrt r.inst { s.prt r.inst with later := smapSet (fun _ => none) addr (some (s.writtenWord r (s.readWord addr) v)) (s.prt r.inst).later }
    else
      let t := (s.setReg addr (s.writtenWord r (s.reg addr) v)).trigger s r v
      if r.blk = .part ∧ t.get fPART_STAT_STATE r.inst 0 ≠ 2 then t.loadRegs r.inst else t

/-- REGISTER_WRITE (R6): an access of any other size or alignment is ignored. -/
def State.registerWrite (s : State) (addr size : Nat) (v : Word64) : State :=
  if size = 8 ∧ addr % 8 = 0 then s.writeReg addr v else s

end Sys2Proof.Machine
end

