-- ==== Sys2Proof/Machine/Mgmt.lean ====
section
/-! DEFINITION. Mgmt: boot stage 3, retained settings, firmware update, sensors and step wedge
(R421, R428, R461–R464, R469, R470). -/

namespace Sys2Proof.Machine

/-! ### Settings records (R462) -/

/-- KIND of a SETTINGS record. -/
def kindSettings : Nat := 1
/-- KIND of a CREDENTIALS record. -/
def kindCreds : Nat := 2

/-- ST_MGMT_BUSY (R458). -/
def stMgmtBusy : Nat := 0x0B02

/-- R462: the bytes of a record, its signature last. -/
def setRecBytes (r : SetRec) : List Nat :=
  leBytes 4 0x53525843 ++ leBytes 2 1 ++ [r.kind, 0] ++ leBytes 8 r.seq ++ leBytes 8 r.t64 ++ leBytes 4 r.entries.length ++ List.replicate 36 0 ++
  r.entries.flatMap (fun e => leBytes 8 e.1 ++ leBytes 8 e.2.1.toNat ++ leBytes 8 e.2.2.toNat) ++ ofBytes r.creds ++
  (List.range 512).map (fun i => (Config.signByte r.sig i).toNat)

/-- The record of highest SEQ in a list. [DEDUCED, log entry 67] -/
def newestRec : List SetRec → Option SetRec
  | [] => none
  | r :: rs => some (rs.foldl (fun b x => if b.seq < x.seq then x else b) r)

/-- R463: the record of a KIND that a boot selects; `bad` are the SEQs of records that fail a check. After FOG_ALL no
record verifies. [DEDUCED, log entry 67] -/
def State.selectRec (s : State) (kind : Nat) (bad : List Nat) : Option SetRec :=
  if s.vault.fogged then none
  else newestRec (s.flash.recs.filter (fun r => decide (r.kind = kind) && !bad.any (fun q => decide (q = r.seq))))

/-- R464: a record saved in the bank that does not hold the newest one, and verified; `some` unless a save was less than 10 s
ago or the signing key is erased. [DEDUCED, log entry 67] -/
def State.saveRec (s : State) (kind : Nat) (entries : List (Nat × Word64 × Word64)) (creds : List Byte) : Nat × State :=
  if s.vault.fogged then (stKeyErased, s)
  else if s.flash.savedAt ≠ 0 ∧ s.now < s.flash.savedAt + 10000000000 then (stMgmtBusy, s)
  else
    let newest := newestRec s.flash.recs
    let bank := match newest with
      | some r => 1 - r.bank
      | none => 0
    let seq := match newest with
      | some r => r.seq + 1
      | none => 1
    let r : SetRec := { bank := bank, kind := kind, seq := seq, t64 := s.now, entries := entries, creds := creds, sig := s.free }
    (0, ({ s with flash := { s.flash with recs := s.flash.recs ++ [r], savedAt := s.now }, free := s.free + 1 } : State).log
      { code := 0x8B08, unit := 21, detail := [kind, bank] ++ leBytes 8 seq })

/-- R464: every register with retained fields, with their mask and current value. -/
def State.retainedEntries (s : State) : List (Nat × Word64 × Word64) :=
  allBlocks.flatMap (fun b => (List.range (blockCount b)).flatMap (fun i =>
    ((blockRegs b).filter (fun r => decide (retainedMask r ≠ 0))).flatMap (fun r =>
      (regAddrs b i r).map (fun a => (a, retainedMask r, s.readWord a &&& retainedMask r)))))

/-! ### Masked writes and restoration (R463, R467) -/

/-- A word that writes `val` where `mask` is set and changes nothing elsewhere: bits outside the mask keep fields that hold
a value, and are 0 in fields where a 1 acts. -/
def maskedWord (r : RegSpec) (old mask val : Word64) : Word64 :=
  r.fields.foldl (fun v f =>
    let new := if f.acc = .rw1c ∨ f.acc = .wo then val &&& mask else (old &&& ~~~mask) ||| (val &&& mask)
    fieldPut v f.lo f.w (fieldOf new f.lo f.w)) 0

/-- A masked firmware write of a register (R6, R8). -/
def State.maskedWrite (s : State) (addr : Nat) (mask val : Word64) : State :=
  match findReg addr with
  | none => s
  | some r => s.writeReg addr (maskedWord r.spec (s.readWord addr) mask val)

/-- Bits set in a word. -/
def onesOf (v : Word64) : Nat := (List.range 64).foldl (fun a i => a + fieldOf v i 1) 0

/-- R463: what of an entry restoration ignores: bits that are not retained, or the entry. -/
def ignoredOf (e : Nat × Word64 × Word64) : Nat :=
  match findReg e.1 with
  | none => 1
  | some r => if retainedMask r.spec = 0 then 1 else onesOf (e.2.1 &&& ~~~(retainedMask r.spec))

/-- R463: one entry applied. -/
def State.applyEntry (s : State) (e : Nat × Word64 × Word64) : State :=
  match findReg e.1 with
  | none => s
  | some r => if retainedMask r.spec = 0 then s else s.maskedWrite e.1 (e.2.1 &&& retainedMask r.spec) e.2.2

/-- BOOT_STAGE_3 (R428, R463): the selected record applied, or factory defaults; slot 4 measured; BOOT may end. [DEDUCED, log entry 67] -/
def State.bootStage3 (s : State) (bad : List Nat) : State :=
  if s.g fPWR_STATE_STATE ≠ modBoot ∨ s.supply.stages ≠ 2 then s
  else
    let s1 := match s.selectRec kindSettings bad with
      | none => ((s.put fMGMT_SETTINGS_SOURCE 0 0 0).log { code := 0x8B06, unit := 21 }).extendSlot 4 (List.replicate 64 0)
      | some r =>
        let ignored := r.entries.foldl (fun a e => a + ignoredOf e) 0
        let skipped := s.flash.recs.any (fun x => decide (x.kind = kindSettings ∧ r.seq < x.seq))
        let t := r.entries.foldl (fun (t : State) e => t.applyEntry e) s
        let t1 := ((t.put fMGMT_SETTINGS_SOURCE 0 0 (1 + r.bank)).put fMGMT_SETTINGS_SEQ 0 0 (r.seq % 2 ^ 32)).put fMGMT_SETTINGS_IGNORED 0 0 (min ignored 65535)
        let t2 := if ignored ≠ 0 ∨ skipped then t1.log { code := 0x8B07, unit := 21, detail := leBytes 4 ignored } else t1
        t2.extendSlot 4 (setRecBytes r)
    (s1.setStage 3 false s1.supply.second).tryReady

/-! ### Firmware update (R470) -/

/-- A PLDM response. [PRESUMED, log entry 69] -/
def State.pldm (s : State) (code : Nat) (body : List Nat) : State := s.emit (.response 2 code body)

/-- PLDM_FIRMWARE_UPDATE (R470): a component whose signature verifies and whose SVN is not below the security version is
written into the bank not booted from; another is refused and counts toward SIGFAIL. [DEDUCED, log entry 66] -/
def State.fwUpdate (s : State) (c : FwComp) : State :=
  if s.g fSEC_STAT_FOG_BUSY = 1 then s.pldm stMgmtBusy []
  else if c.sigOk && decide (s.vault.svn ≤ c.svn) then ({ s with flash := { s.flash with update := some c.svn } } : State).pldm 0 []
  else (s.pldm stAuthFail []).sigFail

/-- ACTIVATE_FIRMWARE (R470): a one-time request to boot the bank that was updated. -/
def State.fwActivate (s : State) : State :=
  if s.g fSEC_STAT_FOG_BUSY = 1 then s.pldm stMgmtBusy []
  else if s.flash.update.isNone then s.pldm stCmdInvalid []
  else
    let bank := 1 - s.g fSEC_STAT_BOOT_BANK
    (({ s with vault := { s.vault with once := some bank } } : State).log { code := 0x8B09, unit := 21, detail := [bank] }).pldm 0 []

/-! ### Sensors (R469) -/

/-- Numeric sensors: input voltage, current and power, 13 rails, 3 junctions, 8 stacks, the Drawer, coolant in and out. [DEDUCED, log entry 70] -/
def numericSensors : Nat := 30

/-- SENSOR_REFRESH (R469): the quantities in R469's order, temperatures in °C; the Drawer's temperature is also
DRW_STAT.TEMP_C. [DEDUCED, log entry 70] -/
def State.sensorRefresh (s : State) (vals : List Nat) : State := ({ s with sensors := vals } : State).put fDRW_STAT_TEMP_C 0 0 (vals.getD 27 0)

/-- PLDM_SENSOR_READ (R469): a numeric sensor, or the state sensor of the module's state. [DEDUCED, log entry 70] -/
def State.sensorRead (s : State) (i : Nat) : State :=
  if i < numericSensors then s.pldm 0 (leBytes 4 (s.sensors.getD i 0))
  else if i = numericSensors then s.pldm 0 [s.g fPWR_STATE_STATE]
  else s.pldm stCmdInvalid []

/-! ### Step wedge (R421) -/

/-- STEP_WEDGE_LIMIT for an item: 0 SerDes, 1 UCIe, 2 voltage, 3 latency, 4 PLL. [DEDUCED, log entry 71] -/
def State.wedgeLimit (s : State) (inst item : Nat) : State := s.log { code := 0x8A05, unit := 17, inst := inst, detail := [item] }

/-- STEP_WEDGE_CALIBRATION (R421): latencies updated; out-of-limit results logged; a UCIe module out of limit retrained. [DEDUCED, log entry 71] -/
def State.stepWedge (s : State) (r : WedgeResult) : State :=
  let far (f : Fld) (v : Nat) : Bool := decide (s.get f 0 r.half + 16 < v ∨ v + 16 < s.get f 0 r.half)
  let moved := far fTIMER_PORT_TX_LAT r.txLat || far fTIMER_PORT_RX_LAT r.rxLat
  let s1 := (s.put fTIMER_PORT_TX_LAT 0 r.half r.txLat).put fTIMER_PORT_RX_LAT 0 r.half r.rxLat
  let s2 := if moved then s1.wedgeLimit r.half 3 else s1
  let s3 := if r.fecHigh then s2.wedgeLimit r.half 0 else s2
  let s4 := match r.ucieLow with
    | some m => (s3.wedgeLimit m.1 1).startRetrain m.1 m.2
    | none => s3
  let s5 := if r.voltLow then s4.wedgeLimit r.half 2 else s4
  if r.pllOff then s5.wedgeLimit r.half 4 else s5

end Sys2Proof.Machine
end

