-- ==== Sys2Proof/Machine/Vetas.lean ====
section
/-! DEFINITION. Vetas: the operator's command set (R464–R468). -/

namespace Sys2Proof.Machine

/-- A Vetas response: status, the request's tag, body. [DEDUCED, log entry 68; PRESUMED, log entry 69] -/
def State.vetasAnswer (s : State) (v : VetasCtx) (status : Nat) (body : List Nat) : State := s.emit (.response 0 status (v.seq % 256 :: body))

/-- R467: is a command denied for coming over I3C without trust (class P)? -/
def State.vetasDenied (s : State) (v : VetasCtx) : Bool := v.i3c && decide (s.g fMGMT_CFG_I3C_TRUST = 0)

/-- R452, R467: a class R command is served from BOOT onward, unless both banks have failed; a class P command from READY
onward and with trust. Every one is refused while fog is busy. [DEDUCED, log entry 68] -/
def State.vetas (s : State) (v : VetasCtx) (priv : Bool) (t : State) : State :=
  if s.g fSEC_STAT_FOG_BUSY = 1 then s.vetasAnswer v stMgmtBusy []
  else if s.supply.stuck || (priv && decide (s.g fPWR_STATE_STATE < modReady)) then s
  else if priv && s.vetasDenied v then (s.log { code := 0x8B0A, unit := 21 }).vetasAnswer v stAuthFail []
  else t

/-- GET_STATE: PWR_STATE, PWR_INPUT, SEC_STAT and REL_FAULT; served in every state. -/
def State.vetasState (s : State) (v : VetasCtx) : State :=
  s.vetasAnswer v 0 ([fldAddr fPWR_STATE_STATE 0 0, fldAddr fPWR_INPUT_VIN 0 0, fldAddr fSEC_STAT_LOCKED 0 0, fldAddr fREL_FAULT_CAUSE 0 0].flatMap
    (fun a => leBytes 8 (s.readWord a).toNat))

/-- Registers read one after the other. [DEDUCED, log entry 68] -/
def State.readMany (s : State) (addr : Nat) : Nat → List Nat × State
  | 0 => ([], s)
  | k + 1 =>
    let r := s.readReg addr
    let t := r.2.readMany (addr + 8) k
    (leBytes 8 r.1.toNat ++ t.1, t.2)

/-- REG_READ: 1–32 registers. -/
def State.vetasRead (s : State) (v : VetasCtx) (addr count : Nat) : State :=
  s.vetas v false (
    if count = 0 ∨ 32 < count then s.vetasAnswer v stCmdInvalid []
    else
      let r := s.readMany addr count
      r.2.vetasAnswer v 0 r.1)

/-- REG_WRITE: a masked firmware write. -/
def State.vetasWrite (s : State) (v : VetasCtx) (addr : Nat) (mask val : Word64) : State :=
  s.vetas v true (((if addr % 8 = 0 then s.maskedWrite addr mask val else s)).vetasAnswer v 0 [])

/-- A save and its answer. -/
def State.vetasSave (s : State) (v : VetasCtx) (kind : Nat) (entries : List (Nat × Word64 × Word64)) (creds : List Byte) : State :=
  let r := s.saveRec kind entries creds
  r.2.vetasAnswer v r.1 []

/-- SETTINGS_SAVE (R464). -/
def State.settingsSave (s : State) (v : VetasCtx) : State := s.vetas v true (s.vetasSave v kindSettings s.retainedEntries [])

/-- SETTINGS_PATCH (R464): the selected record with 1–64 entries added. [DEDUCED, log entry 67] -/
def State.settingsPatch (s : State) (v : VetasCtx) (entries : List (Nat × Word64 × Word64)) : State :=
  let old := match s.selectRec kindSettings [] with
    | some r => r.entries
    | none => []
  s.vetas v true (
    if entries.isEmpty ∨ 64 < entries.length ∨ 2706 < old.length + entries.length then s.vetasAnswer v stCmdInvalid []
    else s.vetasSave v kindSettings (old ++ entries) [])

/-- SETTINGS_FACTORY (R464): a record with no entries. -/
def State.settingsFactory (s : State) (v : VetasCtx) : State := s.vetas v true (s.vetasSave v kindSettings [] [])

/-- DRAIN (R456). -/
def State.vetasDrain (s : State) (v : VetasCtx) (deadline : Nat) : State := s.vetas v true ((s.drain deadline).vetasAnswer v 0 [])

/-- RESET (R454): answered, then done. -/
def State.vetasReset (s : State) (v : VetasCtx) : State := s.vetas v true ((s.vetasAnswer v 0 []).warmReset)

/-- CLEAR_HOLD (R256). -/
def State.clearHold (s : State) (v : VetasCtx) (n : Nat) : State := s.vetas v true ((s.put fPART_STAT_HOLD n 0 0).vetasAnswer v 0 [])

/-- FORCE_TAKEOVER (R416). -/
def State.vetasTakeover (s : State) (v : VetasCtx) (n : Nat) : State := s.vetas v true ((s.forceTake n).vetasAnswer v 0 [])

/-- FE_KEYGEN (R425): the front-end key generated in the vault. [DEDUCED, log entry 68] -/
def State.feKeygen (s : State) (v : VetasCtx) : State :=
  s.vetas v true (({ s with vault := { s.vault with feKey := true } } : State).vetasAnswer v 0 [])

/-- CREDENTIALS (R462, R467): saved as a CREDENTIALS record. -/
def State.credentials (s : State) (v : VetasCtx) (body : List Byte) : State := s.vetas v true (s.vetasSave v kindCreds [] body)

/-- LOG_READ: 1–32 entries of the error log. -/
def State.logRead (s : State) (v : VetasCtx) (first count : Nat) : State :=
  s.vetas v false (
    if count = 0 ∨ 32 < count then s.vetasAnswer v stCmdInvalid []
    else s.vetasAnswer v 0 ((List.range count).flatMap (fun i => s.bytes (s.g fREL_LOG_BASE + (first + i) % 2 ^ s.g fREL_LOG_LOG2 * 64) 64)))

/-- R466: an unknown COMMAND. -/
def State.vetasUnknown (s : State) (v : VetasCtx) : State := s.vetas v false (s.vetasAnswer v stCmdInvalid [])

end Sys2Proof.Machine
end

