-- ==== Sys2Proof/WellFormed.lean ====
section
/-! DEFINITION. WellFormed: which commands name only what the engine has: plates, banks, rings, halves, message headers
of their row's type, plate commands of their row's opcode or of a reserved one. -/

namespace Sys2Proof

/-- Opcodes that some plate command has (R95, R113, R135, R156, R180, R194, R221, R270, R388). [DESIGN CHOICE, log entry 7] -/
def knownOpcodes : List Nat :=
  [0x00, 0x01, 0x02, 0x03, 0x04, 0x05, 0x06, 0x07, 0x08, 0x09, 0x20, 0x21, 0x22, 0x23, 0x24, 0x25, 0x26, 0x27, 0x28,
   0x40, 0x41, 0x42, 0x43, 0x44, 0x45, 0x46, 0x47, 0x50, 0x58, 0x59, 0x5A, 0x5B, 0x5C, 0x60, 0x61, 0x70, 0x71, 0x72,
   0x80, 0x81, 0x88, 0x90, 0x91, 0x92, 0x93, 0x94, 0x95]

/-- A plate command of a row: a plate the engine has, and the row's opcode, or one that no plate command has (R97). [DESIGN CHOICE, log entry 7] -/
def wfPlateCmd (row : Nat) (c : PlateCmd) : Bool :=
  decide (c.plate < 128) && (decide (c.word.toNat % 256 = row) || !knownOpcodes.any (fun o => decide (o = c.word.toNat % 256)))

/-- A module of a link: 24 on link 0, 4 on links 1 and 2 (R24). -/
def wfModule (link module : Nat) : Bool := decide (link < 3 ∧ module < (if link = 0 then 24 else 4))
/-- A module's direction. -/
def wfPort (p : UciePort) : Bool := wfModule p.link p.module
/-- R26: a header cell of a type with every field within its width. -/
def wfHdr (h : UcieHdr) (typ : Nat) : Bool :=
  decide (h.typ = typ ∧ h.flags < 256 ∧ h.len < 512 ∧ h.cls < 4 ∧ h.part < 16 ∧ h.tag < 65536 ∧ h.addr < 2 ^ 48 ∧ h.word < 2 ^ 32)
/-- LEN data cells of 16 bytes follow a header (R26). -/
def wfData (h : UcieHdr) (data : List Byte) : Bool := decide (data.length = 16 * h.len)
/-- R357: partitions and engines within their widths; CLASS and EPOCH as received. -/
def wfCbt (h : CbtHdr) : Bool :=
  decide (h.cls < 256 ∧ h.srcPart < 16 ∧ h.dstPart < 16 ∧ h.srcEngine < 2 ^ 32 ∧ h.dstEngine < 2 ^ 32 ∧ h.epoch < 65536)
/-- R372: a Carrier message's KIND. -/
def wfCarr (m : CarrMsg) (kind : Nat) : Bool := decide (64 ≤ m.body.length ∧ (m.body.headD 0).toNat = kind)
/-- An address in HBM. -/
def isHbmAddr (a : Nat) : Bool := decide (a < 0x00C000000000)
/-- An address in the Drawer. -/
def isDrawerAddr (a : Nat) : Bool := decide (0x010000000000 ≤ a ∧ a < 0x014000000000)

/-- Which commands are well formed, row by row. [DESIGN CHOICE, log entry 7] -/
def WellFormed : Instr → Bool
  | .registerWrite addr _ _ => decide (0x0F0000000000 ≤ addr ∧ addr < 2 ^ 48)
  | .nopMsg at_ => wfPort at_
  | .rdReq at_ h => wfPort at_ && wfHdr h 1 && decide (h.len = 0 ∧ 1 ≤ h.word % 65536 ∧ h.word % 65536 ≤ 256)
  | .rdCpl at_ h data => wfPort at_ && wfHdr h 2 && wfData h data && decide (h.flags.testBit 0 = decide (h.len = 0))
  | .wr at_ h data => wfPort at_ && wfHdr h 3 && wfData h data && decide (1 ≤ h.len)
  | .wrAck at_ h => wfPort at_ && wfHdr h 4 && decide (h.len = 0)
  | .doorbell at_ h data => wfPort at_ && wfHdr h 5 && wfData h data && decide ((h.len = 4 ∨ 256 < h.len) ∧ 0x030000000000 ≤ h.addr ∧ h.addr < 0x030000800000)
  | .event at_ h data => wfPort at_ && wfHdr h 6 && wfData h data && decide (1 ≤ h.len ∧ (h.len ≤ 4 ∨ 256 < h.len))
  | .credit at_ c0 c1 c2 => wfPort at_ && decide (c0 < 65536 ∧ c1 < 65536 ∧ c2 < 65536)
  | .time die _ => decide (die < 2)
  | .cellAlignmentLost at_ => wfPort at_
  | .ucieRetrainComplete link module _ => wfModule link module
  | .ucieRetrainTimeout link module => wfModule link module
  | .ucieMessageSend link _ h data => decide (link < 3) && wfHdr h h.typ && wfData h data && decide (h.typ ≤ 8 ∧ h.cls < 3 ∧ h.len ≤ 256)
  | .grainLoad c => wfPlateCmd 0x20 c
  | .grainPass c => wfPlateCmd 0x21 c
  | .promotion plate group strip => decide (plate < 128 ∧ group < 32 ∧ strip < 8)
  | .grainLoadKeys c => wfPlateCmd 0x22 c
  | .accOpen c => wfPlateCmd 0x23 c
  | .accPromote c => wfPlateCmd 0x24 c
  | .accDrain c => wfPlateCmd 0x25 c
  | .accQuant c => wfPlateCmd 0x26 c
  | .accClose c => wfPlateCmd 0x27 c
  | .accDebugRead c => wfPlateCmd 0x28 c
  | .safeGemm c => wfPlateCmd 0x40 c
  | .safeRowop c => wfPlateCmd 0x41 c
  | .safeLowrank c => wfPlateCmd 0x42 c
  | .burnScan c => wfPlateCmd 0x43 c
  | .burnDecide c => wfPlateCmd 0x44 c
  | .burnApply c => wfPlateCmd 0x45 c
  | .burnProduct c => wfPlateCmd 0x46 c
  | .burnBranch c => wfPlateCmd 0x47 c
  | .agitRotate c => wfPlateCmd 0x50 c
  | .trayCopy c => wfPlateCmd 0x58 c
  | .trayGather c => wfPlateCmd 0x59 c
  | .trayBcast c => wfPlateCmd 0x5A c
  | .trayFill c => wfPlateCmd 0x5B c
  | .trayPower c => wfPlateCmd 0x5C c
  | .trayPwrSleep plate _ => decide (plate < 128)
  | .trayPwrWake plate _ => decide (plate < 128)
  | .bankIsolated plate bank => decide (plate < 128 ∧ bank < 64)
  | .trayPdAbort plate bank => decide (plate < 128 ∧ bank < 64)
  | .bankAwake plate bank => decide (plate < 128 ∧ bank < 64)
  | .washTrayRead plate off _ => decide (plate < 128 ∧ off < 0x800000)
  | .washForced plate off _ => decide (plate < 128 ∧ off < 0x800000)
  | .washWriteBack plate off => decide (plate < 128 ∧ off < 0x800000)
  | .semTimeout plate _ => decide (plate < 128)
  | .dodgeSpmm c => wfPlateCmd 0x60 c
  | .dodgeCheck c => wfPlateCmd 0x61 c
  | .enlFetch c => wfPlateCmd 0x70 c
  | .enlDevelop c => wfPlateCmd 0x71 c
  | .enlMerge c => wfPlateCmd 0x72 c
  | .latPlist c => wfPlateCmd 0x80 c
  | .latWrite c => wfPlateCmd 0x81 c
  | .latAdmit part w => decide (part < 16) && decide (w.toNat % 256 = 0x84)
  | .latPark part w => decide (part < 16) && decide (w.toNat % 256 = 0x85)
  | .latParkMoveEnd slot _ => decide (slot < 65536)
  | .parkedExpiry part => decide (part < 16)
  | .latResume part w => decide (part < 16) && decide (w.toNat % 256 = 0x86)
  | .latEnd part w => decide (part < 16) && decide (w.toNat % 256 = 0x87) && decide (bitsOf w.toNat 128 1 = 0)
  | .latEndCancel part w => decide (part < 16) && decide (w.toNat % 256 = 0x87) && decide (bitsOf w.toNat 128 1 = 1)
  | .loupeSample c => wfPlateCmd 0x88 c
  | .exposureTick part => decide (part < 16)
  | .exposureRelease part => decide (part < 16)
  | .admissionCutoff part => decide (part < 16)
  | .exposureCommit part => decide (part < 16)
  | .partCreate part => decide (part < 16)
  | .partStart part => decide (part < 16)
  | .partStop part => decide (part < 16)
  | .partDestroy part => decide (part < 16)
  | .contextStart ctx => decide (ctx < 4096)
  | .quantumExpiry ctx => decide (ctx < 4096)
  | .swapDecision part => decide (part < 16)
  | .swapComplete ctx => decide (ctx < 4096)
  | .plateCommandFetch plate _ => decide (plate < 128)
  | .seqNop c => wfPlateCmd 0x00 c
  | .seqEnd c => wfPlateCmd 0x01 c
  | .seqAt c => wfPlateCmd 0x02 c
  | .seqAtReached plate => decide (plate < 128)
  | .seqWindow c => wfPlateCmd 0x03 c
  | .seqWindowReached plate => decide (plate < 128)
  | .seqFence c => wfPlateCmd 0x04 c
  | .seqBarrier c => wfPlateCmd 0x05 c
  | .seqSkipif c => wfPlateCmd 0x06 c
  | .ctxPost c => wfPlateCmd 0x07 c
  | .ctxWait c => wfPlateCmd 0x08 c
  | .seqFlip c => wfPlateCmd 0x09 c
  | .ringEnable ring => decide (ring < 131072)
  | .ringDisable ring => decide (ring < 131072)
  | .doorbellWrite addr data => decide (0x030000000000 ≤ addr ∧ addr + data.length ≤ 0x030000800000)
  | .descriptorFetch ring _ => decide (ring < 131072)
  | .nopDescriptor ring d => decide (ring < 131072) && decide (d.toNat % 256 = 0)
  | .generate ring d => decide (ring < 131072) && decide (d.toNat % 256 = 1)
  | .embed ring d => decide (ring < 131072) && decide (d.toNat % 256 = 2)
  | .cancel ring d => decide (ring < 131072) && decide (d.toNat % 256 = 3)
  | .park ring d => decide (ring < 131072) && decide (d.toNat % 256 = 4)
  | .resume ring d => decide (ring < 131072) && decide (d.toNat % 256 = 5)
  | .stepDesc ring d => decide (ring < 131072) && decide (d.toNat % 256 = 6)
  | .attest ring d => decide (ring < 131072) && decide (d.toNat % 256 = 7)
  | .service ring d => decide (ring < 131072) && decide (d.toNat % 256 = 8)
  | .fenceRelease ring => decide (ring < 131072)
  | .partIntakeIdxHeadWrite part head => decide (part < 16 ∧ head < 2 ^ 32)
  | .partFwRecordPost part => decide (part < 16)
  | .rdmaWrite _ addr _ => decide (addr < 2 ^ 48)
  | .rdmaRead _ addr _ => decide (addr < 2 ^ 48)
  | .rdmaInvalidRequest _ => true
  | .http2Connection _ => true
  | .http2Post _ _ => true
  | .rstStream _ _ => true
  | .feRecordConsume _ _ => true
  | .stackTraining stack _ _ => decide (stack < 8)
  | .drawerTraining pkg _ => decide (pkg < 4)
  | .wcbReadFill stack _ => decide (stack < 8)
  | .hbmTempRead stack _ => decide (stack < 8)
  | .hbmOffline stack => decide (stack < 8)
  | .hbmPatrolRead addr _ => isHbmAddr addr
  | .drawerPatrolRead addr _ => isDrawerAddr addr
  | .refSelWrite _ => true
  | .ptpSync n _ => decide (n < 16)
  | .followUp n _ _ => decide (n < 16)
  | .delayReq n _ _ => decide (n < 16)
  | .delayResp n _ _ => decide (n < 16)
  | .announce n _ => decide (n < 16)
  | .delayReqInterval _ => true
  | .timerSet _ => true
  | .linkUp half => decide (half < 16)
  | .linkDown half => decide (half < 16)
  | .linkdownTimeout half => decide (half < 16)
  | .lldpTxInterval half => decide (half < 16)
  | .lldpdu half _ => decide (half < 16)
  | .neighbourExpiry half => decide (half < 16)
  | .partCircuitBind part => decide (part < 16)
  | .partCircuitUnbind part => decide (part < 16)
  | .cbtData half m => decide (half < 16) && wfCbt m.hdr && decide (m.seq < 2 ^ 32 ∧ m.offset < 65536 ∧ m.attempt < 16)
  | .cbtAck half m => decide (half < 16) && wfCbt m.hdr
  | .cbtAckTimer flow => decide (flow < 16384)
  | .cbtRto flow _ => decide (flow < 16384)
  | .cbtGiveupTimeout flow => decide (flow < 16384)
  | .pauseFrame half => decide (half < 16)
  | .macsecSakInstall half an => decide (half < 16) && decide (an < 4)
  | .carrDispatch c => wfPlateCmd 0x90 c
  | .carrWait c => wfPlateCmd 0x91 c
  | .carrReturn c => wfPlateCmd 0x92 c
  | .carrCombine c => wfPlateCmd 0x93 c
  | .carrReduce c => wfPlateCmd 0x94 c
  | .halLoad c => wfPlateCmd 0x95 c
  | .halLoadSlotIdle part => decide (part < 16)
  | .carrierBatchSend part _ => decide (part < 16)
  | .dispatchMsg part m => decide (part < 16) && wfCarr m 0
  | .returnMsg part m => decide (part < 16) && wfCarr m 1
  | .gradUp part m => decide (part < 16) && wfCarr m 2
  | .gradDown part m => decide (part < 16) && wfCarr m 3
  | .acceptMsg part m => decide (part < 16) && wfCarr m 4
  | .rejectMsg part m => decide (part < 16) && wfCarr m 5
  | .carrierLostTimeout part => decide (part < 16)
  | .reexecutionStart part => decide (part < 16)
  | .voidMsg part _ => decide (part < 16)
  | .fetchMsg part _ => decide (part < 16)
  | .fetchData part _ => decide (part < 16)
  | .fetchFail part _ => decide (part < 16)
  | .fetchTimeout part => decide (part < 16)
  | .partPairEnable part _ => decide (part < 16)
  | .partPairDisable part => decide (part < 16)
  | .partPairForceTakeover part => decide (part < 16)
  | .cacheMsg part _ => decide (part < 16)
  | .stateMsg part _ => decide (part < 16)
  | .commitEnd part _ => decide (part < 16)
  | .commitAck part _ => decide (part < 16)
  | .snapshotMsg part _ => decide (part < 16)
  | .syncEnd part _ => decide (part < 16)
  | .heartbeat part _ => decide (part < 16)
  | .hbAck part _ => decide (part < 16)
  | .faultNotice part _ => decide (part < 16)
  | .heartbeatMiss part => decide (part < 16)
  | .witnessAnswer part _ => decide (part < 16)
  | .claimTimeout part => decide (part < 16)
  | .stepWedgeCalibration r => decide (r.half < 16 ∧ r.txLat < 65536 ∧ r.rxLat < 65536)
  | .secPkgCtrlStart part => decide (part < 16)
  | .secExtend slot addr => decide (slot < 16 ∧ addr < 2 ^ 48)
  | .lightLeakAlarm source => decide (source < 7)
  | .getCertificate off len => decide (off < 65536 ∧ len < 65536)
  | .challenge slot _ => decide (slot < 256)
  | .getMeasurements index _ => decide (index < 256)
  | .spdmUnsupportedRequest code => decide (code < 256)
  | .bootStage1 _ => true
  | .bootStage2 _ => true
  | .bootStage3 _ => true
  | .prechargeComplete _ => true
  | .inputRange vin => decide (vin < 65536)
  | .inputOutOfRange _ => true
  | .railPowerGood rail => decide (rail < 13)
  | .railFault rail => decide (rail < 13)
  | .pwrCtrlDrain deadlineS => decide (deadlineS < 4096)
  | .powerSample vin iin pinW => decide (vin < 65536 ∧ iin < 65536 ∧ pinW < 65536)
  | .powerSlowLoop r => decide (r.p100W < 65536 ∧ r.partW.length ≤ 16)
  | .droopStretch die => decide (die < 3)
  | .droopRecover die => decide (die < 3)
  | .getState _ => true
  | .regRead _ addr _ => decide (addr < 2 ^ 48)
  | .regWrite _ addr _ _ => decide (addr < 2 ^ 48)
  | .settingsSave _ => true
  | .settingsPatch _ _ => true
  | .settingsFactory _ => true
  | .vetasDrain _ _ => true
  | .vetasReset _ => true
  | .clearHold _ part => decide (part < 16)
  | .forceTakeover _ part => decide (part < 16)
  | .feKeygen _ => true
  | .credentials _ body => decide (body.length ≤ 4096)
  | .logRead _ _ _ => true
  | .vetasUnknownCommand _ cmd => decide (cmd = 0 ∨ 0x0E ≤ cmd)
  | .pldmFirmwareUpdate _ => true
  | .sensorRefresh vals => decide (vals.length = 30)
  | .pldmSensorRead _ => true
  | .densCtrWrite block ctr _ => decide (block < 187 ∧ ctr < 16)
  | .densSelWrite block ctr _ => decide (block < 187 ∧ ctr < 16)
  | .http2ConnectionEnd _ => true
  | .secPkgDone _ _ => true
  | .ucieErrorThreshold link module => wfModule link module
  | .snapshotCopyDone part => decide (part < 16)
  | .globalLockSetup => true
  | .strobe => true
  | .timerRefLost => true
  | .syncInterval => true
  | .upstreamLost => true
  | .holdoverLimit => true
  | .ppsInEdge => true
  | .ppsOutEdge => true
  | .relFaultFwFault => true
  | .secNonceRead => true
  | .debugToken => true
  | .debugUnlockExpiry => true
  | .lockClearToken => true
  | .fogDone => true
  | .getVersion => true
  | .getCapabilities => true
  | .negotiateAlgorithms => true
  | .getDigests => true
  | .contact48vMate => true
  | .prechargeTimeout => true
  | .presenceMated => true
  | .presenceBreak => true
  | .inputOvercurrent => true
  | .resetN => true
  | .pwrCtrlReset => true
  | .drainDeadline => true
  | .bootWatchdog => true
  | .activateFirmware => true
  | .densSnapNow => true
  | .densPeriodicSnapshot => true
  | .snapshotGather => true
  | .resetNRelease => true

end Sys2Proof
end

