-- ==== Sys2Proof/Machine/ExecLink.lean ====
section
/-! DEFINITION. ExecLink: the meanings of register writes, UCIe messages and the densitometer's commands. A command whose operands name nothing the engine has is
refused; a module that does not run does nothing. -/

namespace Sys2Proof.Machine

/-- REGISTER_WRITE (R8). -/
def execRegisterWrite (addr : Nat) (size : Nat) (val : Word64) (s : State) : Host.Outcome State Fault Refusal :=
  s.answer "REGISTER_WRITE" (WellFormed (.registerWrite addr size val)) (s.registerWrite addr size val)

/-- NOP (R27). -/
def execNopMsg (at_ : UciePort) (s : State) : Host.Outcome State Fault Refusal :=
  s.answer "NOP" (WellFormed (.nopMsg at_)) s

/-- RD_REQ (R27). -/
def execRdReq (at_ : UciePort) (h : UcieHdr) (s : State) : Host.Outcome State Fault Refusal :=
  s.answerAt "RD_REQ" (WellFormed (.rdReq at_ h)) h.addr (s.recvRead at_ h)

/-- RD_CPL (R30). -/
def execRdCpl (at_ : UciePort) (h : UcieHdr) (data : List Byte) (s : State) : Host.Outcome State Fault Refusal :=
  s.answer "RD_CPL" (WellFormed (.rdCpl at_ h data)) ((s.recvCpl at_ h data).settle)

/-- WR (R30). -/
def execWr (at_ : UciePort) (h : UcieHdr) (data : List Byte) (s : State) : Host.Outcome State Fault Refusal :=
  s.answerAt "WR" (WellFormed (.wr at_ h data)) h.addr (s.recvWrite at_ h data)

/-- WR_ACK (R30). -/
def execWrAck (at_ : UciePort) (h : UcieHdr) (s : State) : Host.Outcome State Fault Refusal :=
  s.answer "WR_ACK" (WellFormed (.wrAck at_ h)) ((s.recvAck at_ h).settle)

/-- DOORBELL (R281). -/
def execDoorbell (at_ : UciePort) (h : UcieHdr) (data : List Byte) (s : State) : Host.Outcome State Fault Refusal :=
  s.answer "DOORBELL" (WellFormed (.doorbell at_ h data)) (s.recvDoorbell at_ h data)

/-- EVENT (R393). -/
def execEvent (at_ : UciePort) (h : UcieHdr) (data : List Byte) (s : State) : Host.Outcome State Fault Refusal :=
  s.answer "EVENT" (WellFormed (.event at_ h data)) (s.recvEvent at_ h data)

/-- CREDIT (R29). -/
def execCredit (at_ : UciePort) (c0 : Nat) (c1 : Nat) (c2 : Nat) (s : State) : Host.Outcome State Fault Refusal :=
  s.answer "CREDIT" (WellFormed (.credit at_ c0 c1 c2)) ((s.recvCredit at_ c0 c1 c2).linkServe)

/-- TIME (R328). -/
def execTime (die : Nat) (m : TimeMsg) (s : State) : Host.Outcome State Fault Refusal :=
  s.answer "TIME" (WellFormed (.time die m)) (s.recvTime die m)

/-- CELL_ALIGNMENT_LOST (R31). -/
def execCellAlignmentLost (at_ : UciePort) (s : State) : Host.Outcome State Fault Refusal :=
  s.answer "CELL_ALIGNMENT_LOST" (WellFormed (.cellAlignmentLost at_)) (s.alignmentLost at_)

/-- UCIE_RETRAIN_COMPLETE (R31). -/
def execUcieRetrainComplete (link : Nat) (module : Nat) (repaired : Nat) (s : State) : Host.Outcome State Fault Refusal :=
  s.answer "UCIE_RETRAIN_COMPLETE" (WellFormed (.ucieRetrainComplete link module repaired)) ((s.retrained link module repaired).linkServe)

/-- UCIE_RETRAIN_TIMEOUT (R32). -/
def execUcieRetrainTimeout (link : Nat) (module : Nat) (s : State) : Host.Outcome State Fault Refusal :=
  s.answer "UCIE_RETRAIN_TIMEOUT" (WellFormed (.ucieRetrainTimeout link module)) ((s.removeModule link module).linkServe)

/-- UCIE_MESSAGE_SEND (R29). -/
def execUcieMessageSend (link : Nat) (up : Bool) (h : UcieHdr) (data : List Byte) (s : State) : Host.Outcome State Fault Refusal :=
  s.answer "UCIE_MESSAGE_SEND" (WellFormed (.ucieMessageSend link up h data)) (s.ucieSend link up h data)

/-- DENS_CTR_WRITE (R477). -/
def execDensCtrWrite (block : Nat) (ctr : Nat) (val : Word64) (s : State) : Host.Outcome State Fault Refusal :=
  s.answer "DENS_CTR_WRITE" (WellFormed (.densCtrWrite block ctr val)) (s.densCtrWrite block ctr val)

/-- DENS_SEL_WRITE (R477). -/
def execDensSelWrite (block : Nat) (ctr : Nat) (val : Word64) (s : State) : Host.Outcome State Fault Refusal :=
  s.answer "DENS_SEL_WRITE" (WellFormed (.densSelWrite block ctr val)) (s.densSelWrite block ctr val)

/-- UCIE_ERROR_THRESHOLD (R24). -/
def execUcieErrorThreshold (link : Nat) (module : Nat) (s : State) : Host.Outcome State Fault Refusal :=
  s.answer "UCIE_ERROR_THRESHOLD" (WellFormed (.ucieErrorThreshold link module)) (s.startRetrain link module)

/-- GLOBAL_LOCK_SETUP (R37). -/
def execGlobalLockSetup (s : State) : Host.Outcome State Fault Refusal :=
  s.answer "GLOBAL_LOCK_SETUP" (WellFormed .globalLockSetup) s.lockSetup

/-- DENS_SNAP_NOW (R478). -/
def execDensSnapNow (s : State) : Host.Outcome State Fault Refusal :=
  s.answer "DENS_SNAP_NOW" (WellFormed .densSnapNow) s.snapNow

/-- DENS_PERIODIC_SNAPSHOT (R478). -/
def execDensPeriodicSnapshot (s : State) : Host.Outcome State Fault Refusal :=
  s.answer "DENS_PERIODIC_SNAPSHOT" (WellFormed .densPeriodicSnapshot) s.snapPeriodic

/-- SNAPSHOT_GATHER (R478). -/
def execSnapshotGather (s : State) : Host.Outcome State Fault Refusal :=
  s.answer "SNAPSHOT_GATHER" (WellFormed .snapshotGather) s.gather

end Sys2Proof.Machine
end

