-- ==== Sys2Proof/Machine/ExecMgmt.lean ====
section
/-! DEFINITION. ExecMgmt: the meanings of security, boot, power and management commands. A command whose operands name nothing the engine has is
refused; a module that does not run does nothing. -/

namespace Sys2Proof.Machine

/-- SEC_PKG_CTRL_START (R435). -/
def execSecPkgCtrlStart (part : Nat) (s : State) : Host.Outcome State Fault Refusal :=
  s.answer "SEC_PKG_CTRL_START" (WellFormed (.secPkgCtrlStart part)) (s.pkgStart part)

/-- SEC_EXTEND (R430). -/
def execSecExtend (slot : Nat) (addr : Nat) (s : State) : Host.Outcome State Fault Refusal :=
  s.answer "SEC_EXTEND" (WellFormed (.secExtend slot addr)) (s.secExtend slot addr)

/-- LIGHT_LEAK_ALARM (R440). -/
def execLightLeakAlarm (source : Nat) (s : State) : Host.Outcome State Fault Refusal :=
  s.answer "LIGHT_LEAK_ALARM" (WellFormed (.lightLeakAlarm source)) (s.alarm source)

/-- GET_CERTIFICATE (R431). -/
def execGetCertificate (off : Nat) (len : Nat) (s : State) : Host.Outcome State Fault Refusal :=
  s.answer "GET_CERTIFICATE" (WellFormed (.getCertificate off len)) (s.spdmCert off len)

/-- CHALLENGE (R431). -/
def execChallenge (slot : Nat) (nonce : Nat) (s : State) : Host.Outcome State Fault Refusal :=
  s.answer "CHALLENGE" (WellFormed (.challenge slot nonce)) (s.spdmChallenge slot nonce)

/-- GET_MEASUREMENTS (R431). -/
def execGetMeasurements (index : Nat) (nonce : Nat) (s : State) : Host.Outcome State Fault Refusal :=
  s.answer "GET_MEASUREMENTS" (WellFormed (.getMeasurements index nonce)) (s.spdmMeas index nonce)

/-- SPDM_UNSUPPORTED_REQUEST (R431). -/
def execSpdmUnsupportedRequest (code : Nat) (s : State) : Host.Outcome State Fault Refusal :=
  s.answer "SPDM_UNSUPPORTED_REQUEST" (WellFormed (.spdmUnsupportedRequest code)) s.spdmOther

/-- BOOT_STAGE_1 (R428). -/
def execBootStage1 (r : BootScan) (s : State) : Host.Outcome State Fault Refusal :=
  s.answer "BOOT_STAGE_1" (WellFormed (.bootStage1 r)) (s.bootStage1 r)

/-- BOOT_STAGE_2 (R428). -/
def execBootStage2 (r : BootScan) (s : State) : Host.Outcome State Fault Refusal :=
  s.answer "BOOT_STAGE_2" (WellFormed (.bootStage2 r)) (s.bootStage2 r)

/-- BOOT_STAGE_3 (R463). -/
def execBootStage3 (bad : List Nat) (s : State) : Host.Outcome State Fault Refusal :=
  s.answer "BOOT_STAGE_3" (WellFormed (.bootStage3 bad)) (s.bootStage3 bad)

/-- PRECHARGE_COMPLETE (R452). -/
def execPrechargeComplete (vin : Nat) (s : State) : Host.Outcome State Fault Refusal :=
  s.answerAlways "PRECHARGE_COMPLETE" (WellFormed (.prechargeComplete vin)) (s.prechargeDone vin)

/-- INPUT_RANGE (R448). -/
def execInputRange (vin : Nat) (s : State) : Host.Outcome State Fault Refusal :=
  s.answer "INPUT_RANGE" (WellFormed (.inputRange vin)) (s.inputRange vin)

/-- INPUT_OUT_OF_RANGE (R448). -/
def execInputOutOfRange (vin : Nat) (s : State) : Host.Outcome State Fault Refusal :=
  s.answerAlways "INPUT_OUT_OF_RANGE" (WellFormed (.inputOutOfRange vin)) (s.inputOut vin)

/-- RAIL_POWER_GOOD (R449). -/
def execRailPowerGood (rail : Nat) (s : State) : Host.Outcome State Fault Refusal :=
  s.answerAlways "RAIL_POWER_GOOD" (WellFormed (.railPowerGood rail)) (if s.supply.main = 2 then s.railUp rail else s)

/-- RAIL_FAULT (R450). -/
def execRailFault (rail : Nat) (s : State) : Host.Outcome State Fault Refusal :=
  s.answerAlways "RAIL_FAULT" (WellFormed (.railFault rail)) (s.railFault)

/-- PWR_CTRL_DRAIN (R456). -/
def execPwrCtrlDrain (deadlineS : Nat) (s : State) : Host.Outcome State Fault Refusal :=
  s.answer "PWR_CTRL_DRAIN" (WellFormed (.pwrCtrlDrain deadlineS)) (s.drain deadlineS)

/-- POWER_SAMPLE (R459). -/
def execPowerSample (vin : Nat) (iin : Nat) (pinW : Nat) (s : State) : Host.Outcome State Fault Refusal :=
  s.answer "POWER_SAMPLE" (WellFormed (.powerSample vin iin pinW)) (s.powerSample vin iin pinW)

/-- POWER_SLOW_LOOP (R459). -/
def execPowerSlowLoop (r : SlowLoop) (s : State) : Host.Outcome State Fault Refusal :=
  s.answer "POWER_SLOW_LOOP" (WellFormed (.powerSlowLoop r)) (s.powerSlow r)

/-- DROOP_STRETCH (R460). -/
def execDroopStretch (die : Nat) (s : State) : Host.Outcome State Fault Refusal :=
  s.answer "DROOP_STRETCH" (WellFormed (.droopStretch die)) (s.droopStretch die)

/-- DROOP_RECOVER (R460). -/
def execDroopRecover (die : Nat) (s : State) : Host.Outcome State Fault Refusal :=
  s.answer "DROOP_RECOVER" (WellFormed (.droopRecover die)) (s.droopRecover die)

/-- GET_STATE (R467). -/
def execGetState (v : VetasCtx) (s : State) : Host.Outcome State Fault Refusal :=
  s.answer "GET_STATE" (WellFormed (.getState v)) (s.vetasState v)

/-- REG_READ (R467). -/
def execRegRead (v : VetasCtx) (addr : Nat) (count : Nat) (s : State) : Host.Outcome State Fault Refusal :=
  s.answer "REG_READ" (WellFormed (.regRead v addr count)) (s.vetasRead v addr count)

/-- REG_WRITE (R467). -/
def execRegWrite (v : VetasCtx) (addr : Nat) (mask : Word64) (val : Word64) (s : State) : Host.Outcome State Fault Refusal :=
  s.answer "REG_WRITE" (WellFormed (.regWrite v addr mask val)) (s.vetasWrite v addr mask val)

/-- SETTINGS_SAVE (R464). -/
def execSettingsSave (v : VetasCtx) (s : State) : Host.Outcome State Fault Refusal :=
  s.answer "SETTINGS_SAVE" (WellFormed (.settingsSave v)) (s.settingsSave v)

/-- SETTINGS_PATCH (R464). -/
def execSettingsPatch (v : VetasCtx) (entries : List (Nat × Word64 × Word64)) (s : State) : Host.Outcome State Fault Refusal :=
  s.answer "SETTINGS_PATCH" (WellFormed (.settingsPatch v entries)) (s.settingsPatch v entries)

/-- SETTINGS_FACTORY (R464). -/
def execSettingsFactory (v : VetasCtx) (s : State) : Host.Outcome State Fault Refusal :=
  s.answer "SETTINGS_FACTORY" (WellFormed (.settingsFactory v)) (s.settingsFactory v)

/-- DRAIN (R456). -/
def execVetasDrain (v : VetasCtx) (deadlineS : Nat) (s : State) : Host.Outcome State Fault Refusal :=
  s.answer "DRAIN" (WellFormed (.vetasDrain v deadlineS)) (s.vetasDrain v deadlineS)

/-- RESET (R454). -/
def execVetasReset (v : VetasCtx) (s : State) : Host.Outcome State Fault Refusal :=
  s.answer "RESET" (WellFormed (.vetasReset v)) (s.vetasReset v)

/-- CLEAR_HOLD (R256). -/
def execClearHold (v : VetasCtx) (part : Nat) (s : State) : Host.Outcome State Fault Refusal :=
  s.answer "CLEAR_HOLD" (WellFormed (.clearHold v part)) (s.clearHold v part)

/-- FORCE_TAKEOVER (R416). -/
def execForceTakeover (v : VetasCtx) (part : Nat) (s : State) : Host.Outcome State Fault Refusal :=
  s.answer "FORCE_TAKEOVER" (WellFormed (.forceTakeover v part)) (s.vetasTakeover v part)

/-- FE_KEYGEN (R425). -/
def execFeKeygen (v : VetasCtx) (s : State) : Host.Outcome State Fault Refusal :=
  s.answer "FE_KEYGEN" (WellFormed (.feKeygen v)) (s.feKeygen v)

/-- CREDENTIALS (R467). -/
def execCredentials (v : VetasCtx) (body : List Byte) (s : State) : Host.Outcome State Fault Refusal :=
  s.answer "CREDENTIALS" (WellFormed (.credentials v body)) (s.credentials v body)

/-- LOG_READ (R467). -/
def execLogRead (v : VetasCtx) (first : Nat) (count : Nat) (s : State) : Host.Outcome State Fault Refusal :=
  s.answer "LOG_READ" (WellFormed (.logRead v first count)) (s.logRead v first count)

/-- VETAS_UNKNOWN_COMMAND (R466). -/
def execVetasUnknownCommand (v : VetasCtx) (cmd : Nat) (s : State) : Host.Outcome State Fault Refusal :=
  s.answer "VETAS_UNKNOWN_COMMAND" (WellFormed (.vetasUnknownCommand v cmd)) (s.vetasUnknown v)

/-- PLDM_FIRMWARE_UPDATE (R470). -/
def execPldmFirmwareUpdate (comp : FwComp) (s : State) : Host.Outcome State Fault Refusal :=
  s.answer "PLDM_FIRMWARE_UPDATE" (WellFormed (.pldmFirmwareUpdate comp)) (s.fwUpdate comp)

/-- SENSOR_REFRESH (R469). -/
def execSensorRefresh (vals : List Nat) (s : State) : Host.Outcome State Fault Refusal :=
  s.answer "SENSOR_REFRESH" (WellFormed (.sensorRefresh vals)) (s.sensorRefresh vals)

/-- PLDM_SENSOR_READ (R469). -/
def execPldmSensorRead (sensor : Nat) (s : State) : Host.Outcome State Fault Refusal :=
  s.answer "PLDM_SENSOR_READ" (WellFormed (.pldmSensorRead sensor)) (s.sensorRead sensor)

/-- SEC_PKG_DONE (R435). -/
def execSecPkgDone (ok : Bool) (chunks : Nat) (s : State) : Host.Outcome State Fault Refusal :=
  s.answer "SEC_PKG_DONE" (WellFormed (.secPkgDone ok chunks)) (s.pkgDone ok chunks)

/-- SEC_NONCE_READ (R439). -/
def execSecNonceRead (s : State) : Host.Outcome State Fault Refusal :=
  s.answer "SEC_NONCE_READ" (WellFormed .secNonceRead) s.nonceRead

/-- DEBUG_TOKEN (R439). -/
def execDebugToken (s : State) : Host.Outcome State Fault Refusal :=
  s.answer "DEBUG_TOKEN" (WellFormed .debugToken) s.debugToken

/-- DEBUG_UNLOCK_EXPIRY (R439). -/
def execDebugUnlockExpiry (s : State) : Host.Outcome State Fault Refusal :=
  s.answer "DEBUG_UNLOCK_EXPIRY" (WellFormed .debugUnlockExpiry) s.debugExpiry

/-- LOCK_CLEAR_TOKEN (R445). -/
def execLockClearToken (s : State) : Host.Outcome State Fault Refusal :=
  s.answer "LOCK_CLEAR_TOKEN" (WellFormed .lockClearToken) s.lockClearToken

/-- FOG_DONE (R443). -/
def execFogDone (s : State) : Host.Outcome State Fault Refusal :=
  s.answer "FOG_DONE" (WellFormed .fogDone) s.fogDone

/-- GET_VERSION (R431). -/
def execGetVersion (s : State) : Host.Outcome State Fault Refusal :=
  s.answer "GET_VERSION" (WellFormed .getVersion) s.spdmVersion

/-- GET_CAPABILITIES (R431). -/
def execGetCapabilities (s : State) : Host.Outcome State Fault Refusal :=
  s.answer "GET_CAPABILITIES" (WellFormed .getCapabilities) s.spdmCaps

/-- NEGOTIATE_ALGORITHMS (R431). -/
def execNegotiateAlgorithms (s : State) : Host.Outcome State Fault Refusal :=
  s.answer "NEGOTIATE_ALGORITHMS" (WellFormed .negotiateAlgorithms) s.spdmAlgs

/-- GET_DIGESTS (R431). -/
def execGetDigests (s : State) : Host.Outcome State Fault Refusal :=
  s.answer "GET_DIGESTS" (WellFormed .getDigests) s.spdmDigests

/-- CONTACT_48V_MATE (R452). -/
def execContact48vMate (s : State) : Host.Outcome State Fault Refusal :=
  s.answerAlways "CONTACT_48V_MATE" (WellFormed .contact48vMate) (s.contactMate)

/-- PRECHARGE_TIMEOUT (R452). -/
def execPrechargeTimeout (s : State) : Host.Outcome State Fault Refusal :=
  s.answerAlways "PRECHARGE_TIMEOUT" (WellFormed .prechargeTimeout) (s.prechargeTimeout)

/-- PRESENCE_MATED (R492). -/
def execPresenceMated (s : State) : Host.Outcome State Fault Refusal :=
  s.answerAlways "PRESENCE_MATED" (WellFormed .presenceMated) (s.presenceMated)

/-- PRESENCE_BREAK (R453). -/
def execPresenceBreak (s : State) : Host.Outcome State Fault Refusal :=
  s.answerAlways "PRESENCE_BREAK" (WellFormed .presenceBreak) (s.presenceBreak)

/-- INPUT_OVERCURRENT (R448). -/
def execInputOvercurrent (s : State) : Host.Outcome State Fault Refusal :=
  s.answerAlways "INPUT_OVERCURRENT" (WellFormed .inputOvercurrent) (s.overcurrent)

/-- RESET_N (R454). -/
def execResetN (s : State) : Host.Outcome State Fault Refusal :=
  s.answerAlways "RESET_N" (WellFormed .resetN) (s.resetN)

/-- PWR_CTRL_RESET (R454). -/
def execPwrCtrlReset (s : State) : Host.Outcome State Fault Refusal :=
  s.answer "PWR_CTRL_RESET" (WellFormed .pwrCtrlReset) s.warmReset

/-- DRAIN_DEADLINE (R456). -/
def execDrainDeadline (s : State) : Host.Outcome State Fault Refusal :=
  s.answer "DRAIN_DEADLINE" (WellFormed .drainDeadline) s.drainDeadline

/-- BOOT_WATCHDOG (R452). -/
def execBootWatchdog (s : State) : Host.Outcome State Fault Refusal :=
  s.answer "BOOT_WATCHDOG" (WellFormed .bootWatchdog) s.bootWatchdog

/-- ACTIVATE_FIRMWARE (R470). -/
def execActivateFirmware (s : State) : Host.Outcome State Fault Refusal :=
  s.answer "ACTIVATE_FIRMWARE" (WellFormed .activateFirmware) s.fwActivate

/-- RESET_N_RELEASE (R495). -/
def execResetNRelease (s : State) : Host.Outcome State Fault Refusal :=
  s.answerAlways "RESET_N_RELEASE" (WellFormed .resetNRelease) (s.resetRelease)

end Sys2Proof.Machine
end

