-- ==== Sys2Proof/Machine/ExecPair.lean ====
section
/-! DEFINITION. ExecPair: the meanings of re-execution's messages, weight repair, stereo pairs and step wedge. A command whose operands name nothing the engine has is
refused; a module that does not run does nothing. -/

namespace Sys2Proof.Machine

/-- VOID (R402). -/
def execVoidMsg (part : Nat) (m : PairMsg) (s : State) : Host.Outcome State Fault Refusal :=
  s.answer "VOID" (WellFormed (.voidMsg part m)) ((s.pairReceive part 12 m).settle)

/-- FETCH (R405). -/
def execFetchMsg (part : Nat) (m : PairMsg) (s : State) : Host.Outcome State Fault Refusal :=
  s.answer "FETCH" (WellFormed (.fetchMsg part m)) ((s.pairReceive part 6 m).settle)

/-- FETCH_DATA (R405). -/
def execFetchData (part : Nat) (m : PairMsg) (s : State) : Host.Outcome State Fault Refusal :=
  s.answer "FETCH_DATA" (WellFormed (.fetchData part m)) ((s.pairReceive part 7 m).settle)

/-- FETCH_FAIL (R405). -/
def execFetchFail (part : Nat) (m : PairMsg) (s : State) : Host.Outcome State Fault Refusal :=
  s.answer "FETCH_FAIL" (WellFormed (.fetchFail part m)) ((s.pairReceive part 8 m).settle)

/-- FETCH_TIMEOUT (R405). -/
def execFetchTimeout (part : Nat) (s : State) : Host.Outcome State Fault Refusal :=
  s.answer "FETCH_TIMEOUT" (WellFormed (.fetchTimeout part)) ((s.fetchFails part).settle)

/-- PART_PAIR_ENABLE (R409). -/
def execPartPairEnable (part : Nat) (partner : PartnerView) (s : State) : Host.Outcome State Fault Refusal :=
  s.answer "PART_PAIR_ENABLE" (WellFormed (.partPairEnable part partner)) (s.pairEnable part partner)

/-- PART_PAIR_DISABLE (R423). -/
def execPartPairDisable (part : Nat) (s : State) : Host.Outcome State Fault Refusal :=
  s.answer "PART_PAIR_DISABLE" (WellFormed (.partPairDisable part)) (s.pairDisable part)

/-- PART_PAIR_FORCE_TAKEOVER (R416). -/
def execPartPairForceTakeover (part : Nat) (s : State) : Host.Outcome State Fault Refusal :=
  s.answer "PART_PAIR_FORCE_TAKEOVER" (WellFormed (.partPairForceTakeover part)) (s.forceTake part)

/-- CACHE (R413). -/
def execCacheMsg (part : Nat) (m : PairMsg) (s : State) : Host.Outcome State Fault Refusal :=
  s.answer "CACHE" (WellFormed (.cacheMsg part m)) ((s.pairReceive part 0 m).settle)

/-- STATE (R413). -/
def execStateMsg (part : Nat) (m : PairMsg) (s : State) : Host.Outcome State Fault Refusal :=
  s.answer "STATE" (WellFormed (.stateMsg part m)) ((s.pairReceive part 1 m).settle)

/-- COMMIT_END (R413). -/
def execCommitEnd (part : Nat) (m : PairMsg) (s : State) : Host.Outcome State Fault Refusal :=
  s.answer "COMMIT_END" (WellFormed (.commitEnd part m)) ((s.pairReceive part 2 m).settle)

/-- COMMIT_ACK (R411). -/
def execCommitAck (part : Nat) (m : PairMsg) (s : State) : Host.Outcome State Fault Refusal :=
  s.answer "COMMIT_ACK" (WellFormed (.commitAck part m)) ((s.pairReceive part 3 m).settle)

/-- SNAPSHOT (R413). -/
def execSnapshotMsg (part : Nat) (m : PairMsg) (s : State) : Host.Outcome State Fault Refusal :=
  s.answer "SNAPSHOT" (WellFormed (.snapshotMsg part m)) ((s.pairReceive part 4 m).settle)

/-- SYNC_END (R414). -/
def execSyncEnd (part : Nat) (m : PairMsg) (s : State) : Host.Outcome State Fault Refusal :=
  s.answer "SYNC_END" (WellFormed (.syncEnd part m)) ((s.pairReceive part 5 m).settle)

/-- HEARTBEAT (R415). -/
def execHeartbeat (part : Nat) (m : PairMsg) (s : State) : Host.Outcome State Fault Refusal :=
  s.answer "HEARTBEAT" (WellFormed (.heartbeat part m)) ((s.pairReceive part 9 m).settle)

/-- HB_ACK (R415). -/
def execHbAck (part : Nat) (m : PairMsg) (s : State) : Host.Outcome State Fault Refusal :=
  s.answer "HB_ACK" (WellFormed (.hbAck part m)) ((s.pairReceive part 10 m).settle)

/-- FAULT_NOTICE (R416). -/
def execFaultNotice (part : Nat) (m : PairMsg) (s : State) : Host.Outcome State Fault Refusal :=
  s.answer "FAULT_NOTICE" (WellFormed (.faultNotice part m)) ((s.pairReceive part 11 m).settle)

/-- HEARTBEAT_MISS (R415). -/
def execHeartbeatMiss (part : Nat) (s : State) : Host.Outcome State Fault Refusal :=
  s.answer "HEARTBEAT_MISS" (WellFormed (.heartbeatMiss part)) (s.heartbeatMiss part)

/-- WITNESS_ANSWER (R416). -/
def execWitnessAnswer (part : Nat) (grant : Bool) (s : State) : Host.Outcome State Fault Refusal :=
  s.answer "WITNESS_ANSWER" (WellFormed (.witnessAnswer part grant)) (s.witness part grant)

/-- CLAIM_TIMEOUT (R416). -/
def execClaimTimeout (part : Nat) (s : State) : Host.Outcome State Fault Refusal :=
  s.answer "CLAIM_TIMEOUT" (WellFormed (.claimTimeout part)) (s.claimTimeout part)

/-- STEP_WEDGE_CALIBRATION (R421). -/
def execStepWedgeCalibration (r : WedgeResult) (s : State) : Host.Outcome State Fault Refusal :=
  s.answer "STEP_WEDGE_CALIBRATION" (WellFormed (.stepWedgeCalibration r)) (s.stepWedge r)

/-- SNAPSHOT_COPY_DONE (R414). -/
def execSnapshotCopyDone (part : Nat) (s : State) : Host.Outcome State Fault Refusal :=
  s.answer "SNAPSHOT_COPY_DONE" (WellFormed (.snapshotCopyDone part)) (s.syncDone part)

/-- REL_FAULT_FW_FAULT (R407). -/
def execRelFaultFwFault (s : State) : Host.Outcome State Fault Refusal :=
  s.answer "REL_FAULT_FW_FAULT" (WellFormed .relFaultFwFault) (s.enterFault 5)

end Sys2Proof.Machine
end

