-- ==== Sys2Proof/Machine/ExecPart.lean ====
section
/-! DEFINITION. ExecPart: the meanings of tray power, wash, walkers, exposures, partitions and contexts. A command whose operands name nothing the engine has is
refused; a module that does not run does nothing. -/

namespace Sys2Proof.Machine

/-- PROMOTION (R82). -/
def execPromotion (plate : Nat) (group : Nat) (strip : Nat) (s : State) : Host.Outcome State Fault Refusal :=
  s.answer "PROMOTION" (WellFormed (.promotion plate group strip)) (s.promotionAt plate group strip)

/-- TRAY_PWR_SLEEP (R164). -/
def execTrayPwrSleep (plate : Nat) (mask : Word64) (s : State) : Host.Outcome State Fault Refusal :=
  s.answer "TRAY_PWR_SLEEP" (WellFormed (.trayPwrSleep plate mask)) ((s.pwrSleep plate mask.toNat).wakePlate plate)

/-- TRAY_PWR_WAKE (R165). -/
def execTrayPwrWake (plate : Nat) (mask : Word64) (s : State) : Host.Outcome State Fault Refusal :=
  s.answer "TRAY_PWR_WAKE" (WellFormed (.trayPwrWake plate mask)) ((s.pwrWake plate mask.toNat).wakePlate plate)

/-- BANK_ISOLATED (R164). -/
def execBankIsolated (plate : Nat) (bank : Nat) (s : State) : Host.Outcome State Fault Refusal :=
  s.answer "BANK_ISOLATED" (WellFormed (.bankIsolated plate bank)) ((s.bankIsolate plate bank).wakePlate plate)

/-- TRAY_PD_ABORT (R164). -/
def execTrayPdAbort (plate : Nat) (bank : Nat) (s : State) : Host.Outcome State Fault Refusal :=
  s.answer "TRAY_PD_ABORT" (WellFormed (.trayPdAbort plate bank)) ((s.bankAbort plate bank).wakePlate plate)

/-- BANK_AWAKE (R165). -/
def execBankAwake (plate : Nat) (bank : Nat) (s : State) : Host.Outcome State Fault Refusal :=
  s.answer "BANK_AWAKE" (WellFormed (.bankAwake plate bank)) ((s.bankWoken plate bank).wakePlate plate)

/-- WASH_TRAY_READ (R167). -/
def execWashTrayRead (plate : Nat) (off : Nat) (ecc : Ecc) (s : State) : Host.Outcome State Fault Refusal :=
  s.answer "WASH_TRAY_READ" (WellFormed (.washTrayRead plate off ecc)) ((s.washRead plate off ecc false).settle)

/-- WASH_FORCED (R167). -/
def execWashForced (plate : Nat) (off : Nat) (ecc : Ecc) (s : State) : Host.Outcome State Fault Refusal :=
  s.answer "WASH_FORCED" (WellFormed (.washForced plate off ecc)) ((s.washRead plate off ecc true).settle)

/-- WASH_WRITE_BACK (R167). -/
def execWashWriteBack (plate : Nat) (off : Nat) (s : State) : Host.Outcome State Fault Refusal :=
  s.answer "WASH_WRITE_BACK" (WellFormed (.washWriteBack plate off)) (s.washWriteBack plate off)

/-- SEM_TIMEOUT (R149). -/
def execSemTimeout (plate : Nat) (index : Nat) (s : State) : Host.Outcome State Fault Refusal :=
  s.answer "SEM_TIMEOUT" (WellFormed (.semTimeout plate index)) (s.semTimeout plate index)

/-- LAT_ADMIT (R222). -/
def execLatAdmit (part : Nat) (w : CmdWord) (s : State) : Host.Outcome State Fault Refusal :=
  s.answer "LAT_ADMIT" (WellFormed (.latAdmit part w)) (s.walker part w (fun t => t.latAdmit part (svcSlot w)))

/-- LAT_PARK (R244). -/
def execLatPark (part : Nat) (w : CmdWord) (s : State) : Host.Outcome State Fault Refusal :=
  s.answer "LAT_PARK" (WellFormed (.latPark part w)) (s.parkCmd part w)

/-- LAT_PARK_MOVE_END (R244). -/
def execLatParkMoveEnd (slot : Nat) (ok : Bool) (s : State) : Host.Outcome State Fault Refusal :=
  s.answer "LAT_PARK_MOVE_END" (WellFormed (.latParkMoveEnd slot ok)) (s.parkEnd slot ok)

/-- PARKED_EXPIRY (R245). -/
def execParkedExpiry (part : Nat) (s : State) : Host.Outcome State Fault Refusal :=
  s.answer "PARKED_EXPIRY" (WellFormed (.parkedExpiry part)) (s.parkedExpiry part)

/-- LAT_RESUME (R246). -/
def execLatResume (part : Nat) (w : CmdWord) (s : State) : Host.Outcome State Fault Refusal :=
  s.answer "LAT_RESUME" (WellFormed (.latResume part w)) (s.walker part w (fun t => t.latResume part (svcSlot w)))

/-- LAT_END (R247). -/
def execLatEnd (part : Nat) (w : CmdWord) (s : State) : Host.Outcome State Fault Refusal :=
  s.answer "LAT_END" (WellFormed (.latEnd part w)) (s.walker part w (fun t => t.latEnd part (svcSlot w)))

/-- LAT_END_CANCEL (R247). -/
def execLatEndCancel (part : Nat) (w : CmdWord) (s : State) : Host.Outcome State Fault Refusal :=
  s.answer "LAT_END_CANCEL" (WellFormed (.latEndCancel part w)) (s.cancelCmd part w)

/-- EXPOSURE_TICK (R251). -/
def execExposureTick (part : Nat) (s : State) : Host.Outcome State Fault Refusal :=
  s.answer "EXPOSURE_TICK" (WellFormed (.exposureTick part)) (s.tick part)

/-- EXPOSURE_RELEASE (R251). -/
def execExposureRelease (part : Nat) (s : State) : Host.Outcome State Fault Refusal :=
  s.answer "EXPOSURE_RELEASE" (WellFormed (.exposureRelease part)) (s.release part)

/-- ADMISSION_CUTOFF (R252). -/
def execAdmissionCutoff (part : Nat) (s : State) : Host.Outcome State Fault Refusal :=
  s.answer "ADMISSION_CUTOFF" (WellFormed (.admissionCutoff part)) (s.cutoff part)

/-- EXPOSURE_COMMIT (R255). -/
def execExposureCommit (part : Nat) (s : State) : Host.Outcome State Fault Refusal :=
  s.answer "EXPOSURE_COMMIT" (WellFormed (.exposureCommit part)) ((s.commit part).settle)

/-- PART_CREATE (R259). -/
def execPartCreate (part : Nat) (s : State) : Host.Outcome State Fault Refusal :=
  s.answer "PART_CREATE" (WellFormed (.partCreate part)) (s.createPart part)

/-- PART_START (R260). -/
def execPartStart (part : Nat) (s : State) : Host.Outcome State Fault Refusal :=
  s.answer "PART_START" (WellFormed (.partStart part)) (s.startPart part)

/-- PART_STOP (R260). -/
def execPartStop (part : Nat) (s : State) : Host.Outcome State Fault Refusal :=
  s.answer "PART_STOP" (WellFormed (.partStop part)) (s.stopAction part)

/-- PART_DESTROY (R260). -/
def execPartDestroy (part : Nat) (s : State) : Host.Outcome State Fault Refusal :=
  s.answer "PART_DESTROY" (WellFormed (.partDestroy part)) (s.destroyPart part)

/-- CONTEXT_START (R265). -/
def execContextStart (ctx : Nat) (s : State) : Host.Outcome State Fault Refusal :=
  s.answer "CONTEXT_START" (WellFormed (.contextStart ctx)) (s.contextStart ctx)

/-- QUANTUM_EXPIRY (R264). -/
def execQuantumExpiry (ctx : Nat) (s : State) : Host.Outcome State Fault Refusal :=
  s.answer "QUANTUM_EXPIRY" (WellFormed (.quantumExpiry ctx)) (s.quantumExpiry ctx)

/-- SWAP_DECISION (R269). -/
def execSwapDecision (part : Nat) (s : State) : Host.Outcome State Fault Refusal :=
  s.answer "SWAP_DECISION" (WellFormed (.swapDecision part)) (s.swapDecide part)

/-- SWAP_COMPLETE (R267). -/
def execSwapComplete (ctx : Nat) (s : State) : Host.Outcome State Fault Refusal :=
  s.answer "SWAP_COMPLETE" (WellFormed (.swapComplete ctx)) (s.swapComplete ctx)

/-- PLATE_COMMAND_FETCH (R261). -/
def execPlateCommandFetch (plate : Nat) (count : Nat) (s : State) : Host.Outcome State Fault Refusal :=
  s.answer "PLATE_COMMAND_FETCH" (WellFormed (.plateCommandFetch plate count)) (s.fetchCmds plate count)

/-- SEQ_AT_REACHED (R270). -/
def execSeqAtReached (plate : Nat) (s : State) : Host.Outcome State Fault Refusal :=
  s.answer "SEQ_AT_REACHED" (WellFormed (.seqAtReached plate)) (s.seqAtReached plate)

/-- SEQ_WINDOW_REACHED (R270). -/
def execSeqWindowReached (plate : Nat) (s : State) : Host.Outcome State Fault Refusal :=
  s.answer "SEQ_WINDOW_REACHED" (WellFormed (.seqWindowReached plate)) (s.seqWindowReached plate)

/-- REEXECUTION_START (R399). -/
def execReexecutionStart (part : Nat) (s : State) : Host.Outcome State Fault Refusal :=
  s.answer "REEXECUTION_START" (WellFormed (.reexecutionStart part)) (s.reexecute part)

end Sys2Proof.Machine
end

