-- ==== Sys2Proof/Machine/ExecPlate.lean ====
section
/-! DEFINITION. ExecPlate: the meanings of plate commands. A command whose operands name nothing the engine has is
refused; a module that does not run does nothing. -/

namespace Sys2Proof.Machine

/-- GRAIN_LOAD (R98). -/
def execGrainLoad (c : PlateCmd) (s : State) : Host.Outcome State Fault Refusal :=
  s.answer "GRAIN_LOAD" (WellFormed (.grainLoad c))
    ((s.issue c (rowBody 0x20 grainLoadBody)).settle)

/-- GRAIN_PASS (R99). -/
def execGrainPass (c : PlateCmd) (s : State) : Host.Outcome State Fault Refusal :=
  s.answer "GRAIN_PASS" (WellFormed (.grainPass c))
    ((s.issue c (rowBody 0x21 grainPassBody)).settle)

/-- GRAIN_LOAD_KEYS (R100). -/
def execGrainLoadKeys (c : PlateCmd) (s : State) : Host.Outcome State Fault Refusal :=
  s.answer "GRAIN_LOAD_KEYS" (WellFormed (.grainLoadKeys c))
    ((s.issue c (rowBody 0x22 grainLoadKeysBody)).settle)

/-- ACC_OPEN (R88). -/
def execAccOpen (c : PlateCmd) (s : State) : Host.Outcome State Fault Refusal :=
  s.answer "ACC_OPEN" (WellFormed (.accOpen c))
    ((s.issue c (rowBody 0x23 accOpenBody)).settle)

/-- ACC_PROMOTE (R82). -/
def execAccPromote (c : PlateCmd) (s : State) : Host.Outcome State Fault Refusal :=
  s.answer "ACC_PROMOTE" (WellFormed (.accPromote c))
    ((s.issue c (rowBody 0x24 accPromoteBody)).settle)

/-- ACC_DRAIN (R90). -/
def execAccDrain (c : PlateCmd) (s : State) : Host.Outcome State Fault Refusal :=
  s.answer "ACC_DRAIN" (WellFormed (.accDrain c))
    ((s.issue c (rowBody 0x25 accDrainBody)).settle)

/-- ACC_QUANT (R92). -/
def execAccQuant (c : PlateCmd) (s : State) : Host.Outcome State Fault Refusal :=
  s.answer "ACC_QUANT" (WellFormed (.accQuant c))
    ((s.issue c (rowBody 0x26 accQuantBody)).settle)

/-- ACC_CLOSE (R88). -/
def execAccClose (c : PlateCmd) (s : State) : Host.Outcome State Fault Refusal :=
  s.answer "ACC_CLOSE" (WellFormed (.accClose c))
    ((s.issue c (rowBody 0x27 accCloseBody)).settle)

/-- ACC_DEBUG_READ (R104). -/
def execAccDebugRead (c : PlateCmd) (s : State) : Host.Outcome State Fault Refusal :=
  s.answer "ACC_DEBUG_READ" (WellFormed (.accDebugRead c))
    ((s.issue c (rowBody 0x28 accDebugReadBody)).settle)

/-- SAFE_GEMM (R115). -/
def execSafeGemm (c : PlateCmd) (s : State) : Host.Outcome State Fault Refusal :=
  s.answer "SAFE_GEMM" (WellFormed (.safeGemm c))
    ((s.issue c (rowBody 0x40 safeGemmBody)).settle)

/-- SAFE_ROWOP (R117). -/
def execSafeRowop (c : PlateCmd) (s : State) : Host.Outcome State Fault Refusal :=
  s.answer "SAFE_ROWOP" (WellFormed (.safeRowop c))
    ((s.issue c (rowBody 0x41 safeRowopBody)).settle)

/-- SAFE_LOWRANK (R119). -/
def execSafeLowrank (c : PlateCmd) (s : State) : Host.Outcome State Fault Refusal :=
  s.answer "SAFE_LOWRANK" (WellFormed (.safeLowrank c))
    ((s.issue c (rowBody 0x42 safeLowrankBody)).settle)

/-- BURN_SCAN (R123). -/
def execBurnScan (c : PlateCmd) (s : State) : Host.Outcome State Fault Refusal :=
  s.answer "BURN_SCAN" (WellFormed (.burnScan c))
    ((s.issue c (rowBody 0x43 burnScanBody)).settle)

/-- BURN_DECIDE (R124). -/
def execBurnDecide (c : PlateCmd) (s : State) : Host.Outcome State Fault Refusal :=
  s.answer "BURN_DECIDE" (WellFormed (.burnDecide c))
    ((s.issue c (rowBody 0x44 burnDecideBody)).settle)

/-- BURN_APPLY (R127). -/
def execBurnApply (c : PlateCmd) (s : State) : Host.Outcome State Fault Refusal :=
  s.answer "BURN_APPLY" (WellFormed (.burnApply c))
    ((s.issue c (rowBody 0x45 burnApplyBody)).settle)

/-- BURN_PRODUCT (R128). -/
def execBurnProduct (c : PlateCmd) (s : State) : Host.Outcome State Fault Refusal :=
  s.answer "BURN_PRODUCT" (WellFormed (.burnProduct c))
    ((s.issue c (rowBody 0x46 burnProductBody)).settle)

/-- BURN_BRANCH (R129). -/
def execBurnBranch (c : PlateCmd) (s : State) : Host.Outcome State Fault Refusal :=
  s.answer "BURN_BRANCH" (WellFormed (.burnBranch c))
    ((s.issue c (rowBody 0x47 burnBranchBody)).settle)

/-- AGIT_ROTATE (R135). -/
def execAgitRotate (c : PlateCmd) (s : State) : Host.Outcome State Fault Refusal :=
  s.answer "AGIT_ROTATE" (WellFormed (.agitRotate c))
    ((s.issue c (rowBody 0x50 agitRotateBody)).settle)

/-- TRAY_COPY (R157). -/
def execTrayCopy (c : PlateCmd) (s : State) : Host.Outcome State Fault Refusal :=
  s.answer "TRAY_COPY" (WellFormed (.trayCopy c))
    ((s.issue c (rowBody 0x58 trayCopyBody)).settle)

/-- TRAY_GATHER (R158). -/
def execTrayGather (c : PlateCmd) (s : State) : Host.Outcome State Fault Refusal :=
  s.answer "TRAY_GATHER" (WellFormed (.trayGather c))
    ((s.issue c (rowBody 0x59 trayGatherBody)).settle)

/-- TRAY_BCAST (R159). -/
def execTrayBcast (c : PlateCmd) (s : State) : Host.Outcome State Fault Refusal :=
  s.answer "TRAY_BCAST" (WellFormed (.trayBcast c))
    ((s.issue c (rowBody 0x5A trayBcastBody)).settle)

/-- TRAY_FILL (R160). -/
def execTrayFill (c : PlateCmd) (s : State) : Host.Outcome State Fault Refusal :=
  s.answer "TRAY_FILL" (WellFormed (.trayFill c))
    ((s.issue c (rowBody 0x5B trayFillBody)).settle)

/-- TRAY_POWER (R161). -/
def execTrayPower (c : PlateCmd) (s : State) : Host.Outcome State Fault Refusal :=
  s.answer "TRAY_POWER" (WellFormed (.trayPower c))
    ((s.issue c (rowBody 0x5C trayPowerBody)).settle)

/-- DODGE_SPMM (R180). -/
def execDodgeSpmm (c : PlateCmd) (s : State) : Host.Outcome State Fault Refusal :=
  s.answer "DODGE_SPMM" (WellFormed (.dodgeSpmm c))
    ((s.issue c (rowBody 0x60 dodgeSpmmBody)).settle)

/-- DODGE_CHECK (R190). -/
def execDodgeCheck (c : PlateCmd) (s : State) : Host.Outcome State Fault Refusal :=
  s.answer "DODGE_CHECK" (WellFormed (.dodgeCheck c))
    ((s.issue c (rowBody 0x61 dodgeCheckBody)).settle)

/-- ENL_FETCH (R195). -/
def execEnlFetch (c : PlateCmd) (s : State) : Host.Outcome State Fault Refusal :=
  s.answer "ENL_FETCH" (WellFormed (.enlFetch c))
    ((s.issue c (rowBody 0x70 enlFetchBody)).settle)

/-- ENL_DEVELOP (R201). -/
def execEnlDevelop (c : PlateCmd) (s : State) : Host.Outcome State Fault Refusal :=
  s.answer "ENL_DEVELOP" (WellFormed (.enlDevelop c))
    ((s.issue c (rowBody 0x71 enlDevelopBody)).settle)

/-- ENL_MERGE (R204). -/
def execEnlMerge (c : PlateCmd) (s : State) : Host.Outcome State Fault Refusal :=
  s.answer "ENL_MERGE" (WellFormed (.enlMerge c))
    ((s.issue c (rowBody 0x72 enlMergeBody)).settle)

/-- LAT_PLIST (R231). -/
def execLatPlist (c : PlateCmd) (s : State) : Host.Outcome State Fault Refusal :=
  s.answer "LAT_PLIST" (WellFormed (.latPlist c))
    ((s.issue c (rowBody 0x80 latPlistBody)).settle)

/-- LAT_WRITE (R232). -/
def execLatWrite (c : PlateCmd) (s : State) : Host.Outcome State Fault Refusal :=
  s.answer "LAT_WRITE" (WellFormed (.latWrite c))
    ((s.issue c (rowBody 0x81 latWriteBody)).settle)

/-- LOUPE_SAMPLE (R238). -/
def execLoupeSample (c : PlateCmd) (s : State) : Host.Outcome State Fault Refusal :=
  s.answer "LOUPE_SAMPLE" (WellFormed (.loupeSample c))
    ((s.issue c (rowBody 0x88 loupeSampleBody)).settle)

/-- SEQ_NOP (R270). -/
def execSeqNop (c : PlateCmd) (s : State) : Host.Outcome State Fault Refusal :=
  s.answer "SEQ_NOP" (WellFormed (.seqNop c))
    ((s.issue c (rowBody 0x00 (fun _ t => .ok t))).settle)

/-- SEQ_END (R270). -/
def execSeqEnd (c : PlateCmd) (s : State) : Host.Outcome State Fault Refusal :=
  s.answer "SEQ_END" (WellFormed (.seqEnd c))
    ((s.issue c (rowBody 0x01 (fun _ t => .ok t))).settle)

/-- SEQ_AT (R270). -/
def execSeqAt (c : PlateCmd) (s : State) : Host.Outcome State Fault Refusal :=
  s.answer "SEQ_AT" (WellFormed (.seqAt c))
    ((s.issue c (rowBody 0x02 seqAtBody)).settle)

/-- SEQ_WINDOW (R270). -/
def execSeqWindow (c : PlateCmd) (s : State) : Host.Outcome State Fault Refusal :=
  s.answer "SEQ_WINDOW" (WellFormed (.seqWindow c))
    ((s.issue c (rowBody 0x03 seqWindowBody)).settle)

/-- SEQ_FENCE (R270). -/
def execSeqFence (c : PlateCmd) (s : State) : Host.Outcome State Fault Refusal :=
  s.answer "SEQ_FENCE" (WellFormed (.seqFence c))
    ((s.issue c (rowBody 0x04 (fun _ t => .ok t))).settle)

/-- SEQ_BARRIER (R270). -/
def execSeqBarrier (c : PlateCmd) (s : State) : Host.Outcome State Fault Refusal :=
  s.answer "SEQ_BARRIER" (WellFormed (.seqBarrier c))
    ((s.issue c (rowBody 0x05 seqBarrierBody)).settle)

/-- SEQ_SKIPIF (R270). -/
def execSeqSkipif (c : PlateCmd) (s : State) : Host.Outcome State Fault Refusal :=
  s.answer "SEQ_SKIPIF" (WellFormed (.seqSkipif c))
    ((s.issue c (rowBody 0x06 seqSkipifBody)).settle)

/-- CTX_POST (R268). -/
def execCtxPost (c : PlateCmd) (s : State) : Host.Outcome State Fault Refusal :=
  s.answer "CTX_POST" (WellFormed (.ctxPost c))
    ((s.issue c (rowBody 0x07 ctxPostBody)).settle)

/-- CTX_WAIT (R268). -/
def execCtxWait (c : PlateCmd) (s : State) : Host.Outcome State Fault Refusal :=
  s.answer "CTX_WAIT" (WellFormed (.ctxWait c))
    ((s.issue c (rowBody 0x08 ctxWaitBody)).settle)

/-- SEQ_FLIP (R271). -/
def execSeqFlip (c : PlateCmd) (s : State) : Host.Outcome State Fault Refusal :=
  s.answer "SEQ_FLIP" (WellFormed (.seqFlip c))
    ((s.issue c (rowBody 0x09 seqFlipBody)).settle)

/-- CARR_DISPATCH (R375). -/
def execCarrDispatch (c : PlateCmd) (s : State) : Host.Outcome State Fault Refusal :=
  s.answer "CARR_DISPATCH" (WellFormed (.carrDispatch c))
    ((s.issue c (rowBody 0x90 carrDispatchBody)).settle)

/-- CARR_WAIT (R377). -/
def execCarrWait (c : PlateCmd) (s : State) : Host.Outcome State Fault Refusal :=
  s.answer "CARR_WAIT" (WellFormed (.carrWait c))
    ((s.issue c (rowBody 0x91 carrWaitBody)).settle)

/-- CARR_RETURN (R377). -/
def execCarrReturn (c : PlateCmd) (s : State) : Host.Outcome State Fault Refusal :=
  s.answer "CARR_RETURN" (WellFormed (.carrReturn c))
    ((s.issue c (rowBody 0x92 carrReturnBody)).settle)

/-- CARR_COMBINE (R378). -/
def execCarrCombine (c : PlateCmd) (s : State) : Host.Outcome State Fault Refusal :=
  s.answer "CARR_COMBINE" (WellFormed (.carrCombine c))
    ((s.issue c (rowBody 0x93 carrCombineBody)).settle)

/-- CARR_REDUCE (R381). -/
def execCarrReduce (c : PlateCmd) (s : State) : Host.Outcome State Fault Refusal :=
  s.answer "CARR_REDUCE" (WellFormed (.carrReduce c))
    ((s.issue c (rowBody 0x94 carrReduceBody)).settle)

/-- HAL_LOAD (R384). -/
def execHalLoad (c : PlateCmd) (s : State) : Host.Outcome State Fault Refusal :=
  s.answer "HAL_LOAD" (WellFormed (.halLoad c))
    ((s.issue c (rowBody 0x95 halLoadBody)).settle)

end Sys2Proof.Machine
end

