-- ==== Sys2Proof/Machine/ExecPort.lean ====
section
/-! DEFINITION. ExecPort: the meanings of the timer, ports, circuits, block transport and the Carrier. A command whose operands name nothing the engine has is
refused; a module that does not run does nothing. -/

namespace Sys2Proof.Machine

/-- REF_SEL_WRITE (R327). -/
def execRefSelWrite (v : Bool) (s : State) : Host.Outcome State Fault Refusal :=
  s.answer "REF_SEL_WRITE" (WellFormed (.refSelWrite v)) (s.refSel v)

/-- SYNC (R333). -/
def execPtpSync (n : Nat) (m : SyncMsg) (s : State) : Host.Outcome State Fault Refusal :=
  s.answer "SYNC" (WellFormed (.ptpSync n m)) (s.recvSync n m)

/-- FOLLOW_UP (R330). -/
def execFollowUp (n : Nat) (seq : Nat) (t1 : Nat) (s : State) : Host.Outcome State Fault Refusal :=
  s.answer "FOLLOW_UP" (WellFormed (.followUp n seq t1)) (s.recvFollowUp n seq t1)

/-- DELAY_REQ (R330). -/
def execDelayReq (n : Nat) (seq : Nat) (rx : Nat) (s : State) : Host.Outcome State Fault Refusal :=
  s.answer "DELAY_REQ" (WellFormed (.delayReq n seq rx)) (s.recvDelayReq n seq rx)

/-- DELAY_RESP (R330). -/
def execDelayResp (n : Nat) (seq : Nat) (t4 : Nat) (s : State) : Host.Outcome State Fault Refusal :=
  s.answer "DELAY_RESP" (WellFormed (.delayResp n seq t4)) (s.recvDelayResp n seq t4)

/-- ANNOUNCE (R332). -/
def execAnnounce (n : Nat) (m : AnnMsg) (s : State) : Host.Outcome State Fault Refusal :=
  s.answer "ANNOUNCE" (WellFormed (.announce n m)) (s.recvAnnounce n m)

/-- DELAY_REQ_INTERVAL (R330). -/
def execDelayReqInterval (tx : Nat) (s : State) : Host.Outcome State Fault Refusal :=
  s.answer "DELAY_REQ_INTERVAL" (WellFormed (.delayReqInterval tx)) (s.sendDelayReq tx)

/-- TIMER_SET (R339). -/
def execTimerSet (v : Word64) (s : State) : Host.Outcome State Fault Refusal :=
  s.answer "TIMER_SET" (WellFormed (.timerSet v)) (s.timerSetWrite v.toNat)

/-- LINK_UP (R352). -/
def execLinkUp (half : Nat) (s : State) : Host.Outcome State Fault Refusal :=
  s.answer "LINK_UP" (WellFormed (.linkUp half)) (s.linkUp half)

/-- LINK_DOWN (R352). -/
def execLinkDown (half : Nat) (s : State) : Host.Outcome State Fault Refusal :=
  s.answer "LINK_DOWN" (WellFormed (.linkDown half)) (s.linkGone half)

/-- LINKDOWN_TIMEOUT (R353). -/
def execLinkdownTimeout (half : Nat) (s : State) : Host.Outcome State Fault Refusal :=
  s.answer "LINKDOWN_TIMEOUT" (WellFormed (.linkdownTimeout half)) (s.linkTimeout half)

/-- LLDP_TX_INTERVAL (R352). -/
def execLldpTxInterval (half : Nat) (s : State) : Host.Outcome State Fault Refusal :=
  s.answer "LLDP_TX_INTERVAL" (WellFormed (.lldpTxInterval half)) (s.sendLldp half)

/-- LLDPDU (R352). -/
def execLldpdu (half : Nat) (m : LldpMsg) (s : State) : Host.Outcome State Fault Refusal :=
  s.answer "LLDPDU" (WellFormed (.lldpdu half m)) (s.lldpRecv half m)

/-- NEIGHBOUR_EXPIRY (R352). -/
def execNeighbourExpiry (half : Nat) (s : State) : Host.Outcome State Fault Refusal :=
  s.answer "NEIGHBOUR_EXPIRY" (WellFormed (.neighbourExpiry half)) (s.nbrExpire half)

/-- PART_CIRCUIT_BIND (R350). -/
def execPartCircuitBind (part : Nat) (s : State) : Host.Outcome State Fault Refusal :=
  s.answer "PART_CIRCUIT_BIND" (WellFormed (.partCircuitBind part)) (s.bindPlan part)

/-- PART_CIRCUIT_UNBIND (R350). -/
def execPartCircuitUnbind (part : Nat) (s : State) : Host.Outcome State Fault Refusal :=
  s.answer "PART_CIRCUIT_UNBIND" (WellFormed (.partCircuitUnbind part)) (s.unbindPlan part)

/-- CBT_DATA (R359). -/
def execCbtData (half : Nat) (m : CbtMsg) (s : State) : Host.Outcome State Fault Refusal :=
  s.answer "CBT_DATA" (WellFormed (.cbtData half m)) ((s.recvData half m).settle)

/-- CBT_ACK (R360). -/
def execCbtAck (half : Nat) (m : CbtAckMsg) (s : State) : Host.Outcome State Fault Refusal :=
  s.answer "CBT_ACK" (WellFormed (.cbtAck half m)) (s.recvAckBlock half m)

/-- CBT_ACK_TIMER (R360). -/
def execCbtAckTimer (flow : Nat) (s : State) : Host.Outcome State Fault Refusal :=
  s.answer "CBT_ACK_TIMER" (WellFormed (.cbtAckTimer flow)) (s.ackTimer flow)

/-- CBT_RTO (R361). -/
def execCbtRto (flow : Nat) (seq : Nat) (s : State) : Host.Outcome State Fault Refusal :=
  s.answer "CBT_RTO" (WellFormed (.cbtRto flow seq)) ((s.rto flow seq).settle)

/-- CBT_GIVEUP_TIMEOUT (R361). -/
def execCbtGiveupTimeout (flow : Nat) (s : State) : Host.Outcome State Fault Refusal :=
  s.answer "CBT_GIVEUP_TIMEOUT" (WellFormed (.cbtGiveupTimeout flow)) ((s.giveUpTimeout flow).settle)

/-- PAUSE_FRAME (R344). -/
def execPauseFrame (half : Nat) (s : State) : Host.Outcome State Fault Refusal :=
  s.answer "PAUSE_FRAME" (WellFormed (.pauseFrame half)) (s.pauseFrame half)

/-- MACSEC_SAK_INSTALL (R347). -/
def execMacsecSakInstall (half : Nat) (an : Nat) (s : State) : Host.Outcome State Fault Refusal :=
  s.answer "MACSEC_SAK_INSTALL" (WellFormed (.macsecSakInstall half an)) (s.installSak half an)

/-- HAL_LOAD_SLOT_IDLE (R384). -/
def execHalLoadSlotIdle (part : Nat) (s : State) : Host.Outcome State Fault Refusal :=
  s.answer "HAL_LOAD_SLOT_IDLE" (WellFormed (.halLoadSlotIdle part)) (s.wake part)

/-- CARRIER_BATCH_SEND (R379). -/
def execCarrierBatchSend (part : Nat) (batch : Nat) (s : State) : Host.Outcome State Fault Refusal :=
  s.answer "CARRIER_BATCH_SEND" (WellFormed (.carrierBatchSend part batch)) (s.carrierBatchSend part batch)

/-- DISPATCH (R376). -/
def execDispatchMsg (part : Nat) (m : CarrMsg) (s : State) : Host.Outcome State Fault Refusal :=
  s.answer "DISPATCH" (WellFormed (.dispatchMsg part m)) ((s.carrReceive part m).wake part)

/-- RETURN (R377). -/
def execReturnMsg (part : Nat) (m : CarrMsg) (s : State) : Host.Outcome State Fault Refusal :=
  s.answer "RETURN" (WellFormed (.returnMsg part m)) ((s.carrReceive part m).wake part)

/-- GRAD_UP (R381). -/
def execGradUp (part : Nat) (m : CarrMsg) (s : State) : Host.Outcome State Fault Refusal :=
  s.answer "GRAD_UP" (WellFormed (.gradUp part m)) ((s.carrReceive part m).wake part)

/-- GRAD_DOWN (R381). -/
def execGradDown (part : Nat) (m : CarrMsg) (s : State) : Host.Outcome State Fault Refusal :=
  s.answer "GRAD_DOWN" (WellFormed (.gradDown part m)) ((s.carrReceive part m).wake part)

/-- ACCEPT (R374). -/
def execAcceptMsg (part : Nat) (m : CarrMsg) (s : State) : Host.Outcome State Fault Refusal :=
  s.answer "ACCEPT" (WellFormed (.acceptMsg part m)) ((s.carrReceive part m).wake part)

/-- REJECT (R386). -/
def execRejectMsg (part : Nat) (m : CarrMsg) (s : State) : Host.Outcome State Fault Refusal :=
  s.answer "REJECT" (WellFormed (.rejectMsg part m)) ((s.carrReceive part m).wake part)

/-- CARRIER_LOST_TIMEOUT (R380). -/
def execCarrierLostTimeout (part : Nat) (s : State) : Host.Outcome State Fault Refusal :=
  s.answer "CARRIER_LOST_TIMEOUT" (WellFormed (.carrierLostTimeout part)) ((s.carrierTimeout part).settle)

/-- STROBE (R329). -/
def execStrobe (s : State) : Host.Outcome State Fault Refusal :=
  s.answer "STROBE" (WellFormed .strobe) s.strobeEdge

/-- TIMER_REF_LOST (R327). -/
def execTimerRefLost (s : State) : Host.Outcome State Fault Refusal :=
  s.answer "TIMER_REF_LOST" (WellFormed .timerRefLost) s.refLost

/-- SYNC_INTERVAL (R330). -/
def execSyncInterval (s : State) : Host.Outcome State Fault Refusal :=
  s.answer "SYNC_INTERVAL" (WellFormed .syncInterval) s.syncInterval

/-- UPSTREAM_LOST (R333). -/
def execUpstreamLost (s : State) : Host.Outcome State Fault Refusal :=
  s.answer "UPSTREAM_LOST" (WellFormed .upstreamLost) s.upstreamGone

/-- HOLDOVER_LIMIT (R333). -/
def execHoldoverLimit (s : State) : Host.Outcome State Fault Refusal :=
  s.answer "HOLDOVER_LIMIT" (WellFormed .holdoverLimit) s.holdoverLimit

/-- PPS_IN_EDGE (R339). -/
def execPpsInEdge (s : State) : Host.Outcome State Fault Refusal :=
  s.answer "PPS_IN_EDGE" (WellFormed .ppsInEdge) s.ppsIn

/-- PPS_OUT_EDGE (R339). -/
def execPpsOutEdge (s : State) : Host.Outcome State Fault Refusal :=
  s.answer "PPS_OUT_EDGE" (WellFormed .ppsOutEdge) s.ppsOut

end Sys2Proof.Machine
end

