-- ==== Sys2Proof/Machine/ExecRing.lean ====
section
/-! DEFINITION. ExecRing: the meanings of rings, descriptors, the front end, HBM and the Drawer. A command whose operands name nothing the engine has is
refused; a module that does not run does nothing. -/

namespace Sys2Proof.Machine

/-- RING_ENABLE (R277). -/
def execRingEnable (ring : Nat) (s : State) : Host.Outcome State Fault Refusal :=
  s.answer "RING_ENABLE" (WellFormed (.ringEnable ring)) (s.enableRing ring)

/-- RING_DISABLE (R278). -/
def execRingDisable (ring : Nat) (s : State) : Host.Outcome State Fault Refusal :=
  s.answer "RING_DISABLE" (WellFormed (.ringDisable ring)) (s.disableRing ring)

/-- DOORBELL_WRITE (R280). -/
def execDoorbellWrite (addr : Nat) (data : List Byte) (s : State) : Host.Outcome State Fault Refusal :=
  s.answer "DOORBELL_WRITE" (WellFormed (.doorbellWrite addr data)) (s.doorbellWrite addr data)

/-- DESCRIPTOR_FETCH (R282). -/
def execDescriptorFetch (ring : Nat) (count : Nat) (s : State) : Host.Outcome State Fault Refusal :=
  s.answer "DESCRIPTOR_FETCH" (WellFormed (.descriptorFetch ring count)) (s.fetchDescs ring count)

/-- NOP_DESCRIPTOR (R284). -/
def execNopDescriptor (ring : Nat) (d : DescWord) (s : State) : Host.Outcome State Fault Refusal :=
  s.answer "NOP_DESCRIPTOR" (WellFormed (.nopDescriptor ring d)) (s.oneDesc ring 0 d)

/-- GENERATE (R285). -/
def execGenerate (ring : Nat) (d : DescWord) (s : State) : Host.Outcome State Fault Refusal :=
  s.answer "GENERATE" (WellFormed (.generate ring d)) (s.oneDesc ring 1 d)

/-- EMBED (R285). -/
def execEmbed (ring : Nat) (d : DescWord) (s : State) : Host.Outcome State Fault Refusal :=
  s.answer "EMBED" (WellFormed (.embed ring d)) (s.oneDesc ring 2 d)

/-- CANCEL (R294). -/
def execCancel (ring : Nat) (d : DescWord) (s : State) : Host.Outcome State Fault Refusal :=
  s.answer "CANCEL" (WellFormed (.cancel ring d)) (s.oneDesc ring 3 d)

/-- PARK (R284). -/
def execPark (ring : Nat) (d : DescWord) (s : State) : Host.Outcome State Fault Refusal :=
  s.answer "PARK" (WellFormed (.park ring d)) (s.oneDesc ring 4 d)

/-- RESUME (R284). -/
def execResume (ring : Nat) (d : DescWord) (s : State) : Host.Outcome State Fault Refusal :=
  s.answer "RESUME" (WellFormed (.resume ring d)) (s.oneDesc ring 5 d)

/-- STEP (R290). -/
def execStepDesc (ring : Nat) (d : DescWord) (s : State) : Host.Outcome State Fault Refusal :=
  s.answer "STEP" (WellFormed (.stepDesc ring d)) (s.oneDesc ring 6 d)

/-- ATTEST (R432). -/
def execAttest (ring : Nat) (d : DescWord) (s : State) : Host.Outcome State Fault Refusal :=
  s.answer "ATTEST" (WellFormed (.attest ring d)) (s.oneDesc ring 7 d)

/-- SERVICE (R221). -/
def execService (ring : Nat) (d : DescWord) (s : State) : Host.Outcome State Fault Refusal :=
  s.answer "SERVICE" (WellFormed (.service ring d)) (s.oneDesc ring 8 d)

/-- FENCE_RELEASE (R291). -/
def execFenceRelease (ring : Nat) (s : State) : Host.Outcome State Fault Refusal :=
  s.answer "FENCE_RELEASE" (WellFormed (.fenceRelease ring)) (s.fenceRelease ring)

/-- PART_INTAKE_IDX_HEAD_WRITE (R289). -/
def execPartIntakeIdxHeadWrite (part : Nat) (head : Nat) (s : State) : Host.Outcome State Fault Refusal :=
  s.answer "PART_INTAKE_IDX_HEAD_WRITE" (WellFormed (.partIntakeIdxHeadWrite part head)) (s.intakeHead part head)

/-- PART_FW_RECORD_POST (R500). -/
def execPartFwRecordPost (part : Nat) (s : State) : Host.Outcome State Fault Refusal :=
  s.answer "PART_FW_RECORD_POST" (WellFormed (.partFwRecordPost part)) (s.fwRecordPost part)

/-- RDMA_WRITE (R299). -/
def execRdmaWrite (qp : Nat) (addr : Nat) (data : List Byte) (s : State) : Host.Outcome State Fault Refusal :=
  s.answer "RDMA_WRITE" (WellFormed (.rdmaWrite qp addr data)) (s.rdmaWrite qp addr data)

/-- RDMA_READ (R298). -/
def execRdmaRead (qp : Nat) (addr : Nat) (len : Nat) (s : State) : Host.Outcome State Fault Refusal :=
  s.answer "RDMA_READ" (WellFormed (.rdmaRead qp addr len)) (s.rdmaRead qp addr len)

/-- RDMA_INVALID_REQUEST (R298). -/
def execRdmaInvalidRequest (qp : Nat) (s : State) : Host.Outcome State Fault Refusal :=
  s.answer "RDMA_INVALID_REQUEST" (WellFormed (.rdmaInvalidRequest qp)) (s.emit (.rdmaNak qp))

/-- HTTP2_CONNECTION (R301). -/
def execHttp2Connection (client : Nat) (s : State) : Host.Outcome State Fault Refusal :=
  s.answer "HTTP2_CONNECTION" (WellFormed (.http2Connection client)) (s.connect client)

/-- HTTP2_POST (R302). -/
def execHttp2Post (conn : Nat) (r : PostReq) (s : State) : Host.Outcome State Fault Refusal :=
  s.answer "HTTP2_POST" (WellFormed (.http2Post conn r)) (s.httpPost conn r)

/-- RST_STREAM (R302). -/
def execRstStream (conn : Nat) (stream : Nat) (s : State) : Host.Outcome State Fault Refusal :=
  s.answer "RST_STREAM" (WellFormed (.rstStream conn stream)) (s.rstStream conn stream)

/-- FE_RECORD_CONSUME (R303). -/
def execFeRecordConsume (conn : Nat) (window : Bool) (s : State) : Host.Outcome State Fault Refusal :=
  s.answer "FE_RECORD_CONSUME" (WellFormed (.feRecordConsume conn window)) (s.feConsume conn window)

/-- STACK_TRAINING (R312). -/
def execStackTraining (stack : Nat) (ok : Bool) (repaired : Nat) (s : State) : Host.Outcome State Fault Refusal :=
  s.answer "STACK_TRAINING" (WellFormed (.stackTraining stack ok repaired)) (s.trainStack stack ok repaired)

/-- DRAWER_TRAINING (R324). -/
def execDrawerTraining (pkg : Nat) (ok : Bool) (s : State) : Host.Outcome State Fault Refusal :=
  s.answer "DRAWER_TRAINING" (WellFormed (.drawerTraining pkg ok)) (s.trainDrawer pkg ok)

/-- WCB_READ_FILL (R313). -/
def execWcbReadFill (stack : Nat) (line : Nat) (s : State) : Host.Outcome State Fault Refusal :=
  s.answer "WCB_READ_FILL" (WellFormed (.wcbReadFill stack line)) (s.readFill stack line)

/-- HBM_TEMP_READ (R315). -/
def execHbmTempRead (stack : Nat) (tempC : Nat) (s : State) : Host.Outcome State Fault Refusal :=
  s.answer "HBM_TEMP_READ" (WellFormed (.hbmTempRead stack tempC)) (s.tempRead stack tempC)

/-- HBM_OFFLINE (R316). -/
def execHbmOffline (stack : Nat) (s : State) : Host.Outcome State Fault Refusal :=
  s.answer "HBM_OFFLINE" (WellFormed (.hbmOffline stack)) (s.stackOfflineNow stack)

/-- HBM_PATROL_READ (R420). -/
def execHbmPatrolRead (addr : Nat) (ecc : Ecc) (s : State) : Host.Outcome State Fault Refusal :=
  s.answer "HBM_PATROL_READ" (WellFormed (.hbmPatrolRead addr ecc)) ((s.patrolHbm addr ecc).settle)

/-- DRAWER_PATROL_READ (R420). -/
def execDrawerPatrolRead (addr : Nat) (ecc : Ecc) (s : State) : Host.Outcome State Fault Refusal :=
  s.answer "DRAWER_PATROL_READ" (WellFormed (.drawerPatrolRead addr ecc)) ((s.patrolDrawer addr ecc).settle)

/-- HTTP2_CONNECTION_END (R301). -/
def execHttp2ConnectionEnd (conn : Nat) (s : State) : Host.Outcome State Fault Refusal :=
  s.answer "HTTP2_CONNECTION_END" (WellFormed (.http2ConnectionEnd conn)) (s.connEnd conn)

end Sys2Proof.Machine
end

