-- ==== Sys2Proof/Machine/Dispatch.lean ====
section
/-! DEFINITION. Dispatch: each command goes to its meaning. -/

namespace Sys2Proof.Machine

/-- A command's effect on everything but the queue. [DESIGN CHOICE, log entry 11; DESIGN CHOICE, log entry 74] -/
def exec (i : Instr) (s : State) : Host.Outcome State Fault Refusal :=
  match i with
  | .registerWrite addr size val => Sys2Proof.Machine.execRegisterWrite addr size val s
  | .nopMsg at_ => Sys2Proof.Machine.execNopMsg at_ s
  | .rdReq at_ h => Sys2Proof.Machine.execRdReq at_ h s
  | .rdCpl at_ h data => Sys2Proof.Machine.execRdCpl at_ h data s
  | .wr at_ h data => Sys2Proof.Machine.execWr at_ h data s
  | .wrAck at_ h => Sys2Proof.Machine.execWrAck at_ h s
  | .doorbell at_ h data => Sys2Proof.Machine.execDoorbell at_ h data s
  | .event at_ h data => Sys2Proof.Machine.execEvent at_ h data s
  | .credit at_ c0 c1 c2 => Sys2Proof.Machine.execCredit at_ c0 c1 c2 s
  | .time die m => Sys2Proof.Machine.execTime die m s
  | .cellAlignmentLost at_ => Sys2Proof.Machine.execCellAlignmentLost at_ s
  | .ucieRetrainComplete link module repaired => Sys2Proof.Machine.execUcieRetrainComplete link module repaired s
  | .ucieRetrainTimeout link module => Sys2Proof.Machine.execUcieRetrainTimeout link module s
  | .ucieMessageSend link up h data => Sys2Proof.Machine.execUcieMessageSend link up h data s
  | .grainLoad c => Sys2Proof.Machine.execGrainLoad c s
  | .grainPass c => Sys2Proof.Machine.execGrainPass c s
  | .promotion plate group strip => Sys2Proof.Machine.execPromotion plate group strip s
  | .grainLoadKeys c => Sys2Proof.Machine.execGrainLoadKeys c s
  | .accOpen c => Sys2Proof.Machine.execAccOpen c s
  | .accPromote c => Sys2Proof.Machine.execAccPromote c s
  | .accDrain c => Sys2Proof.Machine.execAccDrain c s
  | .accQuant c => Sys2Proof.Machine.execAccQuant c s
  | .accClose c => Sys2Proof.Machine.execAccClose c s
  | .accDebugRead c => Sys2Proof.Machine.execAccDebugRead c s
  | .safeGemm c => Sys2Proof.Machine.execSafeGemm c s
  | .safeRowop c => Sys2Proof.Machine.execSafeRowop c s
  | .safeLowrank c => Sys2Proof.Machine.execSafeLowrank c s
  | .burnScan c => Sys2Proof.Machine.execBurnScan c s
  | .burnDecide c => Sys2Proof.Machine.execBurnDecide c s
  | .burnApply c => Sys2Proof.Machine.execBurnApply c s
  | .burnProduct c => Sys2Proof.Machine.execBurnProduct c s
  | .burnBranch c => Sys2Proof.Machine.execBurnBranch c s
  | .agitRotate c => Sys2Proof.Machine.execAgitRotate c s
  | .trayCopy c => Sys2Proof.Machine.execTrayCopy c s
  | .trayGather c => Sys2Proof.Machine.execTrayGather c s
  | .trayBcast c => Sys2Proof.Machine.execTrayBcast c s
  | .trayFill c => Sys2Proof.Machine.execTrayFill c s
  | .trayPower c => Sys2Proof.Machine.execTrayPower c s
  | .trayPwrSleep plate mask => Sys2Proof.Machine.execTrayPwrSleep plate mask s
  | .trayPwrWake plate mask => Sys2Proof.Machine.execTrayPwrWake plate mask s
  | .bankIsolated plate bank => Sys2Proof.Machine.execBankIsolated plate bank s
  | .trayPdAbort plate bank => Sys2Proof.Machine.execTrayPdAbort plate bank s
  | .bankAwake plate bank => Sys2Proof.Machine.execBankAwake plate bank s
  | .washTrayRead plate off ecc => Sys2Proof.Machine.execWashTrayRead plate off ecc s
  | .washForced plate off ecc => Sys2Proof.Machine.execWashForced plate off ecc s
  | .washWriteBack plate off => Sys2Proof.Machine.execWashWriteBack plate off s
  | .semTimeout plate index => Sys2Proof.Machine.execSemTimeout plate index s
  | .dodgeSpmm c => Sys2Proof.Machine.execDodgeSpmm c s
  | .dodgeCheck c => Sys2Proof.Machine.execDodgeCheck c s
  | .enlFetch c => Sys2Proof.Machine.execEnlFetch c s
  | .enlDevelop c => Sys2Proof.Machine.execEnlDevelop c s
  | .enlMerge c => Sys2Proof.Machine.execEnlMerge c s
  | .latPlist c => Sys2Proof.Machine.execLatPlist c s
  | .latWrite c => Sys2Proof.Machine.execLatWrite c s
  | .latAdmit part w => Sys2Proof.Machine.execLatAdmit part w s
  | .latPark part w => Sys2Proof.Machine.execLatPark part w s
  | .latParkMoveEnd slot ok => Sys2Proof.Machine.execLatParkMoveEnd slot ok s
  | .parkedExpiry part => Sys2Proof.Machine.execParkedExpiry part s
  | .latResume part w => Sys2Proof.Machine.execLatResume part w s
  | .latEnd part w => Sys2Proof.Machine.execLatEnd part w s
  | .latEndCancel part w => Sys2Proof.Machine.execLatEndCancel part w s
  | .loupeSample c => Sys2Proof.Machine.execLoupeSample c s
  | .exposureTick part => Sys2Proof.Machine.execExposureTick part s
  | .exposureRelease part => Sys2Proof.Machine.execExposureRelease part s
  | .admissionCutoff part => Sys2Proof.Machine.execAdmissionCutoff part s
  | .exposureCommit part => Sys2Proof.Machine.execExposureCommit part s
  | .partCreate part => Sys2Proof.Machine.execPartCreate part s
  | .partStart part => Sys2Proof.Machine.execPartStart part s
  | .partStop part => Sys2Proof.Machine.execPartStop part s
  | .partDestroy part => Sys2Proof.Machine.execPartDestroy part s
  | .contextStart ctx => Sys2Proof.Machine.execContextStart ctx s
  | .quantumExpiry ctx => Sys2Proof.Machine.execQuantumExpiry ctx s
  | .swapDecision part => Sys2Proof.Machine.execSwapDecision part s
  | .swapComplete ctx => Sys2Proof.Machine.execSwapComplete ctx s
  | .plateCommandFetch plate count => Sys2Proof.Machine.execPlateCommandFetch plate count s
  | .seqNop c => Sys2Proof.Machine.execSeqNop c s
  | .seqEnd c => Sys2Proof.Machine.execSeqEnd c s
  | .seqAt c => Sys2Proof.Machine.execSeqAt c s
  | .seqAtReached plate => Sys2Proof.Machine.execSeqAtReached plate s
  | .seqWindow c => Sys2Proof.Machine.execSeqWindow c s
  | .seqWindowReached plate => Sys2Proof.Machine.execSeqWindowReached plate s
  | .seqFence c => Sys2Proof.Machine.execSeqFence c s
  | .seqBarrier c => Sys2Proof.Machine.execSeqBarrier c s
  | .seqSkipif c => Sys2Proof.Machine.execSeqSkipif c s
  | .ctxPost c => Sys2Proof.Machine.execCtxPost c s
  | .ctxWait c => Sys2Proof.Machine.execCtxWait c s
  | .seqFlip c => Sys2Proof.Machine.execSeqFlip c s
  | .ringEnable ring => Sys2Proof.Machine.execRingEnable ring s
  | .ringDisable ring => Sys2Proof.Machine.execRingDisable ring s
  | .doorbellWrite addr data => Sys2Proof.Machine.execDoorbellWrite addr data s
  | .descriptorFetch ring count => Sys2Proof.Machine.execDescriptorFetch ring count s
  | .nopDescriptor ring d => Sys2Proof.Machine.execNopDescriptor ring d s
  | .generate ring d => Sys2Proof.Machine.execGenerate ring d s
  | .embed ring d => Sys2Proof.Machine.execEmbed ring d s
  | .cancel ring d => Sys2Proof.Machine.execCancel ring d s
  | .park ring d => Sys2Proof.Machine.execPark ring d s
  | .resume ring d => Sys2Proof.Machine.execResume ring d s
  | .stepDesc ring d => Sys2Proof.Machine.execStepDesc ring d s
  | .attest ring d => Sys2Proof.Machine.execAttest ring d s
  | .service ring d => Sys2Proof.Machine.execService ring d s
  | .fenceRelease ring => Sys2Proof.Machine.execFenceRelease ring s
  | .partIntakeIdxHeadWrite part head => Sys2Proof.Machine.execPartIntakeIdxHeadWrite part head s
  | .partFwRecordPost part => Sys2Proof.Machine.execPartFwRecordPost part s
  | .rdmaWrite qp addr data => Sys2Proof.Machine.execRdmaWrite qp addr data s
  | .rdmaRead qp addr len => Sys2Proof.Machine.execRdmaRead qp addr len s
  | .rdmaInvalidRequest qp => Sys2Proof.Machine.execRdmaInvalidRequest qp s
  | .http2Connection client => Sys2Proof.Machine.execHttp2Connection client s
  | .http2Post conn r => Sys2Proof.Machine.execHttp2Post conn r s
  | .rstStream conn stream => Sys2Proof.Machine.execRstStream conn stream s
  | .feRecordConsume conn window => Sys2Proof.Machine.execFeRecordConsume conn window s
  | .stackTraining stack ok repaired => Sys2Proof.Machine.execStackTraining stack ok repaired s
  | .drawerTraining pkg ok => Sys2Proof.Machine.execDrawerTraining pkg ok s
  | .wcbReadFill stack line => Sys2Proof.Machine.execWcbReadFill stack line s
  | .hbmTempRead stack tempC => Sys2Proof.Machine.execHbmTempRead stack tempC s
  | .hbmOffline stack => Sys2Proof.Machine.execHbmOffline stack s
  | .hbmPatrolRead addr ecc => Sys2Proof.Machine.execHbmPatrolRead addr ecc s
  | .drawerPatrolRead addr ecc => Sys2Proof.Machine.execDrawerPatrolRead addr ecc s
  | .refSelWrite v => Sys2Proof.Machine.execRefSelWrite v s
  | .ptpSync n m => Sys2Proof.Machine.execPtpSync n m s
  | .followUp n seq t1 => Sys2Proof.Machine.execFollowUp n seq t1 s
  | .delayReq n seq rx => Sys2Proof.Machine.execDelayReq n seq rx s
  | .delayResp n seq t4 => Sys2Proof.Machine.execDelayResp n seq t4 s
  | .announce n m => Sys2Proof.Machine.execAnnounce n m s
  | .delayReqInterval tx => Sys2Proof.Machine.execDelayReqInterval tx s
  | .timerSet v => Sys2Proof.Machine.execTimerSet v s
  | .linkUp half => Sys2Proof.Machine.execLinkUp half s
  | .linkDown half => Sys2Proof.Machine.execLinkDown half s
  | .linkdownTimeout half => Sys2Proof.Machine.execLinkdownTimeout half s
  | .lldpTxInterval half => Sys2Proof.Machine.execLldpTxInterval half s
  | .lldpdu half m => Sys2Proof.Machine.execLldpdu half m s
  | .neighbourExpiry half => Sys2Proof.Machine.execNeighbourExpiry half s
  | .partCircuitBind part => Sys2Proof.Machine.execPartCircuitBind part s
  | .partCircuitUnbind part => Sys2Proof.Machine.execPartCircuitUnbind part s
  | .cbtData half m => Sys2Proof.Machine.execCbtData half m s
  | .cbtAck half m => Sys2Proof.Machine.execCbtAck half m s
  | .cbtAckTimer flow => Sys2Proof.Machine.execCbtAckTimer flow s
  | .cbtRto flow seq => Sys2Proof.Machine.execCbtRto flow seq s
  | .cbtGiveupTimeout flow => Sys2Proof.Machine.execCbtGiveupTimeout flow s
  | .pauseFrame half => Sys2Proof.Machine.execPauseFrame half s
  | .macsecSakInstall half an => Sys2Proof.Machine.execMacsecSakInstall half an s
  | .carrDispatch c => Sys2Proof.Machine.execCarrDispatch c s
  | .carrWait c => Sys2Proof.Machine.execCarrWait c s
  | .carrReturn c => Sys2Proof.Machine.execCarrReturn c s
  | .carrCombine c => Sys2Proof.Machine.execCarrCombine c s
  | .carrReduce c => Sys2Proof.Machine.execCarrReduce c s
  | .halLoad c => Sys2Proof.Machine.execHalLoad c s
  | .halLoadSlotIdle part => Sys2Proof.Machine.execHalLoadSlotIdle part s
  | .carrierBatchSend part batch => Sys2Proof.Machine.execCarrierBatchSend part batch s
  | .dispatchMsg part m => Sys2Proof.Machine.execDispatchMsg part m s
  | .returnMsg part m => Sys2Proof.Machine.execReturnMsg part m s
  | .gradUp part m => Sys2Proof.Machine.execGradUp part m s
  | .gradDown part m => Sys2Proof.Machine.execGradDown part m s
  | .acceptMsg part m => Sys2Proof.Machine.execAcceptMsg part m s
  | .rejectMsg part m => Sys2Proof.Machine.execRejectMsg part m s
  | .carrierLostTimeout part => Sys2Proof.Machine.execCarrierLostTimeout part s
  | .reexecutionStart part => Sys2Proof.Machine.execReexecutionStart part s
  | .voidMsg part m => Sys2Proof.Machine.execVoidMsg part m s
  | .fetchMsg part m => Sys2Proof.Machine.execFetchMsg part m s
  | .fetchData part m => Sys2Proof.Machine.execFetchData part m s
  | .fetchFail part m => Sys2Proof.Machine.execFetchFail part m s
  | .fetchTimeout part => Sys2Proof.Machine.execFetchTimeout part s
  | .partPairEnable part partner => Sys2Proof.Machine.execPartPairEnable part partner s
  | .partPairDisable part => Sys2Proof.Machine.execPartPairDisable part s
  | .partPairForceTakeover part => Sys2Proof.Machine.execPartPairForceTakeover part s
  | .cacheMsg part m => Sys2Proof.Machine.execCacheMsg part m s
  | .stateMsg part m => Sys2Proof.Machine.execStateMsg part m s
  | .commitEnd part m => Sys2Proof.Machine.execCommitEnd part m s
  | .commitAck part m => Sys2Proof.Machine.execCommitAck part m s
  | .snapshotMsg part m => Sys2Proof.Machine.execSnapshotMsg part m s
  | .syncEnd part m => Sys2Proof.Machine.execSyncEnd part m s
  | .heartbeat part m => Sys2Proof.Machine.execHeartbeat part m s
  | .hbAck part m => Sys2Proof.Machine.execHbAck part m s
  | .faultNotice part m => Sys2Proof.Machine.execFaultNotice part m s
  | .heartbeatMiss part => Sys2Proof.Machine.execHeartbeatMiss part s
  | .witnessAnswer part grant => Sys2Proof.Machine.execWitnessAnswer part grant s
  | .claimTimeout part => Sys2Proof.Machine.execClaimTimeout part s
  | .stepWedgeCalibration r => Sys2Proof.Machine.execStepWedgeCalibration r s
  | .secPkgCtrlStart part => Sys2Proof.Machine.execSecPkgCtrlStart part s
  | .secExtend slot addr => Sys2Proof.Machine.execSecExtend slot addr s
  | .lightLeakAlarm source => Sys2Proof.Machine.execLightLeakAlarm source s
  | .getCertificate off len => Sys2Proof.Machine.execGetCertificate off len s
  | .challenge slot nonce => Sys2Proof.Machine.execChallenge slot nonce s
  | .getMeasurements index nonce => Sys2Proof.Machine.execGetMeasurements index nonce s
  | .spdmUnsupportedRequest code => Sys2Proof.Machine.execSpdmUnsupportedRequest code s
  | .bootStage1 r => Sys2Proof.Machine.execBootStage1 r s
  | .bootStage2 r => Sys2Proof.Machine.execBootStage2 r s
  | .bootStage3 bad => Sys2Proof.Machine.execBootStage3 bad s
  | .prechargeComplete vin => Sys2Proof.Machine.execPrechargeComplete vin s
  | .inputRange vin => Sys2Proof.Machine.execInputRange vin s
  | .inputOutOfRange vin => Sys2Proof.Machine.execInputOutOfRange vin s
  | .railPowerGood rail => Sys2Proof.Machine.execRailPowerGood rail s
  | .railFault rail => Sys2Proof.Machine.execRailFault rail s
  | .pwrCtrlDrain deadlineS => Sys2Proof.Machine.execPwrCtrlDrain deadlineS s
  | .powerSample vin iin pinW => Sys2Proof.Machine.execPowerSample vin iin pinW s
  | .powerSlowLoop r => Sys2Proof.Machine.execPowerSlowLoop r s
  | .droopStretch die => Sys2Proof.Machine.execDroopStretch die s
  | .droopRecover die => Sys2Proof.Machine.execDroopRecover die s
  | .getState v => Sys2Proof.Machine.execGetState v s
  | .regRead v addr count => Sys2Proof.Machine.execRegRead v addr count s
  | .regWrite v addr mask val => Sys2Proof.Machine.execRegWrite v addr mask val s
  | .settingsSave v => Sys2Proof.Machine.execSettingsSave v s
  | .settingsPatch v entries => Sys2Proof.Machine.execSettingsPatch v entries s
  | .settingsFactory v => Sys2Proof.Machine.execSettingsFactory v s
  | .vetasDrain v deadlineS => Sys2Proof.Machine.execVetasDrain v deadlineS s
  | .vetasReset v => Sys2Proof.Machine.execVetasReset v s
  | .clearHold v part => Sys2Proof.Machine.execClearHold v part s
  | .forceTakeover v part => Sys2Proof.Machine.execForceTakeover v part s
  | .feKeygen v => Sys2Proof.Machine.execFeKeygen v s
  | .credentials v body => Sys2Proof.Machine.execCredentials v body s
  | .logRead v first count => Sys2Proof.Machine.execLogRead v first count s
  | .vetasUnknownCommand v cmd => Sys2Proof.Machine.execVetasUnknownCommand v cmd s
  | .pldmFirmwareUpdate comp => Sys2Proof.Machine.execPldmFirmwareUpdate comp s
  | .sensorRefresh vals => Sys2Proof.Machine.execSensorRefresh vals s
  | .pldmSensorRead sensor => Sys2Proof.Machine.execPldmSensorRead sensor s
  | .densCtrWrite block ctr val => Sys2Proof.Machine.execDensCtrWrite block ctr val s
  | .densSelWrite block ctr val => Sys2Proof.Machine.execDensSelWrite block ctr val s
  | .http2ConnectionEnd conn => Sys2Proof.Machine.execHttp2ConnectionEnd conn s
  | .secPkgDone ok chunks => Sys2Proof.Machine.execSecPkgDone ok chunks s
  | .ucieErrorThreshold link module => Sys2Proof.Machine.execUcieErrorThreshold link module s
  | .snapshotCopyDone part => Sys2Proof.Machine.execSnapshotCopyDone part s
  | .globalLockSetup => Sys2Proof.Machine.execGlobalLockSetup s
  | .strobe => Sys2Proof.Machine.execStrobe s
  | .timerRefLost => Sys2Proof.Machine.execTimerRefLost s
  | .syncInterval => Sys2Proof.Machine.execSyncInterval s
  | .upstreamLost => Sys2Proof.Machine.execUpstreamLost s
  | .holdoverLimit => Sys2Proof.Machine.execHoldoverLimit s
  | .ppsInEdge => Sys2Proof.Machine.execPpsInEdge s
  | .ppsOutEdge => Sys2Proof.Machine.execPpsOutEdge s
  | .relFaultFwFault => Sys2Proof.Machine.execRelFaultFwFault s
  | .secNonceRead => Sys2Proof.Machine.execSecNonceRead s
  | .debugToken => Sys2Proof.Machine.execDebugToken s
  | .debugUnlockExpiry => Sys2Proof.Machine.execDebugUnlockExpiry s
  | .lockClearToken => Sys2Proof.Machine.execLockClearToken s
  | .fogDone => Sys2Proof.Machine.execFogDone s
  | .getVersion => Sys2Proof.Machine.execGetVersion s
  | .getCapabilities => Sys2Proof.Machine.execGetCapabilities s
  | .negotiateAlgorithms => Sys2Proof.Machine.execNegotiateAlgorithms s
  | .getDigests => Sys2Proof.Machine.execGetDigests s
  | .contact48vMate => Sys2Proof.Machine.execContact48vMate s
  | .prechargeTimeout => Sys2Proof.Machine.execPrechargeTimeout s
  | .presenceMated => Sys2Proof.Machine.execPresenceMated s
  | .presenceBreak => Sys2Proof.Machine.execPresenceBreak s
  | .inputOvercurrent => Sys2Proof.Machine.execInputOvercurrent s
  | .resetN => Sys2Proof.Machine.execResetN s
  | .pwrCtrlReset => Sys2Proof.Machine.execPwrCtrlReset s
  | .drainDeadline => Sys2Proof.Machine.execDrainDeadline s
  | .bootWatchdog => Sys2Proof.Machine.execBootWatchdog s
  | .activateFirmware => Sys2Proof.Machine.execActivateFirmware s
  | .densSnapNow => Sys2Proof.Machine.execDensSnapNow s
  | .densPeriodicSnapshot => Sys2Proof.Machine.execDensPeriodicSnapshot s
  | .snapshotGather => Sys2Proof.Machine.execSnapshotGather s
  | .resetNRelease => Sys2Proof.Machine.execResetNRelease s

end Sys2Proof.Machine
end

