-- ==== Sys2Proof/Machine/Step.lean ====
section
/-! DEFINITION. Step: the command at the front of the queue, or one edge of the timebase on an empty queue. -/

namespace Sys2Proof.Machine

/-- One step: the command at the front of the queue runs with the queue's rest; on an empty queue one edge of the 500 MHz
timebase passes, 2 ns, in a module that runs. [DESIGN CHOICE, log entry 1] -/
def step (s : State) : Host.Outcome State Fault Refusal :=
  match s.pending with
  | c :: cs => exec c { s with pending := cs }
  | [] => .next (if s.live then s.elapse 1 else s)

/-- The state with the command that a word spells at the front of its queue; unchanged where the word spells none. [DESIGN CHOICE, log entry 6] -/
def State.withFetchWord (s : State) (nbits w : Nat) : State :=
  match Sys2Proof.decodeTableWord nbits w with
  | some c => { s with pending := c :: s.pending }
  | none => s

end Sys2Proof.Machine
end

