-- ==== Sys2Proof/Safety.lean ====
section
/-! DEFINITION. Safety: what counts as a sound state and a safe step, in the terms the claims use. -/

namespace Sys2Proof.Machine

/-- Registers and memory stand in their canonical form, so that equal contents are equal data. -/
def State.canonical (s : State) : Bool := smapWf regDefault s.regs && s.mem.wf

/-- R451: the main switch is open and the module keeps nothing but the flash and the vault's non-volatile store: every
register, table and queue of the engine is as at reset. The commands outside, what was sent, and the model's own
counters are no part of the module. -/
def State.unpowered (s : State) : Prop :=
  s.supply.main ≠ 2 ∧ s.vault = s.vault.kept ∧
  s = { State.reset with pending := s.pending, out := s.out, vault := s.vault, flash := s.flash, supply := s.supply, nextConn := s.nextConn,
                         free := s.free }

/-! ### Links (R28, R29, R31) -/

/-- R31: a header that comes over a port is acted on: its stream is aligned, it keeps the alignment, and it repeats no message that its
receiver already holds. -/
abbrev State.accepts (s : State) (p : UciePort) (h : UcieHdr) : Prop :=
  (s.lane p.link p.module p.up).aligned = true ∧ hdrLost h = false ∧ (s.lane p.link p.module p.up).repeats h = false

/-- R28, R29: module `k` of a link takes a message at once: it is the module for the message, it does not retrain, nothing waits there, and
the class has credit for all the message's cells. -/
abbrev State.sendsOn (s : State) (link : Nat) (up : Bool) (h : UcieHdr) (k : Nat) : Prop :=
  s.moduleFor link h.cls h.addr = some k ∧ (s.lane link k up).outbox = [] ∧ (s.lane link k up).retraining = false ∧
  (s.lane link k up).credits.length = 3 ∧ cellsOf h ≤ (s.lane link k up).credit h.cls

/-- R29, R34: no work of the ring units waits for a link. -/
abbrev State.linksServed (s : State) : Prop := s.ctlHeld = [] ∧ s.fetchHeld = []

/-- Every message that a module's two directions have sent has been delivered, and none waits. -/
abbrev State.quietModule (s : State) (link module : Nat) : Prop :=
  ∀ up, (s.lane link module up).outbox = [] ∧ ∀ m ∈ (s.lane link module up).flight, m.delivered = true

/-- A command completes: it answers a next state, of which `Q` holds. -/
def Completes (i : Instr) (s : State) (Q : State → Prop) : Prop := ∃ t, exec i s = .next t ∧ Q t

/-- Only registers have changed, and of those none but the ones named. -/
def OnlyRegs (s t : State) (named : List Nat) : Prop :=
  t = { s with regs := t.regs } ∧ ∀ a, a ∉ named → t.reg a = s.reg a

/-- An address of the registers that logging and counting write by themselves: the densitometer's counters (R484) and the
indexes and losses of the log ring (R393). -/
def bookkeeping (a : Nat) : Bool :=
  decide ((0x0F0010000000 ≤ a ∧ a < 0x0F0010800000 ∧ 0x8000 ≤ a % 0x10000 ∧ a % 0x10000 < 0x8080) ∨
    (0x0F0020000000 ≤ a ∧ a < 0x0F0021000000 ∧ 0x8000 ≤ a % 0x100000 ∧ a % 0x100000 < 0x8080) ∨
    (0x0F0030000000 ≤ a ∧ a < 0x0F0030800000 ∧ 0x8000 ≤ a % 0x100000 ∧ a % 0x100000 < 0x8080) ∨
    (0x0F0040000000 ≤ a ∧ a < 0x0F0040800000 ∧ 0x8000 ≤ a % 0x100000 ∧ a % 0x100000 < 0x8180) ∨
    (0x0F0080001000 ≤ a ∧ a < 0x0F0080002000) ∨
    (0x0F0090000000 ≤ a ∧ a < 0x0F0090100000 ∧ 0x8000 ≤ a % 0x10000 ∧ a % 0x10000 < 0x8080) ∨
    a = fldAddr fREL_LOG_IDX_TAIL 0 0 ∨ a = fldAddr fREL_LOG_STAT_OVERWRITTEN 0 0)

/-- R393: does an address lie in the ring of the error log? -/
def State.inLogRing (s : State) (a : Nat) : Bool :=
  decide (s.g fREL_LOG_BASE ≤ a ∧ a < s.g fREL_LOG_BASE + 64 * 2 ^ s.g fREL_LOG_LOG2)

/-- What a command may have done apart from the registers named: events logged, occurrences counted, messages sent. No
other register has changed, no byte of memory outside the log ring, and nothing else of the state. -/
def Beside (s t : State) (named : List Nat) : Prop :=
  t = { s with regs := t.regs, mem := t.mem, lineErr := t.lineErr, tags := t.tags, logSeq := t.logSeq, corrected := t.corrected,
               dieLog := t.dieLog, out := t.out } ∧
  (∀ a, bookkeeping a = false → a ∉ named → t.reg a = s.reg a) ∧
  (∀ a, s.inLogRing a = false → t.mem.get a = s.mem.get a) ∧
  (∀ l, t.lineErrOf l = s.lineErrOf l ∨ t.lineErrOf l = .good) ∧ s.out <+: t.out

/-- Registers whose writes act beyond the fields they set, and those that a write reaches in a way of their own. -/
def actionRegs : List String :=
  ["GLOBAL_LOCK", "TRAY_PWR_SLEEP", "TRAY_PWR_WAKE", "RING_CTRL", "TIMER_CFG", "TIMER_SET", "REL_FAULT", "SEC_EXTEND", "SEC_PKG_CTRL", "SEC_TOKEN",
   "PWR_CTRL", "DENS_SNAP_CFG", "TRAY_CONF", "FAB_PORT_CFG", "FAB_INSTALL", "FAB_SYSTEM_ID", "GLOBAL_ENGINE_ID", "FAB_LLDP", "REL_LOG_IDX"] ++ densCtrRegs

/-- No partition has been created. -/
abbrev State.bare (s : State) : Prop := ∀ n, n < 16 → s.exists_ n = false

/-- No weight repair has failed (R405): nothing stands to be taken offline. -/
abbrev State.settled (s : State) : Prop := ∀ n, n < 16 → (s.prt n).repairFailed = false

/-- No partition is paired (R409). -/
abbrev State.alone (s : State) : Prop := ∀ n, n < 16 → s.pairState n = 0

/-- Nothing of partition `n` waits: no plate holds a command, the partition has no context, and no exposure of it runs. -/
def State.idle (s : State) (n : Nat) : Prop := (∀ p, (s.plate p).waiting = []) ∧ s.partCtxs n = [] ∧ s.runsCtxs n = false

/-- No flow leaves over a half (R358). -/
abbrev State.noFlow (s : State) (h : Nat) : Prop := ∀ e ∈ s.tx, flowHalf e.1 ≠ h

/-- Registers that a warm reset does not return to their reset values (R32, R316, R447, R454): the vault's, the rails', those of the links'
modules and those of the stacks' state. -/
def resetKept : List Nat :=
  [fldAddr fSEC_STAT_LOCKED 0 0, fldAddr fPWR_STAT_RAIL_PG 0 0] ++ (List.range 3).map (fun l => fldAddr fGLOBAL_UCIE_STAT_ACTIVE 0 l) ++
  (List.range 8).map (fun h => fldAddr fHBM_STAT_OFFLINE h 0)

/-- R32, R316: what stands until the next power-up: the modules that a link has lost, and the stacks that are OFFLINE. A stack's other state
is as at reset. -/
def State.keptLinks (s t : State) : Prop :=
  (∀ l, l < 3 → t.get fGLOBAL_UCIE_STAT_ACTIVE 0 l = s.get fGLOBAL_UCIE_STAT_ACTIVE 0 l ∧
    t.get fGLOBAL_UCIE_STAT_DEGRADED 0 l = s.get fGLOBAL_UCIE_STAT_DEGRADED 0 l) ∧
  ∀ h, h < 8 → t.get fHBM_STAT_OFFLINE h 0 = s.get fHBM_STAT_OFFLINE h 0 ∧ t.get fHBM_STAT_TRAINED h 0 = 0 ∧ t.get fHBM_STAT_LEVEL h 0 = 0

/-! ### Rings (R282–R296) -/

/-- Two ranges have no byte in common. -/
abbrev apart (a n b m : Nat) : Prop := a + n ≤ b ∨ b + m ≤ a

/-- The ring of the error log has no byte in common with a range. -/
abbrev State.offLog (s : State) (a n : Nat) : Prop := ∀ j, j < n → s.inLogRing (a + j) = false

/-- R293: place of the next completion record of a ring. -/
def State.recordPlace (s : State) (r : Nat) : Nat := (s.ring r).cqBase + (s.ring r).cqTail % 2 ^ (s.ring r).cqLog2 * 32

/-- R29, R33, R34: the link of die `d` takes the ring unit's messages of up to 5 cells, and none of them waits. -/
abbrev State.ctlReady (s : State) (d : Nat) : Prop :=
  (∀ e ∈ s.ctlHeld, e.1 ≠ d) ∧ s.ctlOpen d true 5 = true ∧ s.ctlOpen d false 1 = true

/-- R293–R295, R416: one more record fits, its place takes it, the ring unit's link takes its messages, nothing else that is written with the
record lies there, and the ring's partition is not FENCED. -/
abbrev State.recordRoom (s : State) (r : Nat) : Prop :=
  s.ctlReady (s.ringDie r) ∧ s.fencedRing r = false ∧
  ((s.ring r).cqTail + 2 ^ 32 - (s.ring r).cqHeadSeen) % 2 ^ 32 < 2 ^ (s.ring r).cqLog2 ∧ s.badWriteLine (s.recordPlace r) 32 = none ∧
  s.offLog (s.recordPlace r) 32 ∧ apart (s.recordPlace r) 32 (s.ringEntry r + 32) 32

/-- R292–R296: the next record of a ring has been placed: FINAL, without a token, stamped now, with the partition's exposure. -/
def RecordWritten (s t : State) (r reqId status token1 : Nat) : Prop :=
  t.bytes (s.recordPlace r) 32 = recordBytes reqId status (flagsWithPhase flagFinal (s.ring r).cqTail (s.ring r).cqLog2) noToken token1
    (s.partNow ((s.partOfRing r).getD 0)) (s.get fPART_EXPO_NOW_EXPO ((s.partOfRing r).getD 0) 0) ∧
  (t.ring r).cqTail = ((s.ring r).cqTail + 1) % 2 ^ 32 ∧ (t.ring r).finals = (s.ring r).finals + 1

/-- What the ring unit may have done at ring `r`: its own copy of the ring, the ring's next record and its E fields in memory or waiting for the
link to ZD, the counts and the log. Nothing else. -/
def RingWork (s t : State) (r : Nat) : Prop :=
  t = { s with regs := t.regs, mem := t.mem, lineErr := t.lineErr, tags := t.tags, logSeq := t.logSeq, corrected := t.corrected,
               dieLog := t.dieLog, out := t.out, rings := t.rings, ctlHeld := t.ctlHeld } ∧
  (∀ q, q ≠ r → t.ring q = s.ring q) ∧ (∀ a, bookkeeping a = false → t.reg a = s.reg a) ∧
  (∀ b, s.inLogRing b = false → b < s.recordPlace r ∨ s.recordPlace r + 32 ≤ b → b < s.ringEntry r + 32 ∨ s.ringEntry r + 64 ≤ b →
    t.mem.get b = s.mem.get b)

/-- R282, R289, R291: the ring unit may take descriptor `d` at the head of ring `r` of partition `n`: the ring is ACTIVE, a
descriptor is pending, and a FENCE has nothing to wait for. -/
abbrev State.takes (s : State) (r n : Nat) (d : DescWord) : Prop :=
  s.partOfRing r = some n ∧ (s.ring r).state = 1 ∧ (s.ring r).disabling = false ∧ (s.ring r).sqHead ≠ (s.ring r).sqTailSeen ∧
  (descFence d = true → (s.ring r).handed ≤ (s.ring r).finals)

/-- R289: the ring unit hands descriptor `d` on to firmware. -/
def State.handOn (s : State) (r n : Nat) (d : DescWord) : State := ((s.dens (s.ringBlock r) 1 1).consume r).toIntake n d

/-- R282, R34: one descriptor of ring `r` read: RD_REQ and RD_CPL with its 64 bytes between the home die and ZD, and the read counted. -/
def State.readOne (s : State) (r : Nat) : State :=
  let a := (s.ring r).sqBase + (s.ring r).sqHead % 2 ^ (s.ring r).sqLog2 * 64
  let bs := s.bytes a 64
  let req := sysHdr 1 0 a 4
  ((s.sendCtl (s.ringDie r) true req []).dens (s.ringBlock r) 1 1).sendCtl (s.ringDie r) false
    { req with typ := 2, flags := 8, len := 4, word := crc32c bs } bs

/-- R289: place of the next entry of a partition's intake queue. -/
def State.intakePlace (s : State) (n : Nat) : Nat :=
  s.get fPART_INTAKE_BASE n 0 + s.get fPART_INTAKE_IDX_TAIL n 0 % 2 ^ s.get fPART_INTAKE_LOG2 n 0 * 64

/-! ### Memory behind its buffers (R313, R314) -/

/-- Registers that work on memory counts in by itself: corrected and uncorrectable words of the trays, the stacks and the Drawer, and the
entries of a stack's write-combining buffer (R168, R313, R317, R319). -/
def memRegs : List Nat :=
  (List.range 128).flatMap (fun p => [fldAddr fTRAY_ECC_STAT_CE p 0, fldAddr fTRAY_ECC_ADDR_OFFSET p 0]) ++
  (List.range 8).flatMap (fun h => [fldAddr fHBM_ECC_STAT_CE h 0, fldAddr fHBM_ECC_ADDR_ADDR h 0, fldAddr fHBM_WCB_STAT_ENTRIES h 0]) ++
  [fldAddr fDRW_ECC_STAT_UE 0 0, fldAddr fDRW_ECC_ADDR_ADDR 0 0]

/-- Work on memory that may lie behind a stack's write-combining buffer: no byte outside `dest` and the log ring has changed, no register
but those that such work counts in, and of the rest only the buffers, with the acknowledgements that leave them. -/
def MemWork (s t : State) (dest : Nat → Prop) : Prop :=
  t = { s with regs := t.regs, mem := t.mem, lineErr := t.lineErr, tags := t.tags, logSeq := t.logSeq, corrected := t.corrected,
               dieLog := t.dieLog, out := t.out, free := t.free, streams := t.streams, wcb := t.wcb, ucie := t.ucie } ∧
  (∀ a, bookkeeping a = false → a ∉ memRegs → t.reg a = s.reg a) ∧
  (∀ a, s.inLogRing a = false → ¬ dest a → t.mem.get a = s.mem.get a)

/-! ### Walkers (R220, R221) -/

/-- R222: FRAMES that an admission of `len` positions reserves, when none is matched. -/
def framesFor (len reserve : Nat) : Nat := min (ceilDiv (len + reserve) 64) 4096

/-- R458, R256, R354: nothing keeps requests of partition `n` out. -/
abbrev State.admits (s : State) (n : Nat) : Prop :=
  s.draining = false ∧ s.get fPART_STAT_HOLD n 0 ≠ 1 ∧ (s.prt n).portMissing = false

/-- R221: the walkers' queue after its first command, which came from ring `r` as `id`, has ended with `status`: `xs` is left, the
command's completion is owed, and no PARK or RESUME waits for it any more (R294). -/
def State.svcDone (s : State) (n r id status : Nat) (xs : List SvcCmd) : Part :=
  { s.prt n with
    svc := xs,
    moves := (s.prt n).moves.map (fun m => { m with svc := m.svc.filter (fun w => decide (w ≠ (r, id))) }),
    owed := (s.prt n).owed ++ [{ ring := r, reqId := id, status := status, flags := flagFinal, token0 := noToken, token1 := 0 }] }

/-! ### Plate commands (R95–R105, R148–R155, R261) -/

/-- R149, R261, R264: a plate command may begin at once: its plate runs a program of a partition, no earlier command waits, no branch
passes the command over, the lane's context need not make way, and the semaphore count it takes is there. -/
abbrev State.ready (s : State) (c : PlateCmd) : Prop :=
  s.live = true ∧ c.plate < 128 ∧ s.ownerOf c.plate < 16 ∧ (s.prt (s.ownerOf c.plate)).voided = false ∧ (s.plate c.plate).ended = false ∧
  (s.plate c.plate).waiting = [] ∧ (s.plate c.plate).skip ≤ c.index ∧ s.mayIssue c.plate = true ∧
  (c.waitSem = true → s.staticMode c.plate = true ∨ (0 < c.waitCnt ∧ c.waitCnt ≤ s.sem c.plate c.waitIdx))

/-- R149, R261, R482: the state in which the unit of a ready command begins its work: the command is no longer among the fetched ones, is
followed if it is tagged, and has taken its semaphore count. -/
def State.begun (s : State) (c : PlateCmd) : State :=
  let x := s.plate c.plate
  let s1 := s.setPlate c.plate { x with fetched := x.fetched.filter (fun f => decide (f.1 ≠ c.index)),
                                        waiting := [{ cmd := c, why := .unit, begun := false, mask := 0 }] }
  let s2 := if c.tag then s1.tagCmd c.plate c.index c.opc true else s1
  if c.waitSem && !s.staticMode c.plate then s2.setSem c.plate c.waitIdx (s2.sem c.plate c.waitIdx - c.waitCnt) else s2

/-- Plate command `i`, which is `c`, does its work and completes: `Q` holds between the state in which its unit began and the one in which
its work is done. Its sample, its signal and what they let happen on the partition's plates come after (R149, R482). -/
def Runs (i : Instr) (c : PlateCmd) (s : State) (Q : State → State → Prop) : Prop :=
  ∃ t : State, exec i s = .next (((t.succeed c 0).wake (s.ownerOf c.plate)).settle) ∧ Q (s.begun c) t

/-- Plate command `i`, which is `c`, waits for `why`; nothing else changes. -/
def Waits (i : Instr) (c : PlateCmd) (s : State) (why : WaitWhy) : Prop :=
  exec i s = .next ((((s.begun c).setWaiter c.plate 0 { cmd := c, why := why, begun := false, mask := 0 }).wake (s.ownerOf c.plate)).settle)

/-- Every bank of plate `p` is AWAKE, and no line of its tray is uncorrectable. -/
def State.wholeTray (s : State) (p : Nat) : Prop :=
  (∀ b, b < 64 → s.bankAwake p b = true) ∧ ∀ l, isTray l = true → trayPlate l = p → s.lineErrOf l ≠ .bad

/-- R145: end of the tray offsets that the grain side of plate `p` reaches. -/
def State.grainTop (s : State) (p : Nat) : Nat := if s.splitMode p then 0x600000 else trayWin

/-- R110: device address of a cluster tray address. -/
def clAt (p a : Nat) : Nat := trayAddr (clusterAddr p a).1 (clusterAddr p a).2

/-- R110: a cluster tray range within one window. -/
abbrev clIn (a n : Nat) : Prop := a < 2 ^ 26 ∧ a % 2 ^ 23 + n ≤ trayWin

/-- R116: the record of weight `i`, column `j` of a weight record lies whole in its window, with its multiplier, and its trit is valid. -/
abbrev State.weightIn (s : State) (p : Nat) (w : WRec) (i j : Nat) : Prop :=
  let rows := if w.grouped then 128 else 160
  let col := w.tile + i / rows * w.tileStride + j * w.colBytes
  clIn col (colBytesRead w.fmt w.plane rows) ∧ (w.fmt = 0 → t5Invalid (s.le (clAt p (col + i % rows / 5)) 1) = false) ∧
  (w.grouped = true → clIn (w.gmult + i / rows * w.gmultTile + j * w.gmultStride + i % rows / w.gsize) 1)

/-- R91: the drain record at a cluster tray address. -/
def State.drainAt (s : State) (p a : Nat) : DrainRec := drainRec (s.bytes (clAt p a) 64)
/-- R91: a cluster unit may take the drain record at `a`. -/
abbrev State.drainIn (s : State) (p a : Nat) : Prop := a % 64 = 0 ∧ clIn a 64 ∧ drainRecOk (s.drainAt p a) = true
/-- R91: the `n` channel scales of a drain record lie in one window. -/
abbrev scalesIn (r : DrainRec) (n : Nat) : Prop := clIn r.sw ((if r.swBf16 then 2 else 4) * n)

/-- The addresses of `n` bytes from a cluster tray address. -/
abbrev atCl (p b n a : Nat) : Prop := clAt p b ≤ a ∧ a < clAt p b + n

/-- The quantisers bound to streams are all that differs between the partitions of two states, and only partition `n`'s (R64). -/
abbrev onlyBound (b t : State) (n : Nat) : Prop := (∀ m, m ≠ n → t.prt m = b.prt m) ∧ t.prt n = { b.prt n with bound := (t.prt n).bound }

/-- Rows of `n` bytes, `stride` apart from `base`: does an address lie in one of the first `k`? -/
def inRows (base stride n k a : Nat) : Prop := ∃ i, i < k ∧ base + i * stride ≤ a ∧ a < base + i * stride + n

/-- The work of a plate's unit on memory: no byte outside `dest` and the log ring has changed, and no register but the counts of
corrected errors (R168) and the bookkeeping ones. -/
def UnitWork (s t : State) (dest : Nat → Prop) : Prop :=
  t = { s with regs := t.regs, mem := t.mem, lineErr := t.lineErr, tags := t.tags, logSeq := t.logSeq, corrected := t.corrected,
               dieLog := t.dieLog, out := t.out, free := t.free, streams := t.streams } ∧
  (∀ a, bookkeeping a = false → (∀ q, q < 128 → a ≠ fldAddr fTRAY_ECC_STAT_CE q 0) → t.reg a = s.reg a) ∧
  (∀ a, s.inLogRing a = false → ¬ dest a → t.mem.get a = s.mem.get a)

/-- R156–R162, R169, R316: DMA of partition `n` may read a range: granted, on no STOPPED stack, awake, and without damage. -/
abbrev State.dmaReadable (s : State) (n a len : Nat) : Prop :=
  s.dmaGranted n a len true = true ∧ s.held a len = false ∧ s.sleepAt a len = none ∧ s.badLine a len = none ∧
  ∀ b ∈ wholeBlocks a len, (isTray a || isDrawer a) = true → s.tagBroken b = false

/-- R156–R162, R271, R316: DMA of partition `n` may write a range: granted, on no STOPPED stack, awake, writable, and not of the active
generation. -/
abbrev State.dmaWritable (s : State) (n a len : Nat) : Prop :=
  s.dmaGranted n a len false = true ∧ s.held a len = false ∧ s.hitsActiveGen n a len = false ∧ s.sleepAt a len = none ∧
  s.badWriteLine a len = none

/-- R156, R270: the destination semaphore of a DMA command, if it names one (`en`, `cnt`), is one of a plate of its partition and lane. -/
abbrev State.dsemReady (s : State) (c : PlateCmd) (en cnt dst : Nat) : Prop :=
  en = 1 → cnt ≠ 0 ∧ isTray dst = true ∧ s.partOfPlate (trayPlate dst) = s.partOfPlate c.plate ∧
    ∀ id, (s.plate c.plate).ctx = some id → trayPlate dst ∈ lanePlates (s.ctx id)

/-- R154: a write that lands in a tray in STATIC mode is in time. -/
abbrev State.inTime (s : State) (c : PlateCmd) (due dst : Nat) : Prop :=
  s.staticMode c.plate = true → isTray dst = true → s.cycles c.plate ≤ due

/-- Plates differ in their semaphores alone. -/
abbrev onlySems (b t : State) : Prop := ∀ q, { t.plate q with sems := [] } = { b.plate q with sems := [] }

/-- R162, R316: partition `n` may read a range by a plate command: granted, on no STOPPED stack, awake, without damage. -/
abbrev State.canRead (s : State) (n a len : Nat) : Prop :=
  s.granted n a len true = true ∧ s.held a len = false ∧ s.sleepAt a len = none ∧ s.badLine a len = none

/-- R162, R316: partition `n` may write a range by a plate command. -/
abbrev State.canWrite (s : State) (n a len : Nat) : Prop :=
  s.granted n a len false = true ∧ s.held a len = false ∧ s.sleepAt a len = none ∧ s.badWriteLine a len = none

/-- R195: where ENL_FETCH finds the codes and the scales of a head in a page: K (`kind` false) or V. -/
def State.headAt (s : State) (n page head : Nat) (kind : Bool) : Nat × Nat :=
  let base := s.pageAddr n page + head * s.hsz n
  if kind then (base + 64 * s.kstr n + 128, base + 64 * (s.kstr n + s.vstr n) + 128) else (base, base + 64 * s.kstr n)

/-- R195, R217: an entry of a page list that ENL_FETCH takes: absent, or a page of the partition in the format named, whose codes and scales
are readable. -/
abbrev State.pageIn (s : State) (n page head : Nat) (kind four : Bool) : Prop :=
  page = none32 ∨
  (s.get fPART_LAT_RANGE_FIRST n 0 ≤ page ∧ page < s.get fPART_LAT_RANGE_FIRST n 0 + s.get fPART_LAT_RANGE_PAGES n 0 ∧
    bitsOf (s.le (s.ptAddr n page + 1) 1) (if kind then 1 else 0) 1 = (if four then 1 else 0) ∧ s.offLog (s.ptAddr n page + 1) 1 ∧
    s.canRead n (s.headAt n page head kind).1 (64 * if kind then s.vstr n else s.kstr n) ∧ s.canRead n (s.headAt n page head kind).2 128)

/-- R369, R370: the entry of layer `l` is readable and keeps its ranges. -/
abbrev State.layerReady (s : State) (n l : Nat) : Prop :=
  s.canRead n (s.get fCARR_LAYERS_ADDR n 0 + 64 * l) 64 ∧ s.layerOk n (s.layerRaw n l) = true

/-- R369: the inbound region of a partition: does an address lie there? -/
abbrev State.inbound (s : State) (n a : Nat) : Prop := s.inInbound n a 1 = true

/-- The work of a Carrier command: on memory as `MemWork` says, and besides that on the Carrier's own state, on the partition's, and on
CARR_STAT. -/
def CarrierWork (s t : State) (n : Nat) (dest : Nat → Prop) : Prop :=
  MemWork { s with carr := t.carr, parts := t.parts, regs := t.regs } t dest ∧ (∀ m, m ≠ n → t.prt m = s.prt m) ∧
  ∀ a, bookkeeping a = false → a ∉ memRegs → a ≠ fldAddr fCARR_STAT_OUT_USED_4K n 0 → t.reg a = s.reg a

end Sys2Proof.Machine
end

