-- ==== Sys2Proof/Certificates/Slice0/Obligations.lean ====
section
/-! DEFINITION. Obligations: the statements for the provers, by what they speak of. -/

open Sys2Proof Sys2Proof.Machine

/-- A step runs the command at the front of the queue with the queue's rest. On an empty queue (the model's choice, log entry 1) one edge
of the timebase passes in a module that runs, and nothing happens in one that does not. -/
def Obligations.AStepRunsTheFrontCommand : Prop :=
  (∀ (s : State) c cs, s.pending = c :: cs → step s = exec c { s with pending := cs }) ∧
  (∀ s : State, s.pending = [] → s.live = false → step s = .next s) ∧
  (∀ s : State, s.pending = [] → s.live = true → ∃ t : State, step s = .next t ∧
    t.timer.master.time = (s.timer.master.time + (2 * ((2 ^ 40 : Int) + s.timer.master.rate)).toNat) % 2 ^ 104 ∧
    t.timer.master.rate = s.timer.master.rate ∧ t.timer.servo = s.timer.servo ∧ t.timer.strobe = s.timer.strobe ∧
    Beside { s with timer := t.timer, plates := t.plates, washHeld := t.washHeld } t [] ∧
    (s.bare → s.washHeld = [] → t = { s with timer := t.timer, plates := t.plates }))

/-- The state after reset, which is that right after power-up (log entry 4): every register holds what the tables give it, nothing stands
in memory, in a queue, table or buffer, the module is in BOOT with the main switch closed, no register is locked, no partition exists, and
registers and memory are in canonical form. Registers to which the spec gives no reset value rest on log entry 3. -/
def Obligations.ResetLeavesTheStatedValues : Prop :=
  (∀ a r, findReg a = some r → State.reset.reg a = regDefault a) ∧
  State.reset.g fPWR_STATE_STATE = 2 ∧ State.reset.g fPWR_STATE_DRAINED = 0 ∧ State.reset.supply.main = 2 ∧ State.reset.live = true ∧
  State.reset.g fGLOBAL_LOCK_SETUP = 0 ∧ State.reset.g fREL_FAULT_FAULT = 0 ∧ State.reset.g fTIMER_STAT_STATE = 0 ∧
  State.reset.now = 1 ∧
  (∀ n, n < 16 → State.reset.exists_ n = false ∧ State.reset.pairState n = 0) ∧ (∀ p, State.reset.plate p = Plate.init) ∧
  State.reset.pending = [] ∧ State.reset.out = [] ∧ State.reset.rings = [] ∧ State.reset.ctxs = [] ∧ State.reset.slots = [] ∧
  State.reset.canonical = true

/-- Commands end by kind, not by chance: operands that name nothing the engine has are refused as ill-formed; every other command answers
a next state, except that a message's read or write of an address that no region of the map covers faults; and while the module does not
run, only the commands of its supply do anything (R451, R453, R454). -/
def Obligations.CommandsEndAsTheirOperandsSay : Prop :=
  ∀ (s : State) (i : Instr),
  (WellFormed i = false → ∃ m, exec i s = .refused (.illFormed m)) ∧
  (WellFormed i = true → (∃ t : State, exec i s = .next t) ∨
    (s.live = true ∧ ∃ p h, (i = .rdReq p h ∨ ∃ d, i = .wr p h d) ∧ exec i s = .fault (.unmappedAddress h.addr))) ∧
  (WellFormed i = true → s.live = false → i ∉ [.contact48vMate, .prechargeTimeout, .presenceMated, .presenceBreak, .inputOvercurrent, .resetN,
      .resetNRelease] → (∀ vin, i ≠ .prechargeComplete vin ∧ i ≠ .inputOutOfRange vin) → (∀ rail, i ≠ .railPowerGood rail ∧ i ≠ .railFault rail) →
    exec i s = .next s)

/-- R451–R453: whatever command comes, a module without power stays without, and keeps its flash records and the vault's non-volatile
store, until presence that mates or a precharge that completes closes its main switch; it then stands in BOOT with everything else as at
reset. No step of it faults. -/
def Obligations.AModuleWithoutPowerKeepsNothingElse : Prop :=
  ∀ s : State, s.unpowered →
  (∀ f, step s ≠ .fault f) ∧
  ∀ t : State, step s = .next t →
    t.pending = s.pending.tail ∧ t.vault = s.vault ∧ t.flash.recs = s.flash.recs ∧
    ((t.unpowered ∧ t.out = s.out) ∨
     (s.supply.main = 1 ∧ (s.pending.head? = some .presenceMated ∨ ∃ vin, s.pending.head? = some (.prechargeComplete vin)) ∧
      t.supply = Supply.init ∧ t.g fPWR_STATE_STATE = 2 ∧ s.out <+: t.out ∧ t.plates = [] ∧ t.parts = [] ∧ t.ctxs = [] ∧ t.slots = [] ∧
      t.rings = [] ∧ t.nbrs = [] ∧ t.timer = Timer.init ∧
      ∀ a, bookkeeping a = false → a ≠ fldAddr fSEC_STAT_LOCKED 0 0 → t.reg a = regDefault a))

/-- R451: a module that has just lost its power is in the state of which the statement above speaks, whatever it did before. -/
def Obligations.PowerOffLeavesAModuleWithoutPower : Prop :=
  (∀ s : State, s.powerOff.unpowered) ∧ State.reset.powerOff.unpowered ∧
  (∀ s : State, s.supply.main = 2 → ∃ t : State, step { s with pending := .presenceBreak :: s.pending } = .next t ∧ t.unpowered ∧ t.vault = s.vault.kept)

/-- R27, R29–R31: what a message or a link event does to its module. A NOP has no effect; CREDIT adds its cells to the sender's credit in
each class and marks as received what they cover; lost alignment and an error rate above the threshold put both directions of an active
module into retraining, and lost alignment discards the receiver's stream, a reserved TYPE or CLASS or a LEN above 256 among its causes; in
a discarded stream no message is acted on; a completed retrain brings both directions back and is counted. R25–R29, R31: a message sent on a
link leaves on the module that module selection names, at the cost of its cells in its class, and is kept by its sender only while an answer
is due; without credit it waits. -/
def Obligations.LinkEventsAndSends : Prop :=
  (∀ s : State, s.live = true →
   (∀ p, WellFormed (.nopMsg p) = true → exec (.nopMsg p) s = .next s) ∧
   (∀ p c0 c1 c2, WellFormed (.credit p c0 c1 c2) = true → (s.lane p.link p.module (!p.up)).outbox = [] → s.linksServed →
     exec (.credit p c0 c1 c2) s = .next (s.setLane p.link p.module (!p.up)
       { s.lane p.link p.module (!p.up) with
         credits := [(s.lane p.link p.module (!p.up)).credit 0 + c0, (s.lane p.link p.module (!p.up)).credit 1 + c1,
                     (s.lane p.link p.module (!p.up)).credit 2 + c2],
         flight := retireCells (fun m => (m.hdr.cls, cellsOf m.hdr)) [c0, c1, c2] (s.lane p.link p.module (!p.up)).flight,
         got := retireCells (fun g => (g.cls, g.cells)) [c0, c1, c2] (s.lane p.link p.module (!p.up)).got })) ∧
   (∀ p, WellFormed (.cellAlignmentLost p) = true → (s.get fGLOBAL_UCIE_STAT_ACTIVE 0 p.link).testBit p.module = true →
     Completes (.cellAlignmentLost p) s (fun t =>
       (t.lane p.link p.module true).retraining = true ∧ (t.lane p.link p.module false).retraining = true ∧
       (t.lane p.link p.module p.up).aligned = false ∧ t = { s with ucie := t.ucie })) ∧
   (∀ p h data, (s.lane p.link p.module p.up).aligned = true → hdrLost h = true →
     (WellFormed (.rdReq p h) = true → exec (.rdReq p h) s = exec (.cellAlignmentLost p) s) ∧
     (WellFormed (.wr p h data) = true → exec (.wr p h data) s = exec (.cellAlignmentLost p) s)) ∧
   (∀ p h data, (s.lane p.link p.module p.up).aligned = false →
     (WellFormed (.rdReq p h) = true → exec (.rdReq p h) s = .next s) ∧ (WellFormed (.wr p h data) = true → exec (.wr p h data) s = .next s) ∧
     (WellFormed (.event p h data) = true → exec (.event p h data) s = .next s) ∧
     (WellFormed (.doorbell p h data) = true → exec (.doorbell p h data) s = .next s)) ∧
   (∀ link module, WellFormed (.ucieErrorThreshold link module) = true →
     (s.get fGLOBAL_UCIE_STAT_ACTIVE 0 link).testBit module = true →
     Completes (.ucieErrorThreshold link module) s (fun t =>
       (t.lane link module true).retraining = true ∧ (t.lane link module false).retraining = true ∧ t = { s with ucie := t.ucie })) ∧
   (∀ link module repaired, WellFormed (.ucieRetrainComplete link module repaired) = true →
     (s.lane link module true).retraining = true → s.quietModule link module → s.dieLog = [] → s.linksServed →
     Completes (.ucieRetrainComplete link module repaired) s (fun t =>
       (∀ up, t.lane link module up = (s.lane link module up).restart) ∧
       t.get fGLOBAL_UCIE_STAT_RETRAINS 0 link = satAdd (s.get fGLOBAL_UCIE_STAT_RETRAINS 0 link) 1 255 ∧
       t.get fGLOBAL_UCIE_STAT_REPAIRED 0 link = satAdd (s.get fGLOBAL_UCIE_STAT_REPAIRED 0 link) repaired 65535 ∧
       t = { s with ucie := t.ucie, regs := t.regs, dieLog := [] }))) ∧
  (∀ (s : State) link up h data k, s.live = true → WellFormed (.ucieMessageSend link up h data) = true →
   (s.sendsOn link up h k →
    Completes (.ucieMessageSend link up h data) s (fun t =>
     t.out = s.out ++ [.ucie link k up h data] ∧
     (t.lane link k up).credit h.cls = (s.lane link k up).credit h.cls - cellsOf h ∧
     (t.lane link k up).flight = (s.lane link k up).flight ++ [{ hdr := h, data := data, resends := 0, delivered := false }] ∧
     (t.lane link k up).outbox = (if h.typ = 3 ∨ h.typ = 1 then [{ hdr := h, data := data, resends := 0, delivered := true }] else []) ∧
     (∀ link' k' up', laneKey link' k' up' ≠ laneKey link k up → t.lane link' k' up' = s.lane link' k' up') ∧
     t = { s with ucie := t.ucie, out := t.out })) ∧
   (s.moduleFor link h.cls h.addr = some k → (s.lane link k up).outbox = [] → (s.lane link k up).credit h.cls < cellsOf h →
    exec (.ucieMessageSend link up h data) s = .next (s.setLane link k up
      { s.lane link k up with outbox := [{ hdr := h, data := data, resends := 0, delivered := false }] })))

/-- R11, R26, R27, R30, R313, R319: what an RD_REQ and a WR of memory do. A read that its sender may make, of lines without error, is
answered with the bytes as they stand, their CRC-32C in WORD, and changes nothing else. A WR stores its data, which later reads see, and
nothing beside; one to a tray or the Drawer, or of whole lines of HBM, is acknowledged. A WR to the Drawer whose link ECC fails (a free
value, log entry 73) is answered with ST_DRAWER_UE. A WR whose CRC fails is asked for again and stores nothing; one outside what its sender
may reach is logged, answered with ST_RANGE_FAULT, and stores nothing. R29: each message's buffer is freed, and its cells return as CREDIT;
the answers are messages like any other. -/
def Obligations.MessagesReadAndWriteMemory : Prop :=
  (∀ (s : State) p h k, s.live = true → WellFormed (.rdReq p h) = true → s.accepts p h → s.msgGranted h (16 * (h.word % 65536)) true = true →
    isMemory h.addr (16 * (h.word % 65536)) = true → s.held h.addr (16 * (h.word % 65536)) = false →
    s.sleepAt h.addr (16 * (h.word % 65536)) = none →
    (∀ l ∈ linesOf h.addr (16 * (h.word % 65536)), s.lineErrOf l = .good ∧ s.stackOffline l = false) →
    16 * (h.word % 65536) < 4096 ∨ s.tagBroken h.addr = false →
    s.sendsOn p.link (!p.up)
        { h with typ := 2, flags := 0, len := h.word % 65536, word := crc32c (s.bytes h.addr (16 * (h.word % 65536))) } k →
    Completes (.rdReq p h) s (fun t =>
      t.out.getLast? = some (.ucie p.link k (!p.up)
        { h with typ := 2, flags := 0, len := h.word % 65536, word := crc32c (s.bytes h.addr (16 * (h.word % 65536))) }
        (toBytes (s.bytes h.addr (16 * (h.word % 65536))))) ∧ Beside { s with ucie := t.ucie } t [])) ∧
  (∀ (s : State) p h data, s.live = true → WellFormed (.wr p h data) = true → s.accepts p h → crc32c (ofBytes data) = h.word →
    s.msgGranted h data.length false = true → isMemory h.addr data.length = true → s.held h.addr data.length = false →
    (∀ l ∈ linesOf h.addr data.length, s.stackOffline l = false) → s.sleepAt h.addr data.length = none →
    Completes (.wr p h data) s (fun t =>
      (∀ j, j < data.length → s.inLogRing (h.addr + j) = false → (isDrawer h.addr = true → Config.drawerLinkFails s.free = false) →
        t.mem.get (h.addr + j) = data.getD j 0) ∧
      (∀ a, a < h.addr ∨ h.addr + data.length ≤ a → s.inLogRing a = false → t.mem.get a = s.mem.get a) ∧
      (∀ k, isHbm h.addr = false ∨ (s.wcb = [] ∧ h.addr % 64 = 0 ∧ data.length % 64 = 0) → (isDrawer h.addr = true → Config.drawerLinkFails s.free = false) →
        s.sendsOn p.link (!p.up) (wrAckHdr h 0 0) k → t.out.getLast? = some (.ucie p.link k (!p.up) (wrAckHdr h 0 0) [])) ∧
      (∀ k, isDrawer h.addr = true → Config.drawerLinkFails s.free = true → s.sendsOn p.link (!p.up) (wrAckHdr h 1 stDrawerUe) k →
        t.out.getLast? = some (.ucie p.link k (!p.up) (wrAckHdr h 1 stDrawerUe) [])) ∧
      t.plates = s.plates ∧ t.parts = s.parts ∧ t.rings = s.rings)) ∧
  (∀ (s : State) p h data k, s.live = true → WellFormed (.wr p h data) = true → s.accepts p h → crc32c (ofBytes data) ≠ h.word →
    s.sendsOn p.link (!p.up) (wrAckHdr h 2 0) k →
    Completes (.wr p h data) s (fun t =>
      t.out.getLast? = some (.ucie p.link k (!p.up) (wrAckHdr h 2 0) []) ∧ t = { s with ucie := t.ucie, out := t.out })) ∧
  (∀ (s : State) p h data k, s.live = true → WellFormed (.wr p h data) = true → s.accepts p h → crc32c (ofBytes data) = h.word →
    s.msgGranted h data.length false = false → s.sendsOn p.link (!p.up) (wrAckHdr h 1 stRangeFault) k →
    Completes (.wr p h data) s (fun t =>
      t.out.getLast? = some (.ucie p.link k (!p.up) (wrAckHdr h 1 stRangeFault) []) ∧ Beside { s with ucie := t.ucie } t []))

/-- R30: the answers that end a message its sender keeps. A good RD_CPL or WR_ACK, or one with ERR for another reason than uncorrectable
data, ends it; an RD_CPL whose data fails its CRC, or a WR_ACK with RETRY, has it sent once more, at most three times. R393, R394: an
EVENT message becomes the next entry of the error log: TAIL rises by 1, and the entry stands at its place in the ring with the code it
came with. R32: a module whose retrain does not end leaves its link, which is DEGRADED; too few modules put the engine into FAULT with
cause 1. -/
def Obligations.AnswersRepeatsEventsAndLostModules : Prop :=
  (∀ (s : State) p h k i m, s.live = true → s.settled → s.accepts p h →
   (∀ data, WellFormed (.rdCpl p h data) = true → s.findMsg p.link (!p.up) 1 h.tag = some (k, i, m) →
     (h.flags.testBit 0 = true ∨ (crc32c (ofBytes data) = h.word ∧ h.flags.testBit 2 = false) → Completes (.rdCpl p h data) s (fun t =>
       (t.lane p.link k (!p.up)).outbox = (s.lane p.link k (!p.up)).outbox.eraseIdx i ∧ t = { s with ucie := t.ucie, out := t.out })) ∧
     (h.flags.testBit 0 = false → crc32c (ofBytes data) ≠ h.word → m.resends < 3 → isHbm m.hdr.addr = false →
       (s.lane p.link k (!p.up)).outbox = [m] → m.hdr.cls < 3 → (s.get fGLOBAL_UCIE_STAT_ACTIVE 0 p.link).testBit k = true →
       (s.lane p.link k (!p.up)).retraining = false → cellsOf m.hdr ≤ (s.lane p.link k (!p.up)).credit m.hdr.cls →
       Completes (.rdCpl p h data) s (fun t =>
         (t.lane p.link k (!p.up)).outbox = [{ m with resends := m.resends + 1, delivered := true }] ∧
         t.out.getLast? = some (.ucie p.link k (!p.up) m.hdr m.data) ∧ t = { s with ucie := t.ucie, out := t.out }))) ∧
   (WellFormed (.wrAck p h) = true → s.findMsg p.link (!p.up) 3 h.tag = some (k, i, m) →
     (h.flags.testBit 0 = false → h.flags.testBit 1 = false → Completes (.wrAck p h) s (fun t =>
       (t.lane p.link k (!p.up)).outbox = (s.lane p.link k (!p.up)).outbox.eraseIdx i ∧ t = { s with ucie := t.ucie, out := t.out })) ∧
     (h.flags.testBit 1 = true → m.resends < 3 → isHbm m.hdr.addr = false →
       (s.lane p.link k (!p.up)).outbox = [m] → m.hdr.cls < 3 → (s.get fGLOBAL_UCIE_STAT_ACTIVE 0 p.link).testBit k = true →
       (s.lane p.link k (!p.up)).retraining = false → cellsOf m.hdr ≤ (s.lane p.link k (!p.up)).credit m.hdr.cls →
       Completes (.wrAck p h) s (fun t =>
         (t.lane p.link k (!p.up)).outbox = [{ m with resends := m.resends + 1, delivered := true }] ∧
         t.out.getLast? = some (.ucie p.link k (!p.up) m.hdr m.data) ∧ t = { s with ucie := t.ucie, out := t.out })))) ∧
  ((∀ (s : State) p h data, s.live = true → WellFormed (.event p h data) = true → s.accepts p h → Completes (.event p h data) s (fun t =>
     t.g fREL_LOG_IDX_TAIL = (s.g fREL_LOG_IDX_TAIL + 1) % 2 ^ 32 ∧
     (∃ e, t.out.getLast? = some (.event e) ∧ e.code = ofLe ((ofBytes data).take 2)) ∧
     (s.inReserved (s.g fREL_LOG_BASE + s.g fREL_LOG_IDX_TAIL % 2 ^ s.g fREL_LOG_LOG2 * 64) 64 = true →
       t.le (s.g fREL_LOG_BASE + s.g fREL_LOG_IDX_TAIL % 2 ^ s.g fREL_LOG_LOG2 * 64) 2 = ofLe ((ofBytes data).take 2)) ∧
     Beside { s with ucie := t.ucie } t [])) ∧
   (∀ (s : State) link module, s.live = true → WellFormed (.ucieRetrainTimeout link module) = true → s.linksServed →
     (s.lane link module true).retraining = true → s.quietModule link module →
     (leastModules link < (s.activeModules link).length → Completes (.ucieRetrainTimeout link module) s (fun t =>
       (t.get fGLOBAL_UCIE_STAT_ACTIVE 0 link).testBit module = false ∧
       (∀ k, k ≠ module → (t.get fGLOBAL_UCIE_STAT_ACTIVE 0 link).testBit k = (s.get fGLOBAL_UCIE_STAT_ACTIVE 0 link).testBit k) ∧
       t.get fGLOBAL_UCIE_STAT_DEGRADED 0 link = 1 ∧ (∀ up, t.lane link module up = UcieLane.init) ∧
       Beside { s with ucie := t.ucie } t [fldAddr fGLOBAL_UCIE_STAT_ACTIVE 0 link])) ∧
     (s.bare → s.inFault = false → module ∈ s.activeModules link → (s.activeModules link).length ≤ leastModules link →
       Completes (.ucieRetrainTimeout link module) s (fun t =>
         (t.get fGLOBAL_UCIE_STAT_ACTIVE 0 link).testBit module = false ∧ t.g fREL_FAULT_FAULT = 1 ∧ t.g fREL_FAULT_CAUSE = 1 ∧
         t.g fPWR_STATE_STATE = 6))))

/-- R6: registers stand at aligned offsets; an access of another size or alignment is ignored, and so is one of an address that holds no
register; a read of either kind returns 0. A read by a message is of no register's size. -/
def Obligations.RegisterAccessOfAnotherSizeOrPlaceIsIgnored : Prop :=
  (∀ addr r, findReg addr = some r → addr % 8 = 0) ∧
  (∀ (s : State) addr size val, s.live = true → WellFormed (.registerWrite addr size val) = true →
    size ≠ 8 ∨ addr % 8 ≠ 0 ∨ findReg addr = none → exec (.registerWrite addr size val) s = .next s) ∧
  (∀ (s : State) addr, findReg addr = none → s.readReg addr = (0, s)) ∧
  (∀ (s : State) p h k, s.live = true → WellFormed (.rdReq p h) = true → s.accepts p h → regionRegs ≤ h.addr →
    s.msgGranted h (16 * (h.word % 65536)) true = true →
    s.sendsOn p.link (!p.up) { h with typ := 2, flags := 0, len := h.word % 65536, word := crc32c (List.replicate (16 * (h.word % 65536)) 0) } k →
    Completes (.rdReq p h) s (fun t =>
      t.out.getLast? = some (.ucie p.link k (!p.up)
        { h with typ := 2, flags := 0, len := h.word % 65536, word := crc32c (List.replicate (16 * (h.word % 65536)) 0) }
        (toBytes (List.replicate (16 * (h.word % 65536)) 0))) ∧ t = { s with ucie := t.ucie, out := t.out }))

/-- R8, R37: a register write sets each field as its access code says: RO and WO keep what they hold, RW1C clears the bits written as 1,
RWL takes the value until GLOBAL_LOCK.SETUP is set, RW and RWS take it; a value outside the field's stated range is ignored, and so is a
HEAD of the log that would pass its TAIL; a value written to TRAY_CONF sets OVF where it is the counter's maximum. Registers whose writes do more than set fields, and the registers of the PART blocks, have
their own statements. -/
def Obligations.RegisterWriteFollowsAccessCodes : Prop :=
  (∀ (s : State) val, s.live = true → WellFormed (.registerWrite (fldAddr fREL_LOG_IDX_HEAD 0 0) 8 val) = true →
    Completes (.registerWrite (fldAddr fREL_LOG_IDX_HEAD 0 0) 8 val) s (fun t =>
      OnlyRegs s t [fldAddr fREL_LOG_IDX_HEAD 0 0] ∧ t.g fREL_LOG_IDX_TAIL = s.g fREL_LOG_IDX_TAIL ∧
      t.g fREL_LOG_IDX_HEAD =
        (if sub32 (s.g fREL_LOG_IDX_TAIL) (s.g fREL_LOG_IDX_HEAD) < sub32 (fieldOf val 32 32) (s.g fREL_LOG_IDX_HEAD) then s.g fREL_LOG_IDX_HEAD
         else fieldOf val 32 32))) ∧
  (∀ (s : State) p b val, s.live = true → p < 128 → b < 64 →
    Completes (.registerWrite (fldAddr fTRAY_CONF_WAITS p b) 8 val) s (fun t =>
      OnlyRegs s t [fldAddr fTRAY_CONF_WAITS p b] ∧ t.get fTRAY_CONF_WAITS p b = fieldOf val 0 48 ∧
      t.get fTRAY_CONF_OVF p b = (if fieldOf val 0 48 = 2 ^ 48 - 1 then 1 else 0))) ∧
  ∀ (s : State) addr r val, s.live = true → WellFormed (.registerWrite addr 8 val) = true → findReg addr = some r →
  r.blk ≠ .part → actionRegs.all (fun x => x != r.spec.name) = true →
  Completes (.registerWrite addr 8 val) s (fun t =>
    OnlyRegs s t [addr] ∧
    ∀ f ∈ r.spec.fields, fieldOf (t.reg addr) f.lo f.w =
      match f.acc with
      | .ro => fieldOf (s.reg addr) f.lo f.w
      | .wo => fieldOf (s.reg addr) f.lo f.w
      | .rw1c => fieldOf (s.reg addr &&& ~~~val) f.lo f.w
      | .rwl => if s.g fGLOBAL_LOCK_SETUP = 1 ∨ fieldAccepts r.spec f (fieldOf val f.lo f.w) = false then fieldOf (s.reg addr) f.lo f.w
          else fieldOf val f.lo f.w
      | _ => if fieldAccepts r.spec f (fieldOf val f.lo f.w) = false then fieldOf (s.reg addr) f.lo f.w else fieldOf val f.lo f.w)

/-- R477: an occurrence of a counter's event adds to it; a counter that would pass 2^48 − 1 holds that value and sets OVF, keeps both
until it is written, and any read returns both; a write of a DENS_CTR sets the value and clears OVF, which re-arms the log; a write of a
DENS_SEL takes effect for the next command and leaves the counter's value unchanged; the log takes DENS_OVF, with block and counter in
DETAIL, only as OVF becomes set and OVF_LOG is set. -/
def Obligations.CountersSaturateAndWritesRearmThem : Prop :=
  (∀ (s : State) b ev v c, b < 187 → c < 16 → (b ≠ 186 ∨ ev ≠ 6) → 0 < v → fieldOf (s.reg (densSelAddr b c)) 0 8 = ev →
    (s.dens b ev v).reg (densCtrAddr b c) =
      densAdd (s.reg (densCtrAddr b c)) (if fieldOf (s.reg (densSelAddr b c)) 8 1 = 1 then 1 else v)) ∧
  (∀ (s : State) b c, b < 187 → c < 16 → b < 144 ∨ 160 ≤ b ∨ (s.prt (b - 144)).later = [] →
    s.readReg (densCtrAddr b c) = (s.reg (densCtrAddr b c), s)) ∧
  (∀ (w : Word64) v, fieldOf w 0 48 + v ≤ 2 ^ 48 - 1 →
    fieldOf (densAdd w v) 0 48 = fieldOf w 0 48 + v ∧ fieldOf (densAdd w v) 63 1 = fieldOf w 63 1) ∧
  (∀ (w : Word64) v, 2 ^ 48 - 1 < fieldOf w 0 48 + v →
    fieldOf (densAdd w v) 0 48 = 2 ^ 48 - 1 ∧ fieldOf (densAdd w v) 63 1 = 1) ∧
  (∀ (s : State) b c val, s.live = true → WellFormed (.densCtrWrite b c val) = true →
    Completes (.densCtrWrite b c val) s (fun t =>
      fieldOf (t.reg (densCtrAddr b c)) 0 48 = fieldOf val 0 48 ∧ fieldOf (t.reg (densCtrAddr b c)) 63 1 = 0 ∧
      OnlyRegs s t [densCtrAddr b c])) ∧
  (∀ (s : State) b c val, s.live = true → WellFormed (.densSelWrite b c val) = true →
    Completes (.densSelWrite b c val) s (fun t =>
      fieldOf (t.reg (densSelAddr b c)) 0 11 = fieldOf val 0 11 ∧ t.reg (densCtrAddr b c) = s.reg (densCtrAddr b c) ∧
      OnlyRegs s t [densSelAddr b c])) ∧
  (∀ (s : State) b ev v, b < 187 → (∀ c, c < 16 → fieldOf (s.reg (densSelAddr b c)) 0 8 = ev → fieldOf (s.reg (densSelAddr b c)) 10 1 = 0 ∨
      fieldOf (s.reg (densCtrAddr b c)) 63 1 = 1 ∨ fieldOf (s.reg (densCtrAddr b c)) 0 48 + max 1 v ≤ 2 ^ 48 - 1) →
    (s.dens b ev v).out = s.out) ∧
  (∀ (s : State) b ev v c, b < 187 → c < 16 → (b ≠ 186 ∨ ev ≠ 6) → 0 < v → fieldOf (s.reg (densSelAddr b c)) 0 8 = ev →
    fieldOf (s.reg (densSelAddr b c)) 10 1 = 1 → fieldOf (s.reg (densSelAddr b c)) 8 1 = 0 → fieldOf (s.reg (densCtrAddr b c)) 63 1 = 0 →
    2 ^ 48 - 1 < fieldOf (s.reg (densCtrAddr b c)) 0 48 + v →
    ∃ e, Out.event e ∈ (s.dens b ev v).out ∧ e.code = 0x8C01 ∧ e.detail = leBytes 2 b ++ leBytes 2 c)

/-- R478: a snapshot latches every counter whose HARVEST bit is set and clears it, on demand or, with PERIOD_EN, as the period ends;
a periodic one during a gathering, or above telemetry's cap (R419), is merged with the next and counted; gathering it takes the latch, counts one record and moves SNAP_TAIL on. -/
def Obligations.SnapshotsLatchAndGather : Prop :=
  (∀ s : State, s.live = true → s.reader.latch = none → s.reader.merged = [] →
    Completes .densSnapNow s (fun t =>
      (∃ l, t.reader = { s.reader with latch := some l } ∧ l.t64 = s.now ∧ l.trigger = 2 ∧
        ∀ b c, b < 187 → c < 16 → fieldOf (s.reg (densSelAddr b c)) 9 1 = 1 →
          smapGet (fun _ => 0) (16 * b + c) l.vals = s.reg (densCtrAddr b c)) ∧
      (∀ b c, b < 187 → c < 16 → fieldOf (s.reg (densSelAddr b c)) 9 1 = 1 → t.reg (densCtrAddr b c) = 0) ∧
      (∀ b c, b < 187 → c < 16 → fieldOf (s.reg (densSelAddr b c)) 9 1 = 0 → t.reg (densCtrAddr b c) = s.reg (densCtrAddr b c)) ∧
      t = { s with regs := t.regs, reader := t.reader, bgWork := t.bgWork })) ∧
  (∀ s : State, s.live = true → s.g fDENS_SNAP_CFG_PERIOD_EN = 1 →
    (s.reader.latch = none → s.reader.merged = [] → s.bgRoom telemetryKey snapBytes drawerCap = true →
      Completes .densPeriodicSnapshot s (fun t =>
        (∃ l, t.reader = { s.reader with latch := some l } ∧ l.t64 = s.now ∧ l.trigger = 1) ∧
        (∀ b c, b < 187 → c < 16 → fieldOf (s.reg (densSelAddr b c)) 9 1 = 1 → t.reg (densCtrAddr b c) = 0) ∧
        t = { s with regs := t.regs, reader := t.reader, bgWork := t.bgWork })) ∧
    ((∃ l, s.reader.latch = some l) ∨ s.bgRoom telemetryKey snapBytes drawerCap = false →
      Completes .densPeriodicSnapshot s (fun t =>
        t.reader = { s.reader with merged := s.reader.merged ++ [(1, 0xFF, 0)] } ∧
        t.g fDENS_STAT_MERGED = satAdd (s.g fDENS_STAT_MERGED) 1 (2 ^ fDENS_STAT_MERGED.w - 1) ∧
        OnlyRegs { s with reader := t.reader } t [fldAddr fDENS_STAT_MERGED 0 0]))) ∧
  (∀ (s : State) l, s.live = true → s.reader.latch = some l → s.reader.merged = [] → l.trigger ≠ 0 →
    Completes .snapshotGather s (fun t =>
      t.reader = { s.reader with latch := none, seq := (s.reader.seq + 1) % 2 ^ 32 } ∧
      t.g fDENS_IDX_SNAP_TAIL = (s.g fDENS_IDX_SNAP_TAIL + 1) % 2 ^ fDENS_IDX_SNAP_TAIL.w ∧
      (∀ a, a < drawerBase → t.mem.get a = s.mem.get a)))

/-- R37, R430, R452: GLOBAL_LOCK.SETUP set for the first time extends measurement slot 3 by the SEC block's RWL fields and leaves every
other slot and all memory as they were; set again it changes nothing. -/
def Obligations.GlobalLockSetsOnceAndMeasures : Prop :=
  ∀ s : State, s.live = true →
  (s.g fGLOBAL_LOCK_SETUP = 0 → s.vault.slots.length = 16 →
    Completes .globalLockSetup s (fun t =>
      t.g fGLOBAL_LOCK_SETUP = 1 ∧
      t.vault.slots.getD 3 0 = sha512 (leBytes 64 (s.vault.slots.getD 3 0) ++ leBytes 64 (sha512 (s.put fGLOBAL_LOCK_SETUP 0 0 1).secRwl)) ∧
      (∀ i, i ≠ 3 → t.vault.slots.getD i 0 = s.vault.slots.getD i 0) ∧
      (∀ a, s.inLogRing a = false → t.mem.get a = s.mem.get a))) ∧
  (s.g fGLOBAL_LOCK_SETUP = 1 → exec .globalLockSetup s = .next s)

/-- R327–R329: the reference, the strobe and its messages. REF_SEL selects REFCLK_IN and REF_OK follows it; a reference that is lost
clears REF_OK; a strobe counts, gives the master the RATE announced for it where no step is due, and leaves each replica equal to the
master; a replica keeps a TIME message for a coming strobe, and one that comes late is only logged. R330–R335, R339: the servo's own
events. A Delay_Req leaves the upstream port with the next number; changed roles take effect and each downstream port on a half that
carries PTP frames (R346, R355) announces; without
its upstream a LOCKED servo holds over and an ACQUIRING one runs free; holdover ends at its limit; 1PPS in is stamped and 1PPS out rises
as TIMER_PPS_OUT says, the clock running up to its next edge (log entry 10); TIMER_SET, of which a 0 counts as 1 (log entry 41), is kept only while 1PPS disciplines the timer and no port is UPSTREAM. -/
def Obligations.StrobesReferenceAndServoEvents : Prop :=
  (∀ s : State, s.live = true →
   (∀ v, Completes (.refSelWrite v) s (fun t =>
     t.g fTIMER_CFG_REF_SEL = (if v then 1 else 0) ∧ t.g fTIMER_STAT_REF_OK = (if v then 1 else 0) ∧
     OnlyRegs s t [fldAddr fTIMER_CFG_REF_SEL 0 0, fldAddr fTIMER_STAT_REF_OK 0 0])) ∧
   (s.g fTIMER_STAT_REF_OK = 1 → Completes .timerRefLost s (fun t =>
     t.g fTIMER_STAT_REF_OK = 0 ∧ Beside s t [fldAddr fTIMER_STAT_REF_OK 0 0])) ∧
   (s.timer.servo.step = none → s.timer.replicas.length = 2 → s.timer.master.time < 2 ^ 104 → Completes .strobe s (fun t =>
     t.timer.strobe = s.timer.strobe + 1 ∧ t.timer.master = { s.timer.master with rate := s.timer.servo.rate } ∧
     t.timer.servo = s.timer.servo ∧
     ∀ d, d < 2 → (t.timer.replicas.getD d Clock.init).t6416 = s.timer.master.t6416)) ∧
   (∀ die m, WellFormed (.time die m) = true → s.timer.replicas.length = 2 → Completes (.time die m) s (fun t =>
     (0 < (m.strobe + 65536 - s.timer.strobe % 65536) % 65536 → (m.strobe + 65536 - s.timer.strobe % 65536) % 65536 < 32768 →
       (t.timer.replicas.getD die Clock.init).pending = some m ∧ t = { s with timer := t.timer }) ∧
     ((m.strobe + 65536 - s.timer.strobe % 65536) % 65536 = 0 ∨ 32768 ≤ (m.strobe + 65536 - s.timer.strobe % 65536) % 65536 → Beside s t [])))) ∧
  (∀ s : State, s.live = true →
   (∀ n tx, s.upstream = some n → s.ptpOpen n = true → Completes (.delayReqInterval tx) s (fun t =>
     t.timer.servo = { s.timer.servo with delaySeq := (s.timer.servo.delaySeq + 1) % 65536,
                                          t3 := 2000 * (tx : Int) + 125 * (s.get fTIMER_PORT_TX_LAT 0 n : Int) } ∧
     t.out = s.out ++ [.ptp n 2 ((s.timer.servo.delaySeq + 1) % 65536) []] ∧ t = { s with timer := t.timer, out := t.out })) ∧
   (Completes .syncInterval s (fun t =>
     t.timer.servo.roles = (List.range 16).map (fun n => s.get fTIMER_PORT_ROLE 0 n) ∧
     t.timer.servo.seqSync = (s.timer.servo.seqSync + 1) % 65536 ∧ t.g fTIMER_STAT_UPSTREAM = t.upstream.getD 0 ∧
     (∀ n, n < 16 → s.get fTIMER_PORT_ROLE 0 n = 2 → s.ptpOpen n = true → ∃ body, Out.ptp n 4 s.timer.servo.seqSync body ∈ t.out) ∧
     Beside { s with timer := t.timer } t [fldAddr fTIMER_STAT_UPSTREAM 0 0])) ∧
   (Completes .upstreamLost s (fun t =>
     t.timer.servo.accepted = false ∧ t.timer.servo.sync = none ∧ t.timer.servo.goodRun = 0 ∧
     t.timerState = (if s.timerState = 2 then 3 else if s.timerState = 1 then 0 else s.timerState) ∧
     (s.timerState = 2 → t.timer.servo.leftLocked = s.now) ∧
     Beside { s with timer := t.timer } t [fldAddr fTIMER_STAT_STATE 0 0])) ∧
   (s.timerState = 3 → 2000000 * s.g fTIMER_LIMITS_HOLD_LIMIT_NS < s.now - s.timer.servo.leftLocked →
     Completes .holdoverLimit s (fun t => t.timerState = 0 ∧ Beside s t [fldAddr fTIMER_STAT_STATE 0 0])) ∧
   (s.g fTIMER_CFG_PPS_IN ≠ 0 → Completes .ppsInEdge s (fun t => t.g fTIMER_PPS_IN_TS_T64 = s.now)) ∧
   (s.g fTIMER_CFG_PPS_OUT_EN = 1 → s.g fTIMER_CFG_PPS_OUT_FREE = 1 ∨ 2 ≤ s.timerState →
     exec .ppsOutEdge s = .next ((s.elapse (edgesTo s.timer.master s.nextPps)).emit .pps)) ∧
   (s.g fTIMER_CFG_PPS_OUT_EN = 0 → exec .ppsOutEdge s = .next s) ∧
   (∀ v, s.g fTIMER_CFG_PPS_IN = 2 → s.upstream = none → Completes (.timerSet v) s (fun t =>
     t.timer.servo = { s.timer.servo with setValue := some (max 1 v.toNat) } ∧ t = { s with timer := t.timer })))

/-- R330–R333, R336: PTP messages. A Sync, Follow_Up or Delay_Resp counts only from the accepted upstream, on a half that carries PTP
frames (R346, R355). A two-step Sync is kept for its
Follow_Up, a one-step one gives the offset at once, and the offset of IEEE 1588 from the stamps stands in TIMER_OFFSET; a Delay_Resp with
the number of the latest Delay_Req gives the mean path delay; a downstream Delay_Req is answered with the time of its arrival; an Announce
of the PTP timescale is accepted with its steps, more than 8 set DEEP. -/
def Obligations.PtpMessagesMeasure : Prop :=
  ∀ (s : State) n, s.live = true → n < 16 →
  (∀ m, s.fromUpstream n = true → m.twoStep = true → s.timerState = 1 ∨ s.timerState = 2 →
    Completes (.ptpSync n m) s (fun t =>
      t.timer.servo = { s.timer.servo with sync := some m, t2 := 2000 * (m.rx : Int) - 125 * (s.get fTIMER_PORT_RX_LAT 0 n : Int) } ∧
      t = { s with timer := t.timer })) ∧
  (∀ m, s.fromUpstream n = true → m.twoStep = false → Completes (.ptpSync n m) s (fun t =>
    t.timer.servo.t1 = 2000 * (m.t1 : Int) ∧ t.timer.servo.t2 = 2000 * (m.rx : Int) - 125 * (s.get fTIMER_PORT_RX_LAT 0 n : Int) ∧
    t.g fTIMER_OFFSET_OFFSET = unsignedOf ((t.timer.servo.t2 - t.timer.servo.t1 - 2000 * (s.g fTIMER_OFFSET_PATH : Int) -
      2 * signedOf (s.get fTIMER_PORT_ASYM_PS 0 n) 24) / 2000) 32)) ∧
  (∀ m t1, s.fromUpstream n = true → s.timer.servo.sync = some m → Completes (.followUp n m.seq t1) s (fun t =>
    t.timer.servo.sync = none ∧ t.timer.servo.t1 = 2000 * (t1 : Int) ∧ t.timer.servo.t2 = s.timer.servo.t2 ∧
    t.g fTIMER_OFFSET_OFFSET = unsignedOf ((s.timer.servo.t2 - 2000 * (t1 : Int) - 2000 * (s.g fTIMER_OFFSET_PATH : Int) -
      2 * signedOf (s.get fTIMER_PORT_ASYM_PS 0 n) 24) / 2000) 32)) ∧
  (∀ seq rx, s.isDown n = true →
    exec (.delayReq n seq rx) s = .next (s.emit (.ptp n 3 seq (leBytes 8 (rx - s.get fTIMER_PORT_RX_LAT 0 n / 16))))) ∧
  (∀ t4, s.fromUpstream n = true → Completes (.delayResp n s.timer.servo.delaySeq t4) s (fun t =>
    t.g fTIMER_OFFSET_PATH = unsignedOf ((s.timer.servo.t2 - s.timer.servo.t1 + 2000 * (t4 : Int) - s.timer.servo.t3) / 4000) 32 ∧
    OnlyRegs s t [fldAddr fTIMER_OFFSET_PATH 0 0])) ∧
  (∀ m, s.upstream = some n → s.ptpOpen n = true → m.ptpScale = true → Completes (.announce n m) s (fun t =>
    t.timer.servo = { s.timer.servo with accepted := true, ann := some m } ∧ t.g fTIMER_STAT_STEPS_REMOVED = min (m.steps + 1) 255 ∧
    t.g fTIMER_STAT_DEEP = (if 8 < m.steps + 1 then 1 else 0) ∧
    Beside { s with timer := t.timer } t [fldAddr fTIMER_STAT_DEEP 0 0])) ∧
  (∀ m, s.upstream = some n → s.ptpOpen n = true → m.ptpScale = false → Completes (.announce n m) s (fun t =>
    t.timer.servo.accepted = false ∧ (s.timerState = 2 → t.timerState = 3) ∧ (s.timerState = 1 → t.timerState = 0)))

/-- R352, R353: a link that is lost leaves the half's neighbour state as it was until LINKDOWN_MS has passed; one that comes back before
is a flap, counted and announced with an LLDPDU; one that has stayed down takes the neighbour record away and leaves a used half MISSING
with cause 0; and link on a CLIENT half makes it MATCHED. R351–R353: an enabled half with link announces itself with its bound plan's
JOB_ID, its ENGINE_ID and 4 × TX_S; a received LLDPDU replaces the neighbour record, shown in FAB_NBR, and makes a PAIR half with the neighbour it expects MATCHED; a
record that expires is gone. -/
def Obligations.LinksAndNeighbours : Prop :=
  (∀ (s : State) h, s.live = true → h < 16 → s.halfOn h = true → s.noFlow h → s.alone →
   (s.halfLink h = true → Completes (.linkDown h) s (fun t =>
     t.halfLink h = false ∧ t.linkLostAt h = s.now ∧ t.halfState h = s.halfState h ∧
     OnlyRegs { s with linkLost := t.linkLost } t [fldAddr fFAB_PORT_STAT_LINK_A (h / 2) 0])) ∧
   (s.halfLink h = false → s.linkLostAt h ≠ 0 → Completes (.linkUp h) s (fun t =>
     t.halfLink h = true ∧ t.linkLostAt h = 0 ∧ t.halfState h = s.halfState h ∧
     t.get fFAB_PORT_STAT_FLAPS (h / 2) 0 = satAdd (s.get fFAB_PORT_STAT_FLAPS (h / 2) 0) 1 65535 ∧
     t.out = s.out ++ [.lldp h (s.halfLldp h)] ∧
     OnlyRegs { s with linkLost := t.linkLost, out := t.out } t [fldAddr fFAB_PORT_STAT_LINK_A (h / 2) 0])) ∧
   (s.halfLink h = false → s.linkLostAt h = 0 → s.halfKind h = 1 → Completes (.linkUp h) s (fun t =>
     t.halfLink h = true ∧ t.halfState h = 1 ∧ Out.lldp h (s.halfLldp h) ∈ t.out ∧
     Beside s t [fldAddr fFAB_PORT_STAT_LINK_A (h / 2) 0])) ∧
   (s.halfLink h = false → s.linkLostAt h ≠ 0 → s.halfUsed h = true → Completes (.linkdownTimeout h) s (fun t =>
     t.nbr h = none ∧ t.linkLostAt h = 0 ∧ t.halfState h = 2 ∧ t.get fFAB_NBR_VALID (h / 2) (h % 2) = 0 ∧
     t.get fFAB_NBR_ENGINE (h / 2) (h % 2) = 0xFFFFFFFF ∧
     Beside { s with nbrs := t.nbrs, linkLost := t.linkLost } t
       [fldAddr fFAB_PORT_STAT_LINK_A (h / 2) 0, fldAddr fFAB_NBR_ENGINE (h / 2) (h % 2)]))) ∧
  (∀ (s : State) h, s.live = true → h < 16 → s.halfOn h = true → s.noFlow h → s.alone →
   (s.halfLink h = true → exec (.lldpTxInterval h) s = .next (s.emit (.lldp h (s.halfLldp h)))) ∧
   (s.halfLink h = false → exec (.lldpTxInterval h) s = .next s) ∧
   ((s.halfLldp h).job = s.halfJob h ∧ (s.halfLldp h).ttl = 4 * s.g fFAB_LLDP_TX_S ∧ (s.halfLldp h).engine = s.g fGLOBAL_ENGINE_ID_ENGINE_ID) ∧
   (s.planPart h = none → s.halfJob h = 0) ∧
   (∀ n p, s.planPart h = some n → s.plan n = some p → s.halfJob h = p.job) ∧
   (∀ m : LldpMsg, m.ttl ≠ 0 → m.engine < 2 ^ 32 → m.half < 16 → Completes (.lldpdu h m) s (fun t =>
     t.nbr h = some { isEngine := m.isEngine, chassis := m.chassis, system := m.system, engine := m.engine, half := m.half,
                      job := m.job, ttl := m.ttl } ∧
     t.get fFAB_NBR_VALID (h / 2) (h % 2) = 1 ∧
     (m.isEngine = true → t.get fFAB_NBR_ENGINE (h / 2) (h % 2) = m.engine ∧ t.get fFAB_NBR_HALF (h / 2) (h % 2) = m.half) ∧
     (m.isEngine = false → t.get fFAB_NBR_ENGINE (h / 2) (h % 2) = 0xFFFFFFFF) ∧
     (s.halfKind h = 3 → s.halfLink h = true → m.isEngine = true → m.system = s.g fFAB_SYSTEM_ID_ID →
       m.engine = s.get fFAB_INSTALL_EXPECT_ENGINE (h / 2) (h % 2) → m.half = s.get fFAB_INSTALL_EXPECT_HALF (h / 2) (h % 2) →
       t.halfState h = 1) ∧
     (s.halfKind h = 3 → s.halfLink h = true → m.isEngine = false ∨ m.system ≠ s.g fFAB_SYSTEM_ID_ID → t.halfState h = 2) ∧
     Beside { s with nbrs := t.nbrs } t
       [fldAddr fFAB_PORT_STAT_LINK_A (h / 2) 0, fldAddr fFAB_NBR_ENGINE (h / 2) (h % 2)])) ∧
   ((s.nbr h).isSome = true → Completes (.neighbourExpiry h) s (fun t =>
     t.nbr h = none ∧ t.get fFAB_NBR_VALID (h / 2) (h % 2) = 0 ∧
     Beside { s with nbrs := t.nbrs } t
       [fldAddr fFAB_PORT_STAT_LINK_A (h / 2) 0, fldAddr fFAB_NBR_ENGINE (h / 2) (h % 2)])))

/-- R350: BIND reads the plan and either binds it whole, with BOUND set, or names in ERR the first condition that fails and changes
nothing else; UNBIND waits for the boundary while the partition runs, and acts at once while it does not. R344, R347, R348: a PAUSE frame
is dropped and has no effect but on the count of received bytes; a SAK that MKA installs starts packet numbers again, and at most two
association numbers are in use; a half without MACsec has none. -/
def Obligations.CircuitPlansPauseFramesAndKeys : Prop :=
  (∀ (s : State) n, s.live = true → n < 16 → s.tx = [] → s.alone →
   (s.inHbm n (s.get fPART_CIRCUIT_PLAN_ADDR n 0) 576 = true →
     s.bindErr n (s.bytes (s.get fPART_CIRCUIT_PLAN_ADDR n 0) 576) ≠ 0 → Completes (.partCircuitBind n) s (fun t =>
       t.get fPART_CIRCUIT_ERR n 0 = s.bindErr n (s.bytes (s.get fPART_CIRCUIT_PLAN_ADDR n 0) 576) ∧
       OnlyRegs s t [fldAddr fPART_CIRCUIT_ERR n 0])) ∧
   ((s.plan n).isSome = true → Completes (.partCircuitBind n) s (fun t =>
       t.get fPART_CIRCUIT_ERR n 0 = 1 ∧ t.plan n = s.plan n ∧ OnlyRegs s t [fldAddr fPART_CIRCUIT_ERR n 0])) ∧
   (s.inHbm n (s.get fPART_CIRCUIT_PLAN_ADDR n 0) 576 = true →
     s.bindErr n (s.bytes (s.get fPART_CIRCUIT_PLAN_ADDR n 0) 576) = 0 → Completes (.partCircuitBind n) s (fun t =>
       t.plan n = some (readPlan (s.bytes (s.get fPART_CIRCUIT_PLAN_ADDR n 0) 576)) ∧ (∀ m, m ≠ n → t.plan m = s.plan m) ∧
       t.get fPART_CIRCUIT_ERR n 0 = 0 ∧ t.get fPART_CIRCUIT_BOUND n 0 = 1 ∧
       Beside { s with plans := t.plans } t
         (fldAddr fPART_CIRCUIT_ERR n 0 :: (List.range 8).map (fun e => fldAddr fFAB_PORT_STAT_LINK_A e 0)))) ∧
   (s.plan n ≠ none → s.isRunning n = true →
     exec (.partCircuitUnbind n) s = .next (s.setPrt n { s.prt n with unbind := true })) ∧
   (s.plan n ≠ none → s.isRunning n = false → s.rx = [] → (∀ p, s.plan n = some p → ∀ u ∈ p.uses, u.1 < 16) → Completes (.partCircuitUnbind n) s (fun t =>
     t.plan n = none ∧ (∀ m, m ≠ n → t.plan m = s.plan m) ∧ t.get fPART_CIRCUIT_ERR n 0 = 0 ∧ t.get fPART_CIRCUIT_BOUND n 0 = 0 ∧
     (t.prt n).unbind = false ∧
     Beside { s with plans := t.plans, parts := t.parts } t
       (fldAddr fPART_CIRCUIT_ERR n 0 :: (List.range 8).map (fun e => fldAddr fFAB_PORT_STAT_LINK_A e 0))))) ∧
  (∀ (s : State) h, s.live = true → h < 16 →
   (Completes (.pauseFrame h) s (fun t => Beside s t [] ∧ (s.halfLink h = false → t = s))) ∧
   (∀ an, an < 4 → s.noFlow h → s.get fFAB_MACSEC_CFG_ENABLE (h / 2) (h % 2) = 1 → Completes (.macsecSakInstall h an) s (fun t =>
     (t.sec h).sak = true ∧ (t.sec h).pn = 0 ∧ (t.sec h).exhausted = false ∧ (t.sec h).ans.length ≤ 2 ∧
     (t.sec h).ans.getLast? = some an ∧ (∀ g, g ≠ h → t.sec g = s.sec g) ∧ t = { s with macsec := t.macsec })) ∧
   (∀ an, an < 4 → s.get fFAB_MACSEC_CFG_ENABLE (h / 2) (h % 2) = 0 → exec (.macsecSakInstall h an) s = .next s))

/-- R359, R360: what a DATA block does. One whose frame is damaged is only counted; one that continues its flow in order moves CUM on, and
is held until its message is whole; a duplicate is discarded and acknowledged at once. The ACK timer sends the ACK that is due and nothing
else. R360, R361: the sending side of a flow. An ACK frees every sent block it covers; a block without ACK for RTO_US is re-sent and its
re-sends counted, until MAX_RESEND of them; then, and when a block has been queued for GIVEUP_US, the flow gives up: its blocks are
discarded, its next epoch begins and FAB_FLOW_BROKEN is logged. -/
def Obligations.BlocksAreReceivedAcknowledgedAndResent : Prop :=
  (∀ (s : State) h (m : CbtMsg), s.live = true → s.settled → WellFormed (.cbtData h m) = true → s.halfOn h = true → s.halfLink h = true →
   (m.hdr.fcsOk = false → Completes (.cbtData h m) s (fun t => Beside s t [])) ∧
   (s.protected_ h = false →
     s.cbtCheck h m.hdr (s.rxFlow (flowKey h m.hdr.cls m.hdr.srcPart m.hdr.dstPart)).epoch = 0 →
     (s.rxFlow (flowKey h m.hdr.cls m.hdr.srcPart m.hdr.dstPart)).epoch = m.hdr.epoch →
     (m.seq = (s.rxFlow (flowKey h m.hdr.cls m.hdr.srcPart m.hdr.dstPart)).cum →
       (s.rxFlow (flowKey h m.hdr.cls m.hdr.srcPart m.hdr.dstPart)).got = [] →
       (s.rxFlow (flowKey h m.hdr.cls m.hdr.srcPart m.hdr.dstPart)).held = [] →
       (s.rxFlow (flowKey h m.hdr.cls m.hdr.srcPart m.hdr.dstPart)).since < 31 →
       m.expo = s.get fPART_EXPO_NOW_EXPO m.hdr.dstPart 0 → m.last = false →
       Completes (.cbtData h m) s (fun t =>
         t.rxFlow (flowKey h m.hdr.cls m.hdr.srcPart m.hdr.dstPart) =
           { s.rxFlow (flowKey h m.hdr.cls m.hdr.srcPart m.hdr.dstPart) with
             cum := (m.seq + 1) % 2 ^ 32, due := true,
             since := (s.rxFlow (flowKey h m.hdr.cls m.hdr.srcPart m.hdr.dstPart)).since + 1,
             held := [{ msg := m.msg, offset := m.offset, last := false, poison := m.poison, expo := m.expo, attempt := m.attempt,
                        body := m.body }] } ∧
         Beside { s with rx := t.rx } t [])) ∧
     ((s.rxFlow (flowKey h m.hdr.cls m.hdr.srcPart m.hdr.dstPart)).has m.seq = true →
       Completes (.cbtData h m) s (fun t =>
         Out.cbtAck h m.hdr.cls m.hdr.dstPart m.hdr.srcPart m.hdr.epoch
           (s.rxFlow (flowKey h m.hdr.cls m.hdr.srcPart m.hdr.dstPart)).cum
           (s.rxFlow (flowKey h m.hdr.cls m.hdr.srcPart m.hdr.dstPart)).bitmap ∈ t.out ∧
         t.rxFlow (flowKey h m.hdr.cls m.hdr.srcPart m.hdr.dstPart) =
           { s.rxFlow (flowKey h m.hdr.cls m.hdr.srcPart m.hdr.dstPart) with since := 0, due := false } ∧
         Beside { s with rx := t.rx } t []))) ∧
   (∀ k, k < 16384 → s.protected_ (flowHalf k) = false → (s.rxFlow k).due = true → Completes (.cbtAckTimer k) s (fun t =>
     Out.cbtAck (flowHalf k) (flowCls k) (flowDst k) (flowSrc k) (s.rxFlow k).epoch (s.rxFlow k).cum (s.rxFlow k).bitmap ∈ t.out ∧
     t.rxFlow k = { s.rxFlow k with since := 0, due := false } ∧ Beside { s with rx := t.rx } t [])) ∧
   (∀ k, k < 16384 → (s.rxFlow k).due = false → exec (.cbtAckTimer k) s = .next s)) ∧
  (∀ (s : State) k, s.live = true → s.settled → k < 16384 → s.protected_ (flowHalf k) = false →
   (∀ h m, WellFormed (.cbtAck h m) = true → s.halfOn h = true → s.halfLink h = true → k = flowKey h m.hdr.cls m.hdr.dstPart m.hdr.srcPart →
     s.cbtCheck h m.hdr (s.txFlow k).epoch = 0 → m.hdr.epoch = (s.txFlow k).epoch → m.bitmap = 0 →
     (∀ b ∈ (s.txFlow k).blocks, b.sent = true ∧ b.fwd = 0) →
     ∃ t, (t.txFlow k = { s.txFlow k with blocks := (s.txFlow k).blocks.filter (fun b => !ackHas m.cum 0 b.seq) } ∧
         Beside { s with tx := t.tx } t []) ∧ exec (.cbtAck h m) s = .next (t.wake m.hdr.dstPart)) ∧
   (∀ b, (s.txFlow k).blocks = [b] → b.sent = true → s.matched (flowHalf k) = true → b.resends < s.g fFAB_CBT_CFG_MAX_RESEND →
     Completes (.cbtRto k b.seq) s (fun t =>
       t.txFlow k = { s.txFlow k with blocks := [{ b with resends := b.resends + 1 }] } ∧
       Out.cbt (flowHalf k) (flowCls k) (flowSrc k) (flowDst k) (s.txFlow k).epoch b true ∈ t.out ∧
       Beside { s with tx := t.tx } t [])) ∧
   (∀ b, (s.txFlow k).blocks = [b] → b.sent = true → b.fwd = 0 → flowCls k = 3 → s.matched (flowHalf k) = true →
     s.g fFAB_CBT_CFG_MAX_RESEND ≤ b.resends → Completes (.cbtRto k b.seq) s (fun t =>
       t.txFlow k = { TxFlow.init with epoch := ((s.txFlow k).epoch + 1) % 65536 } ∧ Beside { s with tx := t.tx } t [])) ∧
   ((s.txFlow k).blocks ≠ [] → (∀ b ∈ (s.txFlow k).blocks, b.fwd = 0) → flowCls k = 3 → Completes (.cbtGiveupTimeout k) s (fun t =>
       t.txFlow k = { TxFlow.init with epoch := ((s.txFlow k).epoch + 1) % 65536 } ∧ Beside { s with tx := t.tx } t [])) ∧
   ((s.txFlow k).blocks = [] → exec (.cbtGiveupTimeout k) s = .next s))

/-- R371–R377, R381: a raw message of the running exposure and attempt that is for this rank, whose CRC holds and that is not the last of
its batch, is kept in its batch; rows of a DISPATCH or RETURN land in their place of the inbound region, and no other byte of memory
changes; GRAD messages touch no memory. -/
def Obligations.CarrierMessagesLand : Prop :=
  ∀ (s : State) n (m : CarrMsg) (i : Instr), s.live = true → WellFormed i = true →
  i = .dispatchMsg n m ∨ i = .returnMsg n m ∨ i = .gradUp n m ∨ i = .gradDown n m →
  let h := carrHdr (ofBytes m.body)
  let body := ((ofBytes m.body).drop 64).take h.rawLen
  let e := s.layerRaw n h.layer
  let w := if h.kind = 0 then e.rowBytes else e.outBytes
  let place := if h.kind = 0 then s.dispatchAt n e h.expert h.src h.firstRow else e.rzone + (h.expert * e.cap + h.firstRow) * e.outBytes
  let b := (s.carrOf n).inBatch h.kind h.layer h.src
  h.dst = s.selfRank n → s.notBegun n h.expo m.attempt = false → h.expo = s.get fPART_EXPO_NOW_EXPO n 0 → m.attempt = (s.prt n).attempt →
  b.complete = false → h.idx ∉ b.got → h.coded = false → h.poison = false → m.poison = false → crc32c body = h.crc →
  (∃ j, j < h.msgs ∧ j ∉ b.got ∧ j ≠ h.idx) →
  ∃ t, exec i s = .next ((t.settleCarrier n).wake n) ∧
    (t.carrOf n).inBatch h.kind h.layer h.src = { b with
      total := some h.msgs, got := b.got ++ [h.idx], complete := false,
      counts := if h.kind = 0 ∧ h.expert ≠ 0xFFFF then b.counts ++ [(h.expert, h.rows)] else b.counts,
      grads := if h.kind = 2 ∨ h.kind = 3 then b.grads ++ [(h.idx, false, toBytes body)] else b.grads } ∧
    (h.kind = 2 ∨ h.kind = 3 → t.mem = s.mem) ∧
    (h.kind ≤ 1 → h.rows ≠ 0 → h.expert ≠ 0xFFFF → s.inInbound n place (h.rows * w) = true →
      ∀ j, j < h.rows * w → j < body.length → t.byte (place + j) = body.getD j 0) ∧
    (∀ a, a < place ∨ place + h.rows * w ≤ a → t.mem.get a = s.mem.get a) ∧
    OnlyRegs { s with carr := t.carr, mem := t.mem, lineErr := t.lineErr, tags := t.tags } t [fldAddr fCARR_STAT_OUT_USED_4K n 0]

/-- R362, R371, R374, R386: messages that change no batch of this rank's: one of an exposure or attempt still to begin is kept until then;
one for another rank that finds no room is dropped and counted; an ACCEPT frees the batch it names; a REJECT sends the rejected message
again raw, with a new SRC_SEQ. R379, R380: CARRIER_BATCH_SEND transmits an outbound batch, at the opening of its window at the earliest
where it has one; CARRIER_LOST_TIMEOUT voids a running exposure whose batches are not all accepted, and does nothing else where none is
missing. -/
def Obligations.CarrierMessagesWaitPassAndBatchesLeave : Prop :=
  (∀ (s : State) n (m : CarrMsg) (i : Instr), s.live = true → WellFormed i = true →
   let h := carrHdr (ofBytes m.body)
   let c := s.carrOf n
   (i = .dispatchMsg n m ∨ i = .returnMsg n m ∨ i = .gradUp n m ∨ i = .gradDown n m →
     (h.dst = s.selfRank n → s.notBegun n h.expo m.attempt = true →
       ∃ t, exec i s = .next (t.wake n) ∧ (t.carrOf n).early.getLast? = some m ∧
         OnlyRegs { s with carr := t.carr } t [fldAddr fCARR_STAT_OUT_USED_4K n 0]) ∧
     (h.dst ≠ s.selfRank n → (s.routeHalf n h.dst).isSome = true → s.outFree n < m.body.length →
       ∃ t, exec i s = .next (t.wake n) ∧ Beside s t [])) ∧
   (i = .acceptMsg n m → h.dst = s.selfRank n →
     (∀ b, c.out.find? (fun x => decide (x.dst = h.src ∧ x.kind = h.ref % 256 ∧ x.layer = h.layer ∧ x.expo = h.expo)) = some b →
       ∃ t, exec i s = .next (t.wake n) ∧
         t.carrOf n = { c with used := c.used - b.bytes, out := c.out.filter (fun x => decide (x.id ≠ b.id)) } ∧
         OnlyRegs { s with carr := t.carr } t [fldAddr fCARR_STAT_OUT_USED_4K n 0]) ∧
     (c.out.find? (fun x => decide (x.dst = h.src ∧ x.kind = h.ref % 256 ∧ x.layer = h.layer ∧ x.expo = h.expo)) = none →
       exec i s = .next (s.wake n))) ∧
   (i = .rejectMsg n m → h.dst = s.selfRank n →
     (∀ b m0 half, c.out = [b] → b.msgs = [m0] → b.dst = h.src → m0.seq = h.ref → s.routeHalf n h.src = some half →
       s.matched (flowHalf (flowKey half (kindClass b.kind) n (s.peerPart n half))) = false →
       ∃ t, exec i s = .next (t.wake n) ∧
         t.carrOf n = { c with srcSeq := (c.srcSeq + 1) % 2 ^ 32, out := [{ b with msgs := [{ m0 with seq := c.srcSeq }] }] } ∧
         (s.txFlow (flowKey half (kindClass b.kind) n (s.peerPart n half))).blocks.length <
           (t.txFlow (flowKey half (kindClass b.kind) n (s.peerPart n half))).blocks.length ∧
         Beside { s with carr := t.carr, tx := t.tx } t [fldAddr fCARR_STAT_OUT_USED_4K n 0]) ∧
     (c.out = [] → exec i s = .next (s.wake n)))) ∧
  (∀ (s : State) n, s.live = true → n < 16 →
   (∀ id, (∀ b ∈ (s.carrOf n).out, b.id = id → b.sent = true) → exec (.carrierBatchSend n id) s = .next s) ∧
   (∀ b m0 half, (s.carrOf n).out = [b] → b.sent = false → b.msgs = [m0] → (s.prt n).voided = false → s.routeHalf n b.dst = some half →
     s.matched (flowHalf (flowKey half (kindClass b.kind) n (s.peerPart n half))) = false →
     Completes (.carrierBatchSend n b.id) s (fun t =>
       (t.carrOf n).out = [{ b with sent := true }] ∧
       (s.txFlow (flowKey half (kindClass b.kind) n (s.peerPart n half))).blocks.length <
         (t.txFlow (flowKey half (kindClass b.kind) n (s.peerPart n half))).blocks.length ∧
       (2 ≤ b.kind → t.timer = s.timer) ∧
       (b.kind ≤ 1 → s.timer.replicas.length = 2 → (s.timer.replicas.getD (s.homeDie n) s.timer.master).rate = 0 →
         (s.timer.replicas.getD (s.homeDie n) s.timer.master).time < 2 ^ 103 → s.windowAt n b.kind < 2 ^ 63 →
         s.windowAt n b.kind ≤ t.partNow n) ∧
       Beside { s with carr := t.carr, tx := t.tx, timer := t.timer, plates := t.plates, washHeld := t.washHeld } t [fldAddr fCARR_STAT_OUT_USED_4K n 0])) ∧
   (s.settled → s.runsCtxs n = true → (s.prt n).attempt = 0 → s.plan n = none →
     (∃ b ∈ (s.carrOf n).out, b.expo = s.get fPART_EXPO_NOW_EXPO n 0) →
     Completes (.carrierLostTimeout n) s (fun t =>
       t.get fCARR_STAT_LOST n 0 = 1 ∧ (t.prt n).voided = true ∧ (t.carrOf n).out = [] ∧
       t.get fPART_REL_STAT_VOIDS n 0 = satAdd (s.get fPART_REL_STAT_VOIDS n 0) 1 (2 ^ fPART_REL_STAT_VOIDS.w - 1))) ∧
   (s.settled → s.runsCtxs n = false → exec (.carrierLostTimeout n) s = .next s) ∧
   (s.idle n → exec (.halLoadSlotIdle n) s = .next s) ∧
   exec (.halLoadSlotIdle n) s = .next (s.wake n))

/-- R409, R414, R423: ENABLE of a partition that is not paired either names in ERR the first condition that fails or begins SYNCING; the
primary ends SYNCING once every mirrored structure has been sent, with SYNC_END, and the shadow as SYNC_END comes; DISABLE waits for the
boundary while the partition runs and acts at once while it does not. -/
def Obligations.PairsFormAndEnd : Prop :=
  ∀ (s : State) n, s.live = true → s.settled → n < 16 →
  (∀ p, 1 ≤ s.pairState n → s.pairState n ≤ 3 → exec (.partPairEnable n p) s = .next s) ∧
  (∀ p, s.pairState n = 0 ∨ 3 < s.pairState n → s.pairErr n p ≠ 0 → Completes (.partPairEnable n p) s (fun t =>
    t.get fPART_PAIR_STAT_ERR n 0 = s.pairErr n p ∧ t.pairState n = s.pairState n ∧
    OnlyRegs s t [fldAddr fPART_PAIR_STAT_STATE n 0])) ∧
  (∀ p, s.get fPART_PAIR_MODE n 0 = 0 ∨ s.matched (s.get fPART_PAIR_HALF n 0) = false → s.pairErr n p = 1) ∧
  (∀ p, s.pairState n = 0 ∨ 3 < s.pairState n → s.pairErr n p = 0 → Completes (.partPairEnable n p) s (fun t =>
    t.pairState n = 1 ∧ t.get fPART_PAIR_STAT_ERR n 0 = 0 ∧ t.get fPART_PAIR_STAT_MISSES n 0 = 0 ∧
    (t.prt n).pairMode = s.get fPART_PAIR_MODE n 0 ∧ (t.prt n).batch = [] ∧ (∀ m, m ≠ n → t.prt m = s.prt m) ∧
    Beside { s with parts := t.parts } t [fldAddr fPART_PAIR_STAT_STATE n 0])) ∧
  (s.pairState n = 0 → exec (.partPairDisable n) s = .next s) ∧
  (s.pairState n ≠ 0 → s.isRunning n = true → exec (.partPairDisable n) s = .next (s.setPrt n { s.prt n with unpair := true })) ∧
  (s.pairState n ≠ 0 → s.isRunning n = false → (s.prt n).heldRecs = [] → Completes (.partPairDisable n) s (fun t =>
    t.pairState n = 0 ∧ (t.prt n).batch = [] ∧ Beside { s with parts := t.parts } t [fldAddr fPART_PAIR_STAT_STATE n 0])) ∧
  (∀ m, s.exists_ n = true → s.isShadow n = true → s.pairState n = 1 → Completes (.syncEnd n m) s (fun t =>
    t.pairState n = 2 ∧ Beside s t [fldAddr fPART_PAIR_STAT_STATE n 0])) ∧
  (∀ m, s.isShadow n = false ∨ s.pairState n ≠ 1 → exec (.syncEnd n m) s = .next s) ∧
  (s.isShadow n = false → s.pairState n = 1 → Completes (.snapshotCopyDone n) s (fun t =>
    t.pairState n = 2 ∧ (∃ b ∈ (t.txFlow (flowKey (s.get fPART_PAIR_HALF n 0) 2 n n)).blocks, b.body.head? = some 5) ∧
    Beside { s with pairSeq := t.pairSeq, tx := t.tx, macsec := t.macsec } t [fldAddr fPART_PAIR_STAT_STATE n 0])) ∧
  (s.isShadow n = true ∨ s.pairState n ≠ 1 → exec (.snapshotCopyDone n) s = .next s)

/-- R411, R413: the copy at the shadow. A write record of a CACHE or SNAPSHOT message is written on arrival where it lies in the
partition's ranges, and spoils the batch where it does not; records of STATE messages wait for COMMIT_END, which applies the whole batch
and acknowledges its exposure, discards one of another size, and ends the pair here where the batch is spoiled. The primary's held records
go as COMMIT_ACK comes; an ACK with ERR ends its pair. R402: a VOID for the running exposure in its attempt 0 voids it, one in attempt 1
counts a failed replay, one for an exposure to come is kept until its release, and one for an exposure that has committed is only logged.
R405: a golden block asked for is sent where it is whole and refused where it is not; a block that comes is written whole; one that fails
takes the model offline. -/
def Obligations.MirroredDataVoidsAndWeightFetches : Prop :=
  (∀ (s : State) n (m : PairMsg), s.live = true → s.settled → n < 16 → s.exists_ n = true →
   (∀ i a bs, i = .cacheMsg n m ∨ i = .snapshotMsg n m → s.takesMirror n = true →
     readRecords (ofBytes m.body) (m.body.length / 16 + 1) = [(a, bs)] →
     (s.mirrorOk n a bs.length = true → Completes i s (fun t =>
       (∀ j, j < bs.length → t.byte (a + j) = bs.getD j 0) ∧ (∀ b, b < a ∨ a + bs.length ≤ b → t.mem.get b = s.mem.get b) ∧
       t = { s with mem := t.mem, lineErr := t.lineErr, tags := t.tags })) ∧
     (s.mirrorOk n a bs.length = false → exec i s = .next (s.setPrt n { s.prt n with batchBad := true }))) ∧
   (s.takesMirror n = true → Completes (.stateMsg n m) s (fun t =>
     (t.prt n).batch = (s.prt n).batch ++ readRecords (ofBytes m.body) (m.body.length / 16 + 1) ∧
     (t.prt n).batchBytes = (s.prt n).batchBytes + m.body.length ∧ (∀ k, k ≠ n → t.prt k = s.prt k) ∧ t = { s with parts := t.parts })) ∧
   (s.takesMirror n = true → (s.prt n).batchBad = false → (s.prt n).batchBytes ≠ ofLe ((ofBytes m.body).take 4) →
     exec (.commitEnd n m) s = .next (s.dropBatch n)) ∧
   (∀ a bs, s.takesMirror n = true → (s.prt n).batchBad = false → (s.prt n).batchBytes = ofLe ((ofBytes m.body).take 4) →
     (s.prt n).batch = [(a, bs)] → Completes (.commitEnd n m) s (fun t =>
       (∀ j, j < bs.length → s.inLogRing (a + j) = false → t.byte (a + j) = bs.getD j 0 % 256) ∧
       (∀ b, b < a ∨ a + bs.length ≤ b → s.inLogRing b = false → t.mem.get b = s.mem.get b) ∧
       (t.prt n).batch = [] ∧ (t.prt n).nextExpo = m.expo + 1 ∧ t.get fPART_PAIR_STAT_APPLIED n 0 = m.expo % 2 ^ 32 ∧
       ∃ b ∈ (t.txFlow (flowKey (s.get fPART_PAIR_HALF n 0) 2 n n)).blocks, b.body.head? = some 3)) ∧
   (s.takesMirror n = true → (s.prt n).batchBad = true → Completes (.commitEnd n m) s (fun t =>
       t.pairState n = 0 ∧ (t.prt n).pairLost = true ∧ (t.prt n).batch = [] ∧
       Beside { s with parts := t.parts, pairSeq := t.pairSeq, tx := t.tx, macsec := t.macsec } t [fldAddr fPART_PAIR_STAT_STATE n 0])) ∧
   (s.isShadow n = false → s.pairState n = 1 ∨ s.pairState n = 2 → (s.prt n).heldRecs = [] → s.draining = false →
     (m.flags % 2 = 0 → Completes (.commitAck n m) s (fun t =>
       t.get fPART_PAIR_STAT_APPLIED n 0 = m.expo % 2 ^ 32 ∧ t.pairState n = s.pairState n ∧
       Beside { s with parts := t.parts } t [fldAddr fPART_PAIR_STAT_STATE n 0])) ∧
     (m.flags % 2 = 1 → Completes (.commitAck n m) s (fun t =>
       t.pairState n = 4 ∧ Beside { s with parts := t.parts } t [fldAddr fPART_PAIR_STAT_STATE n 0])))) ∧
  (∀ (s : State) n (m : PairMsg), s.live = true → s.settled → n < 16 → s.exists_ n = true →
   (s.plan n = none →
     (s.expoRuns n = true → m.expo = s.get fPART_EXPO_NOW_EXPO n 0 → (s.prt n).attempt = 0 → (s.prt n).voided = false →
       Completes (.voidMsg n m) s (fun t => (t.prt n).voided = true ∧
         t.get fPART_REL_STAT_VOIDS n 0 = satAdd (s.get fPART_REL_STAT_VOIDS n 0) 1 (2 ^ fPART_REL_STAT_VOIDS.w - 1) ∧
         (∀ p, p ∈ s.partPlates n → t.plate p = Plate.init))) ∧
     (s.expoRuns n = true → m.expo = s.get fPART_EXPO_NOW_EXPO n 0 → (s.prt n).attempt = 1 → s.partCtxs n = [] →
       Completes (.voidMsg n m) s (fun t =>
         t.get fPART_REL_STAT_REPLAY_FAILS n 0 =
           satAdd (s.get fPART_REL_STAT_REPLAY_FAILS n 0) 1 (2 ^ fPART_REL_STAT_REPLAY_FAILS.w - 1) ∧
         OnlyRegs s t [fldAddr fPART_REL_STAT_REPLAY_FAILS n 0])) ∧
     (s.get fPART_EXPO_NOW_EXPO n 0 < m.expo →
       exec (.voidMsg n m) s = .next (s.setPrt n { s.prt n with voidNext := some (m.expo, m.srcRank) })) ∧
     (m.expo < s.get fPART_EXPO_NOW_EXPO n 0 → (s.prt n).nextExpo ≠ m.expo → Completes (.voidMsg n m) s (fun t =>
       Beside s t [] ∧
       (s.linkDown (s.homeDie n) = false → ∃ e, Out.event e ∈ t.out ∧ e.code = 0x8A01 ∧ e.part = n ∧ e.expo = m.expo)))) ∧
   (Completes (.fetchMsg n m) s (fun t =>
     (∃ b ∈ (t.txFlow (flowKey (s.get fPART_PAIR_HALF n 0) 2 n n)).blocks, b.body.head? = some 7 ∨ b.body.head? = some 8) ∧
     Beside { s with pairSeq := t.pairSeq, tx := t.tx, macsec := t.macsec } t [])) ∧
   (∀ hbm rest, (s.prt n).reloads = hbm :: rest → m.body.length = 4096 → hbm + 4096 ≤ 0x00C000000000 →
     s.halfKind (s.get fPART_PAIR_HALF n 0) = 3 → s.matched (s.get fPART_PAIR_HALF n 0) = true →
     Completes (.fetchData n m) s (fun t => ∀ j, j < 4096 → t.mem.get (hbm + j) = m.body.getD j 0)) ∧
   ((s.prt n).reloads = [] → exec (.fetchData n m) s = .next s ∧ exec (.fetchFail n m) s = .next s ∧ exec (.fetchTimeout n) s = .next s) ∧
   ((s.prt n).reloads ≠ [] → s.get fPART_REL_STAT_OFFLINE n 0 = 0 → s.partSlots n = [] → s.get fPART_STAT_STATE n 0 = 1 →
     ∀ i, i = .fetchFail n m ∨ i = .fetchTimeout n → Completes i s (fun t =>
       t.get fPART_REL_STAT_OFFLINE n 0 = 1 ∧ (t.prt n).reloads = [] ∧
       Beside { s with parts := t.parts } t [fldAddr fPART_REL_STAT_OFFLINE n 0])))

/-- R415, R416: heartbeats and claims. A HEARTBEAT ends the shadow's run of misses and is answered, an HB_ACK ends the primary's; misses
are counted, and the third in a row makes a MIRRORED side CLAIMING with a claim to the witness and a SYNCING shadow UNPAIRED; a
FAULT_NOTICE loses the primary its partner at once. A refused or unanswered claim leaves the primary FENCED with no held record and the
shadow UNPAIRED; a granted one leaves the primary SOLO. A LOCKED engine neither answers nor counts. R415–R418, R423: a takeover, at a
FAULT_NOTICE to a MIRRORED shadow, at the witness's grant, or forced by the operator on a claiming shadow or one that has lost its
partner: PAIR_EPOCH rises by 1, the pair is TAKEN_OVER, and the partition runs from then on, its first exposure numbered APPLIED + 1. FORCE_TAKEOVER does nothing on any other
side. -/
def Obligations.HeartbeatsClaimsAndTakeover : Prop :=
  (∀ (s : State) n (m : PairMsg), s.live = true → s.settled → n < 16 → s.exists_ n = true →
   (s.takesMirror n = true → s.locked = false → Completes (.heartbeat n m) s (fun t =>
     t.get fPART_PAIR_STAT_MISSES n 0 = 0 ∧ t.pairState n = s.pairState n ∧
     (∃ b ∈ (t.txFlow (flowKey (s.get fPART_PAIR_HALF n 0) 3 n n)).blocks, b.body.head? = some 10) ∧
     Beside { s with pairSeq := t.pairSeq, tx := t.tx, macsec := t.macsec } t [fldAddr fPART_PAIR_STAT_STATE n 0])) ∧
   (s.takesMirror n = false ∨ s.locked = true → exec (.heartbeat n m) s = .next s) ∧
   (s.isShadow n = false → s.pairState n = 1 ∨ s.pairState n = 2 → Completes (.hbAck n m) s (fun t =>
     t.get fPART_PAIR_STAT_MISSES n 0 = 0 ∧ t.pairState n = s.pairState n ∧ OnlyRegs s t [fldAddr fPART_PAIR_STAT_STATE n 0])) ∧
   (s.locked = true → exec (.heartbeatMiss n) s = .next s) ∧
   (s.locked = false → s.pairState n = 1 ∨ s.pairState n = 2 → s.get fPART_PAIR_STAT_MISSES n 0 < 2 →
     Completes (.heartbeatMiss n) s (fun t =>
       t.get fPART_PAIR_STAT_MISSES n 0 = s.get fPART_PAIR_STAT_MISSES n 0 + 1 ∧ t.pairState n = s.pairState n ∧
       OnlyRegs s t [fldAddr fPART_PAIR_STAT_STATE n 0])) ∧
   (s.locked = false → s.pairState n = 2 → s.get fPART_PAIR_STAT_MISSES n 0 = 2 → Completes (.heartbeatMiss n) s (fun t =>
       t.pairState n = 3 ∧ (∃ body, t.out.getLast? = some (.response 3 0x0E body)) ∧ Beside s t [fldAddr fPART_PAIR_STAT_STATE n 0])) ∧
   (s.locked = false → s.isShadow n = true → s.pairState n = 1 → s.get fPART_PAIR_STAT_MISSES n 0 = 2 →
     Completes (.heartbeatMiss n) s (fun t =>
       t.pairState n = 0 ∧ (t.prt n).pairLost = true ∧ Beside { s with parts := t.parts } t [fldAddr fPART_PAIR_STAT_STATE n 0])) ∧
   (s.isShadow n = false → s.pairState n = 2 → Completes (.faultNotice n m) s (fun t =>
       t.pairState n = 3 ∧ (∃ body, t.out.getLast? = some (.response 3 0x0E body)) ∧ Beside s t [fldAddr fPART_PAIR_STAT_STATE n 0])) ∧
   (s.pairState n = 3 → s.conns = [] → ∀ i, i = .claimTimeout n ∨ i = .witnessAnswer n false →
     (s.isShadow n = false → Completes i s (fun t =>
       t.pairState n = 5 ∧ (t.prt n).heldRecs = [] ∧ Beside { s with parts := t.parts } t [fldAddr fPART_PAIR_STAT_STATE n 0])) ∧
     (s.isShadow n = true → Completes i s (fun t =>
       t.pairState n = 0 ∧ (t.prt n).pairLost = true ∧ Beside { s with parts := t.parts } t [fldAddr fPART_PAIR_STAT_STATE n 0]))) ∧
   (s.pairState n = 3 → s.isShadow n = false → (s.prt n).heldRecs = [] → Completes (.witnessAnswer n true) s (fun t =>
       t.pairState n = 4 ∧ Beside { s with parts := t.parts } t [fldAddr fPART_PAIR_STAT_STATE n 0])) ∧
   (s.pairState n ≠ 3 → exec (.claimTimeout n) s = .next s ∧ ∀ g, exec (.witnessAnswer n g) s = .next s)) ∧
  (∀ (s : State) n (i : Instr), s.live = true → s.settled → n < 16 →
   (s.isShadow n = true → s.get fPART_STAT_STATE n 0 = 1 → s.get fPART_REL_STAT_OFFLINE n 0 = 0 → s.locked = false →
     s.windowsOk n = true → (s.prt n).later = [] → (s.prt n).mirrored = [] →
     (∃ m, i = .faultNotice n m ∧ s.pairState n = 2) ∨ (i = .witnessAnswer n true ∧ s.pairState n = 3) ∨
       (i = .partPairForceTakeover n ∧ (s.pairState n = 3 ∨ (s.pairState n = 0 ∧ (s.prt n).pairLost = true))) →
     Completes i s (fun t =>
       t.pairState n = 6 ∧ t.get fPART_PAIR_STAT_PAIR_EPOCH n 0 = (s.get fPART_PAIR_STAT_PAIR_EPOCH n 0 + 1) % 65536 ∧
       t.get fPART_STAT_STATE n 0 = 2 ∧ (t.prt n).batch = [] ∧ (t.prt n).tookOver = true ∧
       ((s.prt n).nextExpo = 0 → (t.prt n).nextExpo = s.get fPART_PAIR_STAT_APPLIED n 0 + 1) ∧
       ((s.prt n).nextExpo ≠ 0 → (t.prt n).nextExpo = (s.prt n).nextExpo))) ∧
   (s.isShadow n = false ∨ (s.pairState n ≠ 3 ∧ s.pairState n ≠ 0) ∨ (s.pairState n = 0 ∧ (s.prt n).pairLost = false) →
     exec (.partPairForceTakeover n) s = .next s))

/-- R277, R278: ENABLE checks a ring's table entry and either makes the ring ACTIVE as the entry says or names in RING_STAT the first
condition that fails; DISABLE ends at once on a ring that does nothing, and at the next commit while its partition runs. R289, R305, R500:
firmware's side. A HEAD of the intake queue past its TAIL is ignored, any other is taken, and with no descriptor pending that is all; a
posted record is placed on a ring of the partition as memory holds it, a ring of another partition is refused with ERR = 2, and a record
of a FENCED partition is dropped with ERR = 1 (R416). -/
def Obligations.RingsAndFirmwarePosts : Prop :=
  (∀ (s : State) r, s.live = true → r < 131072 →
   (s.enableErr r ≠ 0 → Completes (.ringEnable r) s (fun t =>
     t.g fRING_STAT_RING = r ∧ t.g fRING_STAT_ERR = s.enableErr r ∧ t.g fRING_STAT_BUSY = 0 ∧
     OnlyRegs s t [fldAddr fRING_STAT_RING 0 0])) ∧
   ((s.ring r).state ≠ 0 → s.enableErr r = 1) ∧
   (s.enableErr r = 0 → Completes (.ringEnable r) s (fun t =>
     t.g fRING_STAT_RING = r ∧ t.g fRING_STAT_ERR = 0 ∧ t.ring r = s.readEntry r ∧ (t.ring r).state = 1 ∧
     (∀ q, q ≠ r → t.ring q = s.ring q) ∧ (∀ n, s.partOfRing r ≠ some n → t.prt n = s.prt n) ∧
     (s.ctlReady (s.ringDie r) → t.bytes (s.ringEntry r + 32) 32 = ringEBytes (s.readEntry r)) ∧
     (∀ b, b < s.ringEntry r + 32 ∨ s.ringEntry r + 64 ≤ b → t.mem.get b = s.mem.get b) ∧
     OnlyRegs { s with rings := t.rings, mem := t.mem, lineErr := t.lineErr, tags := t.tags, out := t.out, ctlHeld := t.ctlHeld,
                       parts := t.parts } t [fldAddr fRING_STAT_RING 0 0])) ∧
   ((s.ring r).state = 0 → Completes (.ringDisable r) s (fun t =>
     t.g fRING_STAT_RING = r ∧ t.g fRING_STAT_ERR = 0 ∧ OnlyRegs s t [fldAddr fRING_STAT_RING 0 0])) ∧
   (∀ n, (s.ring r).state ≠ 0 → s.partOfRing r = some n → s.isRunning n = true → Completes (.ringDisable r) s (fun t =>
     t.ring r = { s.ring r with disabling := true } ∧ (∀ q, q ≠ r → t.ring q = s.ring q) ∧ t.g fRING_STAT_RING = r ∧
     t.g fRING_STAT_BUSY = 1 ∧
     OnlyRegs { s with rings := t.rings } t [fldAddr fRING_STAT_RING 0 0])) ∧
   (∀ n, (s.ring r).state ≠ 0 → s.partOfRing r = some n → s.isRunning n = false → s.ringSlots n r = [] →
     Completes (.ringDisable r) s (fun t =>
       t.ring r = { s.ring r with state := 0, disabling := false } ∧ (∀ q, q ≠ r → t.ring q = s.ring q) ∧ t.g fRING_STAT_BUSY = 0 ∧
       (∀ b, b < s.ringEntry r + 32 ∨ s.ringEntry r + 64 ≤ b → t.mem.get b = s.mem.get b) ∧
       OnlyRegs { s with rings := t.rings, mem := t.mem, lineErr := t.lineErr, tags := t.tags, out := t.out, ctlHeld := t.ctlHeld } t [fldAddr fRING_STAT_RING 0 0]))) ∧
  (∀ (s : State) n, s.live = true → n < 16 →
   (∀ head, head < 2 ^ 32 → sub32 (s.get fPART_INTAKE_IDX_TAIL n 0) (s.get fPART_INTAKE_IDX_HEAD n 0) < sub32 head (s.get fPART_INTAKE_IDX_HEAD n 0) →
     exec (.partIntakeIdxHeadWrite n head) s = .next s) ∧
   (∀ head, head < 2 ^ 32 → sub32 head (s.get fPART_INTAKE_IDX_HEAD n 0) ≤ sub32 (s.get fPART_INTAKE_IDX_TAIL n 0) (s.get fPART_INTAKE_IDX_HEAD n 0) →
     (∀ r ∈ s.partRings n, (s.ring r).sqTailSeen = (s.ring r).sqHead) → Completes (.partIntakeIdxHeadWrite n head) s (fun t =>
       t.get fPART_INTAKE_IDX_HEAD n 0 = head ∧ t.get fPART_INTAKE_IDX_TAIL n 0 = s.get fPART_INTAKE_IDX_TAIL n 0 ∧
       t.prt n = { s.prt n with answered := (s.prt n).answered.filter (fun i => decide (sub32 i head < 2 ^ 31)) } ∧
       (∀ m, m ≠ n → t.prt m = s.prt m) ∧
       OnlyRegs { s with parts := t.parts } t [fldAddr fPART_INTAKE_IDX_HEAD n 0])) ∧
   (s.inReserved (s.get fPART_FW_RECORD_ADDR n 0) 32 = false → exec (.partFwRecordPost n) s = .next s) ∧
   (s.inReserved (s.get fPART_FW_RECORD_ADDR n 0) 32 = true → s.partOfRing (s.get fPART_FW_RING_RING n 0) ≠ some n →
     Completes (.partFwRecordPost n) s (fun t =>
       t.get fPART_FW_RECORD_ERR n 0 = 2 ∧ OnlyRegs s t [fldAddr fPART_FW_RECORD_ERR n 0])) ∧
   (∀ r, s.inReserved (s.get fPART_FW_RECORD_ADDR n 0) 32 = true → r = s.get fPART_FW_RING_RING n 0 → s.partOfRing r = some n →
     (s.ring r).state = 1 → (s.ring r).cqHeadSeen < 2 ^ 32 → s.recordRoom r → Completes (.partFwRecordPost n) s (fun t =>
       let a := s.get fPART_FW_RECORD_ADDR n 0
       t.get fPART_FW_RECORD_ERR n 0 = 0 ∧ (t.ring r).cqTail = ((s.ring r).cqTail + 1) % 2 ^ 32 ∧
       t.bytes (s.recordPlace r) 32 = recordBytes (s.le a 8) (s.le (a + 8) 2) (flagsWithPhase (s.le (a + 10) 2) (s.ring r).cqTail (s.ring r).cqLog2)
         (s.le (a + 12) 4) (s.le (a + 16) 4) (s.le (a + 20) 8) (s.le (a + 28) 4))) ∧
   (∀ r, s.inReserved (s.get fPART_FW_RECORD_ADDR n 0) 32 = true → r = s.get fPART_FW_RING_RING n 0 → s.partOfRing r = some n →
     s.pairState n = 5 → Completes (.partFwRecordPost n) s (fun t => t.get fPART_FW_RECORD_ERR n 0 = 1 ∧ t.ring r = s.ring r)))

/-- R279–R281: doorbells. A write of 4, 8 or 64 aligned bytes changes those bytes of the ring's slot, and an ACTIVE ring's slot goes to
its home die; any other write is ignored and counted. There, SQ_TAIL and CQ_HEAD within their bounds are taken; a SQ_TAIL beyond the ring
stops it; the doorbell of a ring that is not ACTIVE is ignored. R282, R284, R287, R291, R442: every descriptor row. A descriptor that
fails a check is completed with one record, FINAL, ST_DESC_INVALID and the check's number; a LOCKED engine completes every client's
descriptor but ATTEST with ST_SECURITY_LOCK; a descriptor that is not to be taken yet is left as it is. -/
def Obligations.DoorbellsAndDescriptorChecks : Prop :=
  ((∀ (s : State) addr data, s.live = true → WellFormed (.doorbellWrite addr data) = true →
     ((data.length ≠ 4 ∧ data.length ≠ 8 ∧ data.length ≠ 64) ∨ addr % data.length ≠ 0 →
       Completes (.doorbellWrite addr data) s (fun t => Beside s t [])) ∧
     (data.length = 4 ∨ data.length = 8 ∨ data.length = 64 → addr % data.length = 0 →
       (s.ring ((addr - doorbellBase) / 64)).state ≠ 1 →
       Completes (.doorbellWrite addr data) s (fun t =>
         t.doorbellSlot ((addr - doorbellBase) / 64) = (s.doorbellSlot ((addr - doorbellBase) / 64)).take (addr % 64) ++ data ++
           (s.doorbellSlot ((addr - doorbellBase) / 64)).drop (addr % 64 + data.length) ∧
         (∀ q, q ≠ (addr - doorbellBase) / 64 → t.doorbellSlot q = s.doorbellSlot q) ∧
         Beside { s with doorbells := t.doorbells } t [])) ∧
     (∀ k n, data.length = 64 → addr % 64 = 0 → (s.doorbellSlot ((addr - doorbellBase) / 64)).length = 64 → (s.ring ((addr - doorbellBase) / 64)).state = 1 →
       s.partOfRing ((addr - doorbellBase) / 64) = some n → s.moduleFor (1 + s.homeDie n) 0 addr = some k →
       (s.lane (1 + s.homeDie n) k false).outbox = [] → (s.lane (1 + s.homeDie n) k false).retraining = false →
       5 ≤ (s.lane (1 + s.homeDie n) k false).credit 0 →
       Completes (.doorbellWrite addr data) s (fun t =>
         t.doorbellSlot ((addr - doorbellBase) / 64) = data ∧
         (∃ h, t.out = s.out ++ [.ucie (1 + s.homeDie n) k false h data] ∧ h.typ = 5 ∧ h.addr = addr ∧ h.part = n) ∧
         t = { s with doorbells := t.doorbells, ucie := t.ucie, out := t.out }))) ∧
   (∀ (s : State) p h data, s.live = true → WellFormed (.doorbell p h data) = true → s.accepts p h →
     let r := (h.addr - doorbellBase) / 64
     let tail := ofLe ((ofBytes data).take 4)
     let head := ofLe (((ofBytes data).drop 4).take 4)
     ((s.ring r).state ≠ 1 → Completes (.doorbell p h data) s (fun t => Beside { s with ucie := t.ucie } t [])) ∧
     ((s.ring r).state = 1 → sub32 tail (s.ring r).sqHead ≤ 2 ^ (s.ring r).sqLog2 →
       sub32 (s.ring r).cqTail head ≤ sub32 (s.ring r).cqTail (s.ring r).cqHeadSeen →
       Completes (.doorbell p h data) s (fun t =>
         t.ring r = { s.ring r with sqTailSeen := tail, cqHeadSeen := head } ∧ RingWork { s with ucie := t.ucie } t r)) ∧
     ((s.ring r).state = 1 → 2 ^ (s.ring r).sqLog2 < sub32 tail (s.ring r).sqHead → tail ≠ (s.ring r).sqTailSeen →
       Completes (.doorbell p h data) s (fun t =>
         (t.ring r).state = 2 ∧ (t.ring r).err = 1 ∧ (t.ring r).sqTailSeen = (s.ring r).sqTailSeen ∧
         RingWork { s with ucie := t.ucie } t r)))) ∧
  (∀ (s : State) r n d (i : Instr), s.live = true → WellFormed i = true →
   i ∈ [.nopDescriptor r d, .generate r d, .embed r d, .cancel r d, .park r d, .resume r d, .stepDesc r d, .attest r d, .service r d] →
   s.partOfRing r = some n →
   (s.takes r n d → s.recordRoom r → s.locked = false → s.descErr n r d ≠ 0 → Completes i s (fun t =>
     RecordWritten s t r (descReqId d) stDescInvalid (s.descErr n r d) ∧ (t.ring r).sqHead = ((s.ring r).sqHead + 1) % 2 ^ 32 ∧
     (t.ring r).handed = (s.ring r).handed + 1 ∧ RingWork s t r)) ∧
   (s.takes r n d → s.recordRoom r → s.locked = true → (s.ring r).kind = 0 → descOpc d ≠ 7 → Completes i s (fun t =>
     RecordWritten s t r (descReqId d) stSecurityLock 0 ∧ (t.ring r).sqHead = ((s.ring r).sqHead + 1) % 2 ^ 32 ∧
     (t.ring r).handed = (s.ring r).handed + 1 ∧ RingWork s t r)) ∧
   ((s.ring r).state ≠ 1 ∨ (s.ring r).disabling = true ∨ (s.ring r).sqHead = (s.ring r).sqTailSeen ∨
     (descFence d = true ∧ (s.ring r).finals < (s.ring r).handed) → exec i s = .next s) ∧
   (s.locked = false → s.descErr n r d = 0 → descOpc d ≠ 0 → s.intakeFull n = true → exec i s = .next s))

/-- R282, R284–R286, R290, R291: what the ring unit itself does with a good descriptor. NOP is completed at once; STEP stays pending
for a cut-off; SERVICE gives its 32-byte command to the walkers, or owes ST_CMD_INVALID for an unknown one; LAT_END with CANCEL
marks its request at once. A fetch reads the pending descriptor as memory holds it, by RD_REQ and RD_CPL on the link to ZD, and waits while the link does not
take them; a read that is uncorrectable stops the ring; a descriptor that waits for earlier records is taken as FENCE_RELEASE says they are
written. -/
def Obligations.RingUnitTakesDescriptors : Prop :=
  ∀ (s : State) r n d, s.live = true → r < 131072 → s.takes r n d → s.locked = false → s.descErr n r d = 0 →
  (descOpc d = 0 → s.recordRoom r → Completes (.nopDescriptor r d) s (fun t =>
    RecordWritten s t r (descReqId d) 0 0 ∧ (t.ring r).sqHead = ((s.ring r).sqHead + 1) % 2 ^ 32 ∧
    (t.ring r).handed = (s.ring r).handed + 1 ∧ RingWork s t r)) ∧
  (descOpc d = 6 → s.intakeFull n = false → Completes (.stepDesc r d) s (fun t =>
    (t.prt n).stepPending = (s.prt n).stepPending.filter (fun e => decide (e.1 ≠ r)) ++ [(r, d)] ∧ t.ring r = s.ring r ∧
    (∀ m, m ≠ n → t.prt m = s.prt m) ∧ RingWork { s with parts := t.parts } t r)) ∧
  (descOpc d = 8 → s.intakeFull n = false → s.firstBad (descPayload d) 32 = none → s.offLog (descPayload d) 32 →
    apart (descPayload d) 32 (s.ringEntry r + 32) 32 →
    let w : CmdWord := BitVec.ofNat 256 (s.le (descPayload d) 32)
    (svcOpc w < 0x84 ∨ 0x87 < svcOpc w → Completes (.service r d) s (fun t =>
      (t.prt n).owed = (s.prt n).owed ++ [{ ring := r, reqId := descReqId d, status := stCmdInvalid, flags := flagFinal,
                                            token0 := noToken, token1 := 0 }] ∧ RingWork { s with parts := t.parts } t r)) ∧
    (0x84 ≤ svcOpc w → svcOpc w ≤ 0x87 → svcOpc w ≠ 0x87 ∨ bitsOf w.toNat 128 1 = 0 → Completes (.service r d) s (fun t =>
      (t.prt n).svc = (s.prt n).svc ++ [{ ring := r, reqId := descReqId d, word := w, due := false }] ∧
      t.ring r = { s.ring r with sqHead := ((s.ring r).sqHead + 1) % 2 ^ 32, handed := (s.ring r).handed + 1 } ∧
      RingWork { s with parts := t.parts } t r)) ∧
    (svcOpc w = 0x87 → bitsOf w.toNat 128 1 = 1 → s.slotInRange n (svcSlot w) = true → s.get fPART_LAYOUT_KIND n 0 = 0 →
      (s.slot (svcSlot w)).state ≠ 0 → Completes (.service r d) s (fun t =>
        t.slot (svcSlot w) = { s.slot (svcSlot w) with cancel := true } ∧
        RingWork { s with parts := t.parts, slots := t.slots } t r))) ∧
  ((s.ring r).sqHead < 2 ^ 32 → (s.ring r).sqTailSeen < 2 ^ 32 → d = s.descAt r (s.ring r).sqHead →
    (s.ctlOpen (s.ringDie r) true 1 = true → s.ctlOpen (s.ringDie r) false 5 = true →
     (s.firstBad ((s.ring r).sqBase + (s.ring r).sqHead % 2 ^ (s.ring r).sqLog2 * 64) 64 = none →
      exec (.descriptorFetch r 1) s = .next (((s.readOne r).takeDesc r d).getD (s.readOne r)) ∧
      (descFence d = true → (s.ring r).finals = (s.ring r).handed →
        exec (.fenceRelease r) s = .next (((s.readOne r).takeDesc r d).getD (s.readOne r)))) ∧
     (s.firstBad ((s.ring r).sqBase + (s.ring r).sqHead % 2 ^ (s.ring r).sqLog2 * 64) 64 ≠ none →
      Completes (.descriptorFetch r 1) s (fun t => (t.ring r).state = 2 ∧ (t.ring r).err = 3 ∧ (t.ring r).sqHead = (s.ring r).sqHead))) ∧
    (s.ctlOpen (s.ringDie r) true 1 = false → exec (.descriptorFetch r 1) s =
      .next { s with fetchHeld := if (r, 1) ∈ s.fetchHeld then s.fetchHeld else s.fetchHeld ++ [(r, 1)] }) ∧
    (descFence d = false ∨ (s.ring r).finals ≠ (s.ring r).handed → exec (.fenceRelease r) s = .next s) ∧
    exec (.descriptorFetch r 0) s = .next s)

/-- R284–R286, R289, R294, R432: descriptors that firmware serves. The descriptor stands in the intake queue, whose TAIL rises by 1 with
an interrupt. A GENERATE or EMBED that passes check 7 waits there for firmware's LAT_ADMIT, one that fails it is completed with its
number, and a model that is offline ends it with ST_WEIGHT_UE. CANCEL, PARK and RESUME owe one record that says whether a target was
found: at once where none was, else once its targets' outcome has come. ATTEST after FOG_ALL ends with ST_KEY_ERASED, else with the report's length in TOKEN1. -/
def Obligations.FirmwareServesDescriptors : Prop :=
  ∀ (s : State) r n d, s.live = true → r < 131072 → s.takes r n d → s.locked = false → s.descErr n r d = 0 → s.intakeFull n = false →
  let u := s.handOn r n d
  (1 ≤ descOpc d → u.get fPART_INTAKE_IDX_TAIL n 0 = (s.get fPART_INTAKE_IDX_TAIL n 0 + 1) % 2 ^ 32 ∧
    Out.intakeIrq n ∈ u.out ∧ u.ring r = { s.ring r with sqHead := ((s.ring r).sqHead + 1) % 2 ^ 32, handed := (s.ring r).handed + 1 } ∧
    (s.inReserved (s.intakePlace n) 64 = true → s.ctlReady (s.homeDie n) → u.le (s.intakePlace n) 64 = d.toNat)) ∧
  (∀ i, (i = .generate r d ∧ descOpc d = 1) ∨ (i = .embed r d ∧ descOpc d = 2) →
    let good := if descOpc d = 1 then u.generateOk d else u.embedOk r d
    let k := sub32 (u.get fPART_INTAKE_IDX_TAIL n 0) 1
    (s.get fPART_REL_STAT_OFFLINE n 0 = 0 → good = true → exec i s = .next (if descOpc d = 1 then u else u.noteEmbed n r d)) ∧
    (s.get fPART_REL_STAT_OFFLINE n 0 = 0 → good = false → exec i s = .next ((u.descInvalid r d 7).markAnswered n k)) ∧
    (s.get fPART_REL_STAT_OFFLINE n 0 = 1 → exec i s = .next ((u.recordNow r (descReqId d) stWeightUe 0).markAnswered n k))) ∧
  (descOpc d = 3 → s.get fPART_INTAKE_IDX_HEAD n 0 = s.get fPART_INTAKE_IDX_TAIL n 0 → s.inReserved (s.intakePlace n) 64 = true →
    s.ctlReady (s.homeDie n) → s.get fPART_LAYOUT_KIND n 0 = 0 → Completes (.cancel r d) s (fun t =>
      (s.targets n r (bitsOf d.toNat 320 64) = [] → (t.prt n).owed = (s.prt n).owed ++
        [{ ring := r, reqId := descReqId d, status := 0, flags := flagFinal, token0 := noToken, token1 := 0 }]) ∧
      (s.targets n r (bitsOf d.toNat 320 64) ≠ [] → (t.prt n).owed = (s.prt n).owed ∧ (t.prt n).moves = (s.prt n).moves ++
        [{ ring := r, reqId := descReqId d, svc := [], slots := s.targets n r (bitsOf d.toNat 320 64) }]) ∧
      (∀ q, q ∈ s.targets n r (bitsOf d.toNat 320 64) → s.slotInRange n q = true → (s.slot q).state ≠ 0 → (t.slot q).cancel = true) ∧
      (∀ q, q ∉ s.targets n r (bitsOf d.toNat 320 64) → t.slot q = s.slot q))) ∧
  (descOpc d = 4 → ∀ q, s.targets n r (bitsOf d.toNat 352 32 + bitsOf d.toNat 384 32 * 2 ^ 32) = [q] →
    (s.ring (s.get fPART_REQ_SLOTS_SVC_RING n 0)).state = 1 → Completes (.park r d) s (fun t =>
      (∃ c, (t.prt n).svc = (s.prt n).svc ++ [c] ∧ c.ring = s.get fPART_REQ_SLOTS_SVC_RING n 0 ∧ c.word = parkWord q (bitsOf d.toNat 320 32) ∧
        c.due = false ∧
        (t.prt n).moves = (s.prt n).moves ++ [{ ring := r, reqId := descReqId d, svc := [(c.ring, c.reqId)], slots := [] }]) ∧
      t.slot q = s.slot q)) ∧
  (descOpc d = 5 → ∀ q, s.targets n r (bitsOf d.toNat 320 64) = [q] →
    (s.ring (s.get fPART_REQ_SLOTS_SVC_RING n 0)).state = 1 → Completes (.resume r d) s (fun t =>
      (∃ c, (t.prt n).svc = (s.prt n).svc ++ [c] ∧ c.ring = s.get fPART_REQ_SLOTS_SVC_RING n 0 ∧ c.word = resumeWord q ∧ c.due = false ∧
        (t.prt n).moves = (s.prt n).moves ++ [{ ring := r, reqId := descReqId d, svc := [(c.ring, c.reqId)], slots := [] }]) ∧
      t.slot q = s.slot q)) ∧
  (∀ i, (i = .park r d ∧ descOpc d = 4 ∧ s.targets n r (bitsOf d.toNat 352 32 + bitsOf d.toNat 384 32 * 2 ^ 32) = []) ∨
      (i = .resume r d ∧ descOpc d = 5 ∧ s.targets n r (bitsOf d.toNat 320 64) = []) → Completes i s (fun t =>
    (t.prt n).owed = (s.prt n).owed ++
      [{ ring := r, reqId := descReqId d, status := 0, flags := flagFinal, token0 := noToken, token1 := 0 }] ∧ t.slots = s.slots)) ∧
  (descOpc d = 7 → s.vault.fogged = true → exec (.attest r d) s = .next (u.recordNow r (descReqId d) stKeyErased 0)) ∧
  (descOpc d = 7 → s.vault.fogged = false → s.vault.slots.length = 16 → descLen d = 96 →
    let out := u.le (descPayload d + 64) 6
    out % 16 = 0 → (s.ring r).inWindow out (u.le (descPayload d + 72) 4) = true → u.le (descPayload d + 80) 1 % 2 = 0 →
    1664 ≤ u.le (descPayload d + 72) 4 → Completes (.attest r d) s (fun t => ∃ sig, sig.length = 512 ∧
      t = ((({ u with free := u.free + 1 } : State).write out ((u.report n (u.bytes (descPayload d) 64)).1.take 1152 ++ sig)).recordNow r
        (descReqId d) 0 1664)))

/-- R298–R300: RDMA. A queue pair writes and reads only the memory regions of its ring (which ring: log entry 36), and none while that is DISABLED: any other request, and an
invalid one, is refused and changes nothing; a write is then in memory for every later read, and a write of a doorbell page is a doorbell
write. R301: a connection takes a free ring of its client's pool, which is enabled for it, and is told how many streams it may open; with no free ring
it gets GOAWAY and every stream of it is answered with 503, and without a front-end key it does not come about; its end disables the ring. -/
def Obligations.RdmaAndConnections : Prop :=
  (∀ (s : State) qp, s.live = true →
   (∀ addr data, WellFormed (.rdmaWrite qp addr data) = true →
     (s.rdmaWritable qp addr data.length = false → exec (.rdmaWrite qp addr data) s = .next (s.emit (.rdmaNak qp))) ∧
     (s.rdmaWritable qp addr data.length = true → isDoorbell addr = false → Completes (.rdmaWrite qp addr data) s (fun t =>
       (∀ j, j < data.length → t.mem.get (addr + j) = data.getD j 0) ∧
       (∀ a, a < addr ∨ addr + data.length ≤ a → t.mem.get a = s.mem.get a) ∧
       t = { s with mem := t.mem, lineErr := t.lineErr, tags := t.tags })) ∧
     (s.rdmaWritable qp addr data.length = true → isDoorbell addr = true → WellFormed (.doorbellWrite addr data) = true →
       exec (.rdmaWrite qp addr data) s = .next (s.doorbellWrite addr data) ∧ exec (.doorbellWrite addr data) s = .next (s.doorbellWrite addr data))) ∧
   (∀ addr len, WellFormed (.rdmaRead qp addr len) = true →
     (s.rdmaReadable qp addr len = false → exec (.rdmaRead qp addr len) s = .next (s.emit (.rdmaNak qp))) ∧
     (s.rdmaReadable qp addr len = true → exec (.rdmaRead qp addr len) s = .next (s.emit (.rdmaData qp (toBytes (s.bytes addr len)))))) ∧
   exec (.rdmaInvalidRequest qp) s = .next (s.emit (.rdmaNak qp)) ∧
   ((s.ring (qpRing qp)).state = 0 → ∀ a n, s.rdmaWritable qp a n = false ∧ s.rdmaReadable qp a n = false)) ∧
  (∀ s : State, s.live = true →
   (∀ client, s.vault.feKey = false → exec (.http2Connection client) s = .next s) ∧
   (∀ client, s.vault.feKey = true → s.freeRings client = [] → Completes (.http2Connection client) s (fun t =>
     t.out = s.out ++ [.goaway s.nextConn] ∧
     t.conn s.nextConn = some { client := client, ring := 0, tail := 0, head := 0, streams := [], full := true } ∧
     (∀ k, k ≠ s.nextConn → t.conn k = s.conn k) ∧
     t = { s with out := t.out, conns := t.conns, nextConn := (s.nextConn + 1) % 2 ^ 32 })) ∧
   (∀ client r rs, s.vault.feKey = true → s.freeRings client = r :: rs → s.enableErr r = 0 → r < 131072 → Completes (.http2Connection client) s (fun t =>
     t.conn s.nextConn = some { client := client, ring := r, tail := 0, head := 0, streams := [], full := false } ∧ t.ring r = s.readEntry r ∧
     (∀ k, k ≠ s.nextConn → t.conn k = s.conn k) ∧ (∀ q, q ≠ r → t.ring q = s.ring q) ∧
     t.out.getLast? = some (.settings s.nextConn 0 (2 ^ (s.readEntry r).sqLog2)) ∧
     OnlyRegs { s with rings := t.rings, mem := t.mem, lineErr := t.lineErr, tags := t.tags, conns := t.conns, nextConn := t.nextConn,
                       out := t.out, ctlHeld := t.ctlHeld, parts := t.parts } t [fldAddr fRING_STAT_RING 0 0])) ∧
   (∀ k, s.conn k = none → exec (.http2ConnectionEnd k) s = .next s) ∧
   (∀ k c, s.conn k = some c → c.full = true → exec (.http2ConnectionEnd k) s = .next (s.setConn k none)) ∧
   (∀ k c n, s.conn k = some c → c.full = false → c.ring < 131072 → (s.ring c.ring).state ≠ 0 → s.partOfRing c.ring = some n →
     s.isRunning n = false → s.ringSlots n c.ring = [] → Completes (.http2ConnectionEnd k) s (fun t =>
       t.conn k = none ∧ (∀ j, j ≠ k → t.conn j = s.conn j) ∧ t.ring c.ring = { s.ring c.ring with state := 0, disabling := false } ∧
       OnlyRegs { s with rings := t.rings, mem := t.mem, lineErr := t.lineErr, tags := t.tags, conns := t.conns, out := t.out,
                         ctlHeld := t.ctlHeld } t [fldAddr fRING_STAT_RING 0 0])))

/-- R302, R303: a connection's streams. A POST on a connection without a ring is answered with 503, one to an unknown path with
404, and one beyond the number of streams is refused (log entry 37); any other puts one descriptor on the connection's
ring, tagged with its stream, and rings the doorbell. A stream that its client resets is cancelled by a descriptor of the front end's own.
A record that has arrived is consumed in order and sent to its stream, with 200, or 400 for an invalid request, before the first; a FINAL
one ends the stream; while the window is closed records are held, and go out as it opens. -/
def Obligations.StreamsCarryRequests : Prop :=
  ∀ (s : State) k, s.live = true →
  (∀ r, s.conn k = none → exec (.http2Post k r) s = .next s ∧ exec (.rstStream k r.stream) s = .next s ∧
    ∀ w, exec (.feRecordConsume k w) s = .next s) ∧
  (∀ c r, s.conn k = some c → c.full = true → exec (.http2Post k r) s = .next (s.emit (.http k r.stream 503 false [] true))) ∧
  (∀ c r, s.conn k = some c → c.full = false → r.opc ∉ [1, 2, 3, 4, 5, 7] →
    exec (.http2Post k r) s = .next (s.emit (.http k r.stream 404 false [] true))) ∧
  (∀ c r, s.conn k = some c → c.full = false → r.opc ∈ [1, 2, 3, 4, 5, 7] → 2 ^ (s.ring c.ring).sqLog2 ≤ c.open_ →
    exec (.http2Post k r) s = .next (s.emit (.rstStream k r.stream))) ∧
  (∀ c r, s.conn k = some c → c.full = false → r.opc ∈ [1, 2, 3, 4, 5, 7] → c.open_ < 2 ^ (s.ring c.ring).sqLog2 → c.ring < 131072 → r.body = [] → r.stream < 2 ^ 32 →
    s.offLog ((s.ring c.ring).sqBase + c.tail % 2 ^ (s.ring c.ring).sqLog2 * 64) 64 → Completes (.http2Post k r) s (fun t =>
      let a := (s.ring c.ring).sqBase + c.tail % 2 ^ (s.ring c.ring).sqLog2 * 64
      t.conn k = some { c with tail := (c.tail + 1) % 2 ^ 32,
                               streams := c.streams ++ [{ id := r.stream, begun := false, dropped := false, held := [] }] } ∧
      t.le a 1 = r.opc ∧ t.le (a + 4) 4 = c.ring ∧ t.le (a + 32) 4 = r.stream ∧ (∀ b, b < a ∨ a + 64 ≤ b → s.inLogRing b = false → t.mem.get b = s.mem.get b))) ∧
  (∀ c id, s.conn k = some c → (∃ x ∈ c.streams, x.id = id) → Completes (.rstStream k id) s (fun t => ∃ c', t.conn k = some c' ∧
    c'.tail = (c.tail + 1) % 2 ^ 32 ∧ (∀ x ∈ c'.streams, x.id = id → x.dropped = true) ∧
    c'.streams.length = c.streams.length + 1)) ∧
  (∀ c id, s.conn k = some c → (∀ x ∈ c.streams, x.id ≠ id) → exec (.rstStream k id) s = .next s) ∧
  (∀ c, s.conn k = some c → c.head = (s.ring c.ring).cqTail → c.streams.foldl (fun a x => a + x.bytes) 0 ≤ 4194304 →
    exec (.feRecordConsume k false) s = .next s) ∧
  (∀ c x, s.conn k = some c → c.full = false → c.ring < 131072 → c.head ≠ (s.ring c.ring).cqTail → c.streams = [x] → x.begun = false →
    x.dropped = false → x.held = [] →
    let a := (s.ring c.ring).cqBase + c.head % 2 ^ (s.ring c.ring).cqLog2 * 32
    s.le a 4 = x.id → s.le (a + 10) 2 % 2 = 1 → Completes (.feRecordConsume k true) s (fun t =>
      t.conn k = some { c with head := (c.head + 1) % 2 ^ 32, streams := [] } ∧
      t.out.getLast? = some (.http k x.id (if s.le (a + 8) 2 = stDescInvalid then 400 else 200)
        (decide (s.le (a + 8) 2 ≠ stDescInvalid)) (toBytes (s.bytes a 32)) true) ∧
      Beside { s with conns := t.conns, doorbells := t.doorbells, ucie := t.ucie } t []) ∧
    Completes (.feRecordConsume k false) s (fun t =>
      t.conn k = some { c with head := (c.head + 1) % 2 ^ 32, streams := [{ x with held := [toBytes (s.bytes a 32)] }] } ∧
      Beside { s with conns := t.conns, doorbells := t.doorbells, ucie := t.ucie } t [])) ∧
  (∀ c x, s.conn k = some c → c.head = (s.ring c.ring).cqTail → c.streams = [x] → x.begun = true → x.held ≠ [] →
    x.held.any recFinal = false → Completes (.feRecordConsume k true) s (fun t =>
      t.conn k = some { c with streams := [{ x with held := [] }] } ∧
      t.out = s.out ++ [.http k x.id 0 true x.held.flatten false] ∧ t = { s with conns := t.conns, out := t.out }))

/-- R312, R324, R452, R407: a stack or a Drawer package that has trained says so in its status, in GLOBAL_IDENT or DRW_STAT; the last of
them ends BOOT in READY, where the bank booted from becomes the preferred one; one that fails puts the engine into FAULT, with cause 2 for
a stack and 4 for the Drawer. -/
def Obligations.StacksAndPackagesTrain : Prop :=
  ∀ s : State, s.live = true →
  (∀ h rep, h < 8 → Completes (.stackTraining h true rep) s (fun t =>
    t.get fHBM_STAT_TRAINED h 0 = 1 ∧ t.get fHBM_STAT_REPAIRED h 0 = rep % 65536 ∧ (t.g fGLOBAL_IDENT_STACKS).testBit h = true ∧
    (s.g fPWR_STATE_STATE ≠ 2 ∨ s.supply.stages ≠ 3 → OnlyRegs s t [fldAddr fHBM_STAT_TRAINED h 0, fldAddr fGLOBAL_IDENT_STACKS 0 0]) ∧
    (s.g fPWR_STATE_STATE = 2 → s.supply.stages = 3 → s.g fGLOBAL_LOCK_SETUP = 1 → s.g fDRW_STAT_TRAINED = 15 →
      (∀ k, k < 8 → k ≠ h → s.get fHBM_STAT_TRAINED k 0 = 1) →
      t.g fPWR_STATE_STATE = 3 ∧ t.vault = { s.vault with preferred := s.g fSEC_STAT_BOOT_BANK, svn := max s.vault.svn s.vault.fwSvn }))) ∧
  (∀ k, k < 4 → Completes (.drawerTraining k true) s (fun t =>
    (t.g fDRW_STAT_TRAINED).testBit k = true ∧
    (∀ j, j ≠ k → (t.g fDRW_STAT_TRAINED).testBit j = (s.g fDRW_STAT_TRAINED).testBit j) ∧
    (s.g fPWR_STATE_STATE ≠ 2 ∨ s.supply.stages ≠ 3 → OnlyRegs s t [fldAddr fDRW_STAT_TRAINED 0 0]))) ∧
  (s.bare → s.inFault = false →
    (∀ h rep, h < 8 → Completes (.stackTraining h false rep) s (fun t =>
      t.get fHBM_STAT_TRAINED h 0 = 0 ∧ (t.g fGLOBAL_IDENT_STACKS).testBit h = false ∧ t.g fREL_FAULT_FAULT = 1 ∧ t.g fREL_FAULT_CAUSE = 2 ∧
      t.g fPWR_STATE_STATE = 6)) ∧
    (∀ k, k < 4 → Completes (.drawerTraining k false) s (fun t =>
      (t.g fDRW_STAT_TRAINED).testBit k = false ∧ t.g fREL_FAULT_FAULT = 1 ∧ t.g fREL_FAULT_CAUSE = 4 ∧ t.g fPWR_STATE_STATE = 6)))

/-- R313–R316: a partial line of the write-combining buffer leaves it by a read-fill, and its writes are acknowledged, with ST_HBM_UE
where the line cannot be read; a temperature reading sets the level, STOPPED from 105 °C until 100 °C; a stack that stays STOPPED too long
is OFFLINE and puts the engine into FAULT with cause 3. R317, R319, R420: patrol. A line without error is only counted; a corrected one is
written back and counted; an uncorrectable one while no partition exists is counted, logged as PATROL_UE, and stays damaged. No data
changes. -/
def Obligations.StacksFillStopFailAndPatrol : Prop :=
  (∀ (s : State) h, s.live = true → h < 8 →
   (∀ line, (s.wcbOf h).find? (fun e => decide (e.line = lineOf line)) = none → exec (.wcbReadFill h line) s = .next s) ∧
   (∀ line e hd p k, (s.wcbOf h).find? (fun e => decide (e.line = lineOf line)) = some e → e.acks = [(hd, p)] →
     (∀ g x, x ∈ s.wcbOf g → (g = h ∧ x.line = e.line) ∨ (hd, p) ∉ x.acks) → s.get fHBM_STAT_LEVEL h 0 ≠ 5 →
     (s.lineErrOf e.line ≠ .bad → s.stackOffline e.line = false → s.sendsOn p.link (!p.up) (wrAckHdr hd 0 0) k →
      Completes (.wcbReadFill h line) s (fun t =>
       t.wcbOf h = (s.wcbOf h).filter (fun x => decide (x.line ≠ e.line)) ∧ t.lineErrOf e.line = .good ∧
       t.out.getLast? = some (.ucie p.link k (!p.up) (wrAckHdr hd 0 0) []) ∧
       Beside { s with wcb := t.wcb, ucie := t.ucie } t [fldAddr fHBM_WCB_STAT_ENTRIES h 0, fldAddr fHBM_ECC_STAT_CE h 0])) ∧
     (s.lineErrOf e.line = .bad → s.bare → s.sendsOn p.link (!p.up) (wrAckHdr hd 1 stHbmUe) k → Completes (.wcbReadFill h line) s (fun t =>
       t.wcbOf h = (s.wcbOf h).filter (fun x => decide (x.line ≠ e.line)) ∧
       t.out.getLast? = some (.ucie p.link k (!p.up) (wrAckHdr hd 1 stHbmUe) []) ∧
       (∀ a, s.inLogRing a = false → t.mem.get a = s.mem.get a)))) ∧
   (∀ c, c < 256 → s.get fHBM_STAT_OFFLINE h 0 = 0 → s.hbmHeld = [] → (∀ x ∈ s.plates, ∀ w ∈ x.2.waiting, w.why ≠ .stack) →
    Completes (.hbmTempRead h c) s (fun t =>
     t.get fHBM_STAT_TEMP_C h 0 = c ∧ (105 ≤ c → t.get fHBM_STAT_LEVEL h 0 = 5) ∧
     (s.get fHBM_STAT_LEVEL h 0 = 5 → 100 < c → c < 105 → t.get fHBM_STAT_LEVEL h 0 = 5) ∧
     (s.get fHBM_STAT_LEVEL h 0 = 5 → c ≤ 100 → t.get fHBM_STAT_LEVEL h 0 = 4) ∧
     (s.get fHBM_STAT_LEVEL h 0 = 0 → c < s.get fHBM_THERM_WARN_C h 0 → c < 105 → t.get fHBM_STAT_LEVEL h 0 = 0) ∧
     Beside s t [fldAddr fHBM_STAT_LEVEL h 0])) ∧
   (s.get fHBM_STAT_LEVEL h 0 ≠ 5 ∨ s.get fHBM_STAT_OFFLINE h 0 = 1 → exec (.hbmOffline h) s = .next s) ∧
   (s.get fHBM_STAT_LEVEL h 0 = 5 → s.get fHBM_STAT_OFFLINE h 0 = 0 → s.wcbOf h = [] → s.hbmHeld = [] → s.bare → s.inFault = false →
     Completes (.hbmOffline h) s (fun t =>
       t.get fHBM_STAT_OFFLINE h 0 = 1 ∧ t.g fREL_FAULT_FAULT = 1 ∧ t.g fREL_FAULT_CAUSE = 3 ∧ t.g fPWR_STATE_STATE = 6))) ∧
  (∀ s : State, s.live = true → s.settled →
   (∀ a, WellFormed (.hbmPatrolRead a .clean) = true → s.get fHBM_STAT_TRAINED (s.stackOf (lineOf a)) 0 = 0 →
     exec (.hbmPatrolRead a .clean) s = .next s) ∧
   (∀ a e, WellFormed (.hbmPatrolRead a e) = true → s.get fHBM_STAT_TRAINED (s.stackOf (lineOf a)) 0 = 1 → s.stackHolds (lineOf a) = false →
     s.stackOffline (lineOf a) = false →
     (s.bgRoom (stackKey (s.stackOf (lineOf a))) 64 hbmCap = false → Completes (.hbmPatrolRead a e) s (fun t => Beside s t [])) ∧
     (s.bgRoom (stackKey (s.stackOf (lineOf a))) 64 hbmCap = true →
     (e = .clean → s.lineErrOf (lineOf a) = .good → Completes (.hbmPatrolRead a e) s (fun t => Beside { s with bgWork := t.bgWork } t [])) ∧
     (e = .corrected → s.lineErrOf (lineOf a) ≠ .bad → Completes (.hbmPatrolRead a e) s (fun t =>
       t.lineErrOf (lineOf a) = .good ∧
       t.get fHBM_ECC_STAT_CE (s.stackOf (lineOf a)) 0 = satAdd (s.get fHBM_ECC_STAT_CE (s.stackOf (lineOf a)) 0) 1 (2 ^ fHBM_ECC_STAT_CE.w - 1) ∧
       Beside { s with bgWork := t.bgWork } t [fldAddr fHBM_ECC_STAT_CE (s.stackOf (lineOf a)) 0])) ∧
     (e = .bad → s.bare → Completes (.hbmPatrolRead a e) s (fun t =>
       (∃ v, Out.event v ∈ t.out ∧ v.code = 0x8405 ∧ v.addr = lineOf a) ∧
       t.get fHBM_ECC_ADDR_ADDR (s.stackOf (lineOf a)) 0 = lineOf a ∧ t.get fHBM_ECC_ADDR_VALID (s.stackOf (lineOf a)) 0 = 1 ∧
       t.lineErrOf (lineOf a) = .bad ∧ (∀ b, s.inLogRing b = false → t.mem.get b = s.mem.get b))))) ∧
   (∀ a e, WellFormed (.drawerPatrolRead a e) = true → s.bgRoom drawerKey 64 drawerCap = false →
     Completes (.drawerPatrolRead a e) s (fun t => Beside s t [])) ∧
   (∀ a e, WellFormed (.drawerPatrolRead a e) = true → s.bgRoom drawerKey 64 drawerCap = true →
     (e = .clean → s.lineErrOf (lineOf a) = .good → Completes (.drawerPatrolRead a e) s (fun t => Beside { s with bgWork := t.bgWork } t [])) ∧
     (e = .corrected → s.lineErrOf (lineOf a) ≠ .bad → Completes (.drawerPatrolRead a e) s (fun t =>
       t.lineErrOf (lineOf a) = .good ∧ t.g fDRW_ECC_STAT_LINK_CE = satAdd (s.g fDRW_ECC_STAT_LINK_CE) 1 (2 ^ fDRW_ECC_STAT_LINK_CE.w - 1) ∧
       Beside { s with bgWork := t.bgWork } t [fldAddr fDRW_ECC_STAT_LINK_CE 0 0])) ∧
     (e = .bad → s.bare → s.inLogRing (lineOf a) = false →
       (∀ j, j < 64 → s.inLogRing (lineOf a + j) = false) → Completes (.drawerPatrolRead a e) s (fun t =>
       (∃ v, Out.event v ∈ t.out ∧ v.code = 0x8405 ∧ v.addr = lineOf a) ∧ t.lineErrOf (lineOf a) = .bad ∧
       t.g fDRW_ECC_ADDR_ADDR = lineOf a ∧ t.g fDRW_ECC_ADDR_VALID = 1 ∧ (∀ b, s.inLogRing b = false → t.mem.get b = s.mem.get b)))))

/-- R440–R442: a source of the light-leak alarm is latched and is the last one. Its policy acts: LOG changes nothing beside; LOCK puts an
engine without partitions into LOCKED, in the register and in the vault, and leaves the keys; FOG erases the content keys and begins the
fog; FOG_ALL erases the front-end key as well and marks the vault. R443: fog that ends leaves every byte of HBM and of the trays zero, and
every line of them free of errors. -/
def Obligations.AlarmPoliciesAndFog : Prop :=
  (∀ (s : State) src, s.live = true → WellFormed (.lightLeakAlarm src) = true → s.bare →
   Completes (.lightLeakAlarm src) s (fun t =>
     (t.g fSEC_ALARM_STAT_LATCHED).testBit src = true ∧ t.g fSEC_ALARM_STAT_LAST = src ∧
     (s.alarmPolicy src = 0 → Beside s t [fldAddr fSEC_ALARM_STAT_LATCHED 0 0]) ∧
     (s.alarmPolicy src = 1 → s.locked = false →
       t.g fSEC_STAT_LOCKED = 1 ∧ t.vault = { s.vault with locked := true } ∧ (∀ a, s.inLogRing a = false → t.mem.get a = s.mem.get a)) ∧
     (2 ≤ s.alarmPolicy src → t.g fSEC_STAT_FOG_BUSY = 1 ∧ t.vault.content = [] ∧ t.vault.pkg = none ∧ t.conns = []) ∧
     (s.alarmPolicy src = 2 → t.vault.feKey = s.vault.feKey ∧ t.vault.fogged = s.vault.fogged) ∧
     (s.alarmPolicy src = 3 → t.vault.feKey = false ∧ t.vault.fogged = true ∧ t.g fSEC_STAT_FOGGED_ALL = 1))) ∧
  (∀ s : State, s.live = true → s.g fSEC_STAT_FOG_BUSY = 1 →
   Completes .fogDone s (fun t =>
     t.g fSEC_STAT_FOG_BUSY = 0 ∧ (∀ a, isHbm a = true ∨ isTray a = true → t.mem.get a = 0) ∧
     (∀ l, isHbm l = true ∨ isTray l = true → t.lineErrOf l = .good) ∧ t.vault = s.vault ∧ t.plates = s.plates))

/-- R439, R445: reading SEC_NONCE gives a fresh value, whichever it is, and makes it the latest one read; a submitted token uses the nonce
up whether or not it is accepted; a LOCK_CLEAR token that meets its conditions, while the DEBUG source's policy is LOG and no fog of
everything has been, clears LOCKED; the end of a debug unlock hides the accumulators of all 128 plates. R434, R435: a package is started
only while none is under way; its ranges are checked before its key; a good one leaves plaintext that the model does not know in the
destination and the partition's content key in the vault; a bad one leaves none, and what it had written reads 0. SEC_EXTEND extends only
slots 5–12, and only from the reserved range (R430). -/
def Obligations.NoncesTokensPackagesAndMeasurements : Prop :=
  (∀ s : State, s.live = true →
   Completes .secNonceRead s (fun t =>
     t.g fSEC_NONCE_NONCE = s.fresh.1 ∧ t.vault = { s.vault with nonce := some (s.fresh.1, s.now) } ∧
     OnlyRegs { s with vault := t.vault, free := s.free + 1 } t [fldAddr fSEC_NONCE_NONCE 0 0]) ∧
   (s.bare → s.tokenKind ≠ 2 → Completes .debugToken s (fun t => t.vault.nonce = none)) ∧
   (s.bare → s.tokenKind = 2 → s.alarmPolicy 6 = 0 → s.locked = true → s.vault.fogged = false →
     Completes .lockClearToken s (fun t =>
       t.vault.nonce = none ∧
       (s.tokenOk (s.bytes (s.g fSEC_TOKEN_ADDR) 1152) = true → s.clearOk (s.bytes (s.g fSEC_TOKEN_ADDR) 1152) = true →
         t.g fSEC_STAT_LOCKED = 0 ∧ t.vault.locked = false) ∧
       (s.tokenOk (s.bytes (s.g fSEC_TOKEN_ADDR) 1152) = false →
         ∃ k, t.vault.sigFails = s.vault.sigFails.filter (fun u => decide (s.now < u + 60000000000)) ++ [k]))) ∧
   (s.g fSEC_STAT_DEBUG = 1 → Completes .debugUnlockExpiry s (fun t =>
     t.g fSEC_STAT_DEBUG = 0 ∧ (∀ p, p < 128 → t.get fPLATE_DEBUG_ACC_VISIBLE p 0 = 0) ∧ t.vault.slots = s.vault.slots ∧
     t.mem = (s.elapse (edgesTo s.timer.master s.vault.debugEnd)).mem))) ∧
  ((∀ (s : State) n, s.live = true → WellFormed (.secPkgCtrlStart n) = true → s.g fSEC_PKG_CTRL_BUSY = 0 →
     Completes (.secPkgCtrlStart n) s (fun t =>
       let src := s.g fSEC_PKG_SRC_ADDR
       let dst := s.g fSEC_PKG_DST_ADDR
       let z := s.pkgSizes src
       let bad := !s.pkgSrcOk n src 576 || !s.pkgSrcOk n src (z.1 + z.2) || !s.inHbm n dst z.2 || rangesMeet src (z.1 + z.2) dst z.2
       t.g fSEC_PKG_CTRL_STATUS = (if bad = true then 0x0704 else if s.vault.fogged = true then 0x0703 else 0) ∧
       t.g fSEC_PKG_CTRL_BUSY = (if bad = true ∨ s.vault.fogged = true then 0 else 1) ∧
       t.vault.pkg = (if bad = true ∨ s.vault.fogged = true then none else some (n, src, dst, z.2)) ∧
       t.mem = s.mem)) ∧
   (∀ (s : State) chunks n src dst size, s.live = true → s.vault.pkg = some (n, src, dst, size) →
     Completes (.secPkgDone true chunks) s (fun t =>
       t.g fSEC_PKG_CTRL_BUSY = 0 ∧ t.g fSEC_PKG_CTRL_STATUS = 0 ∧ t.vault.pkg = none ∧ n ∈ t.vault.content ∧
       ∀ a, a < dst ∨ dst + size ≤ a → t.mem.get a = s.mem.get a)) ∧
   (∀ (s : State) chunks n src dst size, s.live = true → s.bare → s.alarmPolicy 5 = 0 → s.vault.pkg = some (n, src, dst, size) →
     Completes (.secPkgDone false chunks) s (fun t =>
       t.g fSEC_PKG_CTRL_BUSY = 0 ∧ t.g fSEC_PKG_CTRL_STATUS = 0x0702 ∧ t.vault.pkg = none ∧ t.vault.content = s.vault.content ∧
       ∀ a, dst ≤ a → a < dst + min size (chunks * 2 ^ 26) → s.inLogRing a = false → t.mem.get a = 0)) ∧
   (∀ (s : State) slot addr, s.live = true → WellFormed (.secExtend slot addr) = true → s.vault.slots.length = 16 →
     Completes (.secExtend slot addr) s (fun t =>
       (5 ≤ slot → slot ≤ 12 → addr % 64 = 0 → s.inReserved addr 64 = true →
         t.vault.slots.getD slot 0 = sha512 (leBytes 64 (s.vault.slots.getD slot 0) ++ leBytes 64 (sha512 (s.bytes addr 64)))) ∧
       (∀ i, i ≠ slot → t.vault.slots.getD i 0 = s.vault.slots.getD i 0) ∧
       (slot < 5 ∨ 12 < slot ∨ addr % 64 ≠ 0 ∨ s.inReserved addr 64 = false → t = s) ∧ t = { s with vault := t.vault })))

/-- R431: SPDM requests are answered one for one while no fog is busy: version 1.3, the capabilities and algorithms of R431, the digest
and the certificates of the IK chain, measurements and challenges signed with IK unless FOG_ALL has erased it, and UnsupportedRequest for
anything else. The response code bytes and the Busy error are the model's presumption (PRESUMED, log entry 40), as is the interface number
(log entry 69). -/
def Obligations.SpdmAnswersEachRequest : Prop :=
  ∀ s : State, s.live = true → s.g fSEC_STAT_FOG_BUSY = 0 →
  exec .getVersion s = .next (s.emit (.response 1 0x04 [0x13])) ∧
  exec .getCapabilities s = .next (s.emit (.response 1 0x61 [0x16, 0, 0, 0])) ∧
  exec .negotiateAlgorithms s = .next (s.emit (.response 1 0x63 [0x08, 0, 0, 0, 0x40, 0, 0, 0, 0x04, 0, 0, 0])) ∧
  exec .getDigests s = .next (s.emit (.response 1 0x01 ([1] ++ leBytes 64 (sha512 ikChain)))) ∧
  (∀ off len, WellFormed (.getCertificate off len) = true → Completes (.getCertificate off len) s (fun t =>
    (off < ikChain.length → t = s.emit (.response 1 0x02 ([0] ++ leBytes 2 (min len (ikChain.length - off)) ++
      leBytes 2 (ikChain.length - off - min len (ikChain.length - off)) ++ (ikChain.drop off).take len))) ∧
    (ikChain.length ≤ off → t = s.emit (.response 1 0x7F [0x01])))) ∧
  (∀ slot nonce, WellFormed (.challenge slot nonce) = true → Completes (.challenge slot nonce) s (fun t =>
    (s.vault.fogged = true → t = s.emit (.response 1 0x7F [0x05])) ∧
    (s.vault.fogged = false → slot = 0 → ∃ fresh sig, t.out = s.out ++ [.response 1 0x03 ([0] ++ leBytes 64 (sha512 ikChain) ++ fresh ++
      leBytes 32 nonce ++ sig)] ∧ fresh.length = 8 ∧ sig.length = 512) ∧ t = { s with out := t.out, free := t.free })) ∧
  (∀ index nonce, WellFormed (.getMeasurements index nonce) = true → Completes (.getMeasurements index nonce) s (fun t =>
    (s.vault.fogged = false → 1 ≤ index → index ≤ 17 → ∃ sig, t.out = s.out ++ [.response 1 0x60 ([index] ++ s.measBlock index ++
      leBytes 32 nonce ++ sig)] ∧ sig.length = 512) ∧
    (s.vault.fogged = false → index = 0 → ∃ sig, t.out = s.out ++ [.response 1 0x60 ([0, 17] ++ leBytes 32 nonce ++ sig)] ∧ sig.length = 512) ∧
    t = { s with out := t.out, free := t.free })) ∧
  (∀ code, WellFormed (.spdmUnsupportedRequest code) = true →
    exec (.spdmUnsupportedRequest code) s = .next (s.emit (.response 1 0x7F [0x07])))

/-- R448, R450–R453: presence that breaks, an input out of range, an overcurrent, a rail fault and a precharge that times out open the
main switch from the states they act in. The module then keeps nothing but the flash records and the vault's non-volatile store, and
nothing is logged or sent. R449, R452, R492, R495: 48 V on an OFF module begins the precharge; the main switch closes once presence is
mated, the input lies within 40 to 60 V and the precharge is complete, whichever comes last, and BOOT begins with the vault's state in
SEC_STAT; a rail becomes power-good when every rail of the steps before it is; RESET_N released lets the module run. -/
def Obligations.SupplyEventsMoveTheMainSwitch : Prop :=
  (∀ s : State,
   (s.supply.main ≠ 0 → Completes .presenceBreak s (fun t =>
     t.supply.main = 0 ∧ t.unpowered ∧ t.supply.presence = false ∧ t.out = s.out ∧ t.flash.recs = s.flash.recs ∧ t.vault = s.vault.kept)) ∧
   (∀ vin, s.supply.main ≠ 0 → vin < 3600 ∨ 6000 < vin → Completes (.inputOutOfRange vin) s (fun t =>
     t.supply.main = 0 ∧ t.unpowered ∧ t.supply.mated = (s.supply.mated && decide (3600 ≤ vin)) ∧ t.out = s.out ∧
     t.flash.recs = s.flash.recs ∧ t.vault = s.vault.kept)) ∧
   (s.supply.main ≠ 0 → Completes .inputOvercurrent s (fun t =>
     t.supply.main = 0 ∧ t.unpowered ∧ t.out = s.out ∧ t.flash.recs = s.flash.recs ∧ t.vault = s.vault.kept)) ∧
   (∀ rail, WellFormed (.railFault rail) = true → s.supply.main = 2 → Completes (.railFault rail) s (fun t =>
     t.supply.main = 0 ∧ t.unpowered ∧ t.out = s.out ∧ t.flash.recs = s.flash.recs ∧ t.vault = s.vault.kept)) ∧
   (s.supply.main = 1 → Completes .prechargeTimeout s (fun t =>
     t.supply.main = 0 ∧ t.unpowered ∧ t.out = s.out ∧ t.flash.recs = s.flash.recs ∧ t.vault = s.vault.kept))) ∧
  (∀ s : State,
   (s.supply.main = 0 → Completes .contact48vMate s (fun t =>
     t = { s with supply := t.supply } ∧ t.supply.main = 1 ∧ t.supply.mated = true ∧ t.supply.presence = s.supply.presence)) ∧
   (∀ vin, s.unpowered → s.supply.main = 1 → s.supply.presence = true → 4000 ≤ vin → vin ≤ 6000 →
     Completes (.prechargeComplete vin) s (fun t =>
       t.supply = Supply.init ∧ t.g fPWR_STATE_STATE = 2 ∧ t.g fSEC_STAT_LOCKED = (if s.vault.locked then 1 else 0) ∧
       t.g fSEC_STAT_SVN = s.vault.svn % 256 ∧ t.vault = s.vault ∧ t.flash = s.flash ∧ t.plates = [] ∧ t.parts = [] ∧ t.rings = [])) ∧
   (∀ vin, s.supply.main = 1 → s.supply.presence = false ∨ vin < 4000 ∨ 6000 < vin → Completes (.prechargeComplete vin) s (fun t =>
     t.supply.main = 1 ∧ t.supply.charged = true ∧ t = { s with supply := t.supply })) ∧
   (s.unpowered → s.supply.main = 1 → s.supply.inRange = true → s.supply.charged = true → Completes .presenceMated s (fun t =>
     t.supply = Supply.init ∧ t.g fPWR_STATE_STATE = 2 ∧ t.vault = s.vault ∧ t.flash = s.flash)) ∧
   (s.supply.main = 0 → s.supply.mated = true → Completes .presenceMated s (fun t =>
     t.supply.main = 1 ∧ t.supply.presence = true ∧ t = { s with supply := t.supply })) ∧
   (∀ rail, WellFormed (.railPowerGood rail) = true → s.supply.main = 2 →
     (∀ q, q < 13 → railStep q < railStep rail → s.railGood q = true) →
     Completes (.railPowerGood rail) s (fun t =>
       (∀ q, t.railGood q = (s.railGood q || decide (q = rail))) ∧ OnlyRegs s t [fldAddr fPWR_STAT_RAIL_PG 0 0])) ∧
   exec .resetNRelease s = .next { s with supply := { s.supply with resetLow := false } })

/-- R454, R495: a warm reset, by RESET_N, by firmware or by the boot watchdog, returns every register but the vault's, the supply's and what
stands until the next power-up of a link's modules and an OFFLINE stack (R32, R316; log entry 31) to its reset value and every unit to its state at reset, and leaves the flash and the vault's non-volatile store; the rails stay on. RESET_N
then holds the module. -/
def Obligations.WarmResetReturnsTheModuleToBoot : Prop :=
  ∀ s : State, s.supply.main = 2 →
  (Completes .resetN s (fun t =>
    t.supply.resetLow = true ∧ t.supply.main = 2 ∧ t.vault = s.vault.kept ∧ t.flash = s.flash ∧ t.plates = [] ∧ t.parts = [] ∧ t.ctxs = [] ∧
    t.slots = [] ∧ t.rings = [] ∧ t.ucie = [] ∧ t.tags = [] ∧ t.g fPWR_STAT_RAIL_PG = s.g fPWR_STAT_RAIL_PG ∧
    s.keptLinks t ∧
    (∀ a, bookkeeping a = false → a ∉ resetKept → t.reg a = regDefault a))) ∧
  (s.live = true → Completes .pwrCtrlReset s (fun t =>
    t.supply.resetLow = false ∧ t.supply.main = 2 ∧ t.vault = s.vault.kept ∧ t.flash = s.flash ∧ t.plates = [] ∧ t.parts = [] ∧ t.ctxs = [] ∧
    t.slots = [] ∧ t.rings = [] ∧ t.ucie = [] ∧ t.tags = [] ∧ t.g fPWR_STAT_RAIL_PG = s.g fPWR_STAT_RAIL_PG ∧
    s.keptLinks t ∧
    (∀ a, bookkeeping a = false → a ∉ resetKept → t.reg a = regDefault a))) ∧
  (s.live = true → s.g fPWR_STATE_STATE = 2 → s.supply.stuck = false → Completes .bootWatchdog s (fun t =>
    t.supply.main = 2 ∧ t.vault = s.vault.kept ∧ t.flash = s.flash ∧ t.plates = [] ∧ t.parts = [] ∧ t.rings = [] ∧
    (∃ e, t.out.getLast? = some (.event e) ∧ e.code = 0x8B05)))

/-- R428–R430, R463: the boot stages. Stage 1 takes the preferred bank where its image verifies, and measures it into slot 0; stage 2
takes firmware and microcode of that bank; stage 3 with no settings record to select leaves the registers at factory defaults, says so in
MGMT_SETTINGS.SOURCE, and measures the absence into slot 4. -/
def Obligations.BootStagesAdvance : Prop :=
  ∀ s : State, s.live = true → s.g fPWR_STATE_STATE = 2 → s.vault.slots.length = 16 →
  (∀ r, s.supply.stages = 0 → s.supply.stuck = false → s.supply.second = false → (∀ i, i < 5 → s.railGood i = true) → r.lidOpen = false →
    s.vault.once = none → s.bankOk r s.vault.preferred = true →
    Completes (.bootStage1 r) s (fun t =>
      t.supply.stages = 1 ∧ t.g fSEC_STAT_BOOT_BANK = s.vault.preferred % 2 ∧
      t.vault = { s.vault with slots := s.vault.slots.set 0 (sha512 (leBytes 64 (s.vault.slots.getD 0 0) ++ leBytes 64 r.digest)) } ∧
      Beside { s with vault := t.vault, supply := t.supply } t [fldAddr fSEC_STAT_BOOT_BANK 0 0])) ∧
  (∀ r, s.supply.stages = 1 → s.bankOk r (s.g fSEC_STAT_BOOT_BANK) = true → Completes (.bootStage2 r) s (fun t =>
    t.supply.stages = 2 ∧ t.vault.fwSvn = scanSvn r (s.g fSEC_STAT_BOOT_BANK) ∧
    t.vault.slots.getD 1 0 = sha512 (leBytes 64 (s.vault.slots.getD 1 0) ++ leBytes 64 r.digest) ∧
    t = { s with vault := t.vault, supply := t.supply })) ∧
  (∀ bad, s.supply.stages = 2 → s.selectRec kindSettings bad = none → Completes (.bootStage3 bad) s (fun t =>
    t.supply.stages = 3 ∧ t.g fMGMT_SETTINGS_SOURCE = 0 ∧
    t.vault.slots.getD 4 0 = sha512 (leBytes 64 (s.vault.slots.getD 4 0) ++ leBytes 64 (sha512 (List.replicate 64 0))) ∧
    t.flash = s.flash))

/-- R456, R448, R459: a drain from READY or SERVING enters DRAINING with its deadline, and the deadline marks what is left; an input
between 36 and 40 V puts an engine without partitions into FAULT with cause 6. R459, R460: a sample sets the input registers, and counts
samples above the limit, which is PWR_CAP.CAP_W but at most 2,000 W; the slow loop sets the 100 ms mean and, with nothing above a limit
and little below it, changes nothing else; the eight-hundredth sample above the limit in a row starts the count anew; a droop stretches
the clock of its die once and is counted, and its end restores the clock. -/
def Obligations.DrainInputRangeAndPowerGovernor : Prop :=
  (∀ s : State, s.live = true → s.bare →
   (∀ d, WellFormed (.pwrCtrlDrain d) = true → d ≤ 3600 → s.g fPWR_STATE_STATE = 3 ∨ s.g fPWR_STATE_STATE = 4 →
     Completes (.pwrCtrlDrain d) s (fun t =>
       t.g fPWR_STATE_STATE = 5 ∧ t.g fPWR_STATE_DRAINED = 1 ∧ t.supply.drainAt = s.now + (if d = 0 then 60 else d) * 1000000000 ∧
       t.drainDue = false ∧ Beside { s with supply := t.supply, drainDue := false } t [fldAddr fPWR_STATE_STATE 0 0])) ∧
   (s.draining = true → exec .drainDeadline s = .next { (s.elapse (edgesTo s.timer.master s.supply.drainAt)) with drainDue := true }) ∧
   (∀ vin, WellFormed (.inputRange vin) = true → 3600 ≤ vin → vin < 4000 → s.inFault = false → Completes (.inputRange vin) s (fun t =>
     t.g fPWR_INPUT_VIN = vin ∧ t.g fREL_FAULT_FAULT = 1 ∧ t.g fREL_FAULT_CAUSE = 6 ∧ t.g fPWR_STATE_STATE = 6)) ∧
   (s.inFault = false → Completes .relFaultFwFault s (fun t =>
     t.g fREL_FAULT_FAULT = 1 ∧ t.g fREL_FAULT_CAUSE = 5 ∧ t.g fPWR_STATE_STATE = 6 ∧ t.vault = s.vault))) ∧
  (∀ s : State, s.live = true →
   (∀ vin iin pinW, WellFormed (.powerSample vin iin pinW) = true → s.bare → Completes (.powerSample vin iin pinW) s (fun t =>
     t.g fPWR_INPUT_VIN = vin ∧ t.g fPWR_INPUT_IIN = iin ∧ t.g fPWR_INPUT_PIN_W = pinW ∧
     t.supply.overRun = (if min (s.g fPWR_CAP_CAP_W) 2000 < pinW then (if 800 ≤ s.supply.overRun + 1 then 0 else s.supply.overRun + 1) else 0) ∧
     OnlyRegs { s with supply := t.supply } t [fldAddr fPWR_INPUT_VIN 0 0])) ∧
   (∀ r, WellFormed (.powerSlowLoop r) = true → s.bare → r.overTemp = false → Completes (.powerSlowLoop r) s (fun t =>
     t.g fPWR_INPUT_P100_W = r.p100W ∧ OnlyRegs s t [fldAddr fPWR_INPUT_P100_W 0 0])) ∧
   (∀ die, WellFormed (.droopStretch die) = true → die ∉ s.supply.stretched → Completes (.droopStretch die) s (fun t =>
     die ∈ t.supply.stretched ∧ t.g fPWR_STAT_STRETCHES = satAdd (s.g fPWR_STAT_STRETCHES) 1 (2 ^ 32 - 1) ∧
     (∀ p, dieOfPlate p = die → t.cycleRate p = 24) ∧ (∀ p, dieOfPlate p ≠ die → t.cycleRate p = s.cycleRate p))) ∧
   (∀ die, WellFormed (.droopRecover die) = true → Completes (.droopRecover die) s (fun t =>
     die ∉ t.supply.stretched ∧ (∀ p, dieOfPlate p = die → t.cycleRate p = 30) ∧ t = { s with supply := t.supply })))

/-- R466, R467: what the operator's commands of class R answer, from BOOT onward while no fog is busy: GET_STATE the four state registers,
REG_READ the registers from an address on, LOG_READ entries of the log, and an unknown command ST_CMD_INVALID. R466, R467: a command of
class P that comes over I3C without trust does nothing but log the denial and answer ST_AUTH_FAIL; while a fog is busy every command but
GET_STATE is answered ST_MGMT_BUSY. -/
def Obligations.VetasReadsAndDenials : Prop :=
  (∀ (s : State) (v : VetasCtx), s.live = true →
   exec (.getState v) s = .next (s.emit (.response 0 0 (v.seq % 256 ::
     (leBytes 8 (s.readWord (fldAddr fPWR_STATE_STATE 0 0)).toNat ++ leBytes 8 (s.readWord (fldAddr fPWR_INPUT_VIN 0 0)).toNat ++
      leBytes 8 (s.readWord (fldAddr fSEC_STAT_LOCKED 0 0)).toNat ++ leBytes 8 (s.readWord (fldAddr fREL_FAULT_CAUSE 0 0)).toNat)))) ∧
   (s.g fSEC_STAT_FOG_BUSY = 0 → s.supply.stuck = false →
     (∀ addr count, WellFormed (.regRead v addr count) = true → 1 ≤ count → count ≤ 32 →
       (∀ i, i < count → addr + 8 * i ≠ fldAddr fSEC_NONCE_NONCE 0 0) →
       exec (.regRead v addr count) s = .next (s.emit (.response 0 0 (v.seq % 256 ::
         (List.range count).flatMap (fun i => leBytes 8 (s.readWord (addr + 8 * i)).toNat))))) ∧
     (∀ first count, 1 ≤ count → count ≤ 32 →
       exec (.logRead v first count) s = .next (s.emit (.response 0 0 (v.seq % 256 ::
         (List.range count).flatMap (fun i => s.bytes (s.g fREL_LOG_BASE + (first + i) % 2 ^ s.g fREL_LOG_LOG2 * 64) 64))))) ∧
     (∀ cmd, WellFormed (.vetasUnknownCommand v cmd) = true →
       exec (.vetasUnknownCommand v cmd) s = .next (s.emit (.response 0 0x0206 [v.seq % 256]))))) ∧
  (∀ (s : State) (v : VetasCtx) (i : Instr), s.live = true → WellFormed i = true →
   i ∈ [.settingsSave v, .settingsFactory v, .vetasReset v, .feKeygen v] ∨ (∃ n, i = .clearHold v n) ∨ (∃ n, i = .forceTakeover v n) ∨
     (∃ d, i = .vetasDrain v d) ∨ (∃ a m x, i = .regWrite v a m x) ∨ (∃ es, i = .settingsPatch v es) ∨ (∃ b, i = .credentials v b) →
   (s.g fSEC_STAT_FOG_BUSY = 1 → exec i s = .next (s.emit (.response 0 0x0B02 [v.seq % 256]))) ∧
   (s.g fSEC_STAT_FOG_BUSY = 0 → s.supply.stuck = false → 3 ≤ s.g fPWR_STATE_STATE → v.i3c = true → s.g fMGMT_CFG_I3C_TRUST = 0 →
     Completes i s (fun t =>
       t.out.getLast? = some (.response 0 0x0702 [v.seq % 256]) ∧ Beside s t [] ∧
       t.regs = (s.log { code := 0x8B0A, unit := 21 }).regs)))

/-- R416, R425, R454, R456, R464, R467: what the operator's commands of class P do from READY onward, without fog and with trust:
SETTINGS_SAVE, SETTINGS_PATCH, SETTINGS_FACTORY and CREDENTIALS append a record with the next SEQ to the journal of the other bank; RESET
is answered before it resets; FE_KEYGEN leaves a front-end key; CLEAR_HOLD clears HOLD; DRAIN and FORCE_TAKEOVER do what the register
actions do; REG_WRITE writes the masked word. -/
def Obligations.VetasCommandsAct : Prop :=
  ∀ (s : State) (v : VetasCtx), s.live = true → s.g fSEC_STAT_FOG_BUSY = 0 → s.supply.stuck = false → 3 ≤ s.g fPWR_STATE_STATE →
  v.i3c = false →
  (s.vault.fogged = false → s.flash.savedAt = 0 →
    Completes (.settingsSave v) s (fun t => ∃ r, t.flash.recs = s.flash.recs ++ [r] ∧ r.kind = 1 ∧ r.entries = s.retainedEntries ∧
      r.seq = (match newestRec s.flash.recs with | some x => x.seq + 1 | none => 1) ∧
      r.bank = (match newestRec s.flash.recs with | some x => 1 - x.bank | none => 0) ∧
      t.out.getLast? = some (.response 0 0 [v.seq % 256])) ∧
    (∀ es, 1 ≤ es.length → es.length ≤ 64 → s.selectRec kindSettings [] = none →
      Completes (.settingsPatch v es) s (fun t => ∃ r, t.flash.recs = s.flash.recs ++ [r] ∧ r.kind = 1 ∧ r.entries = es ∧
        t.out.getLast? = some (.response 0 0 [v.seq % 256]))) ∧
    Completes (.settingsFactory v) s (fun t => ∃ r, t.flash.recs = s.flash.recs ++ [r] ∧ r.kind = 1 ∧ r.entries = [] ∧
      t.out.getLast? = some (.response 0 0 [v.seq % 256])) ∧
    (∀ body, WellFormed (.credentials v body) = true →
      Completes (.credentials v body) s (fun t => ∃ r, t.flash.recs = s.flash.recs ++ [r] ∧ r.kind = 2 ∧ r.creds = body ∧
        t.out.getLast? = some (.response 0 0 [v.seq % 256])))) ∧
  Completes (.vetasReset v) s (fun t => (∃ o, t.out = s.out ++ .response 0 0 [v.seq % 256] :: o) ∧ t.plates = [] ∧ t.vault = s.vault.kept) ∧
  Completes (.feKeygen v) s (fun t => t.vault = { s.vault with feKey := true } ∧
    t = { s with vault := t.vault, out := s.out ++ [.response 0 0 [v.seq % 256]] }) ∧
  (∀ n, WellFormed (.clearHold v n) = true → Completes (.clearHold v n) s (fun t =>
    t.get fPART_STAT_HOLD n 0 = 0 ∧ OnlyRegs { s with out := t.out } t [fldAddr fPART_STAT_HOLD n 0] ∧
    t.out = s.out ++ [.response 0 0 [v.seq % 256]])) ∧
  (∀ d, exec (.vetasDrain v d) s = .next ((s.drain d).emit (.response 0 0 [v.seq % 256]))) ∧
  (∀ n, WellFormed (.forceTakeover v n) = true → exec (.forceTakeover v n) s = .next ((s.forceTake n).emit (.response 0 0 [v.seq % 256]))) ∧
  (∀ addr mask val r, WellFormed (.regWrite v addr mask val) = true → addr % 8 = 0 → findReg addr = some r →
    exec (.regWrite v addr mask val) s =
      .next ((s.writeReg addr (maskedWord r.spec (s.readWord addr) mask val)).emit (.response 0 0 [v.seq % 256])))

/-- R429, R469, R470, R421: a firmware component is taken where its signature verifies and its SVN is not below the security version, and
refused otherwise; activation asks the next boot for the other bank; sensors answer with what the last refresh gave; a calibration sets
the latencies of its half. -/
def Obligations.FirmwareSensorsAndCalibration : Prop :=
  ∀ s : State, s.live = true →
  (∀ c, s.g fSEC_STAT_FOG_BUSY = 0 → c.sigOk = true → s.vault.svn ≤ c.svn →
    exec (.pldmFirmwareUpdate c) s = .next { s with flash := { s.flash with update := some c.svn }, out := s.out ++ [.response 2 0 []] }) ∧
  (∀ c, s.g fSEC_STAT_FOG_BUSY = 0 → c.sigOk = false ∨ c.svn < s.vault.svn → s.bare → s.alarmPolicy 5 = 0 →
    Completes (.pldmFirmwareUpdate c) s (fun t => t.flash = s.flash ∧ t.vault.svn = s.vault.svn ∧
      t.vault.sigFails = s.vault.sigFails.filter (fun u => decide (s.now < u + 60000000000)) ++ [s.now])) ∧
  (s.g fSEC_STAT_FOG_BUSY = 0 → s.flash.update ≠ none → Completes .activateFirmware s (fun t =>
    t.vault = { s.vault with once := some (1 - s.g fSEC_STAT_BOOT_BANK) } ∧ t.out.getLast? = some (.response 2 0 []) ∧
    Beside { s with vault := t.vault } t [])) ∧
  (∀ vals, WellFormed (.sensorRefresh vals) = true → exec (.sensorRefresh vals) s = .next (({ s with sensors := vals } : State).put fDRW_STAT_TEMP_C 0 0 (vals.getD 27 0))) ∧
  (∀ i, i < 30 → exec (.pldmSensorRead i) s = .next (s.emit (.response 2 0 (leBytes 4 (s.sensors.getD i 0))))) ∧
  (exec (.pldmSensorRead 30) s = .next (s.emit (.response 2 0 [s.g fPWR_STATE_STATE]))) ∧
  (∀ r, WellFormed (.stepWedgeCalibration r) = true → r.ucieLow = none → Completes (.stepWedgeCalibration r) s (fun t =>
    t.get fTIMER_PORT_TX_LAT 0 r.half = r.txLat ∧ t.get fTIMER_PORT_RX_LAT 0 r.half = r.rxLat ∧
    Beside s t [fldAddr fTIMER_PORT_TX_LAT 0 r.half]))

/-- R163–R166: a SLEEP request takes an AWAKE bank out of service, a WAKE request an ASLEEP one, and neither touches its contents; a
pinned bank stays AWAKE and the request is logged as 0x8304. An isolated bank is ASLEEP and a woken one AWAKE, each with every byte zero
and every line without error, and the rest of memory as before; a request held meanwhile starts then. A power-down given up leaves the
bank AWAKE with its contents, logged as 0x8303. What the plates' commands do on it comes after. -/
def Obligations.TrayBanksSleepAndWake : Prop :=
  ∀ (s : State) p b, s.live = true → p < 128 → b < 64 →
  (s.bankMove p b = none → s.pinned p b = false → s.bankAwake p b = true →
    ∃ t : State, exec (.trayPwrSleep p (BitVec.ofNat 64 (2 ^ b))) s = .next (t.wakePlate p) ∧ t.bankAwake p b = false ∧
      t.bankMove p b = some { closing := true, held := none } ∧ t = { s with regs := t.regs, banks := t.banks } ∧
      (∀ c, c ≠ b → t.bankAwake p c = s.bankAwake p c ∧ t.bankMove p c = s.bankMove p c) ∧
      (∀ a, a ≠ fldAddr fTRAY_PWR_AWAKE_AWAKE p 0 → t.reg a = s.reg a)) ∧
  (s.bankMove p b = none → s.bankAsleep p b = true →
    ∃ t : State, exec (.trayPwrWake p (BitVec.ofNat 64 (2 ^ b))) s = .next (t.wakePlate p) ∧ t.bankAsleep p b = false ∧
      t.bankMove p b = some { closing := false, held := none } ∧ t = { s with regs := t.regs, banks := t.banks } ∧
      (∀ c, c ≠ b → t.bankAsleep p c = s.bankAsleep p c ∧ t.bankMove p c = s.bankMove p c) ∧
      (∀ a, a ≠ fldAddr fTRAY_PWR_ASLEEP_ASLEEP p 0 → t.reg a = s.reg a)) ∧
  (s.pinned p b = true →
    ∃ t : State, exec (.trayPwrSleep p (BitVec.ofNat 64 (2 ^ b))) s = .next (t.wakePlate p) ∧ Beside s t [] ∧
      (s.linkDown (dieOfPlate p) = false → ∃ v, Out.event v ∈ t.out ∧ v.code = 0x8304 ∧ v.inst = p ∧ v.detail = [b])) ∧
  (∀ held, s.bankMove p b = some { closing := true, held := held } → held ≠ some true →
    (∃ t : State, exec (.bankIsolated p b) s = .next (t.wakePlate p) ∧
      (held ≠ some false → t.bankAsleep p b = true ∧ t.bankMove p b = none) ∧
      (held = some false → t.bankAsleep p b = false ∧ t.bankMove p b = some { closing := false, held := none }) ∧
      (∀ a, t.mem.get a = if inBank (s.hashMode p) p b a then 0 else s.mem.get a) ∧
      (∀ l, t.lineErrOf l = if inBank (s.hashMode p) p b l then .good else s.lineErrOf l) ∧
      (∀ a, a ≠ fldAddr fTRAY_PWR_ASLEEP_ASLEEP p 0 → t.reg a = s.reg a)) ∧
    ∃ t : State, exec (.trayPdAbort p b) s = .next (t.wakePlate p) ∧ t.bankAwake p b = true ∧ t.bankMove p b = none ∧
      (∀ a, s.inLogRing a = false → t.mem.get a = s.mem.get a) ∧
      (∀ a, bookkeeping a = false → a ≠ fldAddr fTRAY_PWR_AWAKE_AWAKE p 0 → t.reg a = s.reg a)) ∧
  (∀ held, s.bankMove p b = some { closing := false, held := held } → held ≠ some false → (held = some true → s.pinned p b = false) →
    ∃ t : State, exec (.bankAwake p b) s = .next (t.wakePlate p) ∧
      (held ≠ some true → t.bankAwake p b = true ∧ t.bankMove p b = none) ∧
      (held = some true → t.bankAwake p b = false ∧ t.bankMove p b = some { closing := true, held := none }) ∧
      (∀ a, t.mem.get a = if inBank (s.hashMode p) p b a then 0 else s.mem.get a) ∧
      (∀ l, t.lineErrOf l = if inBank (s.hashMode p) p b l then .good else s.lineErrOf l) ∧
      (∀ a, a ≠ fldAddr fTRAY_PWR_AWAKE_AWAKE p 0 → t.reg a = s.reg a)) ∧
  (s.bankMove p b = none → exec (.bankIsolated p b) s = .next (s.wakePlate p) ∧ exec (.trayPdAbort p b) s = .next (s.wakePlate p) ∧
    exec (.bankAwake p b) s = .next (s.wakePlate p))

/-- R167, R168: a wash read of an AWAKE bank counts and logs a corrected line, which stays so until it is written back; a line without
error changes nothing; an uncorrectable one is counted, logged as MEM_UE and stays damaged; a bank that is not AWAKE is not read. A forced
read is counted besides. A write-back heals a corrected line only. R419: beyond its share of the tray a read waits with the end of its 4 s,
and a write-back is put off. No data changes. -/
def Obligations.WashReadsTrayLines : Prop :=
  ∀ (s : State) p off, s.live = true → s.settled → p < 128 → off < trayWin →
  (s.bankAwake p (bankOf (s.hashMode p) off) = false →
    (∀ e, exec (.washTrayRead p off e) s = .next s ∧ exec (.washForced p off e) s = .next s) ∧ exec (.washWriteBack p off) s = .next s) ∧
  (s.bankAwake p (bankOf (s.hashMode p) off) = true → s.bgRoom p 1 trayCap = false →
    (∀ e, ∀ i ∈ [Instr.washTrayRead p off e, .washForced p off e], Completes i s (fun t =>
      t.washHeld = s.washHeld ++ [(p, lineOf off, s.washEnd p off)] ∧ Beside { s with washHeld := t.washHeld } t [])) ∧
    Completes (.washWriteBack p off) s (fun t => Beside s t [])) ∧
  (s.bankAwake p (bankOf (s.hashMode p) off) = true → s.bgRoom p 1 trayCap = true →
    (s.lineErrOf (trayAddr p (lineOf off)) = .good →
      exec (.washTrayRead p off .clean) s = .next { s.bgUse p 1 with washHeld := s.washHeld.filter (fun e => !decide (e.1 = p ∧ e.2.1 = lineOf off)) } ∧
      exec (.washWriteBack p off) s = .next s ∧
      Completes (.washForced p off .clean) s (fun t => Beside { s with bgWork := t.bgWork, washHeld := t.washHeld } t [])) ∧
    (s.lineErrOf (trayAddr p (lineOf off)) ≠ .bad →
      (∀ i ∈ [Instr.washTrayRead p off .corrected, .washForced p off .corrected], Completes i s (fun t =>
        t.lineErrOf (trayAddr p (lineOf off)) = .corrected ∧
        t.get fTRAY_ECC_STAT_CE p 0 = satAdd (s.get fTRAY_ECC_STAT_CE p 0) 1 (2 ^ fTRAY_ECC_STAT_CE.w - 1) ∧
        Beside { s.setLineErr (trayAddr p (lineOf off)) .corrected with bgWork := t.bgWork, washHeld := t.washHeld } t
          [fldAddr fTRAY_ECC_STAT_CE p 0]))) ∧
    (s.lineErrOf (trayAddr p (lineOf off)) = .corrected →
      exec (.washWriteBack p off) s = .next ((s.bgUse p 1).setLineErr (trayAddr p (lineOf off)) .good)) ∧
    (s.bare → ∀ i ∈ [Instr.washTrayRead p off .bad, .washForced p off .bad], Completes i s (fun t =>
      t.lineErrOf (trayAddr p (lineOf off)) = .bad ∧
      t.get fTRAY_ECC_STAT_UE p 0 = satAdd (s.get fTRAY_ECC_STAT_UE p 0) 1 (2 ^ fTRAY_ECC_STAT_UE.w - 1) ∧
      t.get fTRAY_ECC_STAT_UE_BANK p 0 = bankOf (s.hashMode p) off ∧
      t.get fTRAY_ECC_ADDR_OFFSET p 0 = lineOf off ∧ t.get fTRAY_ECC_ADDR_VALID p 0 = 1 ∧
      (∀ a, s.inLogRing a = false → t.mem.get a = s.mem.get a))))

/-- R82, R149, R261, R270, completion of PROMOTION, SEM_TIMEOUT, PLATE_COMMAND_FETCH, SEQ_AT_REACHED and SEQ_WINDOW_REACHED. PROMOTION
promotes a strip of an open group whose contribution count has reached the interval: its narrow entries and its count become zero, and no
other strip changes; below the interval it does nothing. SEM_TIMEOUT ends the program of a plate's waiting command with 0x0303, recorded
in the fault register of its unit. PLATE_COMMAND_FETCH takes the command word at the program's next position, one position at a time, and
faults with ST_CMD_INVALID past the last one once nothing fetched is left. SEQ_AT_REACHED and SEQ_WINDOW_REACHED find the program clock at
AT and the plate's time at the window (that time passes up to there is the model's choice, log entry 10). Each does nothing where what it
speaks of is not there. -/
def Obligations.PlatesPromoteFetchAndWait : Prop :=
  ∀ (s : State) p, s.live = true → p < 128 →
  (∀ key strip, key < 32 → strip < 8 →
    ((s.plate p).group key = none → exec (.promotion p key strip) s = .next s) ∧
    (∀ g, (s.plate p).group key = some g →
      ((smapGet (fun _ => StripAcc.zero) strip g.strips).count < g.n → exec (.promotion p key strip) s = .next s) ∧
      (g.n ≤ (smapGet (fun _ => StripAcc.zero) strip g.strips).count → 0 < (smapGet (fun _ => StripAcc.zero) strip g.strips).count →
        Completes (.promotion p key strip) s (fun t => Beside { s with plates := t.plates } t [] ∧
          (∀ q, q ≠ p → t.plate q = s.plate q) ∧ (∀ k, k ≠ key → (t.plate p).group k = (s.plate p).group k) ∧
          ∃ h, (t.plate p).group key = some h ∧ smapGet (fun _ => StripAcc.zero) strip h.strips = StripAcc.zero ∧
            (∀ u, u ≠ strip → smapGet (fun _ => StripAcc.zero) u h.strips = smapGet (fun _ => StripAcc.zero) u g.strips) ∧
            (∀ slot col, slot < 16 → col < 256 →
              (col / 32 = strip → smapGet (fun _ => Narrow.zero) (slot * 256 + col) h.narrow = Narrow.zero) ∧
              (col / 32 ≠ strip → smapGet (fun _ => Narrow.zero) (slot * 256 + col) h.narrow =
                  smapGet (fun _ => Narrow.zero) (slot * 256 + col) g.narrow ∧
                smapGet (fun _ => 0) (slot * 256 + col) h.wide = smapGet (fun _ => 0) (slot * 256 + col) g.wide)))))) ∧
  (∀ index, ((s.plate p).waiting.find? (fun w => decide (w.cmd.index = index ∧ w.why = .sem)) = none → exec (.semTimeout p index) s = .next s) ∧
    (∀ w, (s.plate p).waiting.find? (fun w => decide (w.cmd.index = index ∧ w.why = .sem)) = some w → w.cmd.plate = p →
      ((s.plate p).ctx = none ∨ ∃ id, (s.plate p).ctx = some id ∧ p ∈ lanePlates (s.ctx id)) →
      ∃ t : State, exec (.semTimeout p index) s = .next (t.wake (s.ownerOf p)) ∧ (t.plate p).waiting = [] ∧ (t.plate p).ended = true ∧
        (∀ id, (s.plate p).ctx = some id → (t.ctx id).run = .done ∧ (t.ctx id).endCode = statusMax (s.ctx id).endCode 0x0303) ∧
        (fieldOf (s.reg (fldAddr (faultReg w.cmd.opc p).1 (faultReg w.cmd.opc p).2 0)) 63 1 = 0 →
          t.reg (fldAddr (faultReg w.cmd.opc p).1 (faultReg w.cmd.opc p).2 0) =
            faultImage w.cmd.opc 0x0303 (faultExtra w.cmd.opc p 0) w.cmd.index))) ∧
  ((s.plate p).ctx = none → ∀ k, exec (.plateCommandFetch p k) s = .next s) ∧
  exec (.plateCommandFetch p 0) s = .next s ∧
  (∀ k t, exec (.plateCommandFetch p 1) s = .next t → t.live = true →
    exec (.plateCommandFetch p (k + 1)) s = exec (.plateCommandFetch p k) t) ∧
  (∀ id a count, (s.plate p).ctx = some id → (s.ctx id).progs.getD (p - (s.ctx id).laneFirst) (0, 0) = (a, count) →
    (s.plate p).ended = false → s.runsCtxs (s.ownerOf p) = true →
    ((s.plate p).fetchPos < count → s.granted (s.ownerOf p) (a + 32 * (s.plate p).fetchPos) 32 true = true →
      s.held (a + 32 * (s.plate p).fetchPos) 32 = false → s.badLine (a + 32 * (s.plate p).fetchPos) 32 = none →
      fieldOf (s.prt (s.ownerOf p)).dens 1 5 < 8 ∨ 20 < fieldOf (s.prt (s.ownerOf p)).dens 1 5 →
      ∀ c t, c = ({ plate := p, index := (s.plate p).fetchPos, word := s.cmdWord (a + 32 * (s.plate p).fetchPos) } : PlateCmd) →
      t = (s.noteRemote p (a + 32 * (s.plate p).fetchPos) 32).setPlate p { s.plate p with
        fetched := (s.plate p).fetched ++ [((s.plate p).fetchPos, c.word)], fetchPos := (s.plate p).fetchPos + 1 } →
      exec (.plateCommandFetch p 1) s = .next (if c.tag then t.tagCmd p c.index c.opc true else t)) ∧
    (count ≤ (s.plate p).fetchPos → (s.plate p).fetched = [] → (∀ w ∈ (s.plate p).waiting, w.cmd.opc ≠ 0x01) →
      exec (.plateCommandFetch p 1) s = .next (s.plateFault { plate := p, index := (s.plate p).fetchPos, word := 0 } 0
        stCmdInvalid stCmdInvalid 0 0 0))) ∧
  ((s.plate p).waiting.find? (fun w => decide (w.why = .clock)) = none ∨ s.clocked (s.plate p) = false →
    exec (.seqAtReached p) s = .next s) ∧
  (∀ w, (s.plate p).waiting.find? (fun w => decide (w.why = .clock)) = some w → s.clocked (s.plate p) = true →
    smapWf (fun _ => Plate.init) s.plates = true →
    ∃ t : State, exec (.seqAtReached p) s = .next (t.wake (s.ownerOf p)) ∧ 5 * w.cmd.le 16 8 ≤ (t.plate p).clock ∧
      Beside { s with plates := t.plates, timer := t.timer, washHeld := t.washHeld } t [] ∧
      { t.plate p with clock := 0 } = { s.plate p with clock := 0 }) ∧
  ((s.plate p).waiting.find? (fun w => decide (w.why = .window)) = none → exec (.seqWindowReached p) s = .next s) ∧
  (∀ w, (s.plate p).waiting.find? (fun w => decide (w.why = .window)) = some w →
    ∃ k, exec (.seqWindowReached p) s = .next ((s.elapse k).wake (s.ownerOf p)) ∧
      (∀ c, c = s.timer.replicas.getD (s.homeDie (s.ownerOf p)) s.timer.master → -(2 ^ 40 : Int) < c.rate →
        c.time + k * (2 * ((2 ^ 40 : Int) + c.rate)).toNat < 2 ^ 104 →
        s.windowAt (s.ownerOf p) (w.cmd.le 16 1) ≤ (s.elapse k).partNow (s.ownerOf p)))

/-- R220–R224, R244–R247: the walkers' service commands, which complete. A command at the front of the partition's queue, past its
cut-off, leaves the queue and its completion is owed at the commit; any other waits for its turn. LAT_ADMIT gives ST_CMD_INVALID for a
slot that is not FREE or not the partition's and for invalid parameters, ST_SEQ_LIMIT, ST_ADMIT_HELD under HOLD, ST_ADMIT_REFUSED where
too few frames are free, and else admits the request, without MATCH, with its frames reserved and its counts cleared. LAT_PARK makes a
request MOVING or reports a full Drawer; the end of the move makes it PARKED, or ACTIVE again. A parked request due at the tick expires.
LAT_RESUME gives ST_CMD_INVALID or ST_ADMIT_HELD, or makes the request ACTIVE, an EXPIRED one by admitting it again. LAT_END frees the
slot, or waits for the move; with CANCEL it is recorded for the commit, wherever it stands in the queue. -/
def Obligations.WalkersServeRequests : Prop :=
  ∀ (s : State) n, s.live = true → n < 16 →
  (∀ w, (∀ x xs, (s.prt n).svc = x :: xs → x.word ≠ w ∨ x.due = false) →
    ∀ i ∈ [Instr.latAdmit n w, .latPark n w, .latResume n w, .latEnd n w], WellFormed i = true → exec i s = .next s) ∧
  (∀ w r id xs q, (s.prt n).svc = { ring := r, reqId := id, word := w, due := true } :: xs → q = svcSlot w →
    (WellFormed (.latAdmit n w) = true →
      (s.slotInRange n q = false ∨ (s.slot q).state ≠ 0 ∨ s.get fPART_LAYOUT_KIND n 0 = 1 →
        Completes (.latAdmit n w) s (fun t => t = { s with parts := t.parts } ∧ t.prt n = s.svcDone n r id stCmdInvalid xs)) ∧
      (s.slotInRange n q = true → (s.slot q).state = 0 → s.get fPART_LAYOUT_KIND n 0 ≠ 1 → ∀ x, x = s.loadRecord n q →
        (x.promptLen < 262144 → (s.paramsValid x && s.recordAddrs n q x) = false →
          Completes (.latAdmit n w) s (fun t => t = { s with parts := t.parts } ∧ t.prt n = s.svcDone n r id stCmdInvalid xs)) ∧
        (262144 ≤ x.promptLen → s.admits n → Completes (.latAdmit n w) s (fun t => t = { s with parts := t.parts, slots := t.slots } ∧
          t.prt n = { s.svcDone n r id stSeqLimit xs with answered := (t.prt n).answered } ∧
          t.slot q = { x with state := 1, endCode := stSeqLimit, heldCode := stSeqLimit })) ∧
        (x.promptLen < 262144 → s.paramsValid x = true → s.recordAddrs n q x = true →
          (s.draining = false → (s.prt n).portMissing = false → s.get fPART_STAT_HOLD n 0 = 1 →
            Completes (.latAdmit n w) s (fun t => t = { s with parts := t.parts, slots := t.slots } ∧
              t.prt n = { s.svcDone n r id stAdmitHeld xs with answered := (t.prt n).answered } ∧
              t.slot q = { x with state := 1, endCode := stAdmitHeld, heldCode := stAdmitHeld })) ∧
          (s.admits n → x.flags % 2 = 0 → ∀ u, u = s.setSlot q { x with state := 1 } →
            (u.freeFrames n < framesFor x.promptLen x.reserve + (s.prt n).growFloor → s.nodeCount n = 0 →
              Completes (.latAdmit n w) s (fun t => Beside { s with parts := t.parts, slots := t.slots } t [] ∧
                t.prt n = { s.svcDone n r id stAdmitRefused xs with answered := (t.prt n).answered } ∧
                t.slot q = { x with state := 1, endCode := stAdmitRefused, heldCode := stAdmitRefused })) ∧
            (framesFor x.promptLen x.reserve + (s.prt n).growFloor ≤ u.freeFrames n → x.flags / 4 % 2 = 0 →
              s.badWriteLine x.counts 8192 = none → s.offLog x.counts 8192 →
              Completes (.latAdmit n w) s (fun t =>
                MemWork { s with parts := t.parts, slots := t.slots } t (fun a => x.counts ≤ a ∧ a < x.counts + 8192) ∧
                t.prt n = { s.svcDone n r id 0 xs with answered := (t.prt n).answered, bound := (t.prt n).bound } ∧
                t.slot q = { x with state := 1, frames := [], reserved := framesFor x.promptLen x.reserve } ∧
                (∀ p, p ≠ q → t.slot p = s.slot p) ∧ t.bytes x.counts 8192 = List.replicate 8192 0)))))) ∧
    (WellFormed (.latPark n w) = true →
      (s.slotInRange n q = false ∨ (s.slot q).state ≠ 1 ∨ bitsOf w.toNat 128 32 = 0 ∨ 86400 < bitsOf w.toNat 128 32 ∨
          s.get fPART_LAYOUT_KIND n 0 = 1 →
        Completes (.latPark n w) s (fun t => t = { s with parts := t.parts } ∧ t.prt n = s.svcDone n r id stCmdInvalid xs)) ∧
      (s.slotInRange n q = true → (s.slot q).state = 1 → 1 ≤ bitsOf w.toNat 128 32 → bitsOf w.toNat 128 32 ≤ 86400 →
        s.get fPART_LAYOUT_KIND n 0 ≠ 1 → ∀ bs ds, bs = s.privateBlocks n q → ds = s.freeDrawer n bs.length →
        (s.get fPART_DRW_CFG_SIZE_4K n 0 = 0 ∨ ds.length < bs.length → Completes (.latPark n w) s (fun t =>
          t = { s with parts := t.parts } ∧ t.prt n = s.svcDone n r id stDrawerFull xs)) ∧
        (s.get fPART_DRW_CFG_SIZE_4K n 0 ≠ 0 → ds.length = bs.length → Completes (.latPark n w) s (fun t =>
          (t.slot q).state = 4 ∧ (t.slot q).parkTtl = bitsOf w.toNat 128 32 ∧ (t.slot q).reserved = 0 ∧
          (t.slot q).oldReserve = (s.slot q).reserved ∧ (t.slot q).drawer = List.zip bs ds ∧ (t.slot q).frames = (s.slot q).frames ∧
          (t.prt n).svc = xs ∧ (t.prt n).owed = (s.prt n).owed ∧ (t.prt n).parking = (s.prt n).parking ++ [q, r, id])))) ∧
    (WellFormed (.latResume n w) = true →
      (s.slotInRange n q = false ∨ ((s.slot q).state ≠ 2 ∧ (s.slot q).state ≠ 3) ∨ s.get fPART_LAYOUT_KIND n 0 = 1 →
        Completes (.latResume n w) s (fun t => t = { s with parts := t.parts } ∧ t.prt n = s.svcDone n r id stCmdInvalid xs)) ∧
      (s.slotInRange n q = true → s.get fPART_LAYOUT_KIND n 0 ≠ 1 →
        ((s.slot q).state = 3 ∨ ((s.slot q).state = 2 ∧ s.boundaryTick n < (s.slot q).expiry) → s.draining = false →
          (s.prt n).portMissing = false → s.get fPART_STAT_HOLD n 0 = 1 →
          Completes (.latResume n w) s (fun t => t = { s with parts := t.parts } ∧ t.prt n = s.svcDone n r id stAdmitHeld xs)) ∧
        ((s.slot q).state = 2 → s.boundaryTick n < (s.slot q).expiry → s.admits n →
          (s.slot q).drawer.length + (s.slot q).oldReserve + (s.prt n).growFloor ≤ s.freeFrames n →
          (∀ e ∈ (s.slot q).drawer, s.drawerBad n e.2 = []) → Completes (.latResume n w) s (fun t =>
            t.prt n = { s.svcDone n r id 0 xs with badFrames := (t.prt n).badFrames } ∧ (t.slot q).state = 1 ∧ (t.slot q).expiry = 0 ∧
            (t.slot q).drawer = [] ∧ (t.slot q).reserved = (s.slot q).oldReserve ∧
            ((s.slot q).drawer = [] → (t.slot q).frames = (s.slot q).frames))) ∧
        ((s.slot q).state = 3 → s.admits n → (s.slot q).flags % 2 = 0 →
          framesFor ((s.slot q).len + 1) (s.slot q).reserve + (s.prt n).growFloor ≤ s.freeFrames n → Completes (.latResume n w) s (fun t =>
            t.prt n = s.svcDone n r id 0 xs ∧ (t.slot q).state = 1 ∧ (t.slot q).len = 0 ∧ (t.slot q).frames = [] ∧
            (t.slot q).reserved = framesFor ((s.slot q).len + 1) (s.slot q).reserve)))) ∧
    (WellFormed (.latEnd n w) = true →
      (s.slotInRange n q = false ∨ (s.slot q).state = 0 ∨ s.get fPART_LAYOUT_KIND n 0 = 1 →
        Completes (.latEnd n w) s (fun t => t = { s with parts := t.parts } ∧ t.prt n = s.svcDone n r id stCmdInvalid xs)) ∧
      (s.slotInRange n q = true → s.get fPART_LAYOUT_KIND n 0 ≠ 1 →
        ((s.slot q).state = 4 → Completes (.latEnd n w) s (fun t => t.prt n = s.svcDone n r id 0 xs ∧
          t.slot q = { s.slot q with endAfter := true } ∧ t = { s with parts := t.parts, slots := t.slots })) ∧
        ((s.slot q).state ≠ 0 → (s.slot q).state ≠ 4 → Completes (.latEnd n w) s (fun t => t.slot q = Slot.init ∧ (t.prt n).svc = xs ∧
          (t.prt n).owed = (s.prt n).owed ++
            [{ ring := r, reqId := id, status := 0, flags := flagFinal, token0 := noToken, token1 := 0 }] ∧
          ((s.slot q).noRecords = false → s.recordRoom (s.slot q).ring → (s.ring (s.slot q).ring).state = 1 →
            (t.ring (s.slot q).ring).cqTail = ((s.ring (s.slot q).ring).cqTail + 1) % 2 ^ 32))))) ∧
    (WellFormed (.latEndCancel n w) = true →
      (s.slotInRange n q = false ∨ s.get fPART_LAYOUT_KIND n 0 = 1 → Completes (.latEndCancel n w) s (fun t =>
        t = { s with parts := t.parts } ∧ t.prt n = s.svcDone n r id stCmdInvalid xs)) ∧
      (s.slotInRange n q = true → s.get fPART_LAYOUT_KIND n 0 ≠ 1 →
        Completes (.latEndCancel n w) s (fun t => t.prt n = s.svcDone n r id 0 xs ∧ t = { s with parts := t.parts, slots := t.slots } ∧
          ((s.slot q).state = 0 → t.slots = s.slots) ∧ ((s.slot q).state ≠ 0 → t.slot q = { s.slot q with cancel := true }))))) ∧
  (∀ w q, q = svcSlot w → WellFormed (.latEndCancel n w) = true → (∀ x xs, (s.prt n).svc = x :: xs → x.word ≠ w) →
    s.slotInRange n q = true → s.get fPART_LAYOUT_KIND n 0 ≠ 1 →
    ((s.slot q).state = 0 → exec (.latEndCancel n w) s = .next s) ∧
    ((s.slot q).state ≠ 0 → exec (.latEndCancel n w) s = .next (s.setSlot q { s.slot q with cancel := true }))) ∧
  (∀ q, q < 65536 →
    ((s.slot q).state ≠ 4 → ∀ ok, exec (.latParkMoveEnd q ok) s = .next s) ∧
    ((s.slot q).state = 4 →
      Completes (.latParkMoveEnd q true) s (fun t => (t.slot q).state = 2 ∧
        (t.slot q).expiry = (s.prt (s.slot q).part).commitT + (s.slot q).parkTtl * 1000000000 ∧
        (t.prt (s.slot q).part).parking = parkedDrop q (s.prt (s.slot q).part).parking ∧
        ((∀ e ∈ (s.slot q).drawer, ∀ f, (s.slot q).frameOf e.1 = some f →
            s.badLines (s.frameAddr (s.slot q).part f) (s.frameBytes (s.slot q).part) = []) → (t.slot q).drawer = (s.slot q).drawer)) ∧
      Completes (.latParkMoveEnd q false) s (fun t => (t.slot q).state = 1 ∧ (t.slot q).drawer = [] ∧
        (t.slot q).reserved = (s.slot q).oldReserve ∧ (t.prt (s.slot q).part).parking = parkedDrop q (s.prt (s.slot q).part).parking))) ∧
  (smapWf (fun _ => Slot.init) s.slots = true → Completes (.parkedExpiry n) s (fun t => ∀ q,
    ((s.slot q).part = n → (s.slot q).state = 2 → (s.slot q).expiry ≤ s.boundaryTick n →
      (t.slot q).state = 3 ∧ (t.slot q).frames = [] ∧ (t.slot q).drawer = [] ∧ (t.slot q).expiry = 0) ∧
    ((s.slot q).part ≠ n ∨ (s.slot q).state ≠ 2 ∨ s.boundaryTick n < (s.slot q).expiry → (t.slot q).state = (s.slot q).state)))

/-- R250–R256, R399, completion of EXPOSURE_TICK, ADMISSION_CUTOFF, EXPOSURE_RELEASE, EXPOSURE_COMMIT and REEXECUTION_START. The next tick
of an unpaired running partition lets an exposure be released once the admission lead has passed since START or since the last commit, and
else is dark and counted in SLIP; a tick at which an exposure has not committed is dark also where the partition is STOPPING. The
admission cut-off makes waiting service commands due and reads the port states. A release numbers the exposure in PART_EXPO_NOW. A commit
ends the exposure and counts a late one in LATE_RUN. A voided exposure whose reloads have ended begins again as attempt 1. Where the
condition of such an event does not hold, it does nothing. -/
def Obligations.ExposuresTickReleaseAndCommit : Prop :=
  ∀ (s : State) n, s.live = true → n < 16 →
  (s.isRunning n = false ∨ s.inFault = true → exec (.exposureTick n) s = .next s) ∧
  (s.pairState n = 0 → (s.prt n).tookOver = false → s.isRunning n = true → s.inFault = false →
    Completes (.exposureTick n) s (fun t => (t.prt n).nextK = (s.prt n).nextK + 1 ∧
      ((s.prt n).firstDone = true → (s.prt n).phase = .released → (t.prt n).phase = .released ∧
        t.get fPART_STAT_SLIP n 0 = satAdd (s.get fPART_STAT_SLIP n 0) 1 (2 ^ fPART_STAT_SLIP.w - 1)) ∧
      (s.mayRelease n = false → (s.prt n).firstDone = false ∨ (s.prt n).phase ≠ .released → (t.prt n).phase = (s.prt n).phase ∧
        t.get fPART_STAT_SLIP n 0 = s.get fPART_STAT_SLIP n 0) ∧
      (s.mayRelease n = true →
        ((s.prt n).firstDone = false → (s.prt n).startT + s.admitLead n ≤ s.tickTime n (s.prt n).nextK →
          (t.prt n).phase = .ticked ∧ (t.prt n).tickT = s.tickTime n (s.prt n).nextK ∧
          (t.prt n).nextExpo = max (s.prt n).nextK (s.prt n).nextExpo ∧ (t.prt n).firstDone = true ∧ t.get fPART_STAT_SLIP n 0 = 0) ∧
        ((s.prt n).firstDone = false → s.tickTime n (s.prt n).nextK < (s.prt n).startT + s.admitLead n →
          (t.prt n).phase = (s.prt n).phase ∧ (t.prt n).firstDone = false) ∧
        ((s.prt n).firstDone = true → (s.prt n).phase = .committed → (s.prt n).commitT + s.admitLead n ≤ s.tickTime n (s.prt n).nextK →
          (t.prt n).phase = .ticked ∧ (t.prt n).tickT = s.tickTime n (s.prt n).nextK ∧
          (t.prt n).nextExpo = (s.prt n).nextExpo ∧ t.get fPART_STAT_SLIP n 0 = s.get fPART_STAT_SLIP n 0) ∧
        ((s.prt n).firstDone = true → (s.prt n).phase ≠ .committed ∨ s.tickTime n (s.prt n).nextK < (s.prt n).commitT + s.admitLead n →
          (t.prt n).phase = (s.prt n).phase ∧
          t.get fPART_STAT_SLIP n 0 = satAdd (s.get fPART_STAT_SLIP n 0) 1 (2 ^ fPART_STAT_SLIP.w - 1))))) ∧
  (∀ at_, at_ = s.tickTime n (s.prt n).nextK - s.admitLead n →
    (s.mayRelease n = false ∨ (s.prt n).cutoffDone = true ∨ (s.prt n).phase = .ticked ∨ (s.prt n).phase = .released ∨
        ((s.prt n).phase = .committed ∧ at_ < (s.prt n).commitT) ∨ ((s.prt n).phase = .idle ∧ at_ < (s.prt n).startT) →
      exec (.admissionCutoff n) s = .next s) ∧
    (s.mayRelease n = true → (s.prt n).cutoffDone = false →
        ((s.prt n).phase = .committed ∧ (s.prt n).commitT ≤ at_) ∨ ((s.prt n).phase = .idle ∧ (s.prt n).startT ≤ at_) →
      Completes (.admissionCutoff n) s (fun t => (t.prt n).cutoffDone = true ∧ (t.prt n).portMissing = s.portsMissing n ∧
        (t.prt n).svc = (s.prt n).svc.map (fun c => { c with due := true }) ∧
        (s.get fPART_LAYOUT_KIND n 0 ≠ 1 →
          Beside { s with parts := t.parts, plates := t.plates, timer := t.timer, washHeld := t.washHeld } t [])))) ∧
  ((s.prt n).phase ≠ .ticked ∨ s.mayRelease n = false ∨ (∃ c ∈ (s.prt n).svc, c.due = true) ∨ (s.prt n).reloads ≠ [] →
    exec (.exposureRelease n) s = .next s) ∧
  ((s.prt n).phase = .ticked → s.mayRelease n = true → (∀ c ∈ (s.prt n).svc, c.due = false) → (s.prt n).reloads = [] →
    (s.prt n).voidNext = none → (s.carrOf n).early = [] → (s.prt n).nextExpo < 2 ^ 64 →
    Completes (.exposureRelease n) s (fun t => (t.prt n).phase = .released ∧ t.get fPART_EXPO_NOW_EXPO n 0 = (s.prt n).nextExpo ∧
      (t.prt n).nextExpo = (s.prt n).nextExpo + 1 ∧ (t.prt n).attempt = 0 ∧ (t.prt n).voided = false ∧
      (t.prt n).quantum = s.get fPART_SCHED_QUANTUM_US n 0)) ∧
  (s.mayCommit n = false → s.settled → exec (.exposureCommit n) s = .next s) ∧
  (s.mayCommit n = true → (s.prt n).stopping = false → s.get fPART_STAT_STATE n 0 ≠ 3 → s.draining = false → (s.prt n).later = [] →
    (s.prt n).unbind = false → ∃ t : State, exec (.exposureCommit n) s = .next t.settle ∧ (t.prt n).phase = .committed ∧
      (t.prt n).commitT = s.partNow n ∧
      ((s.prt n).tickT + s.period n < s.partNow n →
        t.get fPART_STAT_LATE_RUN n 0 = satAdd (s.get fPART_STAT_LATE_RUN n 0) 1 255) ∧
      (s.partNow n ≤ (s.prt n).tickT + s.period n → t.get fPART_STAT_LATE_RUN n 0 = 0)) ∧
  ((s.prt n).voided = false ∨ (s.prt n).phase ≠ .released ∨ (s.prt n).reloads ≠ [] ∨ s.inFault = true →
    exec (.reexecutionStart n) s = .next s) ∧
  ((s.prt n).voided = true → (s.prt n).phase = .released → (s.prt n).reloads = [] → s.inFault = false → (s.carrOf n).early = [] →
    Completes (.reexecutionStart n) s (fun t => (t.prt n).voided = false ∧ (t.prt n).attempt = 1 ∧ (t.prt n).reexecT = s.partNow n ∧
      (t.prt n).phase = .released))

/-- R259, R260, completion of CREATE, START, STOP and DESTROY of a partition. CREATE leaves a partition CREATED, with every page of its
latent store free, or gives the first failed condition of R259 in PART_STAT.ERR. START makes a CREATED, unpaired partition RUNNING from
now on; STOP makes a RUNNING one CREATED, at its commit where an exposure runs; DESTROY ends a CREATED one that has no requests and no
bound circuit plan, with its contexts, rings, plates and pins. An action in any other state changes nothing but the log. -/
def Obligations.PartitionsStartAndEnd : Prop :=
  ∀ (s : State) n, s.live = true → n < 16 →
  (s.exists_ n = true → Completes (.partCreate n) s (fun t => Beside s t [] ∧
    (s.linkDown (s.homeDie n) = false →
      ∃ v, Out.event v ∈ t.out ∧ v.code = 0x8802 ∧ v.part = n ∧ v.detail = [0]))) ∧
  (s.exists_ n = false → s.createErr n ≠ 0 → Completes (.partCreate n) s (fun t =>
    t.get fPART_STAT_ERR n 0 = s.createErr n ∧ t.exists_ n = false ∧ Beside s t [fldAddr fPART_STAT_ERR n 0])) ∧
  (s.exists_ n = false → s.createErr n = 0 → Completes (.partCreate n) s (fun t =>
    t.get fPART_STAT_STATE n 0 = 1 ∧ t.get fPART_STAT_ERR n 0 = 0 ∧ (t.prt n).phase = .idle ∧ (t.prt n).svc = [] ∧
    (t.prt n).growFloor = s.get fPART_LAT_ADMIT_GROW_FLOOR n 0 ∧ (∀ m, m ≠ n → t.prt m = s.prt m) ∧
    (∀ pt pages, pt = s.get fPART_LAT_PT_PT_ADDR n 0 → pages = s.get fPART_LAT_RANGE_PAGES n 0 → s.inHbm n pt (16 * pages) = true →
      (∀ h, h < 8 → s.get fHBM_STAT_OFFLINE h 0 = 0) → (∀ l, s.lineErrOf l ≠ .bad) →
      s.get fPART_CIDX_CFG_NODES n 0 = 0 ∨
        apart pt (16 * pages) (s.nodeBase n) (s.get fPART_CIDX_CFG_NODES n 0 * 320 + 4 * 2 ^ s.get fPART_CIDX_CFG_BLOG2 n 0) →
      ∀ i, i < pages → t.bytes (pt + 16 * i) 16 = ptBytes 0 0 (i % s.layers n) 0 0 0 none32 none32))) ∧
  (s.get fPART_STAT_STATE n 0 ≠ 1 ∨ s.get fPART_REL_STAT_OFFLINE n 0 = 1 ∨ s.locked = true →
    Completes (.partStart n) s (fun t => Beside s t [])) ∧
  (s.get fPART_STAT_STATE n 0 = 1 → s.get fPART_REL_STAT_OFFLINE n 0 = 0 → s.locked = false → s.pairState n = 0 →
    (s.windowsOk n = false → Completes (.partStart n) s (fun t =>
      t.get fPART_STAT_ERR n 0 = 6 ∧ t.get fPART_STAT_STATE n 0 = 1 ∧ Beside s t [fldAddr fPART_STAT_ERR n 0])) ∧
    (s.windowsOk n = true → Completes (.partStart n) s (fun t =>
      t.get fPART_STAT_STATE n 0 = 2 ∧ t.get fPART_STAT_SLIP n 0 = 0 ∧ t.get fPART_STAT_ERR n 0 = 0 ∧ (t.prt n).startT = s.partNow n ∧
      (t.prt n).phase = .idle ∧ (t.prt n).firstDone = false ∧ (t.prt n).nextExpo = (s.prt n).nextExpo ∧
      (t.prt n).nextK = ceilDiv (s.partNow n - s.get fPART_EXPO_BASE_BASE n 0) (s.period n) ∧
      (∀ a, s.inLogRing a = false → t.mem.get a = s.mem.get a) ∧ t.ctxs = s.ctxs))) ∧
  (s.get fPART_STAT_STATE n 0 ≠ 2 → Completes (.partStop n) s (fun t => Beside s t [])) ∧
  (s.get fPART_STAT_STATE n 0 = 2 →
    ((s.prt n).phase = .released → Completes (.partStop n) s (fun t => t.get fPART_STAT_STATE n 0 = 3 ∧
      t.prt n = { s.prt n with stopping := true } ∧ (∀ a, s.inLogRing a = false → t.mem.get a = s.mem.get a) ∧ t.ctxs = s.ctxs ∧
      t.plates = s.plates)) ∧
    ((s.prt n).phase ≠ .released → (∀ e ∈ (s.prt n).later, e.1 ≠ fldAddr fPART_STAT_STATE n 0) → Completes (.partStop n) s (fun t =>
      t.get fPART_STAT_STATE n 0 = 1 ∧ (t.prt n).phase = .idle ∧ (t.prt n).later = [] ∧ t.ctxs = s.ctxs ∧ t.plates = s.plates ∧
      ((s.prt n).later = [] → (∀ r ∈ s.partRings n, (s.ring r).disabling = false) →
        ∀ a, s.inLogRing a = false → t.mem.get a = s.mem.get a)))) ∧
  (s.get fPART_STAT_STATE n 0 ≠ 1 ∨ s.partSlots n ≠ [] → Completes (.partDestroy n) s (fun t => Beside s t [])) ∧
  (s.get fPART_STAT_STATE n 0 = 1 → s.partSlots n = [] → s.plan n = none → Completes (.partDestroy n) s (fun t =>
    t.exists_ n = false ∧ t.prt n = Part.init ∧ (∀ c ∈ s.partCtxs n, t.ctx c = Ctx.init) ∧ (∀ r ∈ s.partRings n, (t.ring r).state = 0) ∧
    (∀ p ∈ s.partPlates n, t.plate p = Plate.init ∧ t.get fTRAY_PIN_PINNED p 0 = 0) ∧ t.get fPART_PAIR_STAT_STATE n 0 = 0))

/-- R263–R269, completion of CONTEXT_START, QUANTUM_EXPIRY, SWAP_DECISION and SWAP_COMPLETE. A READY resident context that takes part, whose
lane every plate has left and that the scheduler chooses, starts: it is RUNNING on every plate of its lane, each with what was saved of it.
A running context that reaches its quantum is due to make way. The swap decision moves the first READY swapped-out context into a free
resident slot, or first the DONE or DISABLED context that blocked longest out of one. A swap-in that ends makes its context RESIDENT, a
swap-out leaves it SWAPPED without a slot and lets the swap-in begin. In any other state these events do nothing. -/
def Obligations.ContextsStartYieldAndSwap : Prop :=
  ∀ (s : State) c n x, s.live = true → c < 4096 → x = s.ctx c → n = x.part → n < 16 →
  (x.run ≠ .ready ∨ x.residency ≠ 1 ∨ x.takesPart = false ∨ s.runsCtxs n = false ∨ s.chosen x ≠ some c ∨
      (∃ p ∈ lanePlates x, (s.plate p).ctx ≠ none) → exec (.contextStart c) s = .next s) ∧
  (x.run = .ready → x.residency = 1 → x.takesPart = true → s.runsCtxs n = true → s.chosen x = some c →
    (∀ p ∈ lanePlates x, (s.plate p).ctx = none) →
    (∀ e ∈ x.saved, e.2.reload = none ∧ ∀ i, x.resSlot = some i →
      s.firstBad (trayAddr e.1 (s.saveOff n i)) (slotBytes (s.get fPART_SCHED_SAVE_GROUPS n 0)) = none) →
    ∃ t : State, exec (.contextStart c) s = .next (t.wake n) ∧
      t.ctx c = { x with run := .running, chosenAt := s.partNow n, quantumDue := false, leaving := false, saved := [] } ∧
      (∀ p ∈ lanePlates x, t.plate p =
        { ((x.saved.find? (fun e => decide (e.1 = p))).map Prod.snd).getD Plate.init with ctx := some c }) ∧
      (∀ p, p ∉ lanePlates x → t.plate p = s.plate p) ∧ (∀ d, d ≠ c → t.ctx d = s.ctx d)) ∧
  (x.run ≠ .running ∨ (s.prt n).quantum = 0 ∨ s.runsCtxs n = false → exec (.quantumExpiry c) s = .next s) ∧
  (x.run = .running → (s.prt n).quantum ≠ 0 → s.runsCtxs n = true →
    exec (.quantumExpiry c) s = .next ((s.setCtx c { x with quantumDue := true }).ctxEvent n)) ∧
  ((s.prt n).swapIn ≠ none ∨ (s.prt n).swapOut ≠ none ∨ s.runsCtxs n = false → exec (.swapDecision n) s = .next s) ∧
  ((s.prt n).swapIn = none → (s.prt n).swapOut = none → (s.prt n).exchange = [] → s.runsCtxs n = true →
    ∀ who, who = firstBy chosenBefore ((s.ctxs.filter (fun e => decide (e.2.part = n))).filter (fun e =>
        decide (e.2.residency = 0 ∧ e.2.run = .ready) && e.2.takesPart)) →
    (who = none → Completes (.swapDecision n) s (fun t => t = { s with parts := t.parts } ∧ ∀ m, t.prt m = s.prt m)) ∧
    (who = some c → s.roomFor n c none = true →
      Completes (.swapDecision n) s (fun t => t.prt n = { s.prt n with swapIn := some c } ∧
        t.ctx c = { x with residency := 2, resSlot := s.freeSlot n } ∧ (∀ d, d ≠ c → t.ctx d = s.ctx d))) ∧
    (∀ v, who = some c → s.roomFor n c none = false →
      firstBy (fun a b => decide (a.2.blockT64 < b.2.blockT64)) (((s.holders n).filter (fun e => decide (e.2.residency = 1))).filter
        (fun e => decide (e.2.run = .done ∨ e.2.run = .disabled) && s.roomFor n c (some e.1))) = some v →
      Completes (.swapDecision n) s (fun t => t.prt n = { s.prt n with swapOut := some v, swapIn := some c } ∧
        t.ctx v = { s.ctx v with residency := 2 } ∧ (∀ d, d ≠ v → t.ctx d = s.ctx d)))) ∧
  ((s.prt n).swapOut ≠ some c → (s.prt n).swapIn ≠ some c ∨ (s.prt n).swapOut ≠ none → exec (.swapComplete c) s = .next s) ∧
  ((s.prt n).swapIn = some c → (s.prt n).swapOut = none → s.badLine x.saveHbm (x.lanePlates * s.imageBytes x) = none →
    (∀ e ∈ s.swapPieces x (x.resSlot.getD 0), s.badLines e.2.1 e.2.2 = [] ∧ s.badWriteLines e.1 e.2.2 = []) →
    ∃ t : State, exec (.swapComplete c) s = .next (t.ctxEvent n) ∧ t.ctx c = { x with residency := 1 } ∧
      t.prt n = { s.prt n with swapIn := none } ∧ (∀ d, d ≠ c → t.ctx d = s.ctx d)) ∧
  ((s.prt n).swapOut = some c → (∀ e ∈ s.swapPieces x (x.resSlot.getD 0), s.badLines e.1 e.2.2 = [] ∧ s.badWriteLines e.2.1 e.2.2 = []) →
    ((s.prt n).swapIn = none →
      ∃ t : State, exec (.swapComplete c) s = .next (t.ctxEvent n) ∧ t.ctx c = { x with residency := 0, resSlot := none } ∧
        t.prt n = { s.prt n with swapOut := none } ∧ (∀ d, d ≠ c → t.ctx d = s.ctx d)) ∧
    (∀ d, (s.prt n).swapIn = some d → d ≠ c →
      ∃ t : State, exec (.swapComplete c) s = .next (t.ctxEvent n) ∧ t.ctx c = { x with residency := 0, resSlot := none } ∧
        (t.ctx d).residency = 2 ∧ t.prt n = { s.prt n with swapOut := none } ∧ (∀ e, e ≠ c → e ≠ d → t.ctx e = s.ctx e)))

/-- R97, R148–R155, R162, R261, R270, R316, R401, R501: what becomes of any ready plate command, by what its unit's work on it comes to: it
completes; it waits, at a STOPPED stack with nothing of its work done; it faults, which ends the plate's program; or it reads or writes
uncorrectable data. A reserved opcode faults with ST_CMD_INVALID. -/
def Obligations.PlateCommandsRunWaitOrFault : Prop :=
  ∀ (s : State) (c : PlateCmd), s.ready c →
  ∀ r ∈ [(Instr.seqNop c, 0x00), (.seqEnd c, 0x01), (.seqAt c, 0x02), (.seqWindow c, 0x03), (.seqFence c, 0x04), (.seqBarrier c, 0x05),
      (.seqSkipif c, 0x06), (.ctxPost c, 0x07), (.ctxWait c, 0x08), (.seqFlip c, 0x09), (.grainLoad c, 0x20), (.grainPass c, 0x21),
      (.grainLoadKeys c, 0x22), (.accOpen c, 0x23), (.accPromote c, 0x24), (.accDrain c, 0x25), (.accQuant c, 0x26), (.accClose c, 0x27),
      (.accDebugRead c, 0x28), (.safeGemm c, 0x40), (.safeRowop c, 0x41), (.safeLowrank c, 0x42), (.burnScan c, 0x43), (.burnDecide c, 0x44),
      (.burnApply c, 0x45), (.burnProduct c, 0x46), (.burnBranch c, 0x47), (.agitRotate c, 0x50), (.trayCopy c, 0x58), (.trayGather c, 0x59),
      (.trayBcast c, 0x5A), (.trayFill c, 0x5B), (.trayPower c, 0x5C), (.dodgeSpmm c, 0x60), (.dodgeCheck c, 0x61), (.enlFetch c, 0x70),
      (.enlDevelop c, 0x71), (.enlMerge c, 0x72), (.latPlist c, 0x80), (.latWrite c, 0x81), (.loupeSample c, 0x88), (.carrDispatch c, 0x90),
      (.carrWait c, 0x91), (.carrReturn c, 0x92), (.carrCombine c, 0x93), (.carrReduce c, 0x94), (.halLoad c, 0x95)],
    (c.opc ∉ knownOpcodes → exec r.1 s = .next (((((s.begun c).plateFault c c.opc stCmdInvalid stCmdInvalid 0 0 0).wake
      (s.ownerOf c.plate))).settle)) ∧
    (c.opc = r.2 →
      (∀ t, bodyOf c (s.begun c) = .ok t → stillRuns (s.begun c) t c.plate = true →
        exec r.1 s = .next (((t.succeed c 0).wake (s.ownerOf c.plate)).settle)) ∧
      (∀ t why, bodyOf c (s.begun c) = .error (.wait t why) → why ≠ .unit → why ≠ .stack → stillRuns (s.begun c) t c.plate = true →
        exec r.1 s = .next (((t.setWaiter c.plate 0 { cmd := c, why := why, begun := false, mask := 0 }).wake (s.ownerOf c.plate)).settle)) ∧
      (∀ t, bodyOf c (s.begun c) = .error (.wait t .stack) → Waits r.1 c s .stack) ∧
      (∀ t code status extra off addr, bodyOf c (s.begun c) = .error (.fault t code status extra off addr) →
        exec r.1 s = .next (((t.plateFault c c.opc code status extra off addr).wake (s.ownerOf c.plate)).settle)) ∧
      (∀ t ls code, bodyOf c (s.begun c) = .error (.ue t ls code) →
        exec r.1 s = .next ((((t.dropWaiter c.plate 0).plateUe c ls code).wake (s.ownerOf c.plate)).settle)) ∧
      (∀ t ls code, bodyOf c (s.begun c) = .error (.lost t ls code) →
        exec r.1 s = .next ((((t.dropWaiter c.plate 0).plateLost c ls code).wake (s.ownerOf c.plate)).settle)))

/-- R149–R151, R153: a command that waits for a semaphore whose count is too small waits; one whose count is there takes it before it
runs; a signal raises the semaphore, which sticks at 65,535; in STATIC mode neither happens. A command that a branch passes over, or one
of a plate in no partition, has no effect. -/
def Obligations.SemaphoresGateCommands : Prop :=
  ∀ (s : State) (c : PlateCmd), s.live = true → c.plate < 128 → c.opc = 0x00 →
  (16 ≤ s.ownerOf c.plate → s.settled → exec (.seqNop c) s = .next s) ∧
  (s.ownerOf c.plate < 16 → (s.plate c.plate).ended = false → (s.prt (s.ownerOf c.plate)).voided = false → c.index < (s.plate c.plate).skip →
    s.settled → exec (.seqNop c) s = .next (s.setPlate c.plate { s.plate c.plate with
      fetched := (s.plate c.plate).fetched.filter (fun f => decide (f.1 ≠ c.index)) })) ∧
  (s.ready { c with word := 0 } → c.tag = false → (∀ g ∈ (s.plate c.plate).tagged, g.index ≠ c.index) → s.staticMode c.plate = false →
    (c.waitSem = true → c.waitCnt ≠ 0 → s.sem c.plate c.waitIdx < c.waitCnt →
      ∃ t : State, exec (.seqNop c) s = .next ((t.wake (s.ownerOf c.plate)).settle) ∧
        (t.plate c.plate).waiting = [{ cmd := c, why := .sem, begun := false, mask := 0 }] ∧
        (∀ i, t.sem c.plate i = s.sem c.plate i)) ∧
    (c.waitSem = true → c.waitCnt ≠ 0 → c.waitCnt ≤ s.sem c.plate c.waitIdx → c.signalSem = false →
      ∃ t : State, exec (.seqNop c) s = .next ((t.wake (s.ownerOf c.plate)).settle) ∧
        t.sem c.plate c.waitIdx = s.sem c.plate c.waitIdx - c.waitCnt ∧ (t.plate c.plate).waiting = [] ∧
        (∀ i, i ≠ c.waitIdx → t.sem c.plate i = s.sem c.plate i) ∧ t = { s with plates := t.plates }) ∧
    (c.waitSem = false → c.signalSem = true → c.sigCnt ≠ 0 →
      ∃ t : State, exec (.seqNop c) s = .next ((t.wake (s.ownerOf c.plate)).settle) ∧
        t.sem c.plate c.sigIdx = min (s.sem c.plate c.sigIdx + c.sigCnt) 65535 ∧ (t.plate c.plate).waiting = [] ∧
        (∀ i, i ≠ c.sigIdx → t.sem c.plate i = s.sem c.plate i))) ∧
  (s.ready c → c.tag = false → (∀ g ∈ (s.plate c.plate).tagged, g.index ≠ c.index) → s.staticMode c.plate = true →
    ∃ t : State, exec (.seqNop c) s = .next ((t.wake (s.ownerOf c.plate)).settle) ∧ (∀ i, t.sem c.plate i = s.sem c.plate i) ∧
      (t.plate c.plate).waiting = [] ∧ t = { s with plates := t.plates })

/-- R129, R263, R268, R270, R271: the plate sequencer's own commands. SEQ_END ends the plate's program and with it, on the last lane
plate, the context's. SEQ_AT, SEQ_WINDOW, SEQ_BARRIER and CTX_WAIT complete where the program clock, the window, the other plates or the
awaited progress are there, and else wait. SEQ_SKIPIF and BURN_BRANCH pass over commands. CTX_POST advances the context's progress.
SEQ_FLIP asks a fine-tuning partition for its other generation. -/
def Obligations.SequencerCommandsRun : Prop :=
  ∀ (s : State) (c : PlateCmd), s.ready c →
  ((c.opc = 0x00 → Runs (.seqNop c) c s (fun b t => t = b)) ∧ (c.opc = 0x04 → Runs (.seqFence c) c s (fun b t => t = b))) ∧
  (c.opc = 0x01 → ∃ t : State, exec (.seqEnd c) s = .next ((t.wake (s.ownerOf c.plate)).settle) ∧
    ((s.plate c.plate).ctx = none → (t.plate c.plate).ended = true ∧ (t.plate c.plate).waiting = [] ∧ (t.plate c.plate).groups = [] ∧
      (t.plate c.plate).sems = []) ∧
    (∀ id, (s.plate c.plate).ctx = some id → lanePlates (s.ctx id) = [c.plate] → (t.ctx id).run = .done ∧ (t.plate c.plate).ctx = none)) ∧
  (c.opc = 0x02 →
    (c.le 16 8 ≤ s.cycles c.plate → Runs (.seqAt c) c s (fun b t => Beside b t [] ∧ (c.le 16 8 = s.cycles c.plate → t = b))) ∧
    (s.cycles c.plate < c.le 16 8 → Waits (.seqAt c) c s .clock)) ∧
  (c.opc = 0x03 → c.le 16 1 ≤ 3 → (s.plate c.plate).boundary = true →
    (s.windowAt (s.ownerOf c.plate) (c.le 16 1) ≤ s.nowDie (dieOfPlate c.plate) → Runs (.seqWindow c) c s (fun b t => t = b)) ∧
    (s.nowDie (dieOfPlate c.plate) < s.windowAt (s.ownerOf c.plate) (c.le 16 1) → Waits (.seqWindow c) c s .window)) ∧
  (c.opc = 0x05 → (∀ id, (s.plate c.plate).ctx = some id → ∀ q ∈ lanePlates (s.ctx id), q ≠ c.plate → c.le 16 1 ∈ (s.plate q).bars) →
    Runs (.seqBarrier c) c s (fun b t => c.le 16 1 ∈ (t.plate c.plate).bars ∧ (∀ q, q ≠ c.plate → t.plate q = b.plate q) ∧
      t = { b with plates := t.plates })) ∧
  (c.opc = 0x05 → ∀ id q, (s.plate c.plate).ctx = some id → q ∈ lanePlates (s.ctx id) → q ≠ c.plate → c.le 16 1 ∉ (s.plate q).bars →
    ∃ t : State, exec (.seqBarrier c) s = .next ((t.wake (s.ownerOf c.plate)).settle) ∧ c.le 16 1 ∈ (t.plate c.plate).bars ∧
      (t.plate c.plate).waiting = [{ cmd := c, why := .barrier, begun := false, mask := 0 }]) ∧
  (c.opc = 0x06 → c.le 16 1 ≤ 1 → 1 ≤ c.le 18 2 → c.trayAddr % 16 = 0 → s.wholeTray c.plate → c.trayAddr + 4 ≤ s.grainTop c.plate →
    Runs (.seqSkipif c) c s (fun b t => UnitWork { b with plates := t.plates } t (fun _ => False) ∧
      (∀ q, q ≠ c.plate → t.plate q = b.plate q) ∧
      ((ofLe (s.tray c.plate c.trayAddr 4) = 0 ↔ c.le 16 1 = 0) → t.plate c.plate = { b.plate c.plate with skip := c.index + 1 + c.le 18 2 }) ∧
      (¬(ofLe (s.tray c.plate c.trayAddr 4) = 0 ↔ c.le 16 1 = 0) → t.plate c.plate = b.plate c.plate))) ∧
  (c.opc = 0x47 → c.le 20 1 ≤ 1 → 1 ≤ c.le 22 2 → c.le 16 4 % 16 = 0 → s.wholeTray (clusterAddr c.plate (c.le 16 4)).1 → clIn (c.le 16 4) 1088 →
    sheetOk (sheetOf (s.bytes (clAt c.plate (c.le 16 4)) 1088)) = true →
    Runs (.burnBranch c) c s (fun b t => UnitWork { b with plates := t.plates } t (fun _ => False) ∧
      (∀ q, q ≠ c.plate → t.plate q = b.plate q) ∧
      (((sheetOf (s.bytes (clAt c.plate (c.le 16 4)) 1088)).decision = 2 ↔ c.le 20 1 = 0) →
        t.plate c.plate = { b.plate c.plate with skip := c.index + 1 + c.le 22 2 }) ∧
      (¬((sheetOf (s.bytes (clAt c.plate (c.le 16 4)) 1088)).decision = 2 ↔ c.le 20 1 = 0) → t.plate c.plate = b.plate c.plate))) ∧
  (c.opc = 0x07 → c.le 16 8 ≠ 0 →
    ((s.plate c.plate).ctx = none → Runs (.ctxPost c) c s (fun b t => t = b)) ∧
    (∀ id, (s.plate c.plate).ctx = some id → Runs (.ctxPost c) c s (fun b t =>
      t.ctx id = { s.ctx id with progress := ((s.ctx id).progress + c.le 16 8) % 2 ^ 64 } ∧ (∀ d, d ≠ id → t.ctx d = b.ctx d) ∧
      t.plates = b.plates ∧ t.parts = b.parts))) ∧
  (c.opc = 0x08 → (s.plate c.plate).boundary = true → (s.ctx (waitCtxOf c)).part = s.ownerOf c.plate → (s.ctx (waitCtxOf c)).takesPart = true →
    s.get fPART_LAYOUT_CTX_FIRST (s.ownerOf c.plate) 0 ≤ waitCtxOf c →
    waitCtxOf c < s.get fPART_LAYOUT_CTX_FIRST (s.ownerOf c.plate) 0 + s.get fPART_LAYOUT_CTX_COUNT (s.ownerOf c.plate) 0 →
    (waitValOf c ≤ (s.ctx (waitCtxOf c)).progress → Runs (.ctxWait c) c s (fun b t => t = b)) ∧
    ((s.ctx (waitCtxOf c)).progress < waitValOf c → (s.ctx (waitCtxOf c)).run ≠ .done →
      ((s.plate c.plate).ctx = none → Waits (.ctxWait c) c s .progress) ∧
      (∀ id, (s.plate c.plate).ctx = some id → (s.ctx id).run = .running →
        (s.begun c).waitPath id (s.ctxs.length + 1) (waitCtxOf c) = none →
        ∃ t : State, exec (.ctxWait c) s = .next ((t.wake (s.ownerOf c.plate)).settle) ∧
          (t.plate c.plate).waiting = [{ cmd := c, why := .progress, begun := false, mask := 0 }] ∧
          t.ctx id = { s.ctx id with run := .blocked, leaving := true, waitCtx := some (waitCtxOf c), waitVal := waitValOf c,
                                     blockT64 := s.partNow (s.ctx id).part }))) ∧
  (c.opc = 0x09 → Runs (.seqFlip c) c s (fun b t => t = { b with parts := t.parts } ∧
    (s.get fPART_LAYOUT_KIND (s.ownerOf c.plate) 0 = 1 → t.prt (s.ownerOf c.plate) = { b.prt (s.ownerOf c.plate) with flip := true }) ∧
    (s.get fPART_LAYOUT_KIND (s.ownerOf c.plate) 0 ≠ 1 → t = b)))

/-- R69, R75, R88, R98–R101: GRAIN_LOAD and GRAIN_LOAD_KEYS put the tile that their column records spell into SHADOW and leave ACTIVE and
the groups alone. ACC_OPEN opens the groups it names, empty, with their interval; ACC_CLOSE releases them; ACC_PROMOTE promotes every
strip of each. GRAIN_PASS runs the tile that SWAP takes from SHADOW, or the ACTIVE one, over its rows into the groups it names. No byte of
memory changes. -/
def Obligations.GrainTilesAndGroups : Prop :=
  ∀ (s : State) (c : PlateCmd), s.ready c →
  (c.opc = 0x20 → s.wholeTray c.plate → 1 ≤ c.kRows → c.kRows ≤ 160 → 1 ≤ c.cols → c.cols ≤ 256 → c.bits 16 0 5 ≤ 16 → c.trayAddr % 16 = 0 →
    (c.bits 16 5 1 = 1 → 2 ≤ c.bits 16 0 5) → (c.bits 16 6 1 = 1 → 2 ≤ c.bits 16 0 5 ∧ c.bits 16 0 5 ≤ 8 ∧ 1 ≤ c.le 17 1 ∧ c.le 17 1 ≤ 3 ∧
      c.kRows ≤ 128 ∧ c.le 20 4 + (c.cols - 1) * c.le 24 2 + 128 / (16 * 2 ^ c.le 17 1) ≤ s.grainTop c.plate) →
    ∀ st, st = (if c.le 18 2 = 0 then (if c.bits 16 0 5 = 0 then 32 else if c.bits 16 0 5 = 1 then 20 else 20 * c.bits 16 0 5) else c.le 18 2) →
    c.trayAddr + (c.cols - 1) * st + colBytesRead (c.bits 16 0 5) (decide (c.bits 16 5 1 = 1)) c.kRows ≤ s.grainTop c.plate →
    (c.bits 16 0 5 = 0 → ∀ j, j < c.cols → ∀ b ∈ s.tray c.plate (c.trayAddr + j * st) (ceilDiv c.kRows 5), t5Invalid b = false) →
    Runs (.grainLoad c) c s (fun b t => UnitWork { b with plates := t.plates, work := t.work } t (fun _ => False) ∧
      (∀ q, q ≠ c.plate → t.plate q = b.plate q ∧ t.workOf q = b.workOf q) ∧
      ∃ w, (t.plate c.plate) = { b.plate c.plate with shadow := some w, reload := some c } ∧ w.kRows = c.kRows ∧ w.cols = c.cols ∧
        w.kind = kindOfFmt (c.bits 16 0 5) ∧ w.gsize = (if c.bits 16 6 1 = 1 then 16 * 2 ^ c.le 17 1 else 0) ∧
        w.weights = (List.range c.cols).map (fun j => (List.range c.kRows).map (colWeight (c.bits 16 0 5) (decide (c.bits 16 5 1 = 1))
          (s.tray c.plate (c.trayAddr + j * st) (colBytesRead (c.bits 16 0 5) (decide (c.bits 16 5 1 = 1)) c.kRows)))) ∧
        w.gmult = (if c.bits 16 6 1 = 1 then
          (List.range c.cols).map (fun j => s.tray c.plate (c.le 20 4 + j * c.le 24 2) (128 / (16 * 2 ^ c.le 17 1))) else []) ∧
        w.strips = stripPlans w.kind (decide (s.get fPLATE_GRAIN_CFG_ZERO_SKIP c.plate 0 = 1))
          (decide (s.get fPLATE_GRAIN_CFG_SIGNX_SKIP c.plate 0 = 1)) w.weights)) ∧
  (c.opc = 0x22 → s.wholeTray c.plate → 1 ≤ c.kRows → c.kRows ≤ 160 → 1 ≤ c.cols → c.cols ≤ 256 → c.le 16 1 ≤ 1 → c.trayAddr % 16 = 0 →
    c.le 18 2 % 16 = 0 → c.trayAddr + (c.cols - 1) * c.le 18 2 + (if c.le 16 1 = 0 then c.kRows else ceilDiv c.kRows 2) ≤ s.grainTop c.plate →
    Runs (.grainLoadKeys c) c s (fun b t => UnitWork { b with plates := t.plates, work := t.work } t (fun _ => False) ∧
      (∀ q, q ≠ c.plate → t.plate q = b.plate q ∧ t.workOf q = b.workOf q) ∧
      ∃ w, (t.plate c.plate) = { b.plate c.plate with shadow := some w, reload := some c } ∧ w.kRows = c.kRows ∧ w.cols = c.cols ∧
        w.kind = .wide (if c.le 16 1 = 0 then 8 else 4) ∧ w.gsize = 0 ∧
        w.weights = (List.range c.cols).map (fun j => (List.range c.kRows).map (fun d =>
          if c.le 16 1 = 0 then a8Code ((s.tray c.plate (c.trayAddr + j * c.le 18 2) c.kRows).getD d 0)
          else a4Code (s.tray c.plate (c.trayAddr + j * c.le 18 2) (ceilDiv c.kRows 2)) d)) ∧
        w.gmult = [] ∧ w.strips = stripPlans w.kind (decide (s.get fPLATE_GRAIN_CFG_ZERO_SKIP c.plate 0 = 1))
          (decide (s.get fPLATE_GRAIN_CFG_SIGNX_SKIP c.plate 0 = 1)) w.weights)) ∧
  (c.opc = 0x23 → groupsInRange c = true → openMask (s.plate c.plate).groups &&& groupsMask c = 0 →
    storage40 (openMask (s.plate c.plate).groups ||| groupsMask c) ≤ s.saveGroups c.plate →
    Runs (.accOpen c) c s (fun b t => t = { b with plates := t.plates } ∧ (∀ q, q ≠ c.plate → t.plate q = b.plate q) ∧
      (∀ k ∈ groupKeys c.packed c.first c.rows, (t.plate c.plate).group k =
        some { packed := c.packed, n := 32 * 2 ^ c.bits 16 0 2, narrow := [], wide := [], strips := [] }) ∧
      (∀ k, k ∉ groupKeys c.packed c.first c.rows → (t.plate c.plate).group k = (s.plate c.plate).group k) ∧
      (t.plate c.plate).active = (s.plate c.plate).active ∧ (t.plate c.plate).shadow = (s.plate c.plate).shadow)) ∧
  (c.opc = 0x27 → groupsInRange c = true → groupsOpen (s.plate c.plate) c = true →
    Runs (.accClose c) c s (fun b t => t = { b with plates := t.plates } ∧ (∀ q, q ≠ c.plate → t.plate q = b.plate q) ∧
      (∀ k ∈ groupKeys c.packed c.first c.rows, (t.plate c.plate).group k = none) ∧
      (∀ k, k ∉ groupKeys c.packed c.first c.rows → (t.plate c.plate).group k = (s.plate c.plate).group k) ∧
      (t.plate c.plate).active = (s.plate c.plate).active ∧ (t.plate c.plate).shadow = (s.plate c.plate).shadow)) ∧
  (c.opc = 0x24 → groupsInRange c = true → groupsOpen (s.plate c.plate) c = true →
    Runs (.accPromote c) c s (fun b t => Beside { b with plates := t.plates } t [] ∧ (∀ q, q ≠ c.plate → t.plate q = b.plate q) ∧
      (∀ k ∈ groupKeys c.packed c.first c.rows, ∃ g, (s.plate c.plate).group k = some g ∧ (t.plate c.plate).group k = some (promoteGroup g).1 ∧
        ∀ st, st < 8 → smapGet (fun _ => StripAcc.zero) st (promoteGroup g).1.strips =
          if (smapGet (fun _ => StripAcc.zero) st g.strips).count = 0 then smapGet (fun _ => StripAcc.zero) st g.strips else StripAcc.zero) ∧
      (∀ k, k ∉ groupKeys c.packed c.first c.rows → (t.plate c.plate).group k = (s.plate c.plate).group k))) ∧
  (c.opc = 0x21 → s.wholeTray c.plate → groupsInRange c = true → groupsOpen (s.plate c.plate) c = true → 1 ≤ c.kRows → c.kRows ≤ 160 →
    c.bits 16 0 2 ≤ 2 → (c.packed = true ↔ c.bits 16 0 2 = 1) → c.trayAddr % 16 = 0 → c.le 18 2 % 16 = 0 →
    (c.bits 17 0 1 = 1 ∨ (s.plate c.plate).boundary = false) →
    c.trayAddr + (c.rows - 1) * c.le 18 2 + (if c.bits 16 0 2 = 0 then c.kRows else ceilDiv c.kRows 2) ≤ s.grainTop c.plate →
    (c.bits 16 0 2 = 2 → c.bits 16 2 4 ≠ 0 → s.a4gAt c.plate (c.bits 16 2 4) + 16 ≤ s.grainTop c.plate) →
    ∀ w, (if c.bits 17 0 1 = 1 then (s.plate c.plate).shadow else (s.plate c.plate).active) = some w → w.kRows = c.kRows →
    ∀ tbl, tbl = (if c.bits 16 0 2 ≠ 2 then [] else if c.bits 16 2 4 = 0 then g16Table
      else a4gTableOf (s.tray c.plate (s.a4gAt c.plate (c.bits 16 2 4)) 16)) →
    ∀ r, r = (passRows w (s.plate c.plate) c.packed c.first ((List.range c.rows).map (fun i => rowCodes (c.bits 16 0 2) c.kRows tbl
      (s.tray c.plate (c.trayAddr + i * c.le 18 2) (if c.bits 16 0 2 = 0 then c.kRows else ceilDiv c.kRows 2))))).1 →
    Runs (.grainPass c) c s (fun b t => UnitWork { b with plates := t.plates } t (fun _ => False) ∧ (∀ q, q ≠ c.plate → t.plate q = b.plate q) ∧
      (t.plate c.plate).active = some w ∧ (t.plate c.plate).shadow = (s.plate c.plate).shadow ∧ (t.plate c.plate).boundary = c.lastInTile ∧
      (∀ k, k ∉ groupKeys c.packed c.first c.rows → (t.plate c.plate).group k = (s.plate c.plate).group k) ∧
      (c.bits 17 1 1 = 0 → (t.plate c.plate).groups = r.groups) ∧
      (c.bits 17 1 1 = 1 → (t.plate c.plate).groups = (promoteNamed r (groupKeys c.packed c.first c.rows)).1.groups)))

/-- R90–R92, R102–R104, R132–R135: ACC_DRAIN promotes the groups it names, writes their rescaled rows, folds the row maxima where asked,
and releases the groups. ACC_QUANT writes the codes and the scale of each row. ACC_DEBUG_READ writes the group contents, or, while
ACC_VISIBLE is 0, is only logged. AGIT_ROTATE writes each row transformed. No other byte of memory changes. -/
def Obligations.DrainQuantiseAndRotate : Prop :=
  ∀ (s : State) (c : PlateCmd), s.ready c →
  (c.opc = 0x25 → s.wholeTray c.plate → groupsInRange c = true → groupsOpen (s.plate c.plate) c = true → 1 ≤ c.cols → c.cols ≤ 256 →
    c.bits 16 0 2 ≤ 2 → c.trayAddr % 16 = 0 → c.le 18 2 % 16 = 0 → c.le 20 4 % 64 = 0 → c.le 20 4 + 64 ≤ s.grainTop c.plate →
    ∀ r, r = drainRec (s.tray c.plate (c.le 20 4) 64) → drainRecOk r = true → r.addStride % 16 = 0 →
    (c.bits 16 2 1 = 0 → r.sw + c.cols * (if r.swBf16 then 2 else 4) ≤ s.grainTop c.plate) →
    r.sa + (c.rows - 1) * r.saStride + 4 ≤ s.grainTop c.plate →
    (c.bits 16 3 1 = 1 → r.burn + (c.rows - 1) * r.addStride + 4 * c.cols ≤ s.grainTop c.plate) →
    (c.bits 16 4 1 = 1 → r.lr + (c.rows - 1) * r.addStride + 4 * c.cols ≤ s.grainTop c.plate) →
    (c.bits 16 5 1 = 1 → r.rowmax + 4 * c.rows ≤ s.grainTop c.plate) →
    c.trayAddr + (c.rows - 1) * c.le 18 2 + c.cols * (if c.bits 16 0 2 = 1 then 4 else 2) ≤ s.grainTop c.plate →
    Runs (.accDrain c) c s (fun b t => UnitWork { b with plates := t.plates } t (fun a =>
        inRows (trayAddr c.plate c.trayAddr) (c.le 18 2) (c.cols * (if c.bits 16 0 2 = 1 then 4 else 2)) c.rows a ∨
        (c.bits 16 5 1 = 1 ∧ inRows (trayAddr c.plate r.rowmax) 4 4 c.rows a)) ∧
      (∀ q, q ≠ c.plate → t.plate q = b.plate q) ∧ (∀ k ∈ groupKeys c.packed c.first c.rows, (t.plate c.plate).group k = none) ∧
      (∀ k, k ∉ groupKeys c.packed c.first c.rows → (t.plate c.plate).group k = (s.plate c.plate).group k) ∧
      (c.rows = 1 → c.bits 16 5 1 = 0 →
        t.tray c.plate c.trayAddr (c.cols * (if c.bits 16 0 2 = 1 then 4 else 2)) = ((List.range c.cols).map (fun j => outBytes (c.bits 16 0 2)
          (drainValue (wideAt (promoteNamed (s.plate c.plate) (groupKeys c.packed c.first c.rows)).1 c.packed c.first 0 j)
            (ofLe (s.tray c.plate r.sa 4))
            (if c.bits 16 2 1 = 1 then fone else if r.swBf16 then fconv bf16 fp32 (ofLe (s.tray c.plate (r.sw + 2 * j) 2))
              else ofLe (s.tray c.plate (r.sw + 4 * j) 4))
            (decide (c.bits 16 2 1 = 1)) (if c.bits 16 3 1 = 1 then some (ofLe (s.tray c.plate (r.burn + 4 * j) 4)) else none)
            (if c.bits 16 4 1 = 1 then some (ofLe (s.tray c.plate (r.lr + 4 * j) 4)) else none)))).flatten))) ∧
  (c.opc = 0x26 → s.wholeTray c.plate → 1 ≤ c.rows → c.rows ≤ 256 → 1 ≤ c.kRows → c.kRows ≤ 128 → 1 ≤ c.cols → c.cols ≤ 256 → c.bits 31 0 2 ≤ 2 →
    (c.bits 31 0 2 = 0 ∨ c.cols % 2 = 0) → c.trayAddr % 16 = 0 → c.le 2 2 % 16 = 0 → c.le 16 4 % 16 = 0 → c.le 20 4 % 16 = 0 →
    (c.bits 31 0 2 = 2 → c.bits 31 3 4 ≠ 0 → s.a4gAt c.plate (c.bits 31 3 4) + 16 ≤ s.grainTop c.plate) →
    c.trayAddr + c.rows * roundUp (2 * c.cols) 64 + c.kRows * c.rows * 4 ≤ s.grainTop c.plate →
    c.le 16 4 + (c.rows - 1) * c.le 2 2 + (if c.bits 31 0 2 = 0 then c.cols else c.cols / 2) ≤ s.grainTop c.plate →
    c.le 20 4 + (c.rows - 1) * c.le 2 2 + 4 ≤ s.grainTop c.plate →
    ∀ n, n = s.ownerOf c.plate → ∀ q, q = quantRow
        (if c.bits 31 0 2 = 0 then .a8 else if c.bits 31 0 2 = 1 then .a4 else .a4g (if c.bits 31 3 4 = 0 then g16Table
          else a4gTableOf (s.tray c.plate (s.a4gAt c.plate (c.bits 31 3 4)) 16)))
        (decide (c.bits 31 2 1 = 1)) (c.le 24 4)
        (maxEntry ((List.range c.kRows).map (fun v => ofLe (s.tray c.plate (c.trayAddr + roundUp (2 * c.cols) 64 + 4 * v) 4))))
        ((List.range c.cols).map (fun j => fdecode bf16 (ofLe (s.tray c.plate (c.trayAddr + 2 * j) 2))))
        (fun j => if c.le 28 3 = 0 then none else some (streamDraw (s.prt n).rngKey (c.le 28 3) (s.streamCtr n (c.le 28 3)) j)) →
    Runs (.accQuant c) c s (fun b t => UnitWork { b with parts := t.parts } t (fun a =>
        inRows (trayAddr c.plate (c.le 16 4)) (c.le 2 2) (if c.bits 31 0 2 = 0 then c.cols else c.cols / 2) c.rows a ∨
        inRows (trayAddr c.plate (c.le 20 4)) (c.le 2 2) 4 c.rows a) ∧
      onlyBound b t n ∧
      (c.rows = 1 → t.le (trayAddr c.plate (c.le 20 4)) 4 = q.scale % 2 ^ 32 ∧
        (apart (c.le 16 4) (if c.bits 31 0 2 = 0 then c.cols else c.cols / 2) (c.le 20 4) 4 →
          t.tray c.plate (c.le 16 4) (if c.bits 31 0 2 = 0 then c.cols else c.cols / 2) =
            (if c.bits 31 0 2 = 0 then q.codes else packNibbles q.codes).map (fun x => x % 256))))) ∧
  (c.opc = 0x28 →
    (s.get fPLATE_DEBUG_ACC_VISIBLE c.plate 0 = 0 → Runs (.accDebugRead c) c s (fun b t => Beside b t [])) ∧
    (s.get fPLATE_DEBUG_ACC_VISIBLE c.plate 0 = 1 → s.wholeTray c.plate → groupsInRange c = true → groupsOpen (s.plate c.plate) c = true →
      c.trayAddr % 16 = 0 → c.trayAddr + 16 * ceilDiv c.rows 16 * 2048 ≤ s.grainTop c.plate →
      Runs (.accDebugRead c) c s (fun b t => t.regs = b.regs ∧ t.plates = b.plates ∧
        (∀ a, ¬ inRows (trayAddr c.plate c.trayAddr) 2048 2048 (16 * ceilDiv c.rows 16) a → t.mem.get a = s.mem.get a) ∧
        (∀ i j, i < 16 * ceilDiv c.rows 16 → j < 256 →
          t.le (trayAddr c.plate (c.trayAddr + i * 2048 + 8 * j)) 8 = debugWord (s.plate c.plate) c.packed c.first i j % 2 ^ 64)))) ∧
  (c.opc = 0x50 → s.wholeTray c.plate → 1 ≤ c.le 16 1 → c.le 16 1 ≤ 14 → 2 ≤ c.bits 8 12 17 → c.bits 8 12 17 ≤ 65536 → c.bits 17 0 2 ≤ 1 →
    c.bits 17 2 2 ≤ 1 → c.le 18 2 % 16 = 0 → c.trayAddr % 16 = 0 → c.le 20 4 % 16 = 0 → c.bits 8 12 17 % 2 ^ c.le 16 1 = 0 →
    c.trayAddr + (safeRows c - 1) * c.le 18 2 + fmtSize (c.bits 17 0 2) * c.bits 8 12 17 ≤ s.grainTop c.plate →
    c.le 20 4 + (safeRows c - 1) * c.le 18 2 + fmtSize (c.bits 17 2 2) * c.bits 8 12 17 ≤ s.grainTop c.plate →
    Runs (.agitRotate c) c s (fun b t => UnitWork b t (inRows (trayAddr c.plate (c.le 20 4)) (c.le 18 2)
        (fmtSize (c.bits 17 2 2) * c.bits 8 12 17) (safeRows c)) ∧
      (safeRows c = 1 → c.bits 17 0 2 = 1 → c.bits 17 2 2 = 1 → t.tray c.plate (c.le 20 4) (4 * c.bits 8 12 17) =
        (((List.range (c.bits 8 12 17 / 2 ^ c.le 16 1)).map (fun q => agitBlock (c.le 24 8) (256 * c.le 2 2 + q * 2 ^ c.le 16 1) (c.le 16 1)
          ((List.range (2 ^ c.le 16 1)).map (fun e => fconv fp32 fp32
            (ofLe (s.tray c.plate (c.trayAddr + 4 * (q * 2 ^ c.le 16 1 + e)) 4)))))).flatten.map (outVal 1)).flatten)))

/-- R64, R66, R108–R119: the Safelight unit's matrix product, row operations and low-rank products complete where their operands lie in
whole trays of the cluster, each run within one plate's window, whatever the format of B, the operation or the phase: they write their
output rows, with the row maxima where a SAFE_GEMM asks for them, and no other byte of memory changes. Of the values: those of a plain
product of one row, and of an FP32 sum of one row. Completion of SAFE_GEMM, SAFE_ROWOP and SAFE_LOWRANK. -/
def Obligations.SafelightCommandsRun : Prop :=
  ∀ (s : State) (c : PlateCmd), s.ready c → (∀ q, q / 8 = c.plate / 8 → s.wholeTray q) → c.trayAddr % 16 = 0 →
  (c.opc = 0x40 → 1 ≤ safeCols c → safeCols c ≤ 256 → c.le 20 4 % 16 = 0 → c.le 24 4 % 16 = 0 → c.bits 16 0 3 ≤ 4 → c.bits 16 3 3 ≤ 4 →
    1 ≤ c.le 18 2 →
    ((c.le 17 1 = 0 ∧ ∃ w, s.clWRec c.plate (c.le 20 4) = .ok w ∧ ∀ i j, i < c.le 18 2 → j < safeCols c → s.weightIn c.plate w i j) ∨
      ∃ f, (c.le 17 1, f) ∈ [(0x80, 0), (0x81, 2), (0x82, 3), (0x83, 4), (0x84, 1)] ∧
        ∀ i, i < c.le 18 2 → clIn (c.le 20 4 + i * safeCols c * fmtSize f) (fmtSize f * safeCols c)) →
    (∀ i, i < safeRows c → clIn (c.trayAddr + i * stagedStride (c.bits 16 0 3) (c.le 18 2)) (fmtSize (c.bits 16 0 3) * c.le 18 2)) →
    (∀ i, i < safeRows c → clIn (c.le 24 4 + i * stagedStride (c.bits 16 3 3) (safeCols c)) (fmtSize (c.bits 16 3 3) * safeCols c)) →
    ∀ r, r = s.drainAt c.plate (c.le 28 4) →
    (c.le 28 4 ≠ 0 → s.drainIn c.plate (c.le 28 4) ∧ (c.bits 2 0 1 = 0 → scalesIn r (safeCols c)) ∧
      (c.bits 2 1 1 = 1 → ∀ i, i < safeRows c → clIn (r.lr + i * r.addStride) (4 * safeCols c)) ∧
      (c.bits 2 2 1 = 1 → ∀ i, i < safeRows c → clIn (r.rowmax + 4 * i) 4)) →
    Runs (.safeGemm c) c s (fun b t => UnitWork b t (fun a => ∃ i, i < safeRows c ∧
        (atCl c.plate (c.le 24 4 + i * stagedStride (c.bits 16 3 3) (safeCols c)) (fmtSize (c.bits 16 3 3) * safeCols c) a ∨
          (c.le 28 4 ≠ 0 ∧ c.bits 2 2 1 = 1 ∧ atCl c.plate (r.rowmax + 4 * i) 4 a))) ∧
      (safeRows c = 1 → c.bits 2 4 1 = 0 → c.le 28 4 = 0 →
        ∀ f, (c.le 17 1, f) ∈ [(0x80, 0), (0x81, 2), (0x82, 3), (0x83, 4), (0x84, 1)] →
        t.bytes (clAt c.plate (c.le 24 4)) (fmtSize (c.bits 16 3 3) * safeCols c) =
          ((List.range (safeCols c)).map (fun j => outVal (c.bits 16 3 3) (sumFp32 b.free j (products
            ((List.range (c.le 18 2)).map (fun e => fdecode (fmtOfCode (c.bits 16 0 3))
              (s.le (clAt c.plate c.trayAddr + fmtSize (c.bits 16 0 3) * e) (fmtSize (c.bits 16 0 3)))))
            ((List.range (c.le 18 2)).map (fun e => fdecode (fmtOfCode f)
              (s.le (clAt c.plate (c.le 20 4 + e * safeCols c * fmtSize f) + fmtSize f * j) (fmtSize f)))))))).flatten))) ∧
  (c.opc = 0x41 → c.le 16 1 ≤ 13 → 1 ≤ rowopLen c → rowopLen c ≤ 262144 → c.le 24 4 % 16 = 0 →
    (if c.le 16 1 = 13 then c.bits 17 0 3 = 5 else c.bits 17 0 3 ≤ 4) → (if c.le 16 1 = 12 then c.bits 17 3 3 = 5 else c.bits 17 3 3 ≤ 4) →
    convertible (c.le 16 1) (c.bits 17 0 3) (c.bits 17 3 3) = true →
    ∀ inp, inp = (if c.bits 17 0 3 = 5 then g8Bytes (rowopLen c) else fmtSize (c.bits 17 0 3) * rowopLen c) →
    ∀ out, out = (if c.le 16 1 = 12 then g8Bytes (rowopLen c) else if c.le 16 1 = 7 ∨ c.le 16 1 = 9 then 4
      else fmtSize (c.bits 17 3 3) * rowopLen c) →
    ∀ dest : Nat → Nat, (∀ i, dest i = c.le 24 4 + (if c.le 16 1 = 7 ∨ c.le 16 1 = 9 then 4 * i else i * c.le 18 2)) →
    (∀ i, i < safeRows c → clIn (c.trayAddr + i * c.le 18 2) inp ∧ clIn (dest i) out) →
    (c.le 16 1 = 1 ∨ c.le 16 1 = 2 → c.le 20 4 % 16 = 0 ∧ ∀ i, i < safeRows c → clIn (c.le 20 4 + i * c.le 18 2) inp) →
    (c.le 16 1 = 8 ∨ c.le 16 1 = 10 → c.le 20 4 % 16 = 0 ∧ ∀ i, i < safeRows c → clIn (c.le 20 4 + 4 * i) 4) →
    (c.le 16 1 = 5 ∨ c.le 16 1 = 6 ∨ c.le 16 1 = 12 → c.le 28 4 % 16 = 0 ∧ clIn (c.le 28 4) 64) →
    (c.le 16 1 = 5 ∨ c.le 16 1 = 6 → clIn (s.le (clAt c.plate (c.le 28 4)) 4) inp) →
    (c.le 16 1 = 6 → clIn (s.le (clAt c.plate (c.le 28 4) + 4) 4) inp) →
    Runs (.safeRowop c) c s (fun b t => UnitWork { b with parts := t.parts } t (fun a => ∃ i, i < safeRows c ∧ atCl c.plate (dest i) out a) ∧
      (c.le 16 1 ≠ 12 → t.parts = b.parts) ∧ onlyBound b t (s.ownerOf c.plate) ∧
      (safeRows c = 1 → c.le 16 1 = 1 → c.bits 17 0 3 = 1 → c.bits 17 3 3 = 1 → t.bytes (clAt c.plate (c.le 24 4)) (4 * rowopLen c) =
        ((List.range (rowopLen c)).map (fun j => outVal 1 (fadd (fencode fp32 (fdecode fp32 (s.le (clAt c.plate c.trayAddr + 4 * j) 4)))
          (fencode fp32 (fdecode fp32 (s.le (clAt c.plate (c.le 20 4) + 4 * j) 4)))))).flatten))) ∧
  (c.opc = 0x42 → 1 ≤ safeCols c → safeCols c ≤ 256 → 1 ≤ c.bits 8 21 7 → c.bits 8 21 7 ≤ 64 → 1 ≤ c.bits 2 1 7 → c.le 16 4 % 16 = 0 →
    (c.bits 2 0 1 = 0 → c.le 20 4 % 16 = 0 → (∀ j, j < safeCols c → clIn (c.le 16 4 + 2 * c.bits 8 21 7 * j) (2 * c.bits 8 21 7)) →
      (∀ i, i < safeRows c → clIn (c.trayAddr + i * stagedStride 0 (safeCols c)) (2 * safeCols c)) →
      (∀ i, i < safeRows c → clIn (c.le 20 4 + 4 * c.bits 8 21 7 * i) (4 * c.bits 8 21 7)) →
      Runs (.safeLowrank c) c s (fun b t => UnitWork b t (fun a => ∃ i, i < safeRows c ∧
        atCl c.plate (c.le 20 4 + 4 * c.bits 8 21 7 * i) (4 * c.bits 8 21 7) a))) ∧
    (c.bits 2 0 1 = 1 → s.drainIn c.plate (c.le 24 4) → ∀ r, r = s.drainAt c.plate (c.le 24 4) →
      (∀ k, k < c.bits 8 21 7 → clIn (c.le 16 4 + 2 * safeCols c * k) (2 * safeCols c)) →
      (∀ e i, e < c.bits 2 1 7 → i < safeRows c →
        clIn (c.trayAddr + e * roundUp (safeRows c * c.bits 8 21 7 * 4) 64 + 4 * c.bits 8 21 7 * i) (4 * c.bits 8 21 7)) →
      (∀ i, i < safeRows c → clIn (r.lr + i * r.addStride) (4 * safeCols c)) →
      Runs (.safeLowrank c) c s (fun b t => UnitWork b t (fun a => ∃ i, i < safeRows c ∧
        atCl c.plate (r.lr + i * r.addStride) (4 * safeCols c) a))))

/-- R120–R128, R131, R153: the burn path. BURN_SCAN writes a candidate record, with 0 for a channel on the static list; BURN_DECIDE a sheet,
with BURN_LAST and the partition's burn counts; BURN_APPLY, unless the decision was FALLBACK, moves the burnt channels out of the staged
rows; BURN_PRODUCT writes the rows of the burn addend, of static and of dynamic channels. No other byte of memory changes. Completion of
BURN_SCAN, BURN_DECIDE, BURN_APPLY and BURN_PRODUCT, where their operands lie in whole trays of the cluster, each run within one window. -/
def Obligations.BurnCommandsRun : Prop :=
  ∀ (s : State) (c : PlateCmd), s.ready c → (∀ q, q / 8 = c.plate / 8 → s.wholeTray q) → c.trayAddr % 16 = 0 → c.le 16 4 % 16 = 0 →
  clIn (c.le 16 4) 1088 → 1 ≤ safeCols c → safeCols c ≤ 256 → ∀ x, x = sheetOf (s.bytes (clAt c.plate (c.le 16 4)) 1088) → sheetOk x = true →
  (c.opc = 0x43 → c.le 20 4 % 16 = 0 → clIn (c.le 20 4) 576 →
    (∀ i, i < safeRows c → clIn (c.trayAddr + i * stagedStride 0 (safeCols c)) (2 * safeCols c)) →
    Runs (.burnScan c) c s (fun b t => UnitWork b t (atCl c.plate (c.le 20 4) 576) ∧
      t.le (clAt c.plate (c.le 20 4)) 4 = c.le 28 3 ∧ t.le (clAt c.plate (c.le 20 4) + 4) 2 = safeCols c ∧
      (∀ j, j < safeCols c → t.le (clAt c.plate (c.le 20 4) + 64 + 2 * j) 2 =
        if (x.entries.take x.static).any (fun e => decide (e.1 = c.le 28 3 + j)) = true then 0
        else candidateOf (c.le 24 4) ((List.range (safeRows c)).map (fun i =>
          fdecode bf16 (s.le (clAt c.plate (c.trayAddr + i * stagedStride 0 (safeCols c)) + 2 * j) 2))) % 2 ^ 16))) ∧
  (c.opc = 0x44 → c.le 20 4 % 16 = 0 → 1 ≤ c.le 24 2 → c.le 24 2 ≤ 128 → c.le 26 2 ≤ 256 → c.le 28 1 ≤ 1 → clIn (c.le 20 4) 1088 →
    (∀ i, i < c.le 24 2 → clIn (c.trayAddr + 576 * i) 576) → x.static ≤ c.le 26 2 →
    rangesDisjoint ((List.range (c.le 24 2)).map (fun i => (s.le (clAt c.plate (c.trayAddr + 576 * i)) 4,
      s.le (clAt c.plate (c.trayAddr + 576 * i) + 4) 2))) = true →
    Runs (.burnDecide c) c s (fun b t => UnitWork { b with parts := t.parts, regs := t.regs } t (atCl c.plate (c.le 20 4) 1088) ∧
      (∀ a, bookkeeping a = false → (∀ q, q < 128 → a ≠ fldAddr fTRAY_ECC_STAT_CE q 0) → a ≠ fldAddr fBURN_LAST_LAYER (c.plate / 8) 0 →
        t.reg a = b.reg a) ∧
      t.get fBURN_LAST_LAYER (c.plate / 8) 0 = c.le 30 2 ∧
      t.get fBURN_LAST_EXPO (c.plate / 8) 0 = s.get fPART_EXPO_NOW_EXPO (s.ownerOf c.plate) 0 % 2 ^ 32 ∧
      (∀ m, m ≠ s.ownerOf c.plate → t.prt m = b.prt m) ∧
      (t.prt (s.ownerOf c.plate)).burnDecisions = (s.prt (s.ownerOf c.plate)).burnDecisions + 1 ∧
      (c.le 28 1 = 0 → t.get fBURN_LAST_DECISION (c.plate / 8) 0 ≠ 2 ∧
        (t.prt (s.ownerOf c.plate)).burnFallbacks = (s.prt (s.ownerOf c.plate)).burnFallbacks))) ∧
  (c.opc = 0x45 → c.le 20 4 % 16 = 0 → c.le 24 4 % 16 = 0 →
    (x.decision = 2 → Runs (.burnApply c) c s (fun b t => UnitWork b t (fun _ => False))) ∧
    (x.decision ≠ 2 → (∀ i, i < safeRows c → clIn (c.trayAddr + i * stagedStride 0 (safeCols c)) (2 * safeCols c) ∧
        clIn (c.le 20 4 + 512 * i) 512 ∧ clIn (c.le 24 4 + 4 * i) 4) →
      Runs (.burnApply c) c s (fun b t => UnitWork b t (fun a => ∃ i, i < safeRows c ∧
        (atCl c.plate (c.trayAddr + i * stagedStride 0 (safeCols c)) (2 * safeCols c) a ∨ atCl c.plate (c.le 20 4 + 512 * i) 512 a ∨
          atCl c.plate (c.le 24 4 + 4 * i) 4 a))))) ∧
  (c.opc = 0x46 → c.le 20 4 % 16 = 0 → c.le 24 4 % 16 = 0 → 1 ≤ c.bits 2 0 8 → c.bits 2 0 8 ≤ 128 → s.drainIn c.plate (c.le 28 4) →
    ∀ r, r = s.drainAt c.plate (c.le 28 4) → ∀ w, s.clWRec c.plate (c.le 24 4) = .ok w →
    (∀ e, e < x.entries.length → e < x.static → clIn (c.le 20 4 + e * stagedStride 0 (safeCols c)) (2 * safeCols c)) →
    (∀ e j, e < x.entries.length → x.static ≤ e → j < safeCols c → s.weightIn c.plate w (x.entries.getD e (0, false)).1 j) →
    (c.bits 3 0 1 = 0 → scalesIn r (safeCols c)) →
    (∀ e i, e < c.bits 2 0 8 → i < safeRows c → clIn (c.trayAddr + e * safeRows c * 512 + 512 * i) 512) →
    (∀ i, i < safeRows c → clIn (r.burn + i * r.addStride) (4 * safeCols c)) →
    Runs (.burnProduct c) c s (fun b t => UnitWork b t (fun a => ∃ i, i < safeRows c ∧ atCl c.plate (r.burn + i * r.addStride) (4 * safeCols c) a)))

/-- R150, R155–R159, R161, R162, R166, R169: DMA. TRAY_COPY and TRAY_BCAST leave the bytes they carry at their destination, and signal
the destination semaphores they name; TRAY_GATHER fills the rows of absent entries with the poison pattern and the others with the entry's
bytes; TRAY_POWER starts a bank request on every bank it names. No other byte of memory changes. Completion of TRAY_COPY, TRAY_BCAST,
TRAY_GATHER and TRAY_POWER, in STATIC mode where the write is in time. -/
def Obligations.DmaCommandsRun : Prop :=
  ∀ (s : State) (c : PlateCmd), s.ready c →
  (c.opc = 0x58 → dmaOk c c.trayAddr = true → c.le 16 6 % 16 = 0 →
    ∀ src dst, (src, dst) = (if c.bits 22 0 1 = 1 then (trayAddr c.plate c.trayAddr, c.le 16 6) else (c.le 16 6, trayAddr c.plate c.trayAddr)) →
    s.dmaReadable (s.ownerOf c.plate) src (dmaLen c) → s.dmaWritable (s.ownerOf c.plate) dst (dmaLen c) →
    s.offLog dst (dmaLen c) → s.dsemReady c (c.bits 22 1 1) (c.le 23 1) dst → s.inTime c (c.le 26 4) dst →
    Runs (.trayCopy c) c s (fun b t => t.bytes dst (dmaLen c) = s.bytes src (dmaLen c) ∧
      MemWork { b with plates := t.plates } t (fun a => dst ≤ a ∧ a < dst + dmaLen c) ∧ onlySems b t ∧
      (c.bits 22 1 1 = 1 → s.staticMode c.plate = false →
        t.sem (trayPlate dst) (c.le 24 1) = min (b.sem (trayPlate dst) (c.le 24 1) + c.le 23 1) 65535) ∧
      (∀ q i, c.bits 22 1 1 = 0 ∨ q ≠ trayPlate dst ∨ i ≠ c.le 24 1 ∨ s.staticMode c.plate = true → t.sem q i = b.sem q i))) ∧
  (c.opc = 0x5A → dmaOk c c.trayAddr = true → dmaOk c (c.le 20 4) = true → c.le 16 2 ≤ 127 → 1 ≤ c.le 18 2 → c.le 16 2 + c.le 18 2 ≤ 128 →
    s.dmaReadable (s.ownerOf c.plate) (trayAddr c.plate c.trayAddr) (dmaLen c) →
    (∀ i, i < c.le 18 2 → s.granted (s.ownerOf c.plate) (trayAddr (c.le 16 2 + i) (c.le 20 4)) (dmaLen c) false = true ∧
      s.dmaWritable (s.ownerOf c.plate) (trayAddr (c.le 16 2 + i) (c.le 20 4)) (dmaLen c) ∧
      s.dsemReady c (c.bits 30 0 1) (c.le 25 1) (trayAddr (c.le 16 2 + i) (c.le 20 4))) →
    s.inTime c (c.le 26 4) (trayAddr (c.le 16 2) (c.le 20 4)) →
    Runs (.trayBcast c) c s (fun b t =>
      (∀ i, i < c.le 18 2 → t.tray (c.le 16 2 + i) (c.le 20 4) (dmaLen c) = s.tray c.plate c.trayAddr (dmaLen c)) ∧
      MemWork { b with plates := t.plates } t (inRows (trayAddr (c.le 16 2) (c.le 20 4)) trayWin (dmaLen c) (c.le 18 2)) ∧ onlySems b t ∧
      (∀ i, i < c.le 18 2 → c.bits 30 0 1 = 1 → s.staticMode c.plate = false →
        t.sem (c.le 16 2 + i) (c.le 24 1) = min (b.sem (c.le 16 2 + i) (c.le 24 1) + c.le 25 1) 65535) ∧
      (c.bits 30 0 1 = 0 → t.plates = b.plates))) ∧
  (c.opc = 0x59 → 1 ≤ c.bits 8 0 14 → 16 ≤ c.le 22 2 → c.le 22 2 ≤ 65520 → c.le 22 2 % 16 = 0 → c.le 16 6 % 16 = 0 → c.le 24 4 % 16 = 0 →
    c.trayAddr % 16 = 0 → c.trayAddr + (c.bits 8 0 14 - 1) * roundUp (c.le 22 2) 64 + c.le 22 2 ≤ trayWin →
    c.le 24 4 + 4 * c.bits 8 0 14 ≤ trayWin → s.dmaReadable (s.ownerOf c.plate) (trayAddr c.plate (c.le 24 4)) (4 * c.bits 8 0 14) →
    (∀ v, v < countOf (c.bits 8 14 18) 18 → s.dmaReadable (s.ownerOf c.plate) (c.le 16 6 + v * c.le 22 2) (c.le 22 2)) →
    (∀ i, i < c.bits 8 0 14 → s.dmaWritable (s.ownerOf c.plate) (trayAddr c.plate c.trayAddr + i * roundUp (c.le 22 2) 64) (c.le 22 2)) →
    s.inTime c (c.le 28 4) (trayAddr c.plate c.trayAddr) →
    Runs (.trayGather c) c s (fun b t =>
      (∀ i v, i < c.bits 8 0 14 → v = s.le (trayAddr c.plate (c.le 24 4) + 4 * i) 4 →
        (countOf (c.bits 8 14 18) 18 ≤ v → t.bytes (trayAddr c.plate c.trayAddr + i * roundUp (c.le 22 2) 64) (c.le 22 2) =
          (List.range (c.le 22 2)).map (fun k => if k % 2 = 0 then 0xC0 else 0x7F)) ∧
        (v < countOf (c.bits 8 14 18) 18 → s.offLog (c.le 16 6 + v * c.le 22 2) (c.le 22 2) →
          (∀ k, k < c.bits 8 0 14 → apart (c.le 16 6 + v * c.le 22 2) (c.le 22 2)
            (trayAddr c.plate c.trayAddr + k * roundUp (c.le 22 2) 64) (c.le 22 2)) →
          t.bytes (trayAddr c.plate c.trayAddr + i * roundUp (c.le 22 2) 64) (c.le 22 2) = s.bytes (c.le 16 6 + v * c.le 22 2) (c.le 22 2))) ∧
      MemWork b t (inRows (trayAddr c.plate c.trayAddr) (roundUp (c.le 22 2) 64) (c.le 22 2) (c.bits 8 0 14)))) ∧
  (c.opc = 0x5C → c.le 24 1 ≤ 1 →
    Runs (.trayPower c) c s (fun b t =>
      Beside { b with banks := t.banks } t [fldAddr fTRAY_PWR_AWAKE_AWAKE c.plate 0, fldAddr fTRAY_PWR_ASLEEP_ASLEEP c.plate 0] ∧
      (∀ k, k < 64 → (c.le 16 8).testBit k = true → s.bankMove c.plate k = none →
        (c.le 24 1 = 0 → s.pinned c.plate k = false → s.bankAwake c.plate k = true →
          t.bankAwake c.plate k = false ∧ t.bankMove c.plate k = some { closing := true, held := none }) ∧
        (c.le 24 1 = 1 → s.bankAsleep c.plate k = true →
          t.bankAsleep c.plate k = false ∧ t.bankMove c.plate k = some { closing := false, held := none })) ∧
      (∀ k, k < 64 → (c.le 16 8).testBit k = false → t.bankAwake c.plate k = s.bankAwake c.plate k ∧
        t.bankAsleep c.plate k = s.bankAsleep c.plate k ∧ t.bankMove c.plate k = s.bankMove c.plate k)))

/-- R160: TRAY_FILL writes the 32-bit PATTERN of bytes 16–19 repeatedly over LEN bytes at TRAY_ADDR, where SHAPE bits 23:0 hold LEN as in
TRAY_COPY; bytes 20–31 may hold anything. No other byte of memory changes. -/
def Obligations.TrayFillRepeatsItsPattern : Prop :=
  ∀ (s : State) (c : PlateCmd) len, s.ready c → c.opc = 0x5B → len = c.bits 8 0 24 → 16 ≤ len → len ≤ 16777200 → len % 16 = 0 →
  c.trayAddr % 16 = 0 → c.trayAddr + len ≤ trayWin → s.dmaWritable (s.ownerOf c.plate) (trayAddr c.plate c.trayAddr) len →
  Runs (.trayFill c) c s (fun b t =>
    (∀ i, i < len → t.byte (trayAddr c.plate c.trayAddr + i) = (c.le 16 4 / 256 ^ (i % 4)) % 256) ∧ t.regs = b.regs ∧
    UnitWork b t (fun a => trayAddr c.plate c.trayAddr ≤ a ∧ a < trayAddr c.plate c.trayAddr + len))

/-- R154, R173–R213: the sparse engine and the attention mover. DODGE_SPMM flushes its sums into the groups it names, for a tile that passes
every check; DODGE_CHECK writes the first failed check of a tile, or none; ENL_FETCH writes the codes and scales of the pages listed,
padded; ENL_DEVELOP the probability tiles and the state of each row; ENL_MERGE the merged rows. No other byte of memory changes. Completion
of DODGE_SPMM, DODGE_CHECK, ENL_FETCH, ENL_DEVELOP and ENL_MERGE, where their operands lie in whole trays of a cluster that is not in SPLIT
mode, each run within one window. -/
def Obligations.SparseAndAttentionCommandsRun : Prop :=
  ∀ (s : State) (c : PlateCmd), s.ready c → (∀ q, q / 8 = c.plate / 8 → s.wholeTray q ∧ s.splitMode q = false) →
  (c.opc = 0x60 → 1 ≤ c.cols → c.cols ≤ 256 → c.trayAddr % 64 = 0 → 1 ≤ c.rows → c.rows ≤ 256 → 1 ≤ c.le 24 4 → c.le 24 4 ≤ 65536 →
    c.bits 16 0 2 ≤ 2 → c.le 18 2 % 16 = 0 → c.le 20 4 % 16 = 0 → c.rows * c.cols ≤ 16384 → c.rows * c.le 24 4 ≤ 262144 → c.packed = false →
    groupsInRange c = true → groupsOpen (s.plate c.plate) c = true → clIn c.trayAddr 64 →
    ∀ h, h = tileHdr (s.bytes (clAt c.plate c.trayAddr) 64) → hdrChecks h c.cols (c.le 24 4) (c.trayAddr % 2 ^ 23) false = none →
    ∀ bs, bs = s.bytes (clAt c.plate c.trayAddr) h.total → bodyChecks h bs = none →
    (c.bits 16 0 2 = 2 → c.bits 16 2 4 ≠ 0 → s.a4gAt c.plate (c.bits 16 2 4) + 16 ≤ trayWin) →
    ∀ tbl, tbl = (if c.bits 16 0 2 ≠ 2 then [] else if c.bits 16 2 4 = 0 then g16Table
      else a4gTableOf (s.tray c.plate (s.a4gAt c.plate (c.bits 16 2 4)) 16)) →
    ∀ len, len = (if c.bits 16 0 2 = 0 then c.le 24 4 else ceilDiv (c.le 24 4) 2) →
    (∀ i, i < c.rows → clIn (c.le 20 4 + i * c.le 18 2) len) →
    Runs (.dodgeSpmm c) c s (fun b t => UnitWork { b with plates := t.plates } t (fun _ => False) ∧ (∀ q, q ≠ c.plate → t.plate q = b.plate q) ∧
      (∀ k, k ∉ groupKeys false c.first c.rows → (t.plate c.plate).group k = (s.plate c.plate).group k) ∧
      (∀ k ∈ groupKeys false c.first c.rows, ∀ g, (s.plate c.plate).group k = some g →
        ∃ g', (t.plate c.plate).group k = some g' ∧ g'.narrow = g.narrow ∧ g'.strips = g.strips ∧
          (∀ slot j, slot < 16 → c.cols ≤ j → j < 256 →
            smapGet (fun _ => 0) (slot * 256 + j) g'.wide = smapGet (fun _ => 0) (slot * 256 + j) g.wide) ∧
          (c.rows = 1 → ∀ j, j < c.cols → smapGet (fun _ => 0) j g'.wide = wideEncode 40 (widePromote 40
            (wideDecode 40 (smapGet (fun _ => 0) j g.wide)) (.fin ((tileRow h bs j).foldl (fun a e =>
              a + tileVal h ((bs.drop h.valOff).take h.valBytes) e.2 *
                (rowCodes (c.bits 16 0 2) (c.le 24 4) tbl (s.bytes (clAt c.plate (c.le 20 4)) len)).getD e.1 0) 0))))))) ∧
  (c.opc = 0x61 → 1 ≤ c.rows → c.rows ≤ 256 → 1 ≤ c.cols → c.cols ≤ 256 → c.trayAddr % 64 = 0 → c.le 16 4 % 16 = 0 → 1 ≤ c.le 20 4 →
    c.le 20 4 ≤ 65536 → clIn c.trayAddr 64 → clIn (c.le 16 4) 16 → ∀ h, h = tileHdr (s.bytes (clAt c.plate c.trayAddr) 64) →
    ∀ f : Failed, f = (hdrChecks h c.cols (c.le 20 4) (c.trayAddr % 2 ^ 23) true).getD
      (if h.format = 0 then (0, 0, 0) else (bodyChecks h (s.bytes (clAt c.plate c.trayAddr) h.total)).getD (0, 0, 0)) →
    Runs (.dodgeCheck c) c s (fun b t => UnitWork b t (atCl c.plate (c.le 16 4) 16) ∧
      t.le (clAt c.plate (c.le 16 4)) 2 = f.2.2 % 2 ^ 16 ∧ t.le (clAt c.plate (c.le 16 4) + 2) 1 = f.1 % 256 ∧
      t.le (clAt c.plate (c.le 16 4) + 4) 4 = f.2.1 % 2 ^ 32 ∧ t.le (clAt c.plate (c.le 16 4) + 8) 4 = h.nnz % 2 ^ 32)) ∧
  (c.opc = 0x70 → ∀ n, n = s.ownerOf c.plate → 1 ≤ c.bits 8 0 16 → c.bits 8 0 16 ≤ 32768 →
    c.bits 2 0 8 < s.get fPART_LAT_CFG_KVHEADS n 0 → 1 ≤ c.le 20 2 → c.le 20 2 ≤ s.get fPART_LAT_CFG_DIM n 0 →
    c.trayAddr % 16 = 0 → c.le 16 4 % 16 = 0 → c.le 24 4 % 16 = 0 → clIn (c.le 16 4) (4 * ceilDiv (c.bits 8 0 16) 64) →
    (∀ i, i < ceilDiv (c.bits 8 0 16) 64 → s.pageIn n (s.le (clAt c.plate (c.le 16 4) + 4 * i) 4) (c.bits 2 0 8)
      (decide (c.bits 22 0 1 = 1)) (decide (c.bits 22 1 1 = 1))) →
    ∀ pad, pad = roundUp (c.bits 8 0 16) (if c.bits 22 0 1 = 1 then 160 else 256) →
    ∀ size, size = (if c.bits 22 0 1 = 1 then pad / 160 * (c.le 20 2 * ((if c.bits 22 1 1 = 1 then 4 else 8) * 20))
      else pad * codeStride (c.le 20 2) (decide (c.bits 22 1 1 = 1))) →
    clIn c.trayAddr size → clIn (c.le 24 4) (2 * pad) → s.inTime c (c.le 28 4) (trayAddr c.plate 0) →
    Runs (.enlFetch c) c s (fun b t =>
      ((∀ i, i < ceilDiv (c.bits 8 0 16) 64 → s.le (clAt c.plate (c.le 16 4) + 4 * i) 4 = none32) →
        ∀ j, j < 2 * pad → t.mem.get (clAt c.plate (c.le 24 4) + j) = 0) ∧
      MemWork b t (fun a => atCl c.plate c.trayAddr size a ∨ atCl c.plate (c.le 24 4) (2 * pad) a))) ∧
  (c.opc = 0x71 → 1 ≤ c.bits 8 0 9 → c.bits 8 0 9 ≤ 256 → 1 ≤ c.bits 8 9 16 → c.bits 8 9 16 ≤ 32768 → c.trayAddr % 16 = 0 →
    c.le 16 4 % 16 = 0 → c.le 20 4 % 16 = 0 → c.le 24 4 % 16 = 0 → tauOk (c.le 28 4) = true → clIn (c.le 24 4) (16 * c.bits 8 0 9) →
    ∀ valid : Nat → Nat, (∀ i, valid i = min (s.le (clAt c.plate (c.le 24 4) + 16 * i) 4 - 32768 * c.bits 2 0 3) (c.bits 8 9 16)) →
    ∀ top, top = ((List.range (c.bits 8 0 9)).map valid).foldl max 0 →
    clIn c.trayAddr (4 * ceilDiv top 256) → clIn (c.le 16 4) (2 * top) → clIn (c.le 20 4) (4 * ceilDiv (c.bits 8 9 16) 160) →
    ∀ sheet tile : Nat → Nat, (∀ i, sheet i = s.le (clAt c.plate c.trayAddr + 4 * i) 4) → (∀ i, tile i = s.le (clAt c.plate (c.le 20 4) + 4 * i) 4) →
    (∀ q, q < ceilDiv top 256 → sheet q % 16 = 0 ∧ ∀ i, i < c.bits 8 0 9 → clIn (sheet q + 1024 * i) (4 * min 256 (top - 256 * q))) →
    (∀ q, q < ceilDiv (c.bits 8 9 16) 160 → tile q % 16 = 0 ∧ clIn (tile q) (160 * c.bits 8 0 9)) →
    Runs (.enlDevelop c) c s (fun b t => UnitWork b t (fun a =>
        (∃ q, q < ceilDiv (c.bits 8 9 16) 160 ∧ atCl c.plate (tile q) (160 * c.bits 8 0 9) a) ∨
        ∃ i, i < c.bits 8 0 9 ∧ atCl c.plate (c.le 24 4 + 16 * i + 4) 12 a) ∧
      ∀ i d, i < c.bits 8 0 9 → d = developRow (c.le 28 4) (decide (c.bits 2 3 1 = 1))
          ((List.range (valid i)).map (fun k => s.le (clAt c.plate (sheet (k / 256) + 1024 * i) + 4 * (k % 256)) 4))
          ((List.range (valid i)).map (fun k => fconv bf16 fp32 (s.le (clAt c.plate (c.le 16 4) + 2 * k) 2))) →
        t.le (clAt c.plate (c.le 24 4) + 16 * i + 4) 4 = d.m % 2 ^ 32 ∧ t.le (clAt c.plate (c.le 24 4) + 16 * i + 8) 4 = d.l % 2 ^ 32 ∧
        t.le (clAt c.plate (c.le 24 4) + 16 * i + 12) 4 = d.sp % 2 ^ 32)) ∧
  (c.opc = 0x72 → 1 ≤ c.bits 8 0 9 → c.bits 8 0 9 ≤ 256 → 1 ≤ c.bits 8 9 9 → c.bits 8 9 9 ≤ 256 → 2 ≤ c.bits 2 0 4 → c.bits 2 0 4 ≤ 8 →
    c.bits 2 4 2 ≤ 2 → c.trayAddr % 16 = 0 → c.le 16 4 % 16 = 0 → c.le 20 4 % 16 = 0 → c.le 24 4 % 16 = 0 → tauOk (c.le 28 4) = true →
    (∀ k i, k < c.bits 2 0 4 → i < c.bits 8 0 9 → clIn (c.le 16 4 + 4096 * k + 16 * i) 16 ∧
      clIn (c.trayAddr + k * c.le 20 4 + i * roundUp (4 * c.bits 8 9 9) 64) (4 * c.bits 8 9 9)) →
    ∀ out, out = fmtSize (c.bits 2 4 2) * c.bits 8 9 9 → ∀ dest : Nat → Nat, (∀ i, dest i = c.le 24 4 + i * stagedStride (c.bits 2 4 2) (c.bits 8 9 9)) →
    (∀ i, i < c.bits 8 0 9 → clIn (dest i) out) →
    Runs (.enlMerge c) c s (fun b t => UnitWork b t (fun a => ∃ i, i < c.bits 8 0 9 ∧ atCl c.plate (dest i) out a) ∧
      ∀ i, i < c.bits 8 0 9 → t.bytes (clAt c.plate (dest i)) out = ((mergeRow (c.le 28 4) (c.bits 8 9 9) ((List.range (c.bits 2 0 4)).map (fun k =>
        (s.le (clAt c.plate (c.le 16 4 + 4096 * k + 16 * i) + 4) 4, s.le (clAt c.plate (c.le 16 4 + 4096 * k + 16 * i) + 8) 4,
          (List.range (c.bits 8 9 9)).map (fun j =>
            s.le (clAt c.plate (c.trayAddr + k * c.le 20 4 + i * roundUp (4 * c.bits 8 9 9) 64) + 4 * j) 4))))).1.map (outVal (c.bits 2 4 2))).flatten))

/-- R214–R216, R231, R232, R236–R240: LAT_PLIST writes the page numbers of a request's blocks; LAT_WRITE stores the quantised vectors of each
position in its request's page and raises what the request has written; LOUPE_SAMPLE writes the sampled tokens of each run of rows and keeps
them for the commit. No other byte of memory changes. Completion of LAT_PLIST and LAT_WRITE, where every block named has its frame (and,
for LAT_WRITE, in a partition that mirrors no cache), and of LOUPE_SAMPLE, with any number of segments, rows and drafts. -/
def Obligations.LatentAndLoupeCommandsRun : Prop :=
  ∀ (s : State) (c : PlateCmd) n, s.ready c → n = s.ownerOf c.plate → (∀ q, q / 8 = c.plate / 8 → s.wholeTray q ∧ s.splitMode q = false) →
  c.trayAddr % 16 = 0 →
  (c.opc = 0x80 → 1 ≤ c.bits 8 0 19 → c.bits 8 0 19 ≤ 262144 → c.bits 2 0 8 < s.layers n → clIn c.trayAddr (4 * ceilDiv (c.bits 8 0 19) 64) →
    s.slotInRange n (c.le 16 4) = true → (s.slot (c.le 16 4)).state = 1 →
    (∀ i, i < ceilDiv (c.bits 8 0 19) 64 → ((s.slot (c.le 16 4)).frameOf i).isSome = true) →
    Runs (.latPlist c) c s (fun b t =>
      t = { b with slots := t.slots, ctxs := t.ctxs, mem := t.mem, lineErr := t.lineErr, tags := t.tags } ∧
      t.slot (c.le 16 4) = { s.slot (c.le 16 4) with served := true, everRun := true } ∧
      (∀ i, i < ceilDiv (c.bits 8 0 19) 64 → t.le (clAt c.plate c.trayAddr + 4 * i) 4 =
        s.pageOf n ((s.slot (c.le 16 4)).frames.getD i 0) (c.bits 2 0 8) % 2 ^ 32) ∧
      (∀ a, ¬ atCl c.plate c.trayAddr (4 * ceilDiv (c.bits 8 0 19) 64) a → t.mem.get a = s.mem.get a))) ∧
  (c.opc = 0x81 → c.le 26 1 < s.layers n → c.le 16 4 % 16 = 0 → c.le 20 4 % 16 = 0 → c.le 24 2 % 16 = 0 → s.mirrorsCache n = false →
    ∀ rows, rows = countOf (c.bits 8 0 12) 12 → clIn (c.le 20 4) (8 * rows) →
    ∀ w, w = (if c.bits 27 0 1 = 1 then 4 else 2) → ∀ dim, dim = s.get fPART_LAT_CFG_DIM n 0 →
    ∀ heads, heads = s.get fPART_LAT_CFG_KVHEADS n 0 → ∀ q pos f page : Nat → Nat, (∀ i, q i = s.le (clAt c.plate (c.le 20 4) + 8 * i) 4) →
    (∀ i, pos i = s.le (clAt c.plate (c.le 20 4) + 8 * i + 4) 4) → (∀ i, page i = s.pageAddr n (s.pageOf n (f i) (c.le 26 1))) →
    (∀ i, i < rows → clIn (c.trayAddr + i * c.le 24 2) (heads * dim * w) ∧ clIn (c.le 16 4 + i * c.le 24 2) (heads * dim * w) ∧
      s.slotInRange n (q i) = true ∧ (s.slot (q i)).state = 1 ∧ (s.slot (q i)).len ≤ pos i ∧ pos i < 262144 ∧
      (s.slot (q i)).frameOf (pos i / 64) = some (f i) ∧ s.held (page i) (s.pageBytes n) = false ∧ s.positionBad n (f i) (pos i) (c.le 26 1) = none) →
    Runs (.latWrite c) c s (fun b t =>
      MemWork { b with slots := t.slots, ctxs := t.ctxs } t (fun a => ∃ i, i < rows ∧ page i ≤ a ∧ a < page i + s.pageBytes n) ∧
      (∀ x, (∀ i, i < rows → x ≠ q i) → t.slot x = b.slot x) ∧
      (rows = 1 → t.slot (q 0) = { s.slot (q 0) with served := true, everRun := true, wrote := max (s.slot (q 0)).wrote (pos 0 + 1) } ∧
        (s.offLog (page 0) (s.pageBytes n) →
          ∀ vec : Nat → Nat → List FVal, (∀ a h, vec a h = (List.range dim).map (fun j =>
            fdecode (if c.bits 27 0 1 = 1 then fp32 else bf16) (s.le (clAt c.plate a + w * (h * dim + j)) w))) →
          ∀ h k v, h < heads → k = cacheQuant (if s.get fPART_LAT_CFG_K4 n 0 = 1 then 4 else 8) (vec c.trayAddr h) →
          v = cacheQuant (if s.get fPART_LAT_CFG_V4 n 0 = 1 then 4 else 8) (vec (c.le 16 4) h) →
          ∀ e ∈ List.zip (s.headPlaces n (page 0) h (pos 0))
            [if s.get fPART_LAT_CFG_K4 n 0 = 1 then packNibbles k.1 else k.1, leBytes 2 k.2.1,
              if s.get fPART_LAT_CFG_V4 n 0 = 1 then packNibbles v.1 else v.1, leBytes 2 v.2.1],
            t.bytes e.1.1 e.1.2 = e.2.map (fun x => x % 256))))) ∧
  (c.opc = 0x88 → 1 ≤ c.le 20 4 → c.le 20 4 ≤ 128 → 1 ≤ c.le 24 4 → c.le 24 4 ≤ 262144 → c.le 16 4 % 16 = 0 → c.le 28 4 % 16 = 0 →
    ∀ rows, rows = countOf (c.bits 8 0 12) 12 → clIn c.trayAddr (8 * rows) → clIn (c.le 16 4) (16 * c.le 20 4) → clIn (c.le 28 4) (4 * rows) →
    ∀ ents, ents = (List.range rows).map (fun i => (s.le (clAt c.plate c.trayAddr + 8 * i) 4, s.le (clAt c.plate c.trayAddr + 8 * i + 4) 4)) →
    ∀ segs, segs = (List.range (c.le 20 4)).map (fun i => (s.le (clAt c.plate (c.le 16 4) + 16 * i) 6,
      s.le (clAt c.plate (c.le 16 4) + 16 * i + 8) 4, s.le (clAt c.plate (c.le 16 4) + 16 * i + 12) 4)) →
    segs.foldl (fun a g => a + g.2.1) 0 = c.le 24 4 →
    (∀ g ∈ segs, ∀ i, i < rows → s.inTrays n (g.1 + i * g.2.2) (4 * g.2.1) = true ∧ s.sleepAt (g.1 + i * g.2.2) (4 * g.2.1) = none ∧
      s.badLine (g.1 + i * g.2.2) (4 * g.2.1) = none ∧ s.held (g.1 + i * g.2.2) (4 * g.2.1) = false) →
    ∀ runs, sampleRuns ents none [] [] = some runs → (runs.map Prod.fst).Nodup →
    (∀ r ∈ runs, r.2.length ≤ 15 ∧ s.slotInRange n r.1 = true ∧ (s.slot r.1).state = 1) →
    Runs (.loupeSample c) c s (fun b t => ∃ smp : List Sampled, (t.prt n).sampled = (s.prt n).sampled ++ smp ∧
      smp.map (fun x => (x.slot, x.drafts)) = runs ∧
      (∀ x ∈ smp, x.tokens.length = x.drafts.length + 1 ∧ x.accepted = acceptCount x.tokens x.drafts ∧
        (t.slot x.slot).served = true ∧
        (t.slot x.slot).endCode = if x.poison then statusMax (s.slot x.slot).endCode stPoison else (s.slot x.slot).endCode) ∧
      (∀ j, j < rows → t.le (clAt c.plate (c.le 28 4) + 4 * j) 4 = ((smp.map (fun x => x.tokens)).flatten.getD j 0) % 2 ^ 32) ∧
      (∀ x, x ∉ runs.map Prod.fst → t.slot x = b.slot x) ∧ (∀ m, t.prt m = { b.prt m with sampled := (t.prt m).sampled }) ∧
      (∀ q x, runs = [(q, [])] → x = s.slot q → smp.map (fun y => y.tokens) = [[(sampleRow
        (segs.map (fun g => (List.range g.2.1).map (fun j => s.le (g.1 + 4 * j) 4))).flatten (s.penaltyCount x.counts [])
        x.temp x.topK x.topP x.minP x.rep x.pres x.freq (streamDraw (s.prt n).rngKey x.stream (s.streamCtr n x.stream) 0)
        (streamDraw (s.prt n).rngKey x.stream (s.streamCtr n x.stream) 1)).getD 0]]) ∧
      UnitWork { b with slots := t.slots, ctxs := t.ctxs, parts := t.parts } t (atCl c.plate (c.le 28 4) (4 * rows))))

/-- R369–R378, R381–R384, R388: the Carrier's commands. CARR_WAIT completes once every rank's batch is there, and else waits. In a
partition of one rank CARR_DISPATCH writes the gate records and lands the rows in the dispatch zone, and CARR_RETURN lands the outputs in
the return zone. CARR_COMBINE waits for every rank's outputs and writes the combined rows; CARR_REDUCE, at a root without children, the
reduced segment. HAL_LOAD loads a table into a slot with its epoch, which can become the current one of its class. No other byte of memory
changes. Completion of CARR_WAIT, CARR_DISPATCH, CARR_RETURN, CARR_COMBINE, CARR_REDUCE and HAL_LOAD in those cases. -/
def Obligations.CarrierCommandsRun : Prop :=
  ∀ (s : State) (c : PlateCmd) n, s.ready c → n = s.ownerOf c.plate → (∀ q, q / 8 = c.plate / 8 → s.wholeTray q) →
  (c.opc = 0x91 → c.le 16 1 ≤ 1 → (s.plate c.plate).boundary = true → s.layerReady n (carrLayer c) →
    (s.allIn n (c.le 16 1) (carrLayer c) = true → Runs (.carrWait c) c s (fun b t => MemWork b t (fun _ => False))) ∧
    (s.allIn n (c.le 16 1) (carrLayer c) = false → (s.plate c.plate).ctx = none → Waits (.carrWait c) c s .carrier)) ∧
  (∀ e, e = s.layerRaw n (carrLayer c) → s.layerReady n (carrLayer c) →
    (c.opc = 0x90 → s.nranks n = 1 → s.selfRank n = 0 → c.trayAddr % 16 = 0 → c.le 16 6 % 16 = 0 → c.le 22 2 % 16 = 0 → c.le 24 6 % 16 = 0 →
      carrLayer c ∉ (s.carrOf n).dispatched → s.canRead n (s.get fCARR_HOME_ADDR n 0) (4 * e.nexp) →
      (∀ r, r < countOf (c.bits 8 0 12) 12 → s.canRead n (c.le 24 6 + r * roundUp (4 * e.nexp) 16) (4 * e.nexp) ∧
        s.canRead n (c.le 16 6 + r * c.le 22 2) e.rowBytes) →
      clIn c.trayAddr (countOf (c.bits 8 0 12) 12 * e.k * 8) →
      (∀ a, s.get fCARR_LAYERS_ADDR n 0 + 64 * carrLayer c ≤ a → a < s.get fCARR_LAYERS_ADDR n 0 + 64 * carrLayer c + 64 →
        ¬ s.inbound n a ∧ isTray a = false ∧ s.inLogRing a = false) →
      Runs (.carrDispatch c) c s (fun b t => carrLayer c ∈ (t.carrOf n).dispatched ∧ ((t.carrOf n).inBatch 0 (carrLayer c) 0).complete = true ∧
        CarrierWork b t n (fun a => s.inbound n a ∨ atCl c.plate c.trayAddr (countOf (c.bits 8 0 12) 12 * e.k * 8) a))) ∧
    (c.opc = 0x92 → s.nranks n = 1 → s.selfRank n = 0 → c.le 16 6 % 16 = 0 → s.inInbound n (c.le 16 6) (zoneRows e 1 e.outBytes) = true →
      s.canRead n (countAddr e 1 0 0) (2 * e.nlocal) →
      (∀ x j, x < e.nlocal → j < e.cap → s.canRead n (c.le 16 6 + (x * e.cap + j) * e.outBytes) e.outBytes) →
      Runs (.carrReturn c) c s (fun b t => ((t.carrOf n).inBatch 1 (carrLayer c) 0).complete = true ∧ t.parts = b.parts ∧
        CarrierWork b t n (s.inbound n))) ∧
    (c.opc = 0x93 → c.le 24 1 ≤ 1 → c.le 16 6 % 16 = 0 → c.le 22 2 % 16 = 0 → c.trayAddr % 16 = 0 → (s.plate c.plate).boundary = true →
      (s.allIn n 1 (carrLayer c) = false → (s.plate c.plate).ctx = none → Waits (.carrCombine c) c s .carrier) ∧
      (s.allIn n 1 (carrLayer c) = true → clIn c.trayAddr (countOf (c.bits 8 0 12) 12 * e.k * 8) →
        ∀ slot : Nat → Nat × Nat × Nat, (∀ i, slot i = (s.le (clAt c.plate c.trayAddr + 8 * i) 2, s.le (clAt c.plate c.trayAddr + 8 * i + 2) 2,
          s.le (clAt c.plate c.trayAddr + 8 * i + 4) 4)) →
        ∀ from_ : Nat → Nat, (∀ i, from_ i = e.rzone + ((slot i).1 * e.cap + (slot i).2.1) * e.outBytes) →
        (∀ i, i < countOf (c.bits 8 0 12) 12 * e.k → (slot i).2.1 ≠ 0xFFFF → s.canRead n (from_ i) e.outBytes) →
        (∀ r, r < countOf (c.bits 8 0 12) 12 → s.canWrite n (c.le 16 6 + r * c.le 22 2) (e.hidden * (if c.le 24 1 = 1 then 4 else 2))) →
        Runs (.carrCombine c) c s (fun b t =>
          MemWork b t (inRows (c.le 16 6) (c.le 22 2) (e.hidden * (if c.le 24 1 = 1 then 4 else 2)) (countOf (c.bits 8 0 12) 12)) ∧
          (countOf (c.bits 8 0 12) 12 = 1 → s.offLog (c.le 16 6) (e.hidden * (if c.le 24 1 = 1 then 4 else 2)) →
            (∀ i, i < e.k → s.offLog (from_ i) e.outBytes) →
            t.bytes (c.le 16 6) (e.hidden * (if c.le 24 1 = 1 then 4 else 2)) = ((List.range e.hidden).map (fun i => outVal (c.le 24 1)
              (if (List.range e.k).any (fun j => visNan (fdecode fp32 (slot j).2.2)) then fnan
                else combineValue (((List.range e.k).filter (fun j => decide ((slot j).2.1 ≠ 0xFFFF))).map (fun j =>
                  ((slot j).2.2, s.bytes (from_ j) e.outBytes))) (if e.retFp32 then 4 else 2) i))).flatten))))) ∧
  (c.opc = 0x94 → 1 ≤ c.bits 8 0 16 → c.le 16 6 % 16 = 0 → c.le 22 6 % 16 = 0 → c.le 28 1 ≤ 15 → (s.plate c.plate).boundary = true →
    s.isRoot n = true → s.children n = [] → (∀ r, r < s.nranks n → s.offLog (s.get fCARR_TREE_ADDR n 0 + 2 * r) 2) →
    (∀ r ∈ (s.carrOf n).reduced, r.1 ≠ reduceSeg c) → s.canRead n (c.le 16 6) (1056 * c.bits 8 0 16) →
    s.canWrite n (c.le 22 6) (1056 * c.bits 8 0 16) → s.offLog (c.le 22 6) (1056 * c.bits 8 0 16) →
    Runs (.carrReduce c) c s (fun b t => (∃ r ∈ (t.carrOf n).reduced, r.1 = reduceSeg c ∧ ofBytes r.2 = t.bytes (c.le 22 6) (1056 * c.bits 8 0 16)) ∧
      onlyBound b t n ∧ CarrierWork b t n (fun a => c.le 22 6 ≤ a ∧ a < c.le 22 6 + 1056 * c.bits 8 0 16))) ∧
  (c.opc = 0x95 → c.le 16 1 ≤ 14 → c.trayAddr % 16 = 0 → clIn c.trayAddr 256 → halValid (s.bytes (clAt c.plate c.trayAddr) 256) = true →
    s.halBusy n (4 * c.le 16 1 + c.bits 17 0 2) = false →
    Runs (.halLoad c) c s (fun b t => MemWork { b with carr := t.carr, regs := t.regs } t (fun _ => False) ∧
      (∀ a, bookkeeping a = false → a ∉ memRegs → a ≠ fldAddr fCARR_STAT_OUT_USED_4K n 0 → a ≠ fldAddr fHAL_SLOTS_CUR n 0 →
        a ≠ fldAddr fHAL_EPOCH_EPOCHS n (c.le 16 1) → t.reg a = b.reg a) ∧
      t.halTable n (4 * c.le 16 1 + c.bits 17 0 2) = s.bytes (clAt c.plate c.trayAddr) 256 ∧
      (∀ k, k ≠ 4 * c.le 16 1 + c.bits 17 0 2 → t.halTable n k = s.halTable n k) ∧
      t.halEpoch n (4 * c.le 16 1 + c.bits 17 0 2) = c.le 18 2 ∧
      (c.bits 17 2 1 = 1 → t.halCurrent n (c.le 16 1) = some (4 * c.le 16 1 + c.bits 17 0 2)) ∧
      (c.bits 17 2 1 = 0 → t.halCurrent n (c.le 16 1) = s.halCurrent n (c.le 16 1))))
end

