-- ==== Sys2Proof/Laws/SMap.lean ====
section
/-! SUPPORT. SMap: what every read of a sparse map gives after a write, and that writes keep the canonical form. -/

namespace Sys2Proof.Machine

/-- Looking up a key by walking the map, as a reader of the list would. -/
theorem smapGet_erase_same {α : Type} (d : Nat → α) (k : Nat) (m : SMap α) : smapGet d k (smapErase k m) = d k := by
  induction m with
  | nil => rfl
  | cons p m ih =>
    obtain ⟨j, v⟩ := p
    by_cases h : j = k
    · simp only [smapErase, h, if_true, ih]
    · simp only [smapErase, if_neg h, smapGet, ih]

theorem smapGet_erase_ne {α : Type} (d : Nat → α) {j k : Nat} (h : k ≠ j) (m : SMap α) :
    smapGet d j (smapErase k m) = smapGet d j m := by
  induction m with
  | nil => rfl
  | cons p m ih =>
    obtain ⟨i, v⟩ := p
    by_cases hi : i = k
    · have hj : i ≠ j := fun e => h (hi ▸ e)
      simp only [smapErase, if_pos hi, smapGet, if_neg hj, ih]
    · by_cases hj : i = j
      · simp only [smapErase, if_neg hi, smapGet, if_pos hj]
      · simp only [smapErase, if_neg hi, smapGet, if_neg hj, ih]

/-- No key equal to `k` is listed. -/
theorem smapErase_free {α : Type} (k : Nat) (m : SMap α) : ∀ p ∈ smapErase k m, p.1 ≠ k := by
  induction m with
  | nil => intro p hp; cases hp
  | cons q m ih =>
    obtain ⟨j, v⟩ := q
    by_cases h : j = k
    · simpa only [smapErase, if_pos h] using ih
    · intro p hp
      simp only [smapErase, if_neg h, List.mem_cons] at hp
      rcases hp with rfl | hp
      · exact h
      · exact ih p hp

theorem smapGet_insert_same {α : Type} (d : Nat → α) (k : Nat) (v : α) (m : SMap α) (hm : ∀ p ∈ m, p.1 ≠ k) :
    smapGet d k (smapInsert k v m) = v := by
  induction m with
  | nil => simp only [smapInsert, smapGet, if_true]
  | cons q m ih =>
    obtain ⟨j, w⟩ := q
    have hj : j ≠ k := hm (j, w) (List.mem_cons_self ..)
    by_cases h : k < j
    · simp only [smapInsert, if_pos h, smapGet, if_true]
    · simp only [smapInsert, if_neg h, smapGet, if_neg hj]
      exact ih (fun p hp => hm p (List.mem_cons_of_mem _ hp))

theorem smapGet_insert_ne {α : Type} (d : Nat → α) {j k : Nat} (h : k ≠ j) (v : α) (m : SMap α) :
    smapGet d j (smapInsert k v m) = smapGet d j m := by
  induction m with
  | nil => simp only [smapInsert, smapGet, if_neg h]
  | cons q m ih =>
    obtain ⟨i, w⟩ := q
    by_cases hi : k < i
    · simp only [smapInsert, if_pos hi, smapGet, if_neg h]
    · simp only [smapInsert, if_neg hi, smapGet, ih]

/-- A key that has been set reads as what was set. -/
@[simp] theorem smapGet_set_same {α : Type} [DecidableEq α] (d : Nat → α) (k : Nat) (v : α) (m : SMap α) :
    smapGet d k (smapSet d k v m) = v := by
  unfold smapSet
  split
  · rename_i h; rw [smapGet_erase_same, h]
  · exact smapGet_insert_same d k v _ (smapErase_free k m)

/-- Every other key reads as before. -/
theorem smapGet_set_ne {α : Type} [DecidableEq α] (d : Nat → α) {j k : Nat} (h : k ≠ j) (v : α) (m : SMap α) :
    smapGet d j (smapSet d k v m) = smapGet d j m := by
  unfold smapSet
  split
  · exact smapGet_erase_ne d h m
  · rw [smapGet_insert_ne d h, smapGet_erase_ne d h]

/-- Reading after one write, both cases at once. -/
theorem smapGet_set {α : Type} [DecidableEq α] (d : Nat → α) (j k : Nat) (v : α) (m : SMap α) :
    smapGet d j (smapSet d k v m) = if k = j then v else smapGet d j m := by
  by_cases h : k = j
  · subst h; rw [if_pos rfl, smapGet_set_same]
  · rw [if_neg h, smapGet_set_ne d h]

@[simp] theorem smapGet_nil {α : Type} (d : Nat → α) (k : Nat) : smapGet d k [] = d k := rfl

/-! ### The canonical form -/

/-- The canonical form of a nonempty map, said with `∀`. -/
theorem smapWf_cons {α : Type} [DecidableEq α] (d : Nat → α) (j : Nat) (v : α) (m : SMap α) :
    smapWf d ((j, v) :: m) = true ↔ (∀ p ∈ m, j < p.1) ∧ v ≠ d j ∧ smapWf d m = true := by
  simp only [smapWf, Bool.and_eq_true, List.all_eq_true, decide_eq_true_eq, and_assoc]

theorem smapErase_sub {α : Type} (k : Nat) (m : SMap α) : ∀ p ∈ smapErase k m, p ∈ m := by
  induction m with
  | nil => intro p hp; exact hp
  | cons q m ih =>
    obtain ⟨j, v⟩ := q
    intro p hp
    by_cases h : j = k
    · simp only [smapErase, if_pos h] at hp
      exact List.mem_cons_of_mem _ (ih p hp)
    · simp only [smapErase, if_neg h, List.mem_cons] at hp
      rcases hp with rfl | hp
      · exact List.mem_cons_self ..
      · exact List.mem_cons_of_mem _ (ih p hp)

theorem smapWf_erase {α : Type} [DecidableEq α] (d : Nat → α) (k : Nat) (m : SMap α) (h : smapWf d m = true) :
    smapWf d (smapErase k m) = true := by
  induction m with
  | nil => exact h
  | cons q m ih =>
    obtain ⟨j, v⟩ := q
    obtain ⟨h1, h2, h3⟩ := (smapWf_cons d j v m).mp h
    by_cases hj : j = k
    · simpa only [smapErase, if_pos hj] using ih h3
    · simp only [smapErase, if_neg hj]
      exact (smapWf_cons d j v _).mpr ⟨fun p hp => h1 p (smapErase_sub k m p hp), h2, ih h3⟩

theorem smapInsert_sub {α : Type} (k : Nat) (v : α) (m : SMap α) : ∀ p ∈ smapInsert k v m, p = (k, v) ∨ p ∈ m := by
  induction m with
  | nil => intro p hp; simpa only [smapInsert, List.mem_cons] using hp
  | cons q m ih =>
    obtain ⟨j, w⟩ := q
    intro p hp
    by_cases h : k < j
    · simpa only [smapInsert, if_pos h, List.mem_cons] using hp
    · simp only [smapInsert, if_neg h, List.mem_cons] at hp
      rcases hp with rfl | hp
      · exact Or.inr (List.mem_cons_self ..)
      · rcases ih p hp with e | e
        · exact Or.inl e
        · exact Or.inr (List.mem_cons_of_mem _ e)

theorem smapWf_insert {α : Type} [DecidableEq α] (d : Nat → α) (k : Nat) (v : α) (m : SMap α) (hv : v ≠ d k)
    (hm : ∀ p ∈ m, p.1 ≠ k) (h : smapWf d m = true) : smapWf d (smapInsert k v m) = true := by
  induction m with
  | nil => exact (smapWf_cons d k v []).mpr ⟨(fun p hp => by cases hp), hv, rfl⟩
  | cons q m ih =>
    obtain ⟨j, w⟩ := q
    obtain ⟨h1, h2, h3⟩ := (smapWf_cons d j w m).mp h
    have hj : j ≠ k := hm (j, w) (List.mem_cons_self ..)
    by_cases hk : k < j
    · simp only [smapInsert, if_pos hk]
      refine (smapWf_cons d k v _).mpr ⟨fun p hp => ?_, hv, h⟩
      rcases List.mem_cons.mp hp with rfl | hp
      · exact hk
      · exact Nat.lt_trans hk (h1 p hp)
    · simp only [smapInsert, if_neg hk]
      refine (smapWf_cons d j w _).mpr ⟨fun p hp => ?_, h2, ih (fun p hp => hm p (List.mem_cons_of_mem _ hp)) h3⟩
      rcases smapInsert_sub k v m p hp with rfl | hp
      · show j < k; omega
      · exact h1 p hp

/-- Every write keeps the canonical form. -/
theorem smapWf_set {α : Type} [DecidableEq α] (d : Nat → α) (k : Nat) (v : α) (m : SMap α) (h : smapWf d m = true) :
    smapWf d (smapSet d k v m) = true := by
  unfold smapSet
  split
  · exact smapWf_erase d k m h
  · rename_i hv
    exact smapWf_insert d k v _ hv (smapErase_free k m) (smapWf_erase d k m h)

/-- Leaving entries out keeps the canonical form. -/
theorem smapWf_filter {α : Type} [DecidableEq α] (d : Nat → α) (f : Nat × α → Bool) (m : SMap α) (h : smapWf d m = true) :
    smapWf d (m.filter f) = true := by
  induction m with
  | nil => exact h
  | cons q m ih =>
    obtain ⟨j, v⟩ := q
    obtain ⟨h1, h2, h3⟩ := (smapWf_cons d j v m).mp h
    by_cases hf : f (j, v) = true
    · rw [List.filter_cons_of_pos hf]
      exact (smapWf_cons d j v _).mpr ⟨fun p hp => h1 p (List.mem_of_mem_filter hp), h2, ih h3⟩
    · rw [List.filter_cons_of_neg hf]
      exact ih h3

/-- A listed value differs from its default. -/
theorem smapWf_mem {α : Type} [DecidableEq α] (d : Nat → α) (m : SMap α) (h : smapWf d m = true) :
    ∀ p ∈ m, p.2 ≠ d p.1 := by
  induction m with
  | nil => intro p hp; cases hp
  | cons q m ih =>
    obtain ⟨j, v⟩ := q
    obtain ⟨_, h2, h3⟩ := (smapWf_cons d j v m).mp h
    intro p hp
    rcases List.mem_cons.mp hp with rfl | hp
    · exact h2
    · exact ih h3 p hp

/-- The canonical form for another default that agrees on the listed keys. -/
theorem smapWf_congr {α : Type} [DecidableEq α] (d e : Nat → α) (m : SMap α) (hde : ∀ p ∈ m, d p.1 = e p.1)
    (h : smapWf d m = true) : smapWf e m = true := by
  induction m with
  | nil => exact h
  | cons q m ih =>
    obtain ⟨j, v⟩ := q
    obtain ⟨h1, h2, h3⟩ := (smapWf_cons d j v m).mp h
    exact (smapWf_cons e j v m).mpr
      ⟨h1, by rw [← hde (j, v) (List.mem_cons_self ..)]; exact h2, ih (fun p hp => hde p (List.mem_cons_of_mem _ hp)) h3⟩

end Sys2Proof.Machine
end

