-- ==== Sys2Proof/Laws/Memory.lean ====
section
/-! SUPPORT. Memory: reads after writes, and that every memory operation keeps the canonical form. -/

namespace Sys2Proof.Machine

@[simp] theorem Memory.get_set_same (m : Memory) (a : Nat) (v : Byte) : (m.set a v).get a = v :=
  smapGet_set_same _ _ _ _

theorem Memory.get_set_ne (m : Memory) {a b : Nat} (h : a ≠ b) (v : Byte) : (m.set a v).get b = m.get b :=
  smapGet_set_ne _ h _ _

@[simp] theorem Memory.set_opened (m : Memory) (a : Nat) (v : Byte) : (m.set a v).opened = m.opened := rfl

@[simp] theorem Memory.write_opened (bs : List Nat) (m : Memory) (a : Nat) : (m.write a bs).opened = m.opened := by
  induction bs generalizing m a with
  | nil => rfl
  | cons b bs ih => rw [Memory.write, ih, Memory.set_opened]

/-- A byte outside the written range reads as before. -/
theorem Memory.get_write_out (bs : List Nat) (m : Memory) (a b : Nat) (h : b < a ∨ a + bs.length ≤ b) :
    (m.write a bs).get b = m.get b := by
  induction bs generalizing m a with
  | nil => rfl
  | cons x bs ih =>
    rw [List.length_cons] at h
    rw [Memory.write, ih _ _ (by omega), Memory.get_set_ne _ (by omega)]

/-- A byte inside the written range reads as what was written there. -/
theorem Memory.get_write_in (bs : List Nat) (m : Memory) (a i : Nat) (h : i < bs.length) :
    (m.write a bs).get (a + i) = BitVec.ofNat 8 (bs.getD i 0) := by
  induction bs generalizing m a i with
  | nil => simp only [List.length_nil] at h; omega
  | cons x bs ih =>
    rw [List.length_cons] at h
    rw [Memory.write]
    match i with
    | 0 => rw [Memory.get_write_out _ _ _ _ (Or.inl (by omega))]; exact Memory.get_set_same _ _ _
    | k + 1 =>
      have e : a + (k + 1) = a + 1 + k := by omega
      rw [e, ih _ _ _ (by omega), List.getD_cons_succ]

theorem Memory.wf_set (m : Memory) (a : Nat) (v : Byte) (h : m.wf = true) : (m.set a v).wf = true :=
  smapWf_set _ _ _ _ h

theorem Memory.wf_write (bs : List Nat) (m : Memory) (a : Nat) (h : m.wf = true) : (m.write a bs).wf = true := by
  induction bs generalizing m a with
  | nil => exact h
  | cons b bs ih => exact ih _ _ (Memory.wf_set _ _ _ h)

/-- Where a range is opened that does not hold the address, the default there is as before. -/
theorem memDefault_cons_out (r : OpenRange) (o : List OpenRange) (a : Nat) (h : ¬ (r.lo ≤ a ∧ a < r.lo + r.size)) :
    memDefault (r :: o) a = memDefault o a := by
  simp only [memDefault, List.find?_cons, h, decide_false]

theorem Memory.wf_openRange (m : Memory) (r : OpenRange) (h : m.wf = true) : (m.openRange r).wf = true := by
  refine smapWf_congr (memDefault m.opened) _ _ (fun p hp => ?_) (smapWf_filter _ _ _ h)
  have hf := List.of_mem_filter hp
  simp only [Bool.not_eq_true', decide_eq_false_iff_not] at hf
  exact (memDefault_cons_out r m.opened p.1 hf).symm

/-- Cutting `[lo, hi)` out of a range keeps what it says of every address outside it. -/
theorem OpenRange.outside_holds (r : OpenRange) (lo hi a : Nat) (ha : a < lo ∨ hi ≤ a) :
    (r.outside lo hi).find? (fun q => decide (q.lo ≤ a ∧ a < q.lo + q.size)) ≠ none ↔ (r.lo ≤ a ∧ a < r.lo + r.size) := by
  simp only [OpenRange.outside, ne_eq, List.find?_eq_none, not_forall]
  constructor
  · rintro ⟨q, hq, h⟩
    simp only [List.mem_append] at hq
    rcases hq with hq | hq
    · split at hq
      · simp only [List.mem_singleton] at hq; subst hq; simp at h; omega
      · cases hq
    · split at hq
      · simp only [List.mem_singleton] at hq; subst hq; simp at h; omega
      · cases hq
  · intro hr
    rcases ha with ha | ha
    · refine ⟨{ r with size := min r.size (lo - r.lo) }, ?_, ?_⟩
      · simp only [List.mem_append]; left; rw [if_pos (by omega)]; exact List.mem_singleton.mpr rfl
      · simp; omega
    · refine ⟨{ r with lo := max r.lo hi, size := r.lo + r.size - max r.lo hi }, ?_, ?_⟩
      · simp only [List.mem_append]; right; rw [if_pos (by omega)]; exact List.mem_singleton.mpr rfl
      · simp; omega

/-- Both pieces of a cut range carry its tag. -/
theorem OpenRange.outside_tag (r : OpenRange) (lo hi : Nat) : ∀ q ∈ r.outside lo hi, q.tag = r.tag := by
  intro q hq
  simp only [OpenRange.outside, List.mem_append] at hq
  rcases hq with hq | hq
  · split at hq
    · simp only [List.mem_singleton] at hq; subst hq; rfl
    · cases hq
  · split at hq
    · simp only [List.mem_singleton] at hq; subst hq; rfl
    · cases hq

/-- The default outside a zeroed range is as before. -/
theorem memDefault_outside (o : List OpenRange) (lo hi a : Nat) (ha : a < lo ∨ hi ≤ a) :
    memDefault (o.flatMap (fun r => r.outside lo hi)) a = memDefault o a := by
  induction o with
  | nil => rfl
  | cons r o ih =>
    simp only [memDefault, List.flatMap_cons, List.find?_append, List.find?_cons] at ih ⊢
    by_cases hr : r.lo ≤ a ∧ a < r.lo + r.size
    · have h := (r.outside_holds lo hi a ha).mpr hr
      cases e : (r.outside lo hi).find? (fun q => decide (q.lo ≤ a ∧ a < q.lo + q.size)) with
      | none => exact absurd e h
      | some q =>
        have ht := r.outside_tag lo hi q (List.mem_of_find?_eq_some e)
        simp only [Option.some_or, hr, and_self, decide_true, ht]
    · have h : (r.outside lo hi).find? (fun q => decide (q.lo ≤ a ∧ a < q.lo + q.size)) = none :=
        Classical.not_not.mp (fun c => hr ((r.outside_holds lo hi a ha).mp c))
      simp only [h, Option.none_or, hr, decide_false]
      exact ih

theorem Memory.wf_zero (m : Memory) (lo size : Nat) (h : m.wf = true) : (m.zero lo size).wf = true := by
  refine smapWf_congr (memDefault m.opened) _ _ (fun p hp => ?_) (smapWf_filter _ _ _ h)
  have hf := List.of_mem_filter hp
  simp only [Bool.not_eq_true', decide_eq_false_iff_not] at hf
  exact (memDefault_outside m.opened lo (lo + size) p.1 (by omega)).symm

/-- Every byte of a zeroed range reads 0. -/
theorem Memory.get_zero_in (m : Memory) (lo size a : Nat) (ha : lo ≤ a ∧ a < lo + size) : (m.zero lo size).get a = 0 := by
  have hd : memDefault (m.zero lo size).opened a = 0 := by
    have hn : (m.zero lo size).opened.find? (fun r => decide (r.lo ≤ a ∧ a < r.lo + r.size)) = none := by
      rw [List.find?_eq_none]
      intro q hq
      simp only [Memory.zero, List.mem_flatMap] at hq
      obtain ⟨r, _, hq⟩ := hq
      simp only [OpenRange.outside, List.mem_append] at hq
      rcases hq with hq | hq
      · split at hq
        · simp only [List.mem_singleton] at hq; subst hq; simp; omega
        · cases hq
      · split at hq
        · simp only [List.mem_singleton] at hq; subst hq; simp; omega
        · cases hq
    simp only [memDefault, hn]
  have hfree : ∀ (c : SMap Byte), (∀ p ∈ c, p.1 ≠ a) → smapGet (memDefault (m.zero lo size).opened) a c = memDefault (m.zero lo size).opened a := by
    intro c hc
    induction c with
    | nil => rfl
    | cons q c ih =>
      obtain ⟨j, v⟩ := q
      simp only [smapGet]
      rw [if_neg (hc (j, v) (List.mem_cons_self ..)), ih (fun p hp => hc p (List.mem_cons_of_mem _ hp))]
  show smapGet (memDefault (m.zero lo size).opened) a (m.zero lo size).cells = 0
  rw [hfree, hd]
  intro p hp e
  have hf := List.of_mem_filter hp
  simp only [Bool.not_eq_true', decide_eq_false_iff_not] at hf
  omega

end Sys2Proof.Machine
end

