-- ==== Sys2Proof/Laws/State.lean ====
section
/-! SUPPORT. State: what each named update leaves of each field, and reads of registers and sparse tables after them. -/

namespace Sys2Proof.Machine

/-! ### setReg -/

@[simp] theorem State.setReg_pending (s : State) (a : Nat) (v : Word64) : (s.setReg a v).pending = s.pending := rfl
@[simp] theorem State.setReg_mem (s : State) (a : Nat) (v : Word64) : (s.setReg a v).mem = s.mem := rfl
@[simp] theorem State.setReg_lineErr (s : State) (a : Nat) (v : Word64) : (s.setReg a v).lineErr = s.lineErr := rfl
@[simp] theorem State.setReg_tags (s : State) (a : Nat) (v : Word64) : (s.setReg a v).tags = s.tags := rfl
@[simp] theorem State.setReg_nearBands (s : State) (a : Nat) (v : Word64) : (s.setReg a v).nearBands = s.nearBands := rfl
@[simp] theorem State.setReg_wcb (s : State) (a : Nat) (v : Word64) : (s.setReg a v).wcb = s.wcb := rfl
@[simp] theorem State.setReg_hbmHeld (s : State) (a : Nat) (v : Word64) : (s.setReg a v).hbmHeld = s.hbmHeld := rfl
@[simp] theorem State.setReg_doorbells (s : State) (a : Nat) (v : Word64) : (s.setReg a v).doorbells = s.doorbells := rfl
@[simp] theorem State.setReg_plates (s : State) (a : Nat) (v : Word64) : (s.setReg a v).plates = s.plates := rfl
@[simp] theorem State.setReg_banks (s : State) (a : Nat) (v : Word64) : (s.setReg a v).banks = s.banks := rfl
@[simp] theorem State.setReg_served (s : State) (a : Nat) (v : Word64) : (s.setReg a v).served = s.served := rfl
@[simp] theorem State.setReg_trayMap (s : State) (a : Nat) (v : Word64) : (s.setReg a v).trayMap = s.trayMap := rfl
@[simp] theorem State.setReg_work (s : State) (a : Nat) (v : Word64) : (s.setReg a v).work = s.work := rfl
@[simp] theorem State.setReg_bgWork (s : State) (a : Nat) (v : Word64) : (s.setReg a v).bgWork = s.bgWork := rfl
@[simp] theorem State.setReg_washHeld (s : State) (a : Nat) (v : Word64) : (s.setReg a v).washHeld = s.washHeld := rfl
@[simp] theorem State.setReg_washFrom (s : State) (a : Nat) (v : Word64) : (s.setReg a v).washFrom = s.washFrom := rfl
@[simp] theorem State.setReg_ctlHeld (s : State) (a : Nat) (v : Word64) : (s.setReg a v).ctlHeld = s.ctlHeld := rfl
@[simp] theorem State.setReg_fetchHeld (s : State) (a : Nat) (v : Word64) : (s.setReg a v).fetchHeld = s.fetchHeld := rfl
@[simp] theorem State.setReg_parts (s : State) (a : Nat) (v : Word64) : (s.setReg a v).parts = s.parts := rfl
@[simp] theorem State.setReg_ctxs (s : State) (a : Nat) (v : Word64) : (s.setReg a v).ctxs = s.ctxs := rfl
@[simp] theorem State.setReg_slots (s : State) (a : Nat) (v : Word64) : (s.setReg a v).slots = s.slots := rfl
@[simp] theorem State.setReg_rings (s : State) (a : Nat) (v : Word64) : (s.setReg a v).rings = s.rings := rfl
@[simp] theorem State.setReg_streams (s : State) (a : Nat) (v : Word64) : (s.setReg a v).streams = s.streams := rfl
@[simp] theorem State.setReg_ucie (s : State) (a : Nat) (v : Word64) : (s.setReg a v).ucie = s.ucie := rfl
@[simp] theorem State.setReg_timer (s : State) (a : Nat) (v : Word64) : (s.setReg a v).timer = s.timer := rfl
@[simp] theorem State.setReg_logSeq (s : State) (a : Nat) (v : Word64) : (s.setReg a v).logSeq = s.logSeq := rfl
@[simp] theorem State.setReg_corrected (s : State) (a : Nat) (v : Word64) : (s.setReg a v).corrected = s.corrected := rfl
@[simp] theorem State.setReg_dieLog (s : State) (a : Nat) (v : Word64) : (s.setReg a v).dieLog = s.dieLog := rfl
@[simp] theorem State.setReg_out (s : State) (a : Nat) (v : Word64) : (s.setReg a v).out = s.out := rfl
@[simp] theorem State.setReg_reader (s : State) (a : Nat) (v : Word64) : (s.setReg a v).reader = s.reader := rfl
@[simp] theorem State.setReg_nbrs (s : State) (a : Nat) (v : Word64) : (s.setReg a v).nbrs = s.nbrs := rfl
@[simp] theorem State.setReg_macsec (s : State) (a : Nat) (v : Word64) : (s.setReg a v).macsec = s.macsec := rfl
@[simp] theorem State.setReg_linkLost (s : State) (a : Nat) (v : Word64) : (s.setReg a v).linkLost = s.linkLost := rfl
@[simp] theorem State.setReg_plans (s : State) (a : Nat) (v : Word64) : (s.setReg a v).plans = s.plans := rfl
@[simp] theorem State.setReg_tx (s : State) (a : Nat) (v : Word64) : (s.setReg a v).tx = s.tx := rfl
@[simp] theorem State.setReg_rx (s : State) (a : Nat) (v : Word64) : (s.setReg a v).rx = s.rx := rfl
@[simp] theorem State.setReg_carr (s : State) (a : Nat) (v : Word64) : (s.setReg a v).carr = s.carr := rfl
@[simp] theorem State.setReg_pairSeq (s : State) (a : Nat) (v : Word64) : (s.setReg a v).pairSeq = s.pairSeq := rfl
@[simp] theorem State.setReg_drainDue (s : State) (a : Nat) (v : Word64) : (s.setReg a v).drainDue = s.drainDue := rfl
@[simp] theorem State.setReg_supply (s : State) (a : Nat) (v : Word64) : (s.setReg a v).supply = s.supply := rfl
@[simp] theorem State.setReg_vault (s : State) (a : Nat) (v : Word64) : (s.setReg a v).vault = s.vault := rfl
@[simp] theorem State.setReg_flash (s : State) (a : Nat) (v : Word64) : (s.setReg a v).flash = s.flash := rfl
@[simp] theorem State.setReg_conns (s : State) (a : Nat) (v : Word64) : (s.setReg a v).conns = s.conns := rfl
@[simp] theorem State.setReg_nextConn (s : State) (a : Nat) (v : Word64) : (s.setReg a v).nextConn = s.nextConn := rfl
@[simp] theorem State.setReg_sensors (s : State) (a : Nat) (v : Word64) : (s.setReg a v).sensors = s.sensors := rfl
@[simp] theorem State.setReg_free (s : State) (a : Nat) (v : Word64) : (s.setReg a v).free = s.free := rfl

/-! ### put -/

@[simp] theorem State.put_pending (s : State) (f : Fld) (i j v : Nat) : (s.put f i j v).pending = s.pending := rfl
@[simp] theorem State.put_mem (s : State) (f : Fld) (i j v : Nat) : (s.put f i j v).mem = s.mem := rfl
@[simp] theorem State.put_lineErr (s : State) (f : Fld) (i j v : Nat) : (s.put f i j v).lineErr = s.lineErr := rfl
@[simp] theorem State.put_tags (s : State) (f : Fld) (i j v : Nat) : (s.put f i j v).tags = s.tags := rfl
@[simp] theorem State.put_nearBands (s : State) (f : Fld) (i j v : Nat) : (s.put f i j v).nearBands = s.nearBands := rfl
@[simp] theorem State.put_wcb (s : State) (f : Fld) (i j v : Nat) : (s.put f i j v).wcb = s.wcb := rfl
@[simp] theorem State.put_hbmHeld (s : State) (f : Fld) (i j v : Nat) : (s.put f i j v).hbmHeld = s.hbmHeld := rfl
@[simp] theorem State.put_doorbells (s : State) (f : Fld) (i j v : Nat) : (s.put f i j v).doorbells = s.doorbells := rfl
@[simp] theorem State.put_plates (s : State) (f : Fld) (i j v : Nat) : (s.put f i j v).plates = s.plates := rfl
@[simp] theorem State.put_banks (s : State) (f : Fld) (i j v : Nat) : (s.put f i j v).banks = s.banks := rfl
@[simp] theorem State.put_served (s : State) (f : Fld) (i j v : Nat) : (s.put f i j v).served = s.served := rfl
@[simp] theorem State.put_trayMap (s : State) (f : Fld) (i j v : Nat) : (s.put f i j v).trayMap = s.trayMap := rfl
@[simp] theorem State.put_work (s : State) (f : Fld) (i j v : Nat) : (s.put f i j v).work = s.work := rfl
@[simp] theorem State.put_bgWork (s : State) (f : Fld) (i j v : Nat) : (s.put f i j v).bgWork = s.bgWork := rfl
@[simp] theorem State.put_washHeld (s : State) (f : Fld) (i j v : Nat) : (s.put f i j v).washHeld = s.washHeld := rfl
@[simp] theorem State.put_washFrom (s : State) (f : Fld) (i j v : Nat) : (s.put f i j v).washFrom = s.washFrom := rfl
@[simp] theorem State.put_ctlHeld (s : State) (f : Fld) (i j v : Nat) : (s.put f i j v).ctlHeld = s.ctlHeld := rfl
@[simp] theorem State.put_fetchHeld (s : State) (f : Fld) (i j v : Nat) : (s.put f i j v).fetchHeld = s.fetchHeld := rfl
@[simp] theorem State.put_parts (s : State) (f : Fld) (i j v : Nat) : (s.put f i j v).parts = s.parts := rfl
@[simp] theorem State.put_ctxs (s : State) (f : Fld) (i j v : Nat) : (s.put f i j v).ctxs = s.ctxs := rfl
@[simp] theorem State.put_slots (s : State) (f : Fld) (i j v : Nat) : (s.put f i j v).slots = s.slots := rfl
@[simp] theorem State.put_rings (s : State) (f : Fld) (i j v : Nat) : (s.put f i j v).rings = s.rings := rfl
@[simp] theorem State.put_streams (s : State) (f : Fld) (i j v : Nat) : (s.put f i j v).streams = s.streams := rfl
@[simp] theorem State.put_ucie (s : State) (f : Fld) (i j v : Nat) : (s.put f i j v).ucie = s.ucie := rfl
@[simp] theorem State.put_timer (s : State) (f : Fld) (i j v : Nat) : (s.put f i j v).timer = s.timer := rfl
@[simp] theorem State.put_logSeq (s : State) (f : Fld) (i j v : Nat) : (s.put f i j v).logSeq = s.logSeq := rfl
@[simp] theorem State.put_corrected (s : State) (f : Fld) (i j v : Nat) : (s.put f i j v).corrected = s.corrected := rfl
@[simp] theorem State.put_dieLog (s : State) (f : Fld) (i j v : Nat) : (s.put f i j v).dieLog = s.dieLog := rfl
@[simp] theorem State.put_out (s : State) (f : Fld) (i j v : Nat) : (s.put f i j v).out = s.out := rfl
@[simp] theorem State.put_reader (s : State) (f : Fld) (i j v : Nat) : (s.put f i j v).reader = s.reader := rfl
@[simp] theorem State.put_nbrs (s : State) (f : Fld) (i j v : Nat) : (s.put f i j v).nbrs = s.nbrs := rfl
@[simp] theorem State.put_macsec (s : State) (f : Fld) (i j v : Nat) : (s.put f i j v).macsec = s.macsec := rfl
@[simp] theorem State.put_linkLost (s : State) (f : Fld) (i j v : Nat) : (s.put f i j v).linkLost = s.linkLost := rfl
@[simp] theorem State.put_plans (s : State) (f : Fld) (i j v : Nat) : (s.put f i j v).plans = s.plans := rfl
@[simp] theorem State.put_tx (s : State) (f : Fld) (i j v : Nat) : (s.put f i j v).tx = s.tx := rfl
@[simp] theorem State.put_rx (s : State) (f : Fld) (i j v : Nat) : (s.put f i j v).rx = s.rx := rfl
@[simp] theorem State.put_carr (s : State) (f : Fld) (i j v : Nat) : (s.put f i j v).carr = s.carr := rfl
@[simp] theorem State.put_pairSeq (s : State) (f : Fld) (i j v : Nat) : (s.put f i j v).pairSeq = s.pairSeq := rfl
@[simp] theorem State.put_drainDue (s : State) (f : Fld) (i j v : Nat) : (s.put f i j v).drainDue = s.drainDue := rfl
@[simp] theorem State.put_supply (s : State) (f : Fld) (i j v : Nat) : (s.put f i j v).supply = s.supply := rfl
@[simp] theorem State.put_vault (s : State) (f : Fld) (i j v : Nat) : (s.put f i j v).vault = s.vault := rfl
@[simp] theorem State.put_flash (s : State) (f : Fld) (i j v : Nat) : (s.put f i j v).flash = s.flash := rfl
@[simp] theorem State.put_conns (s : State) (f : Fld) (i j v : Nat) : (s.put f i j v).conns = s.conns := rfl
@[simp] theorem State.put_nextConn (s : State) (f : Fld) (i j v : Nat) : (s.put f i j v).nextConn = s.nextConn := rfl
@[simp] theorem State.put_sensors (s : State) (f : Fld) (i j v : Nat) : (s.put f i j v).sensors = s.sensors := rfl
@[simp] theorem State.put_free (s : State) (f : Fld) (i j v : Nat) : (s.put f i j v).free = s.free := rfl

/-! ### bump -/

@[simp] theorem State.bump_pending (s : State) (f : Fld) (i j d : Nat) : (s.bump f i j d).pending = s.pending := rfl
@[simp] theorem State.bump_mem (s : State) (f : Fld) (i j d : Nat) : (s.bump f i j d).mem = s.mem := rfl
@[simp] theorem State.bump_lineErr (s : State) (f : Fld) (i j d : Nat) : (s.bump f i j d).lineErr = s.lineErr := rfl
@[simp] theorem State.bump_tags (s : State) (f : Fld) (i j d : Nat) : (s.bump f i j d).tags = s.tags := rfl
@[simp] theorem State.bump_nearBands (s : State) (f : Fld) (i j d : Nat) : (s.bump f i j d).nearBands = s.nearBands := rfl
@[simp] theorem State.bump_wcb (s : State) (f : Fld) (i j d : Nat) : (s.bump f i j d).wcb = s.wcb := rfl
@[simp] theorem State.bump_hbmHeld (s : State) (f : Fld) (i j d : Nat) : (s.bump f i j d).hbmHeld = s.hbmHeld := rfl
@[simp] theorem State.bump_doorbells (s : State) (f : Fld) (i j d : Nat) : (s.bump f i j d).doorbells = s.doorbells := rfl
@[simp] theorem State.bump_plates (s : State) (f : Fld) (i j d : Nat) : (s.bump f i j d).plates = s.plates := rfl
@[simp] theorem State.bump_banks (s : State) (f : Fld) (i j d : Nat) : (s.bump f i j d).banks = s.banks := rfl
@[simp] theorem State.bump_served (s : State) (f : Fld) (i j d : Nat) : (s.bump f i j d).served = s.served := rfl
@[simp] theorem State.bump_trayMap (s : State) (f : Fld) (i j d : Nat) : (s.bump f i j d).trayMap = s.trayMap := rfl
@[simp] theorem State.bump_work (s : State) (f : Fld) (i j d : Nat) : (s.bump f i j d).work = s.work := rfl
@[simp] theorem State.bump_bgWork (s : State) (f : Fld) (i j d : Nat) : (s.bump f i j d).bgWork = s.bgWork := rfl
@[simp] theorem State.bump_washHeld (s : State) (f : Fld) (i j d : Nat) : (s.bump f i j d).washHeld = s.washHeld := rfl
@[simp] theorem State.bump_washFrom (s : State) (f : Fld) (i j d : Nat) : (s.bump f i j d).washFrom = s.washFrom := rfl
@[simp] theorem State.bump_ctlHeld (s : State) (f : Fld) (i j d : Nat) : (s.bump f i j d).ctlHeld = s.ctlHeld := rfl
@[simp] theorem State.bump_fetchHeld (s : State) (f : Fld) (i j d : Nat) : (s.bump f i j d).fetchHeld = s.fetchHeld := rfl
@[simp] theorem State.bump_parts (s : State) (f : Fld) (i j d : Nat) : (s.bump f i j d).parts = s.parts := rfl
@[simp] theorem State.bump_ctxs (s : State) (f : Fld) (i j d : Nat) : (s.bump f i j d).ctxs = s.ctxs := rfl
@[simp] theorem State.bump_slots (s : State) (f : Fld) (i j d : Nat) : (s.bump f i j d).slots = s.slots := rfl
@[simp] theorem State.bump_rings (s : State) (f : Fld) (i j d : Nat) : (s.bump f i j d).rings = s.rings := rfl
@[simp] theorem State.bump_streams (s : State) (f : Fld) (i j d : Nat) : (s.bump f i j d).streams = s.streams := rfl
@[simp] theorem State.bump_ucie (s : State) (f : Fld) (i j d : Nat) : (s.bump f i j d).ucie = s.ucie := rfl
@[simp] theorem State.bump_timer (s : State) (f : Fld) (i j d : Nat) : (s.bump f i j d).timer = s.timer := rfl
@[simp] theorem State.bump_logSeq (s : State) (f : Fld) (i j d : Nat) : (s.bump f i j d).logSeq = s.logSeq := rfl
@[simp] theorem State.bump_corrected (s : State) (f : Fld) (i j d : Nat) : (s.bump f i j d).corrected = s.corrected := rfl
@[simp] theorem State.bump_dieLog (s : State) (f : Fld) (i j d : Nat) : (s.bump f i j d).dieLog = s.dieLog := rfl
@[simp] theorem State.bump_out (s : State) (f : Fld) (i j d : Nat) : (s.bump f i j d).out = s.out := rfl
@[simp] theorem State.bump_reader (s : State) (f : Fld) (i j d : Nat) : (s.bump f i j d).reader = s.reader := rfl
@[simp] theorem State.bump_nbrs (s : State) (f : Fld) (i j d : Nat) : (s.bump f i j d).nbrs = s.nbrs := rfl
@[simp] theorem State.bump_macsec (s : State) (f : Fld) (i j d : Nat) : (s.bump f i j d).macsec = s.macsec := rfl
@[simp] theorem State.bump_linkLost (s : State) (f : Fld) (i j d : Nat) : (s.bump f i j d).linkLost = s.linkLost := rfl
@[simp] theorem State.bump_plans (s : State) (f : Fld) (i j d : Nat) : (s.bump f i j d).plans = s.plans := rfl
@[simp] theorem State.bump_tx (s : State) (f : Fld) (i j d : Nat) : (s.bump f i j d).tx = s.tx := rfl
@[simp] theorem State.bump_rx (s : State) (f : Fld) (i j d : Nat) : (s.bump f i j d).rx = s.rx := rfl
@[simp] theorem State.bump_carr (s : State) (f : Fld) (i j d : Nat) : (s.bump f i j d).carr = s.carr := rfl
@[simp] theorem State.bump_pairSeq (s : State) (f : Fld) (i j d : Nat) : (s.bump f i j d).pairSeq = s.pairSeq := rfl
@[simp] theorem State.bump_drainDue (s : State) (f : Fld) (i j d : Nat) : (s.bump f i j d).drainDue = s.drainDue := rfl
@[simp] theorem State.bump_supply (s : State) (f : Fld) (i j d : Nat) : (s.bump f i j d).supply = s.supply := rfl
@[simp] theorem State.bump_vault (s : State) (f : Fld) (i j d : Nat) : (s.bump f i j d).vault = s.vault := rfl
@[simp] theorem State.bump_flash (s : State) (f : Fld) (i j d : Nat) : (s.bump f i j d).flash = s.flash := rfl
@[simp] theorem State.bump_conns (s : State) (f : Fld) (i j d : Nat) : (s.bump f i j d).conns = s.conns := rfl
@[simp] theorem State.bump_nextConn (s : State) (f : Fld) (i j d : Nat) : (s.bump f i j d).nextConn = s.nextConn := rfl
@[simp] theorem State.bump_sensors (s : State) (f : Fld) (i j d : Nat) : (s.bump f i j d).sensors = s.sensors := rfl
@[simp] theorem State.bump_free (s : State) (f : Fld) (i j d : Nat) : (s.bump f i j d).free = s.free := rfl

/-! ### setPlate -/

@[simp] theorem State.setPlate_pending (s : State) (p : Nat) (x : Plate) : (s.setPlate p x).pending = s.pending := rfl
@[simp] theorem State.setPlate_regs (s : State) (p : Nat) (x : Plate) : (s.setPlate p x).regs = s.regs := rfl
@[simp] theorem State.setPlate_mem (s : State) (p : Nat) (x : Plate) : (s.setPlate p x).mem = s.mem := rfl
@[simp] theorem State.setPlate_lineErr (s : State) (p : Nat) (x : Plate) : (s.setPlate p x).lineErr = s.lineErr := rfl
@[simp] theorem State.setPlate_tags (s : State) (p : Nat) (x : Plate) : (s.setPlate p x).tags = s.tags := rfl
@[simp] theorem State.setPlate_nearBands (s : State) (p : Nat) (x : Plate) : (s.setPlate p x).nearBands = s.nearBands := rfl
@[simp] theorem State.setPlate_wcb (s : State) (p : Nat) (x : Plate) : (s.setPlate p x).wcb = s.wcb := rfl
@[simp] theorem State.setPlate_hbmHeld (s : State) (p : Nat) (x : Plate) : (s.setPlate p x).hbmHeld = s.hbmHeld := rfl
@[simp] theorem State.setPlate_doorbells (s : State) (p : Nat) (x : Plate) : (s.setPlate p x).doorbells = s.doorbells := rfl
@[simp] theorem State.setPlate_banks (s : State) (p : Nat) (x : Plate) : (s.setPlate p x).banks = s.banks := rfl
@[simp] theorem State.setPlate_served (s : State) (p : Nat) (x : Plate) : (s.setPlate p x).served = s.served := rfl
@[simp] theorem State.setPlate_trayMap (s : State) (p : Nat) (x : Plate) : (s.setPlate p x).trayMap = s.trayMap := rfl
@[simp] theorem State.setPlate_work (s : State) (p : Nat) (x : Plate) : (s.setPlate p x).work = s.work := rfl
@[simp] theorem State.setPlate_bgWork (s : State) (p : Nat) (x : Plate) : (s.setPlate p x).bgWork = s.bgWork := rfl
@[simp] theorem State.setPlate_washHeld (s : State) (p : Nat) (x : Plate) : (s.setPlate p x).washHeld = s.washHeld := rfl
@[simp] theorem State.setPlate_washFrom (s : State) (p : Nat) (x : Plate) : (s.setPlate p x).washFrom = s.washFrom := rfl
@[simp] theorem State.setPlate_ctlHeld (s : State) (p : Nat) (x : Plate) : (s.setPlate p x).ctlHeld = s.ctlHeld := rfl
@[simp] theorem State.setPlate_fetchHeld (s : State) (p : Nat) (x : Plate) : (s.setPlate p x).fetchHeld = s.fetchHeld := rfl
@[simp] theorem State.setPlate_parts (s : State) (p : Nat) (x : Plate) : (s.setPlate p x).parts = s.parts := rfl
@[simp] theorem State.setPlate_ctxs (s : State) (p : Nat) (x : Plate) : (s.setPlate p x).ctxs = s.ctxs := rfl
@[simp] theorem State.setPlate_slots (s : State) (p : Nat) (x : Plate) : (s.setPlate p x).slots = s.slots := rfl
@[simp] theorem State.setPlate_rings (s : State) (p : Nat) (x : Plate) : (s.setPlate p x).rings = s.rings := rfl
@[simp] theorem State.setPlate_streams (s : State) (p : Nat) (x : Plate) : (s.setPlate p x).streams = s.streams := rfl
@[simp] theorem State.setPlate_ucie (s : State) (p : Nat) (x : Plate) : (s.setPlate p x).ucie = s.ucie := rfl
@[simp] theorem State.setPlate_timer (s : State) (p : Nat) (x : Plate) : (s.setPlate p x).timer = s.timer := rfl
@[simp] theorem State.setPlate_logSeq (s : State) (p : Nat) (x : Plate) : (s.setPlate p x).logSeq = s.logSeq := rfl
@[simp] theorem State.setPlate_corrected (s : State) (p : Nat) (x : Plate) : (s.setPlate p x).corrected = s.corrected := rfl
@[simp] theorem State.setPlate_dieLog (s : State) (p : Nat) (x : Plate) : (s.setPlate p x).dieLog = s.dieLog := rfl
@[simp] theorem State.setPlate_out (s : State) (p : Nat) (x : Plate) : (s.setPlate p x).out = s.out := rfl
@[simp] theorem State.setPlate_reader (s : State) (p : Nat) (x : Plate) : (s.setPlate p x).reader = s.reader := rfl
@[simp] theorem State.setPlate_nbrs (s : State) (p : Nat) (x : Plate) : (s.setPlate p x).nbrs = s.nbrs := rfl
@[simp] theorem State.setPlate_macsec (s : State) (p : Nat) (x : Plate) : (s.setPlate p x).macsec = s.macsec := rfl
@[simp] theorem State.setPlate_linkLost (s : State) (p : Nat) (x : Plate) : (s.setPlate p x).linkLost = s.linkLost := rfl
@[simp] theorem State.setPlate_plans (s : State) (p : Nat) (x : Plate) : (s.setPlate p x).plans = s.plans := rfl
@[simp] theorem State.setPlate_tx (s : State) (p : Nat) (x : Plate) : (s.setPlate p x).tx = s.tx := rfl
@[simp] theorem State.setPlate_rx (s : State) (p : Nat) (x : Plate) : (s.setPlate p x).rx = s.rx := rfl
@[simp] theorem State.setPlate_carr (s : State) (p : Nat) (x : Plate) : (s.setPlate p x).carr = s.carr := rfl
@[simp] theorem State.setPlate_pairSeq (s : State) (p : Nat) (x : Plate) : (s.setPlate p x).pairSeq = s.pairSeq := rfl
@[simp] theorem State.setPlate_drainDue (s : State) (p : Nat) (x : Plate) : (s.setPlate p x).drainDue = s.drainDue := rfl
@[simp] theorem State.setPlate_supply (s : State) (p : Nat) (x : Plate) : (s.setPlate p x).supply = s.supply := rfl
@[simp] theorem State.setPlate_vault (s : State) (p : Nat) (x : Plate) : (s.setPlate p x).vault = s.vault := rfl
@[simp] theorem State.setPlate_flash (s : State) (p : Nat) (x : Plate) : (s.setPlate p x).flash = s.flash := rfl
@[simp] theorem State.setPlate_conns (s : State) (p : Nat) (x : Plate) : (s.setPlate p x).conns = s.conns := rfl
@[simp] theorem State.setPlate_nextConn (s : State) (p : Nat) (x : Plate) : (s.setPlate p x).nextConn = s.nextConn := rfl
@[simp] theorem State.setPlate_sensors (s : State) (p : Nat) (x : Plate) : (s.setPlate p x).sensors = s.sensors := rfl
@[simp] theorem State.setPlate_free (s : State) (p : Nat) (x : Plate) : (s.setPlate p x).free = s.free := rfl

/-! ### setSem -/

@[simp] theorem State.setSem_pending (s : State) (p i v : Nat) : (s.setSem p i v).pending = s.pending := rfl
@[simp] theorem State.setSem_regs (s : State) (p i v : Nat) : (s.setSem p i v).regs = s.regs := rfl
@[simp] theorem State.setSem_mem (s : State) (p i v : Nat) : (s.setSem p i v).mem = s.mem := rfl
@[simp] theorem State.setSem_lineErr (s : State) (p i v : Nat) : (s.setSem p i v).lineErr = s.lineErr := rfl
@[simp] theorem State.setSem_tags (s : State) (p i v : Nat) : (s.setSem p i v).tags = s.tags := rfl
@[simp] theorem State.setSem_nearBands (s : State) (p i v : Nat) : (s.setSem p i v).nearBands = s.nearBands := rfl
@[simp] theorem State.setSem_wcb (s : State) (p i v : Nat) : (s.setSem p i v).wcb = s.wcb := rfl
@[simp] theorem State.setSem_hbmHeld (s : State) (p i v : Nat) : (s.setSem p i v).hbmHeld = s.hbmHeld := rfl
@[simp] theorem State.setSem_doorbells (s : State) (p i v : Nat) : (s.setSem p i v).doorbells = s.doorbells := rfl
@[simp] theorem State.setSem_banks (s : State) (p i v : Nat) : (s.setSem p i v).banks = s.banks := rfl
@[simp] theorem State.setSem_served (s : State) (p i v : Nat) : (s.setSem p i v).served = s.served := rfl
@[simp] theorem State.setSem_trayMap (s : State) (p i v : Nat) : (s.setSem p i v).trayMap = s.trayMap := rfl
@[simp] theorem State.setSem_work (s : State) (p i v : Nat) : (s.setSem p i v).work = s.work := rfl
@[simp] theorem State.setSem_bgWork (s : State) (p i v : Nat) : (s.setSem p i v).bgWork = s.bgWork := rfl
@[simp] theorem State.setSem_washHeld (s : State) (p i v : Nat) : (s.setSem p i v).washHeld = s.washHeld := rfl
@[simp] theorem State.setSem_washFrom (s : State) (p i v : Nat) : (s.setSem p i v).washFrom = s.washFrom := rfl
@[simp] theorem State.setSem_ctlHeld (s : State) (p i v : Nat) : (s.setSem p i v).ctlHeld = s.ctlHeld := rfl
@[simp] theorem State.setSem_fetchHeld (s : State) (p i v : Nat) : (s.setSem p i v).fetchHeld = s.fetchHeld := rfl
@[simp] theorem State.setSem_parts (s : State) (p i v : Nat) : (s.setSem p i v).parts = s.parts := rfl
@[simp] theorem State.setSem_ctxs (s : State) (p i v : Nat) : (s.setSem p i v).ctxs = s.ctxs := rfl
@[simp] theorem State.setSem_slots (s : State) (p i v : Nat) : (s.setSem p i v).slots = s.slots := rfl
@[simp] theorem State.setSem_rings (s : State) (p i v : Nat) : (s.setSem p i v).rings = s.rings := rfl
@[simp] theorem State.setSem_streams (s : State) (p i v : Nat) : (s.setSem p i v).streams = s.streams := rfl
@[simp] theorem State.setSem_ucie (s : State) (p i v : Nat) : (s.setSem p i v).ucie = s.ucie := rfl
@[simp] theorem State.setSem_timer (s : State) (p i v : Nat) : (s.setSem p i v).timer = s.timer := rfl
@[simp] theorem State.setSem_logSeq (s : State) (p i v : Nat) : (s.setSem p i v).logSeq = s.logSeq := rfl
@[simp] theorem State.setSem_corrected (s : State) (p i v : Nat) : (s.setSem p i v).corrected = s.corrected := rfl
@[simp] theorem State.setSem_dieLog (s : State) (p i v : Nat) : (s.setSem p i v).dieLog = s.dieLog := rfl
@[simp] theorem State.setSem_out (s : State) (p i v : Nat) : (s.setSem p i v).out = s.out := rfl
@[simp] theorem State.setSem_reader (s : State) (p i v : Nat) : (s.setSem p i v).reader = s.reader := rfl
@[simp] theorem State.setSem_nbrs (s : State) (p i v : Nat) : (s.setSem p i v).nbrs = s.nbrs := rfl
@[simp] theorem State.setSem_macsec (s : State) (p i v : Nat) : (s.setSem p i v).macsec = s.macsec := rfl
@[simp] theorem State.setSem_linkLost (s : State) (p i v : Nat) : (s.setSem p i v).linkLost = s.linkLost := rfl
@[simp] theorem State.setSem_plans (s : State) (p i v : Nat) : (s.setSem p i v).plans = s.plans := rfl
@[simp] theorem State.setSem_tx (s : State) (p i v : Nat) : (s.setSem p i v).tx = s.tx := rfl
@[simp] theorem State.setSem_rx (s : State) (p i v : Nat) : (s.setSem p i v).rx = s.rx := rfl
@[simp] theorem State.setSem_carr (s : State) (p i v : Nat) : (s.setSem p i v).carr = s.carr := rfl
@[simp] theorem State.setSem_pairSeq (s : State) (p i v : Nat) : (s.setSem p i v).pairSeq = s.pairSeq := rfl
@[simp] theorem State.setSem_drainDue (s : State) (p i v : Nat) : (s.setSem p i v).drainDue = s.drainDue := rfl
@[simp] theorem State.setSem_supply (s : State) (p i v : Nat) : (s.setSem p i v).supply = s.supply := rfl
@[simp] theorem State.setSem_vault (s : State) (p i v : Nat) : (s.setSem p i v).vault = s.vault := rfl
@[simp] theorem State.setSem_flash (s : State) (p i v : Nat) : (s.setSem p i v).flash = s.flash := rfl
@[simp] theorem State.setSem_conns (s : State) (p i v : Nat) : (s.setSem p i v).conns = s.conns := rfl
@[simp] theorem State.setSem_nextConn (s : State) (p i v : Nat) : (s.setSem p i v).nextConn = s.nextConn := rfl
@[simp] theorem State.setSem_sensors (s : State) (p i v : Nat) : (s.setSem p i v).sensors = s.sensors := rfl
@[simp] theorem State.setSem_free (s : State) (p i v : Nat) : (s.setSem p i v).free = s.free := rfl

/-! ### setPrt -/

@[simp] theorem State.setPrt_pending (s : State) (n : Nat) (x : Part) : (s.setPrt n x).pending = s.pending := rfl
@[simp] theorem State.setPrt_regs (s : State) (n : Nat) (x : Part) : (s.setPrt n x).regs = s.regs := rfl
@[simp] theorem State.setPrt_mem (s : State) (n : Nat) (x : Part) : (s.setPrt n x).mem = s.mem := rfl
@[simp] theorem State.setPrt_lineErr (s : State) (n : Nat) (x : Part) : (s.setPrt n x).lineErr = s.lineErr := rfl
@[simp] theorem State.setPrt_tags (s : State) (n : Nat) (x : Part) : (s.setPrt n x).tags = s.tags := rfl
@[simp] theorem State.setPrt_nearBands (s : State) (n : Nat) (x : Part) : (s.setPrt n x).nearBands = s.nearBands := rfl
@[simp] theorem State.setPrt_wcb (s : State) (n : Nat) (x : Part) : (s.setPrt n x).wcb = s.wcb := rfl
@[simp] theorem State.setPrt_hbmHeld (s : State) (n : Nat) (x : Part) : (s.setPrt n x).hbmHeld = s.hbmHeld := rfl
@[simp] theorem State.setPrt_doorbells (s : State) (n : Nat) (x : Part) : (s.setPrt n x).doorbells = s.doorbells := rfl
@[simp] theorem State.setPrt_plates (s : State) (n : Nat) (x : Part) : (s.setPrt n x).plates = s.plates := rfl
@[simp] theorem State.setPrt_banks (s : State) (n : Nat) (x : Part) : (s.setPrt n x).banks = s.banks := rfl
@[simp] theorem State.setPrt_served (s : State) (n : Nat) (x : Part) : (s.setPrt n x).served = s.served := rfl
@[simp] theorem State.setPrt_trayMap (s : State) (n : Nat) (x : Part) : (s.setPrt n x).trayMap = s.trayMap := rfl
@[simp] theorem State.setPrt_work (s : State) (n : Nat) (x : Part) : (s.setPrt n x).work = s.work := rfl
@[simp] theorem State.setPrt_bgWork (s : State) (n : Nat) (x : Part) : (s.setPrt n x).bgWork = s.bgWork := rfl
@[simp] theorem State.setPrt_washHeld (s : State) (n : Nat) (x : Part) : (s.setPrt n x).washHeld = s.washHeld := rfl
@[simp] theorem State.setPrt_washFrom (s : State) (n : Nat) (x : Part) : (s.setPrt n x).washFrom = s.washFrom := rfl
@[simp] theorem State.setPrt_ctlHeld (s : State) (n : Nat) (x : Part) : (s.setPrt n x).ctlHeld = s.ctlHeld := rfl
@[simp] theorem State.setPrt_fetchHeld (s : State) (n : Nat) (x : Part) : (s.setPrt n x).fetchHeld = s.fetchHeld := rfl
@[simp] theorem State.setPrt_ctxs (s : State) (n : Nat) (x : Part) : (s.setPrt n x).ctxs = s.ctxs := rfl
@[simp] theorem State.setPrt_slots (s : State) (n : Nat) (x : Part) : (s.setPrt n x).slots = s.slots := rfl
@[simp] theorem State.setPrt_rings (s : State) (n : Nat) (x : Part) : (s.setPrt n x).rings = s.rings := rfl
@[simp] theorem State.setPrt_streams (s : State) (n : Nat) (x : Part) : (s.setPrt n x).streams = s.streams := rfl
@[simp] theorem State.setPrt_ucie (s : State) (n : Nat) (x : Part) : (s.setPrt n x).ucie = s.ucie := rfl
@[simp] theorem State.setPrt_timer (s : State) (n : Nat) (x : Part) : (s.setPrt n x).timer = s.timer := rfl
@[simp] theorem State.setPrt_logSeq (s : State) (n : Nat) (x : Part) : (s.setPrt n x).logSeq = s.logSeq := rfl
@[simp] theorem State.setPrt_corrected (s : State) (n : Nat) (x : Part) : (s.setPrt n x).corrected = s.corrected := rfl
@[simp] theorem State.setPrt_dieLog (s : State) (n : Nat) (x : Part) : (s.setPrt n x).dieLog = s.dieLog := rfl
@[simp] theorem State.setPrt_out (s : State) (n : Nat) (x : Part) : (s.setPrt n x).out = s.out := rfl
@[simp] theorem State.setPrt_reader (s : State) (n : Nat) (x : Part) : (s.setPrt n x).reader = s.reader := rfl
@[simp] theorem State.setPrt_nbrs (s : State) (n : Nat) (x : Part) : (s.setPrt n x).nbrs = s.nbrs := rfl
@[simp] theorem State.setPrt_macsec (s : State) (n : Nat) (x : Part) : (s.setPrt n x).macsec = s.macsec := rfl
@[simp] theorem State.setPrt_linkLost (s : State) (n : Nat) (x : Part) : (s.setPrt n x).linkLost = s.linkLost := rfl
@[simp] theorem State.setPrt_plans (s : State) (n : Nat) (x : Part) : (s.setPrt n x).plans = s.plans := rfl
@[simp] theorem State.setPrt_tx (s : State) (n : Nat) (x : Part) : (s.setPrt n x).tx = s.tx := rfl
@[simp] theorem State.setPrt_rx (s : State) (n : Nat) (x : Part) : (s.setPrt n x).rx = s.rx := rfl
@[simp] theorem State.setPrt_carr (s : State) (n : Nat) (x : Part) : (s.setPrt n x).carr = s.carr := rfl
@[simp] theorem State.setPrt_pairSeq (s : State) (n : Nat) (x : Part) : (s.setPrt n x).pairSeq = s.pairSeq := rfl
@[simp] theorem State.setPrt_drainDue (s : State) (n : Nat) (x : Part) : (s.setPrt n x).drainDue = s.drainDue := rfl
@[simp] theorem State.setPrt_supply (s : State) (n : Nat) (x : Part) : (s.setPrt n x).supply = s.supply := rfl
@[simp] theorem State.setPrt_vault (s : State) (n : Nat) (x : Part) : (s.setPrt n x).vault = s.vault := rfl
@[simp] theorem State.setPrt_flash (s : State) (n : Nat) (x : Part) : (s.setPrt n x).flash = s.flash := rfl
@[simp] theorem State.setPrt_conns (s : State) (n : Nat) (x : Part) : (s.setPrt n x).conns = s.conns := rfl
@[simp] theorem State.setPrt_nextConn (s : State) (n : Nat) (x : Part) : (s.setPrt n x).nextConn = s.nextConn := rfl
@[simp] theorem State.setPrt_sensors (s : State) (n : Nat) (x : Part) : (s.setPrt n x).sensors = s.sensors := rfl
@[simp] theorem State.setPrt_free (s : State) (n : Nat) (x : Part) : (s.setPrt n x).free = s.free := rfl

/-! ### setCtx -/

@[simp] theorem State.setCtx_pending (s : State) (c : Nat) (x : Ctx) : (s.setCtx c x).pending = s.pending := rfl
@[simp] theorem State.setCtx_regs (s : State) (c : Nat) (x : Ctx) : (s.setCtx c x).regs = s.regs := rfl
@[simp] theorem State.setCtx_mem (s : State) (c : Nat) (x : Ctx) : (s.setCtx c x).mem = s.mem := rfl
@[simp] theorem State.setCtx_lineErr (s : State) (c : Nat) (x : Ctx) : (s.setCtx c x).lineErr = s.lineErr := rfl
@[simp] theorem State.setCtx_tags (s : State) (c : Nat) (x : Ctx) : (s.setCtx c x).tags = s.tags := rfl
@[simp] theorem State.setCtx_nearBands (s : State) (c : Nat) (x : Ctx) : (s.setCtx c x).nearBands = s.nearBands := rfl
@[simp] theorem State.setCtx_wcb (s : State) (c : Nat) (x : Ctx) : (s.setCtx c x).wcb = s.wcb := rfl
@[simp] theorem State.setCtx_hbmHeld (s : State) (c : Nat) (x : Ctx) : (s.setCtx c x).hbmHeld = s.hbmHeld := rfl
@[simp] theorem State.setCtx_doorbells (s : State) (c : Nat) (x : Ctx) : (s.setCtx c x).doorbells = s.doorbells := rfl
@[simp] theorem State.setCtx_plates (s : State) (c : Nat) (x : Ctx) : (s.setCtx c x).plates = s.plates := rfl
@[simp] theorem State.setCtx_banks (s : State) (c : Nat) (x : Ctx) : (s.setCtx c x).banks = s.banks := rfl
@[simp] theorem State.setCtx_served (s : State) (c : Nat) (x : Ctx) : (s.setCtx c x).served = s.served := rfl
@[simp] theorem State.setCtx_trayMap (s : State) (c : Nat) (x : Ctx) : (s.setCtx c x).trayMap = s.trayMap := rfl
@[simp] theorem State.setCtx_work (s : State) (c : Nat) (x : Ctx) : (s.setCtx c x).work = s.work := rfl
@[simp] theorem State.setCtx_bgWork (s : State) (c : Nat) (x : Ctx) : (s.setCtx c x).bgWork = s.bgWork := rfl
@[simp] theorem State.setCtx_washHeld (s : State) (c : Nat) (x : Ctx) : (s.setCtx c x).washHeld = s.washHeld := rfl
@[simp] theorem State.setCtx_washFrom (s : State) (c : Nat) (x : Ctx) : (s.setCtx c x).washFrom = s.washFrom := rfl
@[simp] theorem State.setCtx_ctlHeld (s : State) (c : Nat) (x : Ctx) : (s.setCtx c x).ctlHeld = s.ctlHeld := rfl
@[simp] theorem State.setCtx_fetchHeld (s : State) (c : Nat) (x : Ctx) : (s.setCtx c x).fetchHeld = s.fetchHeld := rfl
@[simp] theorem State.setCtx_parts (s : State) (c : Nat) (x : Ctx) : (s.setCtx c x).parts = s.parts := rfl
@[simp] theorem State.setCtx_slots (s : State) (c : Nat) (x : Ctx) : (s.setCtx c x).slots = s.slots := rfl
@[simp] theorem State.setCtx_rings (s : State) (c : Nat) (x : Ctx) : (s.setCtx c x).rings = s.rings := rfl
@[simp] theorem State.setCtx_streams (s : State) (c : Nat) (x : Ctx) : (s.setCtx c x).streams = s.streams := rfl
@[simp] theorem State.setCtx_ucie (s : State) (c : Nat) (x : Ctx) : (s.setCtx c x).ucie = s.ucie := rfl
@[simp] theorem State.setCtx_timer (s : State) (c : Nat) (x : Ctx) : (s.setCtx c x).timer = s.timer := rfl
@[simp] theorem State.setCtx_logSeq (s : State) (c : Nat) (x : Ctx) : (s.setCtx c x).logSeq = s.logSeq := rfl
@[simp] theorem State.setCtx_corrected (s : State) (c : Nat) (x : Ctx) : (s.setCtx c x).corrected = s.corrected := rfl
@[simp] theorem State.setCtx_dieLog (s : State) (c : Nat) (x : Ctx) : (s.setCtx c x).dieLog = s.dieLog := rfl
@[simp] theorem State.setCtx_out (s : State) (c : Nat) (x : Ctx) : (s.setCtx c x).out = s.out := rfl
@[simp] theorem State.setCtx_reader (s : State) (c : Nat) (x : Ctx) : (s.setCtx c x).reader = s.reader := rfl
@[simp] theorem State.setCtx_nbrs (s : State) (c : Nat) (x : Ctx) : (s.setCtx c x).nbrs = s.nbrs := rfl
@[simp] theorem State.setCtx_macsec (s : State) (c : Nat) (x : Ctx) : (s.setCtx c x).macsec = s.macsec := rfl
@[simp] theorem State.setCtx_linkLost (s : State) (c : Nat) (x : Ctx) : (s.setCtx c x).linkLost = s.linkLost := rfl
@[simp] theorem State.setCtx_plans (s : State) (c : Nat) (x : Ctx) : (s.setCtx c x).plans = s.plans := rfl
@[simp] theorem State.setCtx_tx (s : State) (c : Nat) (x : Ctx) : (s.setCtx c x).tx = s.tx := rfl
@[simp] theorem State.setCtx_rx (s : State) (c : Nat) (x : Ctx) : (s.setCtx c x).rx = s.rx := rfl
@[simp] theorem State.setCtx_carr (s : State) (c : Nat) (x : Ctx) : (s.setCtx c x).carr = s.carr := rfl
@[simp] theorem State.setCtx_pairSeq (s : State) (c : Nat) (x : Ctx) : (s.setCtx c x).pairSeq = s.pairSeq := rfl
@[simp] theorem State.setCtx_drainDue (s : State) (c : Nat) (x : Ctx) : (s.setCtx c x).drainDue = s.drainDue := rfl
@[simp] theorem State.setCtx_supply (s : State) (c : Nat) (x : Ctx) : (s.setCtx c x).supply = s.supply := rfl
@[simp] theorem State.setCtx_vault (s : State) (c : Nat) (x : Ctx) : (s.setCtx c x).vault = s.vault := rfl
@[simp] theorem State.setCtx_flash (s : State) (c : Nat) (x : Ctx) : (s.setCtx c x).flash = s.flash := rfl
@[simp] theorem State.setCtx_conns (s : State) (c : Nat) (x : Ctx) : (s.setCtx c x).conns = s.conns := rfl
@[simp] theorem State.setCtx_nextConn (s : State) (c : Nat) (x : Ctx) : (s.setCtx c x).nextConn = s.nextConn := rfl
@[simp] theorem State.setCtx_sensors (s : State) (c : Nat) (x : Ctx) : (s.setCtx c x).sensors = s.sensors := rfl
@[simp] theorem State.setCtx_free (s : State) (c : Nat) (x : Ctx) : (s.setCtx c x).free = s.free := rfl

/-! ### setSlot -/

@[simp] theorem State.setSlot_pending (s : State) (q : Nat) (x : Slot) : (s.setSlot q x).pending = s.pending := rfl
@[simp] theorem State.setSlot_regs (s : State) (q : Nat) (x : Slot) : (s.setSlot q x).regs = s.regs := rfl
@[simp] theorem State.setSlot_mem (s : State) (q : Nat) (x : Slot) : (s.setSlot q x).mem = s.mem := rfl
@[simp] theorem State.setSlot_lineErr (s : State) (q : Nat) (x : Slot) : (s.setSlot q x).lineErr = s.lineErr := rfl
@[simp] theorem State.setSlot_tags (s : State) (q : Nat) (x : Slot) : (s.setSlot q x).tags = s.tags := rfl
@[simp] theorem State.setSlot_nearBands (s : State) (q : Nat) (x : Slot) : (s.setSlot q x).nearBands = s.nearBands := rfl
@[simp] theorem State.setSlot_wcb (s : State) (q : Nat) (x : Slot) : (s.setSlot q x).wcb = s.wcb := rfl
@[simp] theorem State.setSlot_hbmHeld (s : State) (q : Nat) (x : Slot) : (s.setSlot q x).hbmHeld = s.hbmHeld := rfl
@[simp] theorem State.setSlot_doorbells (s : State) (q : Nat) (x : Slot) : (s.setSlot q x).doorbells = s.doorbells := rfl
@[simp] theorem State.setSlot_plates (s : State) (q : Nat) (x : Slot) : (s.setSlot q x).plates = s.plates := rfl
@[simp] theorem State.setSlot_banks (s : State) (q : Nat) (x : Slot) : (s.setSlot q x).banks = s.banks := rfl
@[simp] theorem State.setSlot_served (s : State) (q : Nat) (x : Slot) : (s.setSlot q x).served = s.served := rfl
@[simp] theorem State.setSlot_trayMap (s : State) (q : Nat) (x : Slot) : (s.setSlot q x).trayMap = s.trayMap := rfl
@[simp] theorem State.setSlot_work (s : State) (q : Nat) (x : Slot) : (s.setSlot q x).work = s.work := rfl
@[simp] theorem State.setSlot_bgWork (s : State) (q : Nat) (x : Slot) : (s.setSlot q x).bgWork = s.bgWork := rfl
@[simp] theorem State.setSlot_washHeld (s : State) (q : Nat) (x : Slot) : (s.setSlot q x).washHeld = s.washHeld := rfl
@[simp] theorem State.setSlot_washFrom (s : State) (q : Nat) (x : Slot) : (s.setSlot q x).washFrom = s.washFrom := rfl
@[simp] theorem State.setSlot_ctlHeld (s : State) (q : Nat) (x : Slot) : (s.setSlot q x).ctlHeld = s.ctlHeld := rfl
@[simp] theorem State.setSlot_fetchHeld (s : State) (q : Nat) (x : Slot) : (s.setSlot q x).fetchHeld = s.fetchHeld := rfl
@[simp] theorem State.setSlot_parts (s : State) (q : Nat) (x : Slot) : (s.setSlot q x).parts = s.parts := rfl
@[simp] theorem State.setSlot_ctxs (s : State) (q : Nat) (x : Slot) : (s.setSlot q x).ctxs = s.ctxs := rfl
@[simp] theorem State.setSlot_rings (s : State) (q : Nat) (x : Slot) : (s.setSlot q x).rings = s.rings := rfl
@[simp] theorem State.setSlot_streams (s : State) (q : Nat) (x : Slot) : (s.setSlot q x).streams = s.streams := rfl
@[simp] theorem State.setSlot_ucie (s : State) (q : Nat) (x : Slot) : (s.setSlot q x).ucie = s.ucie := rfl
@[simp] theorem State.setSlot_timer (s : State) (q : Nat) (x : Slot) : (s.setSlot q x).timer = s.timer := rfl
@[simp] theorem State.setSlot_logSeq (s : State) (q : Nat) (x : Slot) : (s.setSlot q x).logSeq = s.logSeq := rfl
@[simp] theorem State.setSlot_corrected (s : State) (q : Nat) (x : Slot) : (s.setSlot q x).corrected = s.corrected := rfl
@[simp] theorem State.setSlot_dieLog (s : State) (q : Nat) (x : Slot) : (s.setSlot q x).dieLog = s.dieLog := rfl
@[simp] theorem State.setSlot_out (s : State) (q : Nat) (x : Slot) : (s.setSlot q x).out = s.out := rfl
@[simp] theorem State.setSlot_reader (s : State) (q : Nat) (x : Slot) : (s.setSlot q x).reader = s.reader := rfl
@[simp] theorem State.setSlot_nbrs (s : State) (q : Nat) (x : Slot) : (s.setSlot q x).nbrs = s.nbrs := rfl
@[simp] theorem State.setSlot_macsec (s : State) (q : Nat) (x : Slot) : (s.setSlot q x).macsec = s.macsec := rfl
@[simp] theorem State.setSlot_linkLost (s : State) (q : Nat) (x : Slot) : (s.setSlot q x).linkLost = s.linkLost := rfl
@[simp] theorem State.setSlot_plans (s : State) (q : Nat) (x : Slot) : (s.setSlot q x).plans = s.plans := rfl
@[simp] theorem State.setSlot_tx (s : State) (q : Nat) (x : Slot) : (s.setSlot q x).tx = s.tx := rfl
@[simp] theorem State.setSlot_rx (s : State) (q : Nat) (x : Slot) : (s.setSlot q x).rx = s.rx := rfl
@[simp] theorem State.setSlot_carr (s : State) (q : Nat) (x : Slot) : (s.setSlot q x).carr = s.carr := rfl
@[simp] theorem State.setSlot_pairSeq (s : State) (q : Nat) (x : Slot) : (s.setSlot q x).pairSeq = s.pairSeq := rfl
@[simp] theorem State.setSlot_drainDue (s : State) (q : Nat) (x : Slot) : (s.setSlot q x).drainDue = s.drainDue := rfl
@[simp] theorem State.setSlot_supply (s : State) (q : Nat) (x : Slot) : (s.setSlot q x).supply = s.supply := rfl
@[simp] theorem State.setSlot_vault (s : State) (q : Nat) (x : Slot) : (s.setSlot q x).vault = s.vault := rfl
@[simp] theorem State.setSlot_flash (s : State) (q : Nat) (x : Slot) : (s.setSlot q x).flash = s.flash := rfl
@[simp] theorem State.setSlot_conns (s : State) (q : Nat) (x : Slot) : (s.setSlot q x).conns = s.conns := rfl
@[simp] theorem State.setSlot_nextConn (s : State) (q : Nat) (x : Slot) : (s.setSlot q x).nextConn = s.nextConn := rfl
@[simp] theorem State.setSlot_sensors (s : State) (q : Nat) (x : Slot) : (s.setSlot q x).sensors = s.sensors := rfl
@[simp] theorem State.setSlot_free (s : State) (q : Nat) (x : Slot) : (s.setSlot q x).free = s.free := rfl

/-! ### setRing -/

@[simp] theorem State.setRing_pending (s : State) (r : Nat) (x : Ring) : (s.setRing r x).pending = s.pending := rfl
@[simp] theorem State.setRing_regs (s : State) (r : Nat) (x : Ring) : (s.setRing r x).regs = s.regs := rfl
@[simp] theorem State.setRing_mem (s : State) (r : Nat) (x : Ring) : (s.setRing r x).mem = s.mem := rfl
@[simp] theorem State.setRing_lineErr (s : State) (r : Nat) (x : Ring) : (s.setRing r x).lineErr = s.lineErr := rfl
@[simp] theorem State.setRing_tags (s : State) (r : Nat) (x : Ring) : (s.setRing r x).tags = s.tags := rfl
@[simp] theorem State.setRing_nearBands (s : State) (r : Nat) (x : Ring) : (s.setRing r x).nearBands = s.nearBands := rfl
@[simp] theorem State.setRing_wcb (s : State) (r : Nat) (x : Ring) : (s.setRing r x).wcb = s.wcb := rfl
@[simp] theorem State.setRing_hbmHeld (s : State) (r : Nat) (x : Ring) : (s.setRing r x).hbmHeld = s.hbmHeld := rfl
@[simp] theorem State.setRing_doorbells (s : State) (r : Nat) (x : Ring) : (s.setRing r x).doorbells = s.doorbells := rfl
@[simp] theorem State.setRing_plates (s : State) (r : Nat) (x : Ring) : (s.setRing r x).plates = s.plates := rfl
@[simp] theorem State.setRing_banks (s : State) (r : Nat) (x : Ring) : (s.setRing r x).banks = s.banks := rfl
@[simp] theorem State.setRing_served (s : State) (r : Nat) (x : Ring) : (s.setRing r x).served = s.served := rfl
@[simp] theorem State.setRing_trayMap (s : State) (r : Nat) (x : Ring) : (s.setRing r x).trayMap = s.trayMap := rfl
@[simp] theorem State.setRing_work (s : State) (r : Nat) (x : Ring) : (s.setRing r x).work = s.work := rfl
@[simp] theorem State.setRing_bgWork (s : State) (r : Nat) (x : Ring) : (s.setRing r x).bgWork = s.bgWork := rfl
@[simp] theorem State.setRing_washHeld (s : State) (r : Nat) (x : Ring) : (s.setRing r x).washHeld = s.washHeld := rfl
@[simp] theorem State.setRing_washFrom (s : State) (r : Nat) (x : Ring) : (s.setRing r x).washFrom = s.washFrom := rfl
@[simp] theorem State.setRing_ctlHeld (s : State) (r : Nat) (x : Ring) : (s.setRing r x).ctlHeld = s.ctlHeld := rfl
@[simp] theorem State.setRing_fetchHeld (s : State) (r : Nat) (x : Ring) : (s.setRing r x).fetchHeld = s.fetchHeld := rfl
@[simp] theorem State.setRing_parts (s : State) (r : Nat) (x : Ring) : (s.setRing r x).parts = s.parts := rfl
@[simp] theorem State.setRing_ctxs (s : State) (r : Nat) (x : Ring) : (s.setRing r x).ctxs = s.ctxs := rfl
@[simp] theorem State.setRing_slots (s : State) (r : Nat) (x : Ring) : (s.setRing r x).slots = s.slots := rfl
@[simp] theorem State.setRing_streams (s : State) (r : Nat) (x : Ring) : (s.setRing r x).streams = s.streams := rfl
@[simp] theorem State.setRing_ucie (s : State) (r : Nat) (x : Ring) : (s.setRing r x).ucie = s.ucie := rfl
@[simp] theorem State.setRing_timer (s : State) (r : Nat) (x : Ring) : (s.setRing r x).timer = s.timer := rfl
@[simp] theorem State.setRing_logSeq (s : State) (r : Nat) (x : Ring) : (s.setRing r x).logSeq = s.logSeq := rfl
@[simp] theorem State.setRing_corrected (s : State) (r : Nat) (x : Ring) : (s.setRing r x).corrected = s.corrected := rfl
@[simp] theorem State.setRing_dieLog (s : State) (r : Nat) (x : Ring) : (s.setRing r x).dieLog = s.dieLog := rfl
@[simp] theorem State.setRing_out (s : State) (r : Nat) (x : Ring) : (s.setRing r x).out = s.out := rfl
@[simp] theorem State.setRing_reader (s : State) (r : Nat) (x : Ring) : (s.setRing r x).reader = s.reader := rfl
@[simp] theorem State.setRing_nbrs (s : State) (r : Nat) (x : Ring) : (s.setRing r x).nbrs = s.nbrs := rfl
@[simp] theorem State.setRing_macsec (s : State) (r : Nat) (x : Ring) : (s.setRing r x).macsec = s.macsec := rfl
@[simp] theorem State.setRing_linkLost (s : State) (r : Nat) (x : Ring) : (s.setRing r x).linkLost = s.linkLost := rfl
@[simp] theorem State.setRing_plans (s : State) (r : Nat) (x : Ring) : (s.setRing r x).plans = s.plans := rfl
@[simp] theorem State.setRing_tx (s : State) (r : Nat) (x : Ring) : (s.setRing r x).tx = s.tx := rfl
@[simp] theorem State.setRing_rx (s : State) (r : Nat) (x : Ring) : (s.setRing r x).rx = s.rx := rfl
@[simp] theorem State.setRing_carr (s : State) (r : Nat) (x : Ring) : (s.setRing r x).carr = s.carr := rfl
@[simp] theorem State.setRing_pairSeq (s : State) (r : Nat) (x : Ring) : (s.setRing r x).pairSeq = s.pairSeq := rfl
@[simp] theorem State.setRing_drainDue (s : State) (r : Nat) (x : Ring) : (s.setRing r x).drainDue = s.drainDue := rfl
@[simp] theorem State.setRing_supply (s : State) (r : Nat) (x : Ring) : (s.setRing r x).supply = s.supply := rfl
@[simp] theorem State.setRing_vault (s : State) (r : Nat) (x : Ring) : (s.setRing r x).vault = s.vault := rfl
@[simp] theorem State.setRing_flash (s : State) (r : Nat) (x : Ring) : (s.setRing r x).flash = s.flash := rfl
@[simp] theorem State.setRing_conns (s : State) (r : Nat) (x : Ring) : (s.setRing r x).conns = s.conns := rfl
@[simp] theorem State.setRing_nextConn (s : State) (r : Nat) (x : Ring) : (s.setRing r x).nextConn = s.nextConn := rfl
@[simp] theorem State.setRing_sensors (s : State) (r : Nat) (x : Ring) : (s.setRing r x).sensors = s.sensors := rfl
@[simp] theorem State.setRing_free (s : State) (r : Nat) (x : Ring) : (s.setRing r x).free = s.free := rfl

/-! ### setLineErr -/

@[simp] theorem State.setLineErr_pending (s : State) (l : Nat) (e : LineErr) : (s.setLineErr l e).pending = s.pending := rfl
@[simp] theorem State.setLineErr_regs (s : State) (l : Nat) (e : LineErr) : (s.setLineErr l e).regs = s.regs := rfl
@[simp] theorem State.setLineErr_mem (s : State) (l : Nat) (e : LineErr) : (s.setLineErr l e).mem = s.mem := rfl
@[simp] theorem State.setLineErr_tags (s : State) (l : Nat) (e : LineErr) : (s.setLineErr l e).tags = s.tags := rfl
@[simp] theorem State.setLineErr_nearBands (s : State) (l : Nat) (e : LineErr) : (s.setLineErr l e).nearBands = s.nearBands := rfl
@[simp] theorem State.setLineErr_wcb (s : State) (l : Nat) (e : LineErr) : (s.setLineErr l e).wcb = s.wcb := rfl
@[simp] theorem State.setLineErr_hbmHeld (s : State) (l : Nat) (e : LineErr) : (s.setLineErr l e).hbmHeld = s.hbmHeld := rfl
@[simp] theorem State.setLineErr_doorbells (s : State) (l : Nat) (e : LineErr) : (s.setLineErr l e).doorbells = s.doorbells := rfl
@[simp] theorem State.setLineErr_plates (s : State) (l : Nat) (e : LineErr) : (s.setLineErr l e).plates = s.plates := rfl
@[simp] theorem State.setLineErr_banks (s : State) (l : Nat) (e : LineErr) : (s.setLineErr l e).banks = s.banks := rfl
@[simp] theorem State.setLineErr_served (s : State) (l : Nat) (e : LineErr) : (s.setLineErr l e).served = s.served := rfl
@[simp] theorem State.setLineErr_trayMap (s : State) (l : Nat) (e : LineErr) : (s.setLineErr l e).trayMap = s.trayMap := rfl
@[simp] theorem State.setLineErr_work (s : State) (l : Nat) (e : LineErr) : (s.setLineErr l e).work = s.work := rfl
@[simp] theorem State.setLineErr_bgWork (s : State) (l : Nat) (e : LineErr) : (s.setLineErr l e).bgWork = s.bgWork := rfl
@[simp] theorem State.setLineErr_washHeld (s : State) (l : Nat) (e : LineErr) : (s.setLineErr l e).washHeld = s.washHeld := rfl
@[simp] theorem State.setLineErr_washFrom (s : State) (l : Nat) (e : LineErr) : (s.setLineErr l e).washFrom = s.washFrom := rfl
@[simp] theorem State.setLineErr_ctlHeld (s : State) (l : Nat) (e : LineErr) : (s.setLineErr l e).ctlHeld = s.ctlHeld := rfl
@[simp] theorem State.setLineErr_fetchHeld (s : State) (l : Nat) (e : LineErr) : (s.setLineErr l e).fetchHeld = s.fetchHeld := rfl
@[simp] theorem State.setLineErr_parts (s : State) (l : Nat) (e : LineErr) : (s.setLineErr l e).parts = s.parts := rfl
@[simp] theorem State.setLineErr_ctxs (s : State) (l : Nat) (e : LineErr) : (s.setLineErr l e).ctxs = s.ctxs := rfl
@[simp] theorem State.setLineErr_slots (s : State) (l : Nat) (e : LineErr) : (s.setLineErr l e).slots = s.slots := rfl
@[simp] theorem State.setLineErr_rings (s : State) (l : Nat) (e : LineErr) : (s.setLineErr l e).rings = s.rings := rfl
@[simp] theorem State.setLineErr_streams (s : State) (l : Nat) (e : LineErr) : (s.setLineErr l e).streams = s.streams := rfl
@[simp] theorem State.setLineErr_ucie (s : State) (l : Nat) (e : LineErr) : (s.setLineErr l e).ucie = s.ucie := rfl
@[simp] theorem State.setLineErr_timer (s : State) (l : Nat) (e : LineErr) : (s.setLineErr l e).timer = s.timer := rfl
@[simp] theorem State.setLineErr_logSeq (s : State) (l : Nat) (e : LineErr) : (s.setLineErr l e).logSeq = s.logSeq := rfl
@[simp] theorem State.setLineErr_corrected (s : State) (l : Nat) (e : LineErr) : (s.setLineErr l e).corrected = s.corrected := rfl
@[simp] theorem State.setLineErr_dieLog (s : State) (l : Nat) (e : LineErr) : (s.setLineErr l e).dieLog = s.dieLog := rfl
@[simp] theorem State.setLineErr_out (s : State) (l : Nat) (e : LineErr) : (s.setLineErr l e).out = s.out := rfl
@[simp] theorem State.setLineErr_reader (s : State) (l : Nat) (e : LineErr) : (s.setLineErr l e).reader = s.reader := rfl
@[simp] theorem State.setLineErr_nbrs (s : State) (l : Nat) (e : LineErr) : (s.setLineErr l e).nbrs = s.nbrs := rfl
@[simp] theorem State.setLineErr_macsec (s : State) (l : Nat) (e : LineErr) : (s.setLineErr l e).macsec = s.macsec := rfl
@[simp] theorem State.setLineErr_linkLost (s : State) (l : Nat) (e : LineErr) : (s.setLineErr l e).linkLost = s.linkLost := rfl
@[simp] theorem State.setLineErr_plans (s : State) (l : Nat) (e : LineErr) : (s.setLineErr l e).plans = s.plans := rfl
@[simp] theorem State.setLineErr_tx (s : State) (l : Nat) (e : LineErr) : (s.setLineErr l e).tx = s.tx := rfl
@[simp] theorem State.setLineErr_rx (s : State) (l : Nat) (e : LineErr) : (s.setLineErr l e).rx = s.rx := rfl
@[simp] theorem State.setLineErr_carr (s : State) (l : Nat) (e : LineErr) : (s.setLineErr l e).carr = s.carr := rfl
@[simp] theorem State.setLineErr_pairSeq (s : State) (l : Nat) (e : LineErr) : (s.setLineErr l e).pairSeq = s.pairSeq := rfl
@[simp] theorem State.setLineErr_drainDue (s : State) (l : Nat) (e : LineErr) : (s.setLineErr l e).drainDue = s.drainDue := rfl
@[simp] theorem State.setLineErr_supply (s : State) (l : Nat) (e : LineErr) : (s.setLineErr l e).supply = s.supply := rfl
@[simp] theorem State.setLineErr_vault (s : State) (l : Nat) (e : LineErr) : (s.setLineErr l e).vault = s.vault := rfl
@[simp] theorem State.setLineErr_flash (s : State) (l : Nat) (e : LineErr) : (s.setLineErr l e).flash = s.flash := rfl
@[simp] theorem State.setLineErr_conns (s : State) (l : Nat) (e : LineErr) : (s.setLineErr l e).conns = s.conns := rfl
@[simp] theorem State.setLineErr_nextConn (s : State) (l : Nat) (e : LineErr) : (s.setLineErr l e).nextConn = s.nextConn := rfl
@[simp] theorem State.setLineErr_sensors (s : State) (l : Nat) (e : LineErr) : (s.setLineErr l e).sensors = s.sensors := rfl
@[simp] theorem State.setLineErr_free (s : State) (l : Nat) (e : LineErr) : (s.setLineErr l e).free = s.free := rfl

/-! ### setTag -/

@[simp] theorem State.setTag_pending (s : State) (b : Nat) (t : BlockTag) : (s.setTag b t).pending = s.pending := rfl
@[simp] theorem State.setTag_regs (s : State) (b : Nat) (t : BlockTag) : (s.setTag b t).regs = s.regs := rfl
@[simp] theorem State.setTag_mem (s : State) (b : Nat) (t : BlockTag) : (s.setTag b t).mem = s.mem := rfl
@[simp] theorem State.setTag_lineErr (s : State) (b : Nat) (t : BlockTag) : (s.setTag b t).lineErr = s.lineErr := rfl
@[simp] theorem State.setTag_nearBands (s : State) (b : Nat) (t : BlockTag) : (s.setTag b t).nearBands = s.nearBands := rfl
@[simp] theorem State.setTag_wcb (s : State) (b : Nat) (t : BlockTag) : (s.setTag b t).wcb = s.wcb := rfl
@[simp] theorem State.setTag_hbmHeld (s : State) (b : Nat) (t : BlockTag) : (s.setTag b t).hbmHeld = s.hbmHeld := rfl
@[simp] theorem State.setTag_doorbells (s : State) (b : Nat) (t : BlockTag) : (s.setTag b t).doorbells = s.doorbells := rfl
@[simp] theorem State.setTag_plates (s : State) (b : Nat) (t : BlockTag) : (s.setTag b t).plates = s.plates := rfl
@[simp] theorem State.setTag_banks (s : State) (b : Nat) (t : BlockTag) : (s.setTag b t).banks = s.banks := rfl
@[simp] theorem State.setTag_served (s : State) (b : Nat) (t : BlockTag) : (s.setTag b t).served = s.served := rfl
@[simp] theorem State.setTag_trayMap (s : State) (b : Nat) (t : BlockTag) : (s.setTag b t).trayMap = s.trayMap := rfl
@[simp] theorem State.setTag_work (s : State) (b : Nat) (t : BlockTag) : (s.setTag b t).work = s.work := rfl
@[simp] theorem State.setTag_bgWork (s : State) (b : Nat) (t : BlockTag) : (s.setTag b t).bgWork = s.bgWork := rfl
@[simp] theorem State.setTag_washHeld (s : State) (b : Nat) (t : BlockTag) : (s.setTag b t).washHeld = s.washHeld := rfl
@[simp] theorem State.setTag_washFrom (s : State) (b : Nat) (t : BlockTag) : (s.setTag b t).washFrom = s.washFrom := rfl
@[simp] theorem State.setTag_ctlHeld (s : State) (b : Nat) (t : BlockTag) : (s.setTag b t).ctlHeld = s.ctlHeld := rfl
@[simp] theorem State.setTag_fetchHeld (s : State) (b : Nat) (t : BlockTag) : (s.setTag b t).fetchHeld = s.fetchHeld := rfl
@[simp] theorem State.setTag_parts (s : State) (b : Nat) (t : BlockTag) : (s.setTag b t).parts = s.parts := rfl
@[simp] theorem State.setTag_ctxs (s : State) (b : Nat) (t : BlockTag) : (s.setTag b t).ctxs = s.ctxs := rfl
@[simp] theorem State.setTag_slots (s : State) (b : Nat) (t : BlockTag) : (s.setTag b t).slots = s.slots := rfl
@[simp] theorem State.setTag_rings (s : State) (b : Nat) (t : BlockTag) : (s.setTag b t).rings = s.rings := rfl
@[simp] theorem State.setTag_streams (s : State) (b : Nat) (t : BlockTag) : (s.setTag b t).streams = s.streams := rfl
@[simp] theorem State.setTag_ucie (s : State) (b : Nat) (t : BlockTag) : (s.setTag b t).ucie = s.ucie := rfl
@[simp] theorem State.setTag_timer (s : State) (b : Nat) (t : BlockTag) : (s.setTag b t).timer = s.timer := rfl
@[simp] theorem State.setTag_logSeq (s : State) (b : Nat) (t : BlockTag) : (s.setTag b t).logSeq = s.logSeq := rfl
@[simp] theorem State.setTag_corrected (s : State) (b : Nat) (t : BlockTag) : (s.setTag b t).corrected = s.corrected := rfl
@[simp] theorem State.setTag_dieLog (s : State) (b : Nat) (t : BlockTag) : (s.setTag b t).dieLog = s.dieLog := rfl
@[simp] theorem State.setTag_out (s : State) (b : Nat) (t : BlockTag) : (s.setTag b t).out = s.out := rfl
@[simp] theorem State.setTag_reader (s : State) (b : Nat) (t : BlockTag) : (s.setTag b t).reader = s.reader := rfl
@[simp] theorem State.setTag_nbrs (s : State) (b : Nat) (t : BlockTag) : (s.setTag b t).nbrs = s.nbrs := rfl
@[simp] theorem State.setTag_macsec (s : State) (b : Nat) (t : BlockTag) : (s.setTag b t).macsec = s.macsec := rfl
@[simp] theorem State.setTag_linkLost (s : State) (b : Nat) (t : BlockTag) : (s.setTag b t).linkLost = s.linkLost := rfl
@[simp] theorem State.setTag_plans (s : State) (b : Nat) (t : BlockTag) : (s.setTag b t).plans = s.plans := rfl
@[simp] theorem State.setTag_tx (s : State) (b : Nat) (t : BlockTag) : (s.setTag b t).tx = s.tx := rfl
@[simp] theorem State.setTag_rx (s : State) (b : Nat) (t : BlockTag) : (s.setTag b t).rx = s.rx := rfl
@[simp] theorem State.setTag_carr (s : State) (b : Nat) (t : BlockTag) : (s.setTag b t).carr = s.carr := rfl
@[simp] theorem State.setTag_pairSeq (s : State) (b : Nat) (t : BlockTag) : (s.setTag b t).pairSeq = s.pairSeq := rfl
@[simp] theorem State.setTag_drainDue (s : State) (b : Nat) (t : BlockTag) : (s.setTag b t).drainDue = s.drainDue := rfl
@[simp] theorem State.setTag_supply (s : State) (b : Nat) (t : BlockTag) : (s.setTag b t).supply = s.supply := rfl
@[simp] theorem State.setTag_vault (s : State) (b : Nat) (t : BlockTag) : (s.setTag b t).vault = s.vault := rfl
@[simp] theorem State.setTag_flash (s : State) (b : Nat) (t : BlockTag) : (s.setTag b t).flash = s.flash := rfl
@[simp] theorem State.setTag_conns (s : State) (b : Nat) (t : BlockTag) : (s.setTag b t).conns = s.conns := rfl
@[simp] theorem State.setTag_nextConn (s : State) (b : Nat) (t : BlockTag) : (s.setTag b t).nextConn = s.nextConn := rfl
@[simp] theorem State.setTag_sensors (s : State) (b : Nat) (t : BlockTag) : (s.setTag b t).sensors = s.sensors := rfl
@[simp] theorem State.setTag_free (s : State) (b : Nat) (t : BlockTag) : (s.setTag b t).free = s.free := rfl

/-! ### emit -/

@[simp] theorem State.emit_pending (s : State) (o : Out) : (s.emit o).pending = s.pending := rfl
@[simp] theorem State.emit_regs (s : State) (o : Out) : (s.emit o).regs = s.regs := rfl
@[simp] theorem State.emit_mem (s : State) (o : Out) : (s.emit o).mem = s.mem := rfl
@[simp] theorem State.emit_lineErr (s : State) (o : Out) : (s.emit o).lineErr = s.lineErr := rfl
@[simp] theorem State.emit_tags (s : State) (o : Out) : (s.emit o).tags = s.tags := rfl
@[simp] theorem State.emit_nearBands (s : State) (o : Out) : (s.emit o).nearBands = s.nearBands := rfl
@[simp] theorem State.emit_wcb (s : State) (o : Out) : (s.emit o).wcb = s.wcb := rfl
@[simp] theorem State.emit_hbmHeld (s : State) (o : Out) : (s.emit o).hbmHeld = s.hbmHeld := rfl
@[simp] theorem State.emit_doorbells (s : State) (o : Out) : (s.emit o).doorbells = s.doorbells := rfl
@[simp] theorem State.emit_plates (s : State) (o : Out) : (s.emit o).plates = s.plates := rfl
@[simp] theorem State.emit_banks (s : State) (o : Out) : (s.emit o).banks = s.banks := rfl
@[simp] theorem State.emit_served (s : State) (o : Out) : (s.emit o).served = s.served := rfl
@[simp] theorem State.emit_trayMap (s : State) (o : Out) : (s.emit o).trayMap = s.trayMap := rfl
@[simp] theorem State.emit_work (s : State) (o : Out) : (s.emit o).work = s.work := rfl
@[simp] theorem State.emit_bgWork (s : State) (o : Out) : (s.emit o).bgWork = s.bgWork := rfl
@[simp] theorem State.emit_washHeld (s : State) (o : Out) : (s.emit o).washHeld = s.washHeld := rfl
@[simp] theorem State.emit_washFrom (s : State) (o : Out) : (s.emit o).washFrom = s.washFrom := rfl
@[simp] theorem State.emit_ctlHeld (s : State) (o : Out) : (s.emit o).ctlHeld = s.ctlHeld := rfl
@[simp] theorem State.emit_fetchHeld (s : State) (o : Out) : (s.emit o).fetchHeld = s.fetchHeld := rfl
@[simp] theorem State.emit_parts (s : State) (o : Out) : (s.emit o).parts = s.parts := rfl
@[simp] theorem State.emit_ctxs (s : State) (o : Out) : (s.emit o).ctxs = s.ctxs := rfl
@[simp] theorem State.emit_slots (s : State) (o : Out) : (s.emit o).slots = s.slots := rfl
@[simp] theorem State.emit_rings (s : State) (o : Out) : (s.emit o).rings = s.rings := rfl
@[simp] theorem State.emit_streams (s : State) (o : Out) : (s.emit o).streams = s.streams := rfl
@[simp] theorem State.emit_ucie (s : State) (o : Out) : (s.emit o).ucie = s.ucie := rfl
@[simp] theorem State.emit_timer (s : State) (o : Out) : (s.emit o).timer = s.timer := rfl
@[simp] theorem State.emit_logSeq (s : State) (o : Out) : (s.emit o).logSeq = s.logSeq := rfl
@[simp] theorem State.emit_corrected (s : State) (o : Out) : (s.emit o).corrected = s.corrected := rfl
@[simp] theorem State.emit_dieLog (s : State) (o : Out) : (s.emit o).dieLog = s.dieLog := rfl
@[simp] theorem State.emit_reader (s : State) (o : Out) : (s.emit o).reader = s.reader := rfl
@[simp] theorem State.emit_nbrs (s : State) (o : Out) : (s.emit o).nbrs = s.nbrs := rfl
@[simp] theorem State.emit_macsec (s : State) (o : Out) : (s.emit o).macsec = s.macsec := rfl
@[simp] theorem State.emit_linkLost (s : State) (o : Out) : (s.emit o).linkLost = s.linkLost := rfl
@[simp] theorem State.emit_plans (s : State) (o : Out) : (s.emit o).plans = s.plans := rfl
@[simp] theorem State.emit_tx (s : State) (o : Out) : (s.emit o).tx = s.tx := rfl
@[simp] theorem State.emit_rx (s : State) (o : Out) : (s.emit o).rx = s.rx := rfl
@[simp] theorem State.emit_carr (s : State) (o : Out) : (s.emit o).carr = s.carr := rfl
@[simp] theorem State.emit_pairSeq (s : State) (o : Out) : (s.emit o).pairSeq = s.pairSeq := rfl
@[simp] theorem State.emit_drainDue (s : State) (o : Out) : (s.emit o).drainDue = s.drainDue := rfl
@[simp] theorem State.emit_supply (s : State) (o : Out) : (s.emit o).supply = s.supply := rfl
@[simp] theorem State.emit_vault (s : State) (o : Out) : (s.emit o).vault = s.vault := rfl
@[simp] theorem State.emit_flash (s : State) (o : Out) : (s.emit o).flash = s.flash := rfl
@[simp] theorem State.emit_conns (s : State) (o : Out) : (s.emit o).conns = s.conns := rfl
@[simp] theorem State.emit_nextConn (s : State) (o : Out) : (s.emit o).nextConn = s.nextConn := rfl
@[simp] theorem State.emit_sensors (s : State) (o : Out) : (s.emit o).sensors = s.sensors := rfl
@[simp] theorem State.emit_free (s : State) (o : Out) : (s.emit o).free = s.free := rfl

/-! ### Registers -/

@[simp] theorem State.reg_setReg_same (s : State) (a : Nat) (v : Word64) : (s.setReg a v).reg a = v :=
  smapGet_set_same _ _ _ _

theorem State.reg_setReg_ne (s : State) {a b : Nat} (h : a ≠ b) (v : Word64) : (s.setReg a v).reg b = s.reg b :=
  smapGet_set_ne _ h _ _

/-- One bit of a word after a field was put. -/
theorem fieldPut_testBit (v : Word64) (lo w x k : Nat) (hk : k < 64) :
    (fieldPut v lo w x).toNat.testBit k = if lo ≤ k ∧ k < lo + w then x.testBit (k - lo) else v.toNat.testBit k := by
  rw [BitVec.testBit_toNat, BitVec.testBit_toNat, fieldPut]
  simp only [BitVec.getLsbD_or, BitVec.getLsbD_and, BitVec.getLsbD_not, BitVec.getLsbD_shiftLeft, BitVec.getLsbD_ofNat,
    Nat.testBit_two_pow_sub_one, Nat.testBit_mod_two_pow, hk, decide_true, Bool.true_and]
  by_cases hl : lo ≤ k
  · have h1 : ¬ k < lo := by omega
    have h2 : k - lo < 64 := by omega
    by_cases hw : k < lo + w
    · have h3 : k - lo < w := by omega
      simp [hl, hw, h1, h2, h3]
    · have h3 : ¬ k - lo < w := by omega
      simp [hl, hw, h1, h2, h3]
  · have h1 : k < lo := by omega
    simp [hl, h1]

/-- A word has no bit above 63. -/
theorem word_testBit_high (v : Word64) (k : Nat) (h : ¬ k < 64) : v.toNat.testBit k = false := by
  rw [BitVec.testBit_toNat, BitVec.getLsbD_of_ge _ _ (by omega)]

/-- A register's field after that field was put. -/
theorem fieldOf_put_same (v : Word64) (lo w x : Nat) (h : lo + w ≤ 64) : fieldOf (fieldPut v lo w x) lo w = x % 2 ^ w := by
  apply Nat.eq_of_testBit_eq
  intro i
  simp only [fieldOf, bitsOf, Nat.testBit_mod_two_pow, Nat.testBit_shiftRight]
  by_cases hi : i < w
  · rw [fieldPut_testBit _ _ _ _ _ (by omega), if_pos (by omega), Nat.add_sub_cancel_left]
  · simp [hi]

/-- A field that shares no bit with the one put. -/
theorem fieldOf_put_ne (v : Word64) (lo w x lo' w' : Nat) (h : lo + w ≤ lo' ∨ lo' + w' ≤ lo) :
    fieldOf (fieldPut v lo w x) lo' w' = fieldOf v lo' w' := by
  apply Nat.eq_of_testBit_eq
  intro i
  simp only [fieldOf, bitsOf, Nat.testBit_mod_two_pow, Nat.testBit_shiftRight]
  by_cases hi : i < w'
  · by_cases h64 : lo' + i < 64
    · rw [fieldPut_testBit _ _ _ _ _ h64, if_neg (by omega)]
    · rw [word_testBit_high _ _ h64, word_testBit_high _ _ h64]
  · simp [hi]

/-- A field read back after the engine has set it. -/
theorem State.get_put_same (s : State) (f : Fld) (i j v : Nat) (h : f.lo + f.w ≤ 64) : (s.put f i j v).get f i j = v % 2 ^ f.w := by
  rw [State.get, State.put, State.reg_setReg_same, fieldOf_put_same _ _ _ _ h]

/-- A field of another register, or other bits of the same, after the engine has set one. -/
theorem State.get_put_ne (s : State) (f g : Fld) (i j i' j' v : Nat)
    (h : fldAddr f i j ≠ fldAddr g i' j' ∨ f.lo + f.w ≤ g.lo ∨ g.lo + g.w ≤ f.lo) :
    (s.put f i j v).get g i' j' = s.get g i' j' := by
  by_cases ha : fldAddr f i j = fldAddr g i' j'
  · rw [State.get, State.put, ← ha, State.reg_setReg_same, fieldOf_put_ne _ _ _ _ _ _ (by tauto), State.get, ha]
  · rw [State.get, State.put, State.reg_setReg_ne _ ha, State.get]

/-! ### Sparse tables -/

@[simp] theorem State.plate_setPlate_same (s : State) (k : Nat) (x : Plate) : (s.setPlate k x).plate k = x := smapGet_set_same _ _ _ _
theorem State.plate_setPlate_ne (s : State) {j k : Nat} (h : k ≠ j) (x : Plate) : (s.setPlate k x).plate j = s.plate j := smapGet_set_ne _ h _ _
@[simp] theorem State.prt_setPlate (s : State) (k : Nat) (x : Plate) (j : Nat) : (s.setPlate k x).prt j = s.prt j := rfl
@[simp] theorem State.ctx_setPlate (s : State) (k : Nat) (x : Plate) (j : Nat) : (s.setPlate k x).ctx j = s.ctx j := rfl
@[simp] theorem State.slot_setPlate (s : State) (k : Nat) (x : Plate) (j : Nat) : (s.setPlate k x).slot j = s.slot j := rfl
@[simp] theorem State.ring_setPlate (s : State) (k : Nat) (x : Plate) (j : Nat) : (s.setPlate k x).ring j = s.ring j := rfl
@[simp] theorem State.reg_setPlate (s : State) (k : Nat) (x : Plate) (a : Nat) : (s.setPlate k x).reg a = s.reg a := rfl
@[simp] theorem State.get_setPlate (s : State) (k : Nat) (x : Plate) (f : Fld) (i j : Nat) : (s.setPlate k x).get f i j = s.get f i j := rfl
@[simp] theorem State.plate_put (s : State) (f : Fld) (i j v k : Nat) : (s.put f i j v).plate k = s.plate k := rfl

@[simp] theorem State.prt_setPrt_same (s : State) (k : Nat) (x : Part) : (s.setPrt k x).prt k = x := smapGet_set_same _ _ _ _
theorem State.prt_setPrt_ne (s : State) {j k : Nat} (h : k ≠ j) (x : Part) : (s.setPrt k x).prt j = s.prt j := smapGet_set_ne _ h _ _
@[simp] theorem State.plate_setPrt (s : State) (k : Nat) (x : Part) (j : Nat) : (s.setPrt k x).plate j = s.plate j := rfl
@[simp] theorem State.ctx_setPrt (s : State) (k : Nat) (x : Part) (j : Nat) : (s.setPrt k x).ctx j = s.ctx j := rfl
@[simp] theorem State.slot_setPrt (s : State) (k : Nat) (x : Part) (j : Nat) : (s.setPrt k x).slot j = s.slot j := rfl
@[simp] theorem State.ring_setPrt (s : State) (k : Nat) (x : Part) (j : Nat) : (s.setPrt k x).ring j = s.ring j := rfl
@[simp] theorem State.reg_setPrt (s : State) (k : Nat) (x : Part) (a : Nat) : (s.setPrt k x).reg a = s.reg a := rfl
@[simp] theorem State.get_setPrt (s : State) (k : Nat) (x : Part) (f : Fld) (i j : Nat) : (s.setPrt k x).get f i j = s.get f i j := rfl
@[simp] theorem State.prt_put (s : State) (f : Fld) (i j v k : Nat) : (s.put f i j v).prt k = s.prt k := rfl

@[simp] theorem State.ctx_setCtx_same (s : State) (k : Nat) (x : Ctx) : (s.setCtx k x).ctx k = x := smapGet_set_same _ _ _ _
theorem State.ctx_setCtx_ne (s : State) {j k : Nat} (h : k ≠ j) (x : Ctx) : (s.setCtx k x).ctx j = s.ctx j := smapGet_set_ne _ h _ _
@[simp] theorem State.plate_setCtx (s : State) (k : Nat) (x : Ctx) (j : Nat) : (s.setCtx k x).plate j = s.plate j := rfl
@[simp] theorem State.prt_setCtx (s : State) (k : Nat) (x : Ctx) (j : Nat) : (s.setCtx k x).prt j = s.prt j := rfl
@[simp] theorem State.slot_setCtx (s : State) (k : Nat) (x : Ctx) (j : Nat) : (s.setCtx k x).slot j = s.slot j := rfl
@[simp] theorem State.ring_setCtx (s : State) (k : Nat) (x : Ctx) (j : Nat) : (s.setCtx k x).ring j = s.ring j := rfl
@[simp] theorem State.reg_setCtx (s : State) (k : Nat) (x : Ctx) (a : Nat) : (s.setCtx k x).reg a = s.reg a := rfl
@[simp] theorem State.get_setCtx (s : State) (k : Nat) (x : Ctx) (f : Fld) (i j : Nat) : (s.setCtx k x).get f i j = s.get f i j := rfl
@[simp] theorem State.ctx_put (s : State) (f : Fld) (i j v k : Nat) : (s.put f i j v).ctx k = s.ctx k := rfl

@[simp] theorem State.slot_setSlot_same (s : State) (k : Nat) (x : Slot) : (s.setSlot k x).slot k = x := smapGet_set_same _ _ _ _
theorem State.slot_setSlot_ne (s : State) {j k : Nat} (h : k ≠ j) (x : Slot) : (s.setSlot k x).slot j = s.slot j := smapGet_set_ne _ h _ _
@[simp] theorem State.plate_setSlot (s : State) (k : Nat) (x : Slot) (j : Nat) : (s.setSlot k x).plate j = s.plate j := rfl
@[simp] theorem State.prt_setSlot (s : State) (k : Nat) (x : Slot) (j : Nat) : (s.setSlot k x).prt j = s.prt j := rfl
@[simp] theorem State.ctx_setSlot (s : State) (k : Nat) (x : Slot) (j : Nat) : (s.setSlot k x).ctx j = s.ctx j := rfl
@[simp] theorem State.ring_setSlot (s : State) (k : Nat) (x : Slot) (j : Nat) : (s.setSlot k x).ring j = s.ring j := rfl
@[simp] theorem State.reg_setSlot (s : State) (k : Nat) (x : Slot) (a : Nat) : (s.setSlot k x).reg a = s.reg a := rfl
@[simp] theorem State.get_setSlot (s : State) (k : Nat) (x : Slot) (f : Fld) (i j : Nat) : (s.setSlot k x).get f i j = s.get f i j := rfl
@[simp] theorem State.slot_put (s : State) (f : Fld) (i j v k : Nat) : (s.put f i j v).slot k = s.slot k := rfl

@[simp] theorem State.ring_setRing_same (s : State) (k : Nat) (x : Ring) : (s.setRing k x).ring k = x := smapGet_set_same _ _ _ _
theorem State.ring_setRing_ne (s : State) {j k : Nat} (h : k ≠ j) (x : Ring) : (s.setRing k x).ring j = s.ring j := smapGet_set_ne _ h _ _
@[simp] theorem State.plate_setRing (s : State) (k : Nat) (x : Ring) (j : Nat) : (s.setRing k x).plate j = s.plate j := rfl
@[simp] theorem State.prt_setRing (s : State) (k : Nat) (x : Ring) (j : Nat) : (s.setRing k x).prt j = s.prt j := rfl
@[simp] theorem State.ctx_setRing (s : State) (k : Nat) (x : Ring) (j : Nat) : (s.setRing k x).ctx j = s.ctx j := rfl
@[simp] theorem State.slot_setRing (s : State) (k : Nat) (x : Ring) (j : Nat) : (s.setRing k x).slot j = s.slot j := rfl
@[simp] theorem State.reg_setRing (s : State) (k : Nat) (x : Ring) (a : Nat) : (s.setRing k x).reg a = s.reg a := rfl
@[simp] theorem State.get_setRing (s : State) (k : Nat) (x : Ring) (f : Fld) (i j : Nat) : (s.setRing k x).get f i j = s.get f i j := rfl
@[simp] theorem State.ring_put (s : State) (f : Fld) (i j v k : Nat) : (s.put f i j v).ring k = s.ring k := rfl

@[simp] theorem State.lineErrOf_set_same (s : State) (l : Nat) (e : LineErr) : (s.setLineErr l e).lineErrOf l = e := smapGet_set_same _ _ _ _
theorem State.lineErrOf_set_ne (s : State) {l k : Nat} (h : l ≠ k) (e : LineErr) : (s.setLineErr l e).lineErrOf k = s.lineErrOf k :=
  smapGet_set_ne _ h _ _
@[simp] theorem State.tagOf_set_same (s : State) (b : Nat) (t : BlockTag) : (s.setTag b t).tagOf b = t := smapGet_set_same _ _ _ _
theorem State.tagOf_set_ne (s : State) {b k : Nat} (h : b ≠ k) (t : BlockTag) : (s.setTag b t).tagOf k = s.tagOf k := smapGet_set_ne _ h _ _

end Sys2Proof.Machine
end

