-- ==== Sys2Proof/Laws/Beside.lean ====
section
/-! SUPPORT. Beside: what logging, counting and sending leave alone, said once for the shared operations that do it, and what
a command answers in a module that runs. -/

namespace Sys2Proof.Machine

/-! ### Answers -/

theorem State.answer_live (s : State) (m : String) (ok : Bool) (t : State) (hl : s.live = true) (ho : ok = true) :
    s.answer m ok t = .next t := by simp only [State.answer, ho, hl, if_true]

theorem State.answer_off (s : State) (m : String) (ok : Bool) (t : State) (hl : s.live = false) (ho : ok = true) :
    s.answer m ok t = .next s := by simp only [State.answer, ho, hl, if_true]; rfl

theorem State.answer_ill (s : State) (m : String) (ok : Bool) (t : State) (ho : ok = false) :
    s.answer m ok t = .refused (.illFormed m) := by simp only [State.answer, ho]; rfl

/-- Where an answer is a next state, it is the effect in a module that runs and the state itself in one that does not. -/
theorem State.answer_cases (s : State) (m : String) (ok : Bool) (t u : State) (h : s.answer m ok t = .next u) :
    (s.live = true ∧ u = t) ∨ (s.live = false ∧ u = s) := by
  unfold State.answer at h
  split at h
  · injection h with h
    cases hl : s.live with
    | true => rw [hl] at h; exact Or.inl ⟨rfl, h.symm⟩
    | false => rw [hl] at h; exact Or.inr ⟨rfl, h.symm⟩
  · cases h

/-! ### Beside -/

/-- Address of the register that places the log ring. -/
theorem beside_ring {s t : State} {A : List Nat} (h : Beside s t A) (hA : fldAddr fREL_LOG_BASE 0 0 ∉ A) (a : Nat) :
    t.inLogRing a = s.inLogRing a := by
  have e : t.reg (fldAddr fREL_LOG_BASE 0 0) = s.reg (fldAddr fREL_LOG_BASE 0 0) := h.2.1 _ (by decide) hA
  have e2 : fldAddr fREL_LOG_LOG2 0 0 = fldAddr fREL_LOG_BASE 0 0 := rfl
  simp only [State.inLogRing, State.g, State.get, e2, e]

theorem beside_refl (s : State) (A : List Nat) : Beside s s A :=
  ⟨rfl, fun _ _ _ => rfl, fun _ _ => rfl, fun _ => Or.inl rfl, List.prefix_refl _⟩

theorem beside_mono {s t : State} {A B : List Nat} (h : Beside s t A) (hAB : ∀ a ∈ A, a ∈ B) : Beside s t B :=
  ⟨h.1, fun a hb hB => h.2.1 a hb (fun c => hB (hAB a c)), h.2.2⟩

theorem beside_trans {s t u : State} {A : List Nat} (h : Beside s t A) (h' : Beside t u A)
    (hA : fldAddr fREL_LOG_BASE 0 0 ∉ A) : Beside s u A := by
  refine ⟨?_, fun a hb ha => ?_, fun a ha => ?_, fun l => ?_, h.2.2.2.2.trans h'.2.2.2.2⟩
  · rw [h'.1, h.1]
  · rw [h'.2.1 a hb ha, h.2.1 a hb ha]
  · rw [h'.2.2.1 a (by rw [beside_ring h hA]; exact ha), h.2.2.1 a ha]
  · rcases h'.2.2.2.1 l with e | e
    · rw [e]; exact h.2.2.2.1 l
    · exact Or.inr e

/-- A register write is beside its own register, or beside nothing where it is one of bookkeeping. -/
theorem beside_setReg (s : State) (a : Nat) (v : Word64) (A : List Nat) (ha : bookkeeping a = true ∨ a ∈ A) :
    Beside s (s.setReg a v) A := by
  refine ⟨rfl, fun b hb hB => ?_, fun _ _ => rfl, fun _ => Or.inl rfl, List.prefix_refl _⟩
  refine State.reg_setReg_ne s (fun e => ?_) v
  subst e
  rcases ha with ha | ha
  · rw [hb] at ha; cases ha
  · exact hB ha

theorem beside_put (s : State) (f : Fld) (i j v : Nat) (A : List Nat)
    (ha : bookkeeping (fldAddr f i j) = true ∨ fldAddr f i j ∈ A) : Beside s (s.put f i j v) A := beside_setReg s _ _ A ha

theorem beside_bump (s : State) (f : Fld) (i j d : Nat) (A : List Nat)
    (ha : bookkeeping (fldAddr f i j) = true ∨ fldAddr f i j ∈ A) : Beside s (s.bump f i j d) A := beside_setReg s _ _ A ha

theorem beside_emit (s : State) (o : Out) (A : List Nat) : Beside s (s.emit o) A :=
  ⟨rfl, fun _ _ _ => rfl, fun _ _ => rfl, fun _ => Or.inl rfl, List.prefix_append _ _⟩

/-- Updates that keep to the fields that `Beside` lets change, and touch neither registers, memory, lines nor outputs. -/
theorem beside_logSeq (s : State) (q : SMap Nat) (c : SMap (Nat × Nat)) (d : List LogEntry) (A : List Nat) :
    Beside s { s with logSeq := q, corrected := c, dieLog := d } A :=
  ⟨rfl, fun _ _ _ => rfl, fun _ _ => rfl, fun _ => Or.inl rfl, List.prefix_refl _⟩

theorem beside_setTag (s : State) (b : Nat) (t : BlockTag) (A : List Nat) : Beside s (s.setTag b t) A :=
  ⟨rfl, fun _ _ _ => rfl, fun _ _ => rfl, fun _ => Or.inl rfl, List.prefix_refl _⟩

theorem beside_goodLine (s : State) (l : Nat) (A : List Nat) : Beside s (s.setLineErr l .good) A := by
  refine ⟨rfl, fun _ _ _ => rfl, fun _ _ => rfl, fun k => ?_, List.prefix_refl _⟩
  by_cases h : l = k
  · subst h; exact Or.inr (State.lineErrOf_set_same s l .good)
  · exact Or.inl (State.lineErrOf_set_ne s h .good)

/-- A fold of steps that are each beside nothing but `A`. -/
theorem beside_foldl {β : Type} (f : State → β → State) (A : List Nat) (hA : fldAddr fREL_LOG_BASE 0 0 ∉ A)
    (hf : ∀ t b, Beside t (f t b) A) (bs : List β) (s : State) : Beside s (bs.foldl f s) A := by
  induction bs generalizing s with
  | nil => exact beside_refl s A
  | cons b bs ih => exact beside_trans (hf s b) (ih _) hA

theorem beside_healLines (s : State) (a n : Nat) : Beside s (s.healLines a n) [] := by
  refine beside_foldl _ [] (by simp) (fun t l => ?_) _ _
  split
  · exact beside_goodLine t l []
  · exact beside_refl t []

theorem beside_staleTags (s : State) (a n : Nat) : Beside s (s.staleTags a n) [] := by
  unfold State.staleTags
  split
  · exact beside_foldl _ [] (by simp) (fun t l => beside_setTag t l _ []) _ _
  · exact beside_refl s []

/-- A write that stays within the log ring. -/
theorem beside_write (s : State) (a : Nat) (bs : List Nat) (h : ∀ i, i < bs.length → s.inLogRing (a + i) = true) :
    Beside s (s.write a bs) [] := by
  have h0 : Beside s ((s.healLines a bs.length).staleTags a bs.length) [] :=
    beside_trans (beside_healLines s a bs.length) (beside_staleTags _ a bs.length) (by simp)
  refine beside_trans h0 ⟨rfl, fun _ _ _ => rfl, fun b hb => ?_, fun _ => Or.inl rfl, List.prefix_refl _⟩ (by simp)
  refine Memory.get_write_out bs _ a b ?_
  by_cases h1 : b < a
  · exact Or.inl h1
  · by_cases h2 : a + bs.length ≤ b
    · exact Or.inr h2
    · have h3 := h (b - a) (by omega)
      rw [show a + (b - a) = b by omega] at h3
      rw [beside_ring h0 (by simp), h3] at hb
      cases hb

/-! ### Counting and logging -/

theorem densCtr_bookkeeping (b n : Nat) (hn : n < 16) (hb : b < 187) : bookkeeping (densCtrAddr b n) = true := by
  unfold bookkeeping densCtrAddr densBank
  rw [decide_eq_true_eq]
  have e1 : ∀ i, blockBase .plate i = 0x0F0010000000 + i * 0x10000 := fun _ => rfl
  have e2 : ∀ i, blockBase .cluster i = 0x0F0020000000 + i * 0x100000 := fun _ => rfl
  have e3 : ∀ i, blockBase .part i = 0x0F0090000000 + i * 0x10000 := fun _ => rfl
  have e4 : ∀ i, blockBase .hbm i = 0x0F0030000000 + i * 0x100000 := fun _ => rfl
  have e5 : ∀ i, blockBase .port i = 0x0F0040000000 + i * 0x100000 := fun _ => rfl
  have e6 : ∀ i, blockBase .dens i = 0x0F0080000000 := fun _ => rfl
  simp only [e1, e2, e3, e4, e5, e6]
  split
  · omega
  · split
    · omega
    · split
      · omega
      · split
        · omega
        · split
          · omega
          · split
            · omega
            · omega

theorem beside_densQuiet (s : State) (b ev v : Nat) (hb : b < 187) : Beside s (s.densQuiet b ev v) [] := by
  unfold State.densQuiet
  have hmem : ∀ (l : List Nat) (t : State), (∀ n ∈ l, n < 16) → Beside t (l.foldl (fun t n =>
      let sel := t.reg (densSelAddr b n)
      if fieldOf sel 0 8 = ev then t.setReg (densCtrAddr b n) (densAdd (t.reg (densCtrAddr b n)) (if fieldOf sel 8 1 = 1 then 1 else v)) else t) t) [] := by
    intro l
    induction l with
    | nil => exact fun t _ => beside_refl t []
    | cons n l ih =>
      intro t hl
      refine beside_trans ?_ (ih _ (fun m hm => hl m (List.mem_cons_of_mem _ hm))) (by simp)
      dsimp only
      split
      · exact beside_setReg t _ _ [] (Or.inl (densCtr_bookkeeping b n (hl n (List.mem_cons_self ..)) hb))
      · exact beside_refl t []
  exact hmem _ _ (fun n hn => List.mem_range.mp hn)

theorem logBytes_length (id : Nat) (e : LogEntry) : (logBytes id e).length = 64 := by
  have hl : ∀ n x, (leBytes n x).length = n := by
    intro n
    induction n with
    | zero => intro x; rfl
    | succ n ih => intro x; simp only [leBytes, List.length_cons, ih]
  simp only [logBytes, List.length_append, hl, List.length_cons, List.length_nil, List.length_take, List.length_replicate]
  omega

theorem beside_logWrite (s : State) (e : LogEntry) : Beside s (s.logWrite e) [] := by
  unfold State.logWrite
  extract_lets tail head size a s0 s1 s2 s3
  have h0 : Beside s s0 [] := beside_densQuiet s 186 6 1 (by omega)
  have h1 : Beside s s1 [] := by
    show Beside s (if _ then _ else _) []
    split
    · refine beside_trans h0 (beside_write _ _ _ (fun i hi => ?_)) (by simp)
      rw [logBytes_length] at hi
      rw [beside_ring h0 (by simp)]
      have ht : tail % size < size := Nat.mod_lt _ (Nat.two_pow_pos _)
      simp only [State.inLogRing, decide_eq_true_eq]
      show s.g fREL_LOG_BASE ≤ s.g fREL_LOG_BASE + tail % size * 64 + i ∧ s.g fREL_LOG_BASE + tail % size * 64 + i < s.g fREL_LOG_BASE + 64 * size
      omega
    · exact h0
  have h2 : Beside s s2 [] := beside_trans h1 (beside_put _ _ _ _ _ _ (Or.inl (by decide))) (by simp)
  have h3 : Beside s s3 [] := by
    show Beside s (if _ then _ else _) []
    split
    · exact beside_trans (beside_trans h2 (beside_put _ _ _ _ _ _ (Or.inl (by decide))) (by simp))
        (beside_bump _ _ _ _ _ _ (Or.inl (by decide))) (by simp)
    · exact h2
  exact beside_trans h3 (beside_emit s3 _ []) (by simp)

/-- An event logged changes nothing beside the log. -/
theorem beside_log (s : State) (e : Ev) : Beside s (s.log e) [] := by
  unfold State.log
  extract_lets k q t ent s1
  have h1 : Beside s s1 [] := beside_logSeq s _ s.corrected s.dieLog []
  split
  · split
    · exact beside_trans h1 (beside_logSeq s1 s1.logSeq s1.corrected _ []) (by simp)
    · exact beside_trans h1 (beside_bump _ _ _ _ _ _ (Or.inl (by decide))) (by simp)
  · exact beside_trans h1 (beside_logWrite s1 ent) (by simp)

theorem beside_noteCorrected (s : State) (die unit inst n : Nat) : Beside s (s.noteCorrected die unit inst n) [] := by
  unfold State.noteCorrected
  extract_lets k c t
  split
  · exact beside_trans (beside_logSeq s s.logSeq _ s.dieLog []) (beside_log _ _) (by simp)
  · exact beside_logSeq s s.logSeq _ s.dieLog []

/-- An occurrence counted changes nothing beside the counters and the log. -/
theorem beside_dens (s : State) (b ev v : Nat) (hb : b < 187) : Beside s (s.dens b ev v) [] := by
  unfold State.dens
  split
  · exact beside_refl s []
  · have hmem : ∀ (l : List Nat) (t : State), (∀ n ∈ l, n < 16) → Beside t (l.foldl (fun t n =>
        let sel := t.reg (densSelAddr b n)
        if fieldOf sel 0 8 = ev then
          let w := t.reg (densCtrAddr b n)
          let w' := densAdd w (if fieldOf sel 8 1 = 1 then 1 else v)
          let t1 := t.setReg (densCtrAddr b n) w'
          if fieldOf w' 63 1 = 1 ∧ fieldOf w 63 1 = 0 ∧ fieldOf sel 10 1 = 1 then
            t1.log { code := 0x8C01, detail := leBytes 2 b ++ leBytes 2 n }
          else t1
        else t) t) [] := by
      intro l
      induction l with
      | nil => exact fun t _ => beside_refl t []
      | cons n l ih =>
        intro t hl
        refine beside_trans ?_ (ih _ (fun m hm => hl m (List.mem_cons_of_mem _ hm))) (by simp)
        dsimp only
        have hs : ∀ w, Beside t (t.setReg (densCtrAddr b n) w) [] := fun w =>
          beside_setReg t _ _ [] (Or.inl (densCtr_bookkeeping b n (hl n (List.mem_cons_self ..)) hb))
        by_cases he : fieldOf (t.reg (densSelAddr b n)) 0 8 = ev
        · rw [if_pos he]
          generalize densAdd (t.reg (densCtrAddr b n)) (if fieldOf (t.reg (densSelAddr b n)) 8 1 = 1 then 1 else v) = w
          split
          · exact beside_trans (hs w) (beside_log _ _) (by simp)
          · exact hs w
        · rw [if_neg he]
          exact beside_refl t []
    exact hmem _ _ (fun n hn => List.mem_range.mp hn)

/-- A field of a register that bookkeeping leaves alone reads as before. -/
theorem beside_get {s t : State} {A : List Nat} (h : Beside s t A) (f : Fld) (i j : Nat)
    (hb : bookkeeping (fldAddr f i j) = false) (hA : fldAddr f i j ∉ A) : t.get f i j = s.get f i j := by
  rw [State.get, State.get, h.2.1 _ hb hA]

/-- A good line stays good. -/
theorem beside_good {s t : State} {A : List Nat} (h : Beside s t A) (l : Nat) (hl : s.lineErrOf l = .good) :
    t.lineErrOf l = .good := by
  rcases h.2.2.2.1 l with e | e
  · rw [e, hl]
  · exact e

end Sys2Proof.Machine
end

