-- ==== Sys2Proof/Tests/Slice0.lean ====
section
/-! SUPPORT. Slice0: tests. For each statement a concrete state and operands that meet its hypotheses; for each check of
WellFormed a term that it refuses; the values of the spec's own examples; and single steps. -/

set_option maxRecDepth 100000

open Sys2Proof Sys2Proof.Machine

namespace Sys2Proof.Tests


/-! ### Small states -/

/-- A field of a register set. -/
def sets (s : State) (fs : List (Fld × Nat × Nat × Nat)) : State := fs.foldl (fun t f => t.put f.1 f.2.1 f.2.2.1 f.2.2.2) s

/-- A plate command of plate 0 at position 0: its opcode, and values at bit positions. -/
def cmd (opc : Nat) (fs : List (Nat × Nat)) : PlateCmd :=
  { plate := 0, index := 0, word := BitVec.ofNat 256 (fs.foldl (fun n f => n + f.2 * 2 ^ f.1) opc) }

/-- Partition 0 CREATED on cluster 0, with 128 MiB of HBM from 0. -/
def wPart : State :=
  sets State.reset [(fPART_STAT_STATE, 0, 0, 1), (fPART_LAYOUT_CLUSTERS, 0, 0, 1), (fPART_HBM_SIZE_2M, 0, 0, 64), (fPART_EXPO_PERIOD_PERIOD_NS, 0, 0, 100000)]

/-- Partition 0 RUNNING. -/
def wRun : State := wPart.put fPART_STAT_STATE 0 0 2

/-- Partition 0 RUNNING with an exposure released. -/
def wExpo : State := wRun.setPrt 0 { Part.init with phase := .released, nextExpo := 1, firstDone := true, nextK := 1 }

/-- A message header of a type. -/
def hdr (typ len addr word : Nat) : UcieHdr := { typ := typ, flags := 0, len := len, cls := 0, part := 0, tag := 0, addr := addr, word := word }

/-- Module 0 of link 1, toward ZD. -/
def port1 : UciePort := { link := 1, module := 0, up := true }

/-- Sixteen bytes. -/
def bytes16 : List Byte := (List.range 16).map (fun i => BitVec.ofNat 8 i)

/-- A tray whose banks are AWAKE is whole where no line of memory has an error. -/
theorem wholeTray_of (s : State) (p : Nat) (h : s.lineErr = []) (hb : ∀ b, b < 64 → s.bankAwake p b = true) : s.wholeTray p :=
  ⟨hb, fun l _ _ hl => by unfold State.lineErrOf at hl; rw [h] at hl; cases hl⟩

/-- The same for a state in which every tray of cluster 0 has all its banks AWAKE and no line has an error. -/
theorem wholeCluster_of (s : State) (h : s.lineErr = []) (hb : ∀ q, q < 8 → s.get fTRAY_PWR_AWAKE_AWAKE q 0 = 2 ^ 64 - 1) :
    ∀ q, q / 8 = 0 → s.wholeTray q := fun q hq =>
  wholeTray_of s q h fun b hb' => by
    unfold State.bankAwake
    rw [hb q (by omega), Nat.testBit_two_pow_sub_one]
    exact decide_eq_true hb'

/-- No line reads uncorrectable where no line has an error and no stack is OFFLINE. -/
theorem badLine_of (s : State) (h : s.lineErr = []) (ho : ∀ a, s.stackOffline a = false) (a n : Nat) : s.badLine a n = none := by
  unfold State.badLine
  rw [List.find?_eq_none]
  intro l _
  have hl : s.lineErrOf l = .good := by unfold State.lineErrOf; rw [h]; rfl
  simp [hl, ho l]

/-- Nor does any line end uncorrectable for a write. -/
theorem badLines_of (s : State) (h : s.lineErr = []) (ho : ∀ a, s.stackOffline a = false) (a n : Nat) :
    s.badLines a n = [] ∧ s.badWriteLines a n = [] ∧ s.badWriteLine a n = none := by
  have hl : ∀ l, s.lineErrOf l = .good := fun l => by unfold State.lineErrOf; rw [h]; rfl
  unfold State.badLines State.badWriteLines State.badWriteLine
  simp [hl, ho]

/-- No stack is OFFLINE where each of the eight says so. -/
theorem online_of (s : State) (h : ∀ k, k < 8 → s.get fHBM_STAT_OFFLINE k 0 ≠ 1) (a : Nat) : s.stackOffline a = false := by
  have hk : s.stackOf a < 8 := by
    unfold State.stackOf
    simp only
    split
    · split <;> omega
    · omega
  unfold State.stackOffline
  simp [h _ hk]

/-- Where the log ring is as at reset, nothing but the first MiB lies in it. -/
theorem offLog_of (s : State) (hb : s.g fREL_LOG_BASE = 0) (hl : s.g fREL_LOG_LOG2 = 14) (a n : Nat) (ha : 2 ^ 20 ≤ a) : s.offLog a n := by
  intro j _
  unfold State.inLogRing
  rw [hb, hl]
  exact decide_eq_false (by omega)

/-- No plate of cluster 0 is in SPLIT mode where each of the eight says so. -/
theorem splitMode_of (s : State) (h : ∀ q, q < 8 → s.splitMode q = false) : ∀ q, q / 8 = 0 → s.splitMode q = false :=
  fun q hq => h q (by omega)


/-! ### Witnesses of the statements -/

theorem test_witness_AStepRunsTheFrontCommand :
    (({ State.reset with pending := [.strobe] } : State).pending = [.strobe]) ∧
    (State.reset.powerOff.pending = [] ∧ State.reset.powerOff.live = false) ∧
    (State.reset.pending = [] ∧ State.reset.live = true) := by
  exact ⟨by decide, by decide, by decide⟩

theorem test_witness_ResetLeavesTheStatedValues :
    ((findReg (fldAddr fPWR_STATE_STATE 0 0)).isSome = true) := by
  decide

theorem test_witness_CommandsEndAsTheirOperandsSay :
    (WellFormed (.pauseFrame 16) = false) ∧
    (WellFormed (.pauseFrame 15) = true ∧ State.reset.powerOff.live = false ∧ Instr.pauseFrame 15 ∉ [Instr.contact48vMate, .prechargeTimeout, .presenceMated, .presenceBreak, .inputOvercurrent, .resetN, .resetNRelease]) := by
  exact ⟨by decide, by decide⟩

/-- A module in PRECHARGE, whose precharge is about to complete. -/
def wPre : State := { State.reset with pending := [.prechargeComplete 5000], supply := { Supply.init with main := 1, inRange := false, charged := false } }
theorem test_witness_AModuleWithoutPowerKeepsNothingElse :
    (wPre.unpowered) ∧
    (wPre.supply.main = 1 ∧ wPre.pending.head? = some (.prechargeComplete 5000)) ∧
    ((match step wPre with | .next t => decide (t.supply.main = 2) | _ => false) = true) := by
  exact ⟨by unfold State.unpowered; decide, by decide, by decide⟩

theorem test_witness_PowerOffLeavesAModuleWithoutPower :
    (State.reset.supply.main = 2) := by
  decide

/-- Module 0 of link 1 in retraining. -/
def wRetrain : State := (State.reset.setLane 1 0 true { UcieLane.init with retraining := true }).setLane 1 0 false { UcieLane.init with retraining := true }
/-- Module 0 of link 1 with its stream toward ZD lost. -/
def wAstray : State := State.reset.setLane 1 0 true { UcieLane.init with aligned := false }
/-- The same module aligned, with one cell of credit left in each class. -/
def wSpent : State := State.reset.setLane 1 0 true { UcieLane.init with credits := [1, 1, 1] }
theorem test_witness_LinkEventsAndSends :
    (State.reset.live = true ∧ WellFormed (.nopMsg port1) = true) ∧
    (WellFormed (.credit port1 65535 1 0) = true ∧ (State.reset.lane 1 0 false).outbox = [] ∧ State.reset.linksServed) ∧
    (WellFormed (.cellAlignmentLost port1) = true ∧ (State.reset.get fGLOBAL_UCIE_STAT_ACTIVE 0 1).testBit 0 = true) ∧
    (WellFormed (.ucieErrorThreshold 0 23) = true ∧ (State.reset.get fGLOBAL_UCIE_STAT_ACTIVE 0 0).testBit 23 = true) ∧
    (wRetrain.live = true ∧ WellFormed (.ucieRetrainComplete 1 0 2) = true ∧ (wRetrain.lane 1 0 true).retraining = true ∧ wRetrain.quietModule 1 0 ∧ wRetrain.dieLog = [] ∧ wRetrain.linksServed) ∧
    ((State.reset.lane 1 0 true).aligned = true ∧ hdrLost { hdr 1 0 0 1 with cls := 3 } = true ∧ WellFormed (.rdReq port1 { hdr 1 0 0 1 with cls := 3 }) = true ∧ hdrLost (hdr 3 257 0 0) = true ∧ WellFormed (.wr port1 (hdr 3 257 0 0) (List.replicate 4112 0)) = true) ∧
    ((wAstray.lane 1 0 true).aligned = false ∧ wAstray.live = true ∧ WellFormed (.rdReq port1 (hdr 1 0 0 1)) = true ∧ WellFormed (.wr port1 (hdr 3 1 0 0) bytes16) = true ∧ WellFormed (.event port1 (hdr 6 1 0 0) bytes16) = true ∧ WellFormed (.doorbell port1 (hdr 5 4 0x030000000000 0) (List.replicate 64 0)) = true) ∧
    (WellFormed (.ucieMessageSend 1 true (hdr 3 1 0 0) (List.replicate 16 0)) = true ∧ State.reset.sendsOn 1 true (hdr 3 1 0 0) 0) ∧
    (wSpent.live = true ∧ wSpent.moduleFor 1 0 0 = some 0 ∧ (wSpent.lane 1 0 true).outbox = [] ∧ (wSpent.lane 1 0 true).credit 0 < cellsOf (hdr 3 1 0 0)) := by
  exact ⟨by decide, by decide, by decide, by decide, by decide, by decide, by decide, by decide, by decide⟩

/-- A WR of `bytes16` to HBM address 0x200000. -/
def wrHdr : UcieHdr := hdr 3 1 0x200000 (crc32c (ofBytes bytes16))
/-- A write of the Drawer by a unit of the engine. -/
def wrDrawer : UcieHdr := { wrHdr with addr := drawerBase + 0x200000, flags := 8 }
theorem test_witness_MessagesReadAndWriteMemory :
    (WellFormed (.rdReq port1 (hdr 1 0 0 1)) = true ∧ wPart.live = true ∧ wPart.accepts port1 (hdr 1 0 0 1) ∧ wPart.msgGranted (hdr 1 0 0 1) 16 true = true ∧ isMemory 0 16 = true ∧ wPart.held 0 16 = false ∧ wPart.sleepAt 0 16 = none ∧ wPart.sendsOn 1 false { hdr 2 1 0 (crc32c (wPart.bytes 0 16)) with flags := 0 } 0) ∧
    (∀ l ∈ linesOf 0 16, wPart.lineErrOf l = .good ∧ wPart.stackOffline l = false) ∧
    (WellFormed (.wr port1 wrHdr bytes16) = true ∧ crc32c (ofBytes bytes16) = wrHdr.word ∧ wPart.accepts port1 wrHdr ∧ wPart.msgGranted wrHdr 16 false = true ∧ isMemory 0x200000 16 = true ∧ wPart.held 0x200000 16 = false ∧ (∀ l ∈ linesOf 0x200000 16, wPart.stackOffline l = false) ∧ wPart.sleepAt 0x200000 16 = none ∧ wPart.inLogRing 0x200000 = false ∧ wPart.sendsOn 1 false (wrAckHdr wrHdr 0 0) 0) ∧
    (WellFormed (.wr port1 (hdr 3 1 0 0) bytes16) = true ∧ State.reset.accepts port1 (hdr 3 1 0 0) ∧ crc32c (ofBytes bytes16) ≠ 0 ∧ State.reset.sendsOn 1 false (wrAckHdr (hdr 3 1 0 0) 2 0) 0) ∧
    (State.reset.accepts port1 wrHdr ∧ State.reset.msgGranted wrHdr 16 false = false ∧ State.reset.sendsOn 1 false (wrAckHdr wrHdr 1 stRangeFault) 0) ∧
    (WellFormed (.wr port1 wrDrawer bytes16) = true ∧ crc32c (ofBytes bytes16) = wrDrawer.word ∧ wPart.accepts port1 wrDrawer ∧ wPart.msgGranted wrDrawer 16 false = true ∧ isMemory (drawerBase + 0x200000) 16 = true ∧ wPart.held (drawerBase + 0x200000) 16 = false ∧ (∀ l ∈ linesOf (drawerBase + 0x200000) 16, wPart.stackOffline l = false) ∧ wPart.sleepAt (drawerBase + 0x200000) 16 = none ∧ wPart.inLogRing (drawerBase + 0x200000) = false ∧ isDrawer (drawerBase + 0x200000) = true ∧ wPart.sendsOn 1 false (wrAckHdr wrDrawer 0 0) 0 ∧ wPart.sendsOn 1 false (wrAckHdr wrDrawer 1 stDrawerUe) 0) := by
  exact ⟨by decide, by decide, by decide, by decide, by decide, by decide⟩

/-- A read of the Drawer that its sender keeps, and a write. -/
def keptMsg (typ : Nat) : UcieMsg := { hdr := hdr typ 0 drawerBase 1, data := [], resends := 0, delivered := true }
/-- Module 0 of link 1 with one message kept on the way back. -/
def wKept (typ : Nat) : State := State.reset.setLane 1 0 false { UcieLane.init with outbox := [keptMsg typ] }
/-- The error log in the Drawer's reserved range. -/
def wLogged : State := sets State.reset [(fGLOBAL_ZD_RSV_RSV_GIB, 0, 0, 16), (fREL_LOG_BASE, 0, 0, drawerBase), (fREL_LOG_LOG2, 0, 0, 4)]
theorem test_witness_AnswersRepeatsEventsAndLostModules :
    ((wKept 1).live = true ∧ (wKept 1).settled ∧ (wKept 3).settled ∧ (wKept 1).accepts port1 (hdr 2 1 drawerBase 0) ∧ (wKept 3).accepts port1 (hdr 4 0 drawerBase 0) ∧ (wKept 1).findMsg 1 false 1 0 = some (0, 0, keptMsg 1)) ∧
    (WellFormed (.rdCpl port1 (hdr 2 1 drawerBase (crc32c (ofBytes bytes16))) bytes16) = true) ∧
    (WellFormed (.rdCpl port1 (hdr 2 1 drawerBase 0) bytes16) = true ∧ crc32c (ofBytes bytes16) ≠ 0 ∧ (hdr 2 1 drawerBase 0).flags.testBit 0 = false ∧ (hdr 2 1 drawerBase 0).flags.testBit 2 = false ∧ (keptMsg 1).hdr.cls < 3 ∧ isHbm drawerBase = false ∧ ((wKept 1).get fGLOBAL_UCIE_STAT_ACTIVE 0 1).testBit 0 = true ∧ ((wKept 1).lane 1 0 false).outbox = [keptMsg 1] ∧ ((wKept 1).lane 1 0 false).retraining = false ∧ cellsOf (keptMsg 1).hdr ≤ ((wKept 1).lane 1 0 false).credit 0) ∧
    (WellFormed (.wrAck port1 (hdr 4 0 drawerBase 0)) = true ∧ (wKept 3).findMsg 1 false 3 0 = some (0, 0, keptMsg 3) ∧ ((wKept 3).lane 1 0 false).outbox = [keptMsg 3] ∧ WellFormed (.wrAck port1 { hdr 4 0 drawerBase 0 with flags := 2 }) = true ∧ (2 : Nat).testBit 1 = true) ∧
    (WellFormed (.event port1 (hdr 6 1 0 0) bytes16) = true ∧ State.reset.live = true ∧ State.reset.accepts port1 (hdr 6 1 0 0) ∧ wLogged.live = true ∧ wLogged.accepts port1 (hdr 6 1 0 0) ∧ wLogged.inReserved (wLogged.g fREL_LOG_BASE + wLogged.g fREL_LOG_IDX_TAIL % 2 ^ wLogged.g fREL_LOG_LOG2 * 64) 64 = true) ∧
    (WellFormed (.ucieRetrainTimeout 1 0) = true ∧ (wRetrain.lane 1 0 true).retraining = true ∧ wRetrain.quietModule 1 0 ∧ wRetrain.linksServed ∧ leastModules 1 < (wRetrain.activeModules 1).length) ∧
    ((wRetrain.put fGLOBAL_UCIE_STAT_ACTIVE 0 1 3).bare ∧ (wRetrain.put fGLOBAL_UCIE_STAT_ACTIVE 0 1 3).inFault = false ∧ 0 ∈ (wRetrain.put fGLOBAL_UCIE_STAT_ACTIVE 0 1 3).activeModules 1 ∧ ((wRetrain.put fGLOBAL_UCIE_STAT_ACTIVE 0 1 3).activeModules 1).length ≤ leastModules 1) := by
  exact ⟨by decide, by decide, by decide, by decide, by decide, by decide, by decide⟩

theorem test_witness_RegisterAccessOfAnotherSizeOrPlaceIsIgnored :
    (State.reset.live = true ∧ WellFormed (.registerWrite 0x0F0000000004 8 1) = true ∧ 0x0F0000000004 % 8 ≠ 0 ∧ WellFormed (.registerWrite 0x0F0000000008 4 1) = true) ∧
    (findReg 0x0F0000000004 = none ∧ (findReg 0x0F0000000008).isSome = true) ∧
    (WellFormed (.rdReq port1 { hdr 1 0 regionRegs 1 with flags := 8 }) = true ∧ State.reset.accepts port1 { hdr 1 0 regionRegs 1 with flags := 8 } ∧ State.reset.msgGranted { hdr 1 0 regionRegs 1 with flags := 8 } 16 true = true ∧ State.reset.sendsOn 1 false (hdr 2 1 regionRegs (crc32c (List.replicate 16 0))) 0) := by
  exact ⟨by decide, by decide, by decide⟩

theorem test_witness_RegisterWriteFollowsAccessCodes :
    WellFormed (.registerWrite (fldAddr fREL_LOG_IDX_HEAD 0 0) 8 5) = true ∧
    (State.reset.live = true ∧ WellFormed (.registerWrite (fldAddr fGLOBAL_UCIE_CTRL_RETRAIN_TIMEOUT 0 0) 8 5) = true ∧ (findReg (fldAddr fGLOBAL_UCIE_CTRL_RETRAIN_TIMEOUT 0 0)).any (fun r => decide (r.blk ≠ .part) && actionRegs.all (fun x => x != r.spec.name)) = true) := by
  decide

/-- Counter 0 of plate 0 one below its maximum, with OVF_LOG. -/
def wCtr : State := (State.reset.setReg (densSelAddr 0 0) (BitVec.ofNat 64 1024)).setReg (densCtrAddr 0 0) (BitVec.ofNat 64 (2 ^ 48 - 1))
theorem test_witness_CountersSaturateAndWritesRearmThem :
    (fieldOf (State.reset.reg (densSelAddr 186 15)) 0 8 = 0 ∧ (State.reset.prt 15).later = []) ∧
    (fieldOf (BitVec.ofNat 64 (2 ^ 48 - 2)) 0 48 + 1 ≤ 2 ^ 48 - 1 ∧ 2 ^ 48 - 1 < fieldOf (BitVec.ofNat 64 (2 ^ 48 - 1)) 0 48 + 1) ∧
    (State.reset.live = true ∧ WellFormed (.densCtrWrite 186 15 7) = true ∧ WellFormed (.densSelWrite 0 0 7) = true) ∧
    (∀ c : Nat, c < 16 → fieldOf (State.reset.reg (densSelAddr 0 c)) 0 8 = 0 → fieldOf (State.reset.reg (densSelAddr 0 c)) 10 1 = 0) ∧
    (fieldOf (wCtr.reg (densSelAddr 0 0)) 0 8 = 0 ∧ fieldOf (wCtr.reg (densSelAddr 0 0)) 10 1 = 1 ∧ fieldOf (wCtr.reg (densSelAddr 0 0)) 8 1 = 0 ∧ fieldOf (wCtr.reg (densCtrAddr 0 0)) 63 1 = 0 ∧ 2 ^ 48 - 1 < fieldOf (wCtr.reg (densCtrAddr 0 0)) 0 48 + 1) := by
  exact ⟨by decide, by decide, by decide, by decide, by decide⟩

theorem test_witness_SnapshotsLatchAndGather :
    (State.reset.live = true ∧ State.reset.reader.latch = none ∧ State.reset.reader.merged = []) ∧
    ((State.reset.put fDENS_SNAP_CFG_PERIOD_EN 0 0 1).g fDENS_SNAP_CFG_PERIOD_EN = 1 ∧ (State.reset.put fDENS_SNAP_CFG_PERIOD_EN 0 0 1).bgRoom telemetryKey snapBytes drawerCap = true ∧ ({ State.reset with bgWork := [(telemetryKey, 0, drawerCap)] } : State).bgRoom telemetryKey snapBytes drawerCap = false) ∧
    (({ State.reset with reader := { latch := some { t64 := 1, trigger := 2, part := 0, expo := 0, vals := [] }, merged := [], seq := 0, samplerSeq := [] } } : State).reader.latch = some { t64 := 1, trigger := 2, part := 0, expo := 0, vals := [] }) := by
  exact ⟨by decide, by decide, by decide⟩

theorem test_witness_GlobalLockSetsOnceAndMeasures :
    (State.reset.live = true ∧ State.reset.g fGLOBAL_LOCK_SETUP = 0 ∧ State.reset.vault.slots.length = 16) ∧
    ((State.reset.put fGLOBAL_LOCK_SETUP 0 0 1).live = true ∧ (State.reset.put fGLOBAL_LOCK_SETUP 0 0 1).g fGLOBAL_LOCK_SETUP = 1) := by
  exact ⟨by decide, by decide⟩

/-- Port 3 UPSTREAM and port 4 DOWNSTREAM, accepted and LOCKED. -/
def wServo : State := sets (State.reset.setServo { Servo.init with roles := (List.range 16).map (fun n => if n = 3 then 1 else if n = 4 then 2 else 0), accepted := true }) [(fTIMER_STAT_STATE, 0, 0, 2), (fTIMER_PORT_ROLE, 0, 3, 1), (fTIMER_PORT_ROLE, 0, 4, 2), (fFAB_PORT_CFG_SPLIT, 1, 0, 1), (fFAB_PORT_CFG_ENABLE_B, 1, 0, 1), (fFAB_PORT_STAT_LINK_B, 1, 0, 1), (fFAB_PORT_CFG_ENABLE_A, 2, 0, 1), (fFAB_PORT_STAT_LINK_A, 2, 0, 1)]
theorem test_witness_StrobesReferenceAndServoEvents :
    ((State.reset.put fTIMER_STAT_REF_OK 0 0 1).g fTIMER_STAT_REF_OK = 1 ∧ (State.reset.put fTIMER_STAT_REF_OK 0 0 1).live = true) ∧
    (State.reset.timer.servo.step = none ∧ State.reset.timer.replicas.length = 2 ∧ State.reset.timer.master.time < 2 ^ 104) ∧
    (WellFormed (.time 1 { strobe := 1, rate := 0, load := false }) = true ∧ 0 < (1 + 65536 - State.reset.timer.strobe % 65536) % 65536 ∧ (1 + 65536 - State.reset.timer.strobe % 65536) % 65536 < 32768) ∧
    (WellFormed (.time 0 { strobe := 32768, rate := 0, load := false }) = true ∧ 32768 ≤ (32768 + 65536 - State.reset.timer.strobe % 65536) % 65536) ∧
    (wServo.live = true ∧ wServo.upstream = some 3 ∧ wServo.ptpOpen 3 = true ∧ wServo.ptpOpen 4 = true) ∧
    (wServo.get fTIMER_PORT_ROLE 0 4 = 2 ∧ wServo.timerState = 2) ∧
    (({ wServo.put fTIMER_STAT_STATE 0 0 3 with timer := { wServo.timer with master := { wServo.timer.master with time := 2 ^ 103 } } } : State).timerState = 3 ∧ 2000000 * (wServo.put fTIMER_STAT_STATE 0 0 3).g fTIMER_LIMITS_HOLD_LIMIT_NS < ({ wServo.put fTIMER_STAT_STATE 0 0 3 with timer := { wServo.timer with master := { wServo.timer.master with time := 2 ^ 103 } } } : State).now - 0) ∧
    ((State.reset.put fTIMER_CFG_PPS_IN 0 0 1).g fTIMER_CFG_PPS_IN ≠ 0) ∧
    (((State.reset.put fTIMER_CFG_PPS_OUT_EN 0 0 1).put fTIMER_CFG_PPS_OUT_FREE 0 0 1).g fTIMER_CFG_PPS_OUT_EN = 1 ∧ ((State.reset.put fTIMER_CFG_PPS_OUT_EN 0 0 1).put fTIMER_CFG_PPS_OUT_FREE 0 0 1).g fTIMER_CFG_PPS_OUT_FREE = 1) ∧
    ((State.reset.put fTIMER_CFG_PPS_OUT_EN 0 0 0).g fTIMER_CFG_PPS_OUT_EN = 0) ∧
    ((State.reset.put fTIMER_CFG_PPS_IN 0 0 2).g fTIMER_CFG_PPS_IN = 2 ∧ (State.reset.put fTIMER_CFG_PPS_IN 0 0 2).upstream = none) := by
  exact ⟨by decide, by decide, by decide, by decide, by decide, by decide, by decide, by decide, by decide, by decide, by decide⟩

theorem test_witness_PtpMessagesMeasure :
    (wServo.live = true ∧ wServo.fromUpstream 3 = true ∧ wServo.timerState = 2) ∧
    (wServo.isDown 4 = true ∧ wServo.upstream = some 3) ∧
    ((wServo.setServo { wServo.timer.servo with sync := some { seq := 7, t1 := 0, rx := 5, twoStep := true } }).fromUpstream 3 = true ∧ (wServo.setServo { wServo.timer.servo with sync := some { seq := 7, t1 := 0, rx := 5, twoStep := true } }).timer.servo.sync = some { seq := 7, t1 := 0, rx := 5, twoStep := true }) := by
  exact ⟨by decide, by decide, by decide⟩


/-- Half 14, the PAIR half E7 A, enabled, its link up or down, lost at a time. -/
def wHalf (link lost : Nat) : State := ({ sets State.reset [(fFAB_PORT_CFG_ENABLE_A, 7, 0, 1), (fFAB_PORT_STAT_LINK_A, 7, 0, link)] with linkLost := if lost = 0 then [] else [(14, lost)] } : State)
/-- Half 0, the CLIENT half E0 A, enabled without link. -/
def wClient : State := sets State.reset [(fFAB_PORT_CFG_ENABLE_A, 0, 0, 1)]
/-- An LLDPDU of engine 9. -/
def wLldp : LldpMsg := { isEngine := true, chassis := 1, system := 0, engine := 9, half := 14, job := 0, ttl := 1 }
theorem test_witness_LinksAndNeighbours :
    ((wHalf 1 0).live = true ∧ (wHalf 1 0).halfOn 14 = true ∧ (wHalf 1 0).noFlow 14 ∧ (wHalf 1 0).alone ∧ (wHalf 1 0).halfLink 14 = true) ∧
    ((wHalf 0 5).live = true ∧ (wHalf 0 5).halfOn 14 = true ∧ (wHalf 0 5).noFlow 14 ∧ (wHalf 0 5).alone ∧ (wHalf 0 5).halfLink 14 = false ∧ (wHalf 0 5).linkLostAt 14 ≠ 0 ∧ (wHalf 0 5).halfUsed 14 = true) ∧
    (wClient.live = true ∧ wClient.halfOn 0 = true ∧ wClient.noFlow 0 ∧ wClient.alone ∧ wClient.halfLink 0 = false ∧ wClient.linkLostAt 0 = 0 ∧ wClient.halfKind 0 = 1) ∧
    (wClient.planPart 0 = none) ∧
    (({ wClient with plans := [(15, some { job := 7, system := 0, uses := [(0, 1, 2, 3)] })] } : State).planPart 0 = some 15 ∧ ({ wClient with plans := [(15, some { job := 7, system := 0, uses := [(0, 1, 2, 3)] })] } : State).plan 15 = some { job := 7, system := 0, uses := [(0, 1, 2, 3)] }) ∧
    (wLldp.ttl ≠ 0 ∧ wLldp.engine < 2 ^ 32 ∧ wLldp.half < 16 ∧ (wHalf 1 0).halfKind 14 = 3 ∧ wLldp.isEngine = true ∧ wLldp.system = (wHalf 1 0).g fFAB_SYSTEM_ID_ID ∧ wLldp.engine = ((wHalf 1 0).put fFAB_INSTALL_EXPECT_ENGINE 7 0 9).get fFAB_INSTALL_EXPECT_ENGINE 7 0 ∧ wLldp.half = ((wHalf 1 0).put fFAB_INSTALL_EXPECT_HALF 7 0 14).get fFAB_INSTALL_EXPECT_HALF 7 0) ∧
    ((({ wHalf 1 0 with nbrs := [(14, some { isEngine := false, chassis := 1, system := 0, engine := 0, half := 0, job := 0, ttl := 1 })] } : State).nbr 14).isSome = true) := by
  exact ⟨by decide, by decide, by decide, by decide, by decide, by decide, by decide⟩

/-- A plan of job 7 in system 1 that uses half 2 toward engine 9. -/
def planBytes : List Nat := (List.range 576).map (fun i => if i = 0 then 7 else if i = 8 then 1 else if i = 128 then 1 else if i = 132 then 9 else 0)
/-- Partition 0 with that plan in its HBM range, and the half on. -/
def wPlan : State := sets (wPart.write 0 planBytes) [(fFAB_PORT_CFG_ENABLE_A, 1, 0, 1), (fFAB_SYSTEM_ID_ID, 0, 0, 1)]
/-- The same with the plan bound. -/
def wBound : State := { wPlan with plans := [(0, some (readPlan planBytes))] }
theorem test_witness_CircuitPlansPauseFramesAndKeys :
    (wPart.live = true ∧ wPart.tx = [] ∧ wPart.alone ∧ wPart.inHbm 0 (wPart.get fPART_CIRCUIT_PLAN_ADDR 0 0) 576 = true ∧ wPart.bindErr 0 (wPart.bytes (wPart.get fPART_CIRCUIT_PLAN_ADDR 0 0) 576) ≠ 0) ∧
    (wPlan.live = true ∧ wPlan.tx = [] ∧ wPlan.alone ∧ wPlan.inHbm 0 (wPlan.get fPART_CIRCUIT_PLAN_ADDR 0 0) 576 = true ∧ wPlan.bindErr 0 (wPlan.bytes (wPlan.get fPART_CIRCUIT_PLAN_ADDR 0 0) 576) = 0) ∧
    (wBound.live = true ∧ wBound.tx = [] ∧ wBound.alone ∧ (wBound.plan 0).isSome = true ∧ wBound.isRunning 0 = false ∧ wBound.rx = []) ∧
    ((readPlan planBytes).uses = [(2, 0, 0, 9)]) ∧
    ((wBound.put fPART_STAT_STATE 0 0 2).isRunning 0 = true ∧ ((wBound.put fPART_STAT_STATE 0 0 2).plan 0).isSome = true) ∧
    (State.reset.live = true ∧ State.reset.halfLink 15 = false ∧ (wHalf 1 0).halfLink 14 = true) ∧
    (State.reset.noFlow 15 ∧ (State.reset.put fFAB_MACSEC_CFG_ENABLE 7 1 1).get fFAB_MACSEC_CFG_ENABLE (15 / 2) (15 % 2) = 1 ∧ State.reset.get fFAB_MACSEC_CFG_ENABLE (15 / 2) (15 % 2) = 0) := by
  exact ⟨by decide, by decide, by decide, by decide, by decide, by decide, by decide⟩

/-- Half 14 MATCHED with engine 9 as neighbour. -/
def wMatch : State := sets State.reset [(fFAB_PORT_CFG_ENABLE_A, 7, 0, 1), (fFAB_PORT_STAT_LINK_A, 7, 0, 1), (fFAB_PORT_STAT_STATE_A, 7, 0, 1), (fFAB_NBR_ENGINE, 7, 0, 9)]
/-- A good header from engine 9 in class CONTROL. -/
def wCbtHdr (good : Bool) : CbtHdr := { fcsOk := good, macsecOk := true, addrOk := true, crcOk := true, wellFormed := true, ecn := false, cls := 3, srcPart := 0, dstPart := 0, srcEngine := 9, dstEngine := wMatch.g fGLOBAL_ENGINE_ID_ENGINE_ID, epoch := 0 }
/-- A DATA block of the running exposure. -/
def wCbt (good : Bool) (seq : Nat) : CbtMsg := { hdr := wCbtHdr good, seq := seq, msg := 0, offset := 0, last := false, poison := false, expo := 0, attempt := 0, body := bytes16 }
/-- The key of its flow. -/
def kFlow : Nat := flowKey 14 3 0 0
/-- That flow with one sent block. -/
def wSent (resends : Nat) : State := wMatch.setTx kFlow { TxFlow.init with nextSeq := 1, blocks := [{ seq := 0, msg := 0, offset := 0, last := true, poison := false, expo := 0, attempt := 0, body := bytes16, resends := resends, sent := true, slotTag := none, fwd := 0 }] }
/-- That flow with one block received and not acknowledged. -/
def wDue : State := wMatch.setRx kFlow { RxFlow.init with cum := 1, due := true, since := 1 }
theorem test_witness_BlocksAreReceivedAcknowledgedAndResent :
    (wMatch.live = true ∧ wMatch.settled ∧ wMatch.halfOn 14 = true ∧ wMatch.halfLink 14 = true ∧ WellFormed (.cbtData 14 (wCbt false 0)) = true ∧ (wCbt false 0).hdr.fcsOk = false) ∧
    (WellFormed (.cbtData 14 (wCbt true 0)) = true ∧ wMatch.protected_ 14 = false ∧ wMatch.cbtCheck 14 (wCbt true 0).hdr (wMatch.rxFlow kFlow).epoch = 0 ∧ (wMatch.rxFlow kFlow).epoch = (wCbt true 0).hdr.epoch ∧ (wCbt true 0).seq = (wMatch.rxFlow kFlow).cum ∧ (wMatch.rxFlow kFlow).got = [] ∧ (wMatch.rxFlow kFlow).held = [] ∧ (wMatch.rxFlow kFlow).since < 31 ∧ (wCbt true 0).expo = wMatch.get fPART_EXPO_NOW_EXPO 0 0 ∧ (wCbt true 0).last = false) ∧
    (wDue.live = true ∧ wDue.settled ∧ wDue.halfOn 14 = true ∧ wDue.halfLink 14 = true ∧ wDue.protected_ 14 = false ∧ wDue.cbtCheck 14 (wCbt true 0).hdr (wDue.rxFlow kFlow).epoch = 0 ∧ (wDue.rxFlow kFlow).has 0 = true) ∧
    (kFlow < 16384 ∧ wDue.protected_ (flowHalf kFlow) = false ∧ (wDue.rxFlow kFlow).due = true ∧ (wMatch.rxFlow 16383).due = false) ∧
    ((wSent 0).live = true ∧ (wSent 0).settled ∧ (wSent 0).protected_ (flowHalf kFlow) = false ∧ WellFormed (.cbtAck 14 { hdr := wCbtHdr true, cum := 1, bitmap := 0 }) = true ∧ (wSent 0).halfOn 14 = true ∧ (wSent 0).halfLink 14 = true ∧ (wSent 0).cbtCheck 14 (wCbtHdr true) ((wSent 0).txFlow kFlow).epoch = 0 ∧ ∀ b ∈ ((wSent 0).txFlow kFlow).blocks, b.sent = true ∧ b.fwd = 0) ∧
    (((wSent 0).txFlow kFlow).blocks.length = 1 ∧ (wSent 0).matched (flowHalf kFlow) = true ∧ 0 < (wSent 0).g fFAB_CBT_CFG_MAX_RESEND ∧ flowCls kFlow = 3) ∧
    ((wSent ((wSent 0).g fFAB_CBT_CFG_MAX_RESEND)).g fFAB_CBT_CFG_MAX_RESEND = (wSent 0).g fFAB_CBT_CFG_MAX_RESEND ∧ (wMatch.txFlow 16383).blocks = []) := by
  exact ⟨by decide, by decide, by decide, by decide, by decide, by decide, by decide⟩

/-- Partition 0 with a Carrier layer: rows of 16 bytes, 1 expert, 4 rows of room, in an inbound region at 0x10000; rank 0 of 2. -/
def wCarr : State :=
  sets (wExpo.write 0x100 ((List.range 64).map (fun i => if i = 2 then 1 else if i = 6 then 16 else if i = 9 then 16 else if i = 10 then 1 else if i = 14 then 16 else if i = 16 then 4 else if i = 18 then 1 else if i = 19 then 1 else if i = 20 then 1 else if i = 22 then 8 else 0)))
    [(fCARR_LAYERS_ADDR, 0, 0, 0x100), (fCARR_INBUF_BASE_4K, 0, 0, 16), (fCARR_INBUF_SIZE_4K, 0, 0, 16), (fCARR_JOB_NRANKS, 0, 0, 2), (fCARR_HOME_ADDR, 0, 0, 0x400), (fCARR_RANKS_ADDR, 0, 0, 0x800)]
/-- A Carrier message from rank 1 to a rank: kind, its exposure, and one row of 16 bytes as message 0 of 2. -/
def wCm (kind dst expo ref : Nat) : CarrMsg := { attempt := 0, poison := false, body := toBytes (carrHdrBytes { kind := kind, cls := 0, slot := 0, coded := false, poison := false, epoch := 0, src := 1, dst := dst, layer := 0, expert := 0, rows := 1, msgs := 2, rawLen := 16, codedBits := 0, crc := crc32c (ofBytes bytes16), seq := 0, t64 := 0, expo := expo, firstRow := 0, idx := 0, ref := ref } ++ ofBytes bytes16) }
theorem test_witness_CarrierMessagesLand :
    (∀ k : Nat, k < 4 → (let m := wCm k 0 0 0; let h := carrHdr (ofBytes m.body); let body := ((ofBytes m.body).drop 64).take h.rawLen; let b := (wCarr.carrOf 0).inBatch h.kind h.layer h.src; h.kind = k ∧ h.dst = wCarr.selfRank 0 ∧ wCarr.notBegun 0 h.expo m.attempt = false ∧ h.expo = wCarr.get fPART_EXPO_NOW_EXPO 0 0 ∧ m.attempt = (wCarr.prt 0).attempt ∧ b.complete = false ∧ h.idx ∉ b.got ∧ h.coded = false ∧ h.poison = false ∧ m.poison = false ∧ crc32c body = h.crc ∧ 1 < h.msgs ∧ 1 ∉ b.got ∧ 1 ≠ h.idx)) ∧
    (wCarr.live = true ∧ WellFormed (.dispatchMsg 0 (wCm 0 0 0 0)) = true ∧ WellFormed (.returnMsg 0 (wCm 1 0 0 0)) = true ∧ WellFormed (.gradUp 0 (wCm 2 0 0 0)) = true ∧ WellFormed (.gradDown 0 (wCm 3 0 0 0)) = true) ∧
    (wCarr.inInbound 0 (wCarr.dispatchAt 0 (wCarr.layerRaw 0 0) 0 1 0) 16 = true ∧ wCarr.inInbound 0 (wCarr.layerRaw 0 0).rzone 16 = true ∧ (wCarr.layerRaw 0 0).rowBytes = 16 ∧ (wCarr.layerRaw 0 0).outBytes = 16) := by
  exact ⟨by decide, by decide, by decide⟩

/-- An outbound batch for rank 1 of one message. -/
def wBatch (kind : Nat) : OutBatch := { id := 4, kind := kind, layer := 0, dst := 1, cls := 15, expo := 0, attempt := 0, sent := false, accepted := false, msgs := [{ seq := 5, expert := 0xFFFF, rows := 0, firstRow := 0, idx := 0, poison := false, raw := bytes16 }] }
/-- The Carrier with that batch, and the way to rank 1 over half 14, not MATCHED. -/
def wOut (kind : Nat) : State := (wCarr.write 0x80C [14]).setCarr 0 { Carr.init with used := 80, opened := true, out := [wBatch kind] }
theorem test_witness_CarrierMessagesWaitPassAndBatchesLeave :
    (wCarr.notBegun 0 1 0 = true ∧ (carrHdr (ofBytes (wCm 0 0 1 0).body)).expo = 1 ∧ (carrHdr (ofBytes (wCm 0 0 1 0).body)).dst = wCarr.selfRank 0) ∧
    ((carrHdr (ofBytes (wCm 0 1 0 0).body)).dst ≠ (wOut 0).selfRank 0 ∧ ((wOut 0).routeHalf 0 1).isSome = true ∧ (wOut 0).outFree 0 < (wCm 0 1 0 0).body.length) ∧
    (WellFormed (.acceptMsg 0 (wCm 4 0 0 0)) = true ∧ ((wOut 0).carrOf 0).out.find? (fun x => decide (x.dst = 1 ∧ x.kind = 0 % 256 ∧ x.layer = 0 ∧ x.expo = 0)) = some (wBatch 0) ∧ (wCarr.carrOf 0).out.find? (fun x => decide (x.dst = 1 ∧ x.kind = 0 ∧ x.layer = 0 ∧ x.expo = 0)) = none) ∧
    (WellFormed (.rejectMsg 0 (wCm 5 0 0 5)) = true ∧ ((wOut 0).carrOf 0).out = [wBatch 0] ∧ (carrHdr (ofBytes (wCm 5 0 0 5).body)).ref = 5 ∧ (wOut 0).routeHalf 0 1 = some 14 ∧ (wOut 0).matched (flowHalf (flowKey 14 (kindClass 0) 0 ((wOut 0).peerPart 0 14))) = false ∧ (wCarr.carrOf 0).out = []) ∧
    ((wOut 2).live = true ∧ ((wOut 2).prt 0).voided = false ∧ (wBatch 2).sent = false ∧ (wOut 2).routeHalf 0 1 = some 14) ∧
    ((wOut 0).timer.replicas.length = 2 ∧ ((wOut 0).timer.replicas.getD ((wOut 0).homeDie 0) (wOut 0).timer.master).rate = 0 ∧ ((wOut 0).timer.replicas.getD ((wOut 0).homeDie 0) (wOut 0).timer.master).time < 2 ^ 103 ∧ (wOut 0).windowAt 0 0 < 2 ^ 63) ∧
    ((wOut 0).settled ∧ (wOut 0).runsCtxs 0 = true ∧ ((wOut 0).prt 0).attempt = 0 ∧ (wOut 0).plan 0 = none ∧ (∃ b ∈ ((wOut 0).carrOf 0).out, b.expo = (wOut 0).get fPART_EXPO_NOW_EXPO 0 0)) ∧
    (State.reset.settled ∧ State.reset.runsCtxs 0 = false) ∧
    (State.reset.idle 0) := by
  exact ⟨by decide, by decide, by decide, by decide, by decide, by decide, by decide, by decide, ⟨fun _ => rfl, rfl, rfl⟩⟩

/-- Partition 0 CREATED, to be paired over half 14, MATCHED, in a pair state, as primary or shadow. -/
def wPair (role state : Nat) : State := sets wPart [(fFAB_PORT_CFG_ENABLE_A, 7, 0, 1), (fFAB_PORT_STAT_LINK_A, 7, 0, 1), (fFAB_PORT_STAT_STATE_A, 7, 0, 1), (fPART_PAIR_HALF, 0, 0, 14), (fPART_PAIR_MODE, 0, 0, 1), (fPART_PAIR_ROLE, 0, 0, role), (fPART_PAIR_STAT_STATE, 0, 0, state)]
theorem test_witness_PairsFormAndEnd :
    ((wPair 0 1).live = true ∧ (wPair 0 1).settled ∧ (wPair 0 3).pairState 0 = 3) ∧
    ((wPair 0 0).pairState 0 = 0 ∧ (wPair 0 6).pairState 0 = 6 ∧ wPart.get fPART_PAIR_MODE 0 0 = 0 ∧ wPart.matched (wPart.get fPART_PAIR_HALF 0 0) = false ∧ wPart.pairErr 0 { role := true, mode := 1, digest := 0, goldId := 0 } ≠ 0) ∧
    ((wPair 0 0).pairErr 0 { role := true, mode := 1, digest := (wPair 0 0).configDigest 0, goldId := 0 } = 0) ∧
    ((wPair 0 2).pairState 0 ≠ 0 ∧ ((wPair 0 2).put fPART_STAT_STATE 0 0 2).isRunning 0 = true ∧ (wPair 0 2).isRunning 0 = false ∧ ((wPair 0 2).prt 0).heldRecs = []) ∧
    ((wPair 1 1).exists_ 0 = true ∧ (wPair 1 1).isShadow 0 = true ∧ (wPair 1 1).pairState 0 = 1 ∧ (wPair 0 1).isShadow 0 = false) := by
  exact ⟨by decide, by decide, by unfold State.pairErr; simp only; rw [if_neg (by decide), if_neg (by decide), if_neg (by decide), if_neg (fun h => h rfl), if_neg (by decide)], by decide, by decide⟩


/-- A PAIR message of 20 bytes: one write record of four bytes at an HBM address. -/
def wPm (a expo flags : Nat) : PairMsg := { attempt := 0, flags := flags, srcRank := 0, dstRank := 0, expo := expo, seq := 0, body := toBytes (leBytes 8 a ++ leBytes 8 4 ++ [1, 2, 3, 4]) }
/-- A PAIR message of a body. -/
def wPb (expo : Nat) (body : List Nat) : PairMsg := { attempt := 0, flags := 0, srcRank := 0, dstRank := 0, expo := expo, seq := 0, body := toBytes body }
/-- A MIRRORED shadow that has received one record of 20 bytes. -/
def wBatched (bad : Bool) : State := (wPair 1 2).setPrt 0 { Part.init with batch := [(0x1000, [1, 2, 3, 4])], batchBytes := 20, batchBad := bad }
theorem test_witness_MirroredDataVoidsAndWeightFetches :
    ((wPair 1 2).live = true ∧ (wPair 1 2).settled ∧ (wPair 1 2).exists_ 0 = true ∧ (wPair 1 2).takesMirror 0 = true ∧ readRecords (ofBytes (wPm 0x1000 0 0).body) ((wPm 0x1000 0 0).body.length / 16 + 1) = [(0x1000, [1, 2, 3, 4])] ∧ (wPair 1 2).mirrorOk 0 0x1000 4 = true ∧ (wPair 1 2).mirrorOk 0 0x7FFFFFC 4 = true) ∧
    (readRecords (ofBytes (wPm 0x7FFFFFD 0 0).body) ((wPm 0x7FFFFFD 0 0).body.length / 16 + 1) = [(0x7FFFFFD, [1, 2, 3, 4])] ∧ (wPair 1 2).mirrorOk 0 0x7FFFFFD 4 = false) ∧
    ((wBatched false).takesMirror 0 = true ∧ ((wBatched false).prt 0).batchBad = false ∧ ((wBatched false).prt 0).batchBytes ≠ ofLe ((ofBytes (wPb 4 [19, 0, 0, 0]).body).take 4) ∧ ((wBatched false).prt 0).batchBytes = ofLe ((ofBytes (wPb 4 [20, 0, 0, 0]).body).take 4) ∧ ((wBatched false).prt 0).batch = [(0x1000, [1, 2, 3, 4])] ∧ (wBatched false).settled) ∧
    ((wBatched true).takesMirror 0 = true ∧ ((wBatched true).prt 0).batchBad = true ∧ (wBatched true).exists_ 0 = true) ∧
    ((wPair 0 2).isShadow 0 = false ∧ (wPair 0 2).pairState 0 = 2 ∧ ((wPair 0 2).prt 0).heldRecs = [] ∧ (wPair 0 2).draining = false ∧ (wPm 0 0 0).flags % 2 = 0 ∧ (wPm 0 0 1).flags % 2 = 1) ∧
    (wExpo.live = true ∧ wExpo.settled ∧ wExpo.exists_ 0 = true ∧ wExpo.plan 0 = none ∧ wExpo.expoRuns 0 = true ∧ (wPb 0 []).expo = wExpo.get fPART_EXPO_NOW_EXPO 0 0 ∧ (wExpo.prt 0).attempt = 0 ∧ (wExpo.prt 0).voided = false) ∧
    ((wExpo.setPrt 0 { wExpo.prt 0 with attempt := 1 }).expoRuns 0 = true ∧ ((wExpo.setPrt 0 { wExpo.prt 0 with attempt := 1 }).prt 0).attempt = 1 ∧ (wExpo.setPrt 0 { wExpo.prt 0 with attempt := 1 }).partCtxs 0 = []) ∧
    (wExpo.get fPART_EXPO_NOW_EXPO 0 0 < (wPb 1 []).expo) ∧
    ((wPb 0 []).expo < (wExpo.put fPART_EXPO_NOW_EXPO 0 0 1).get fPART_EXPO_NOW_EXPO 0 0 ∧ ((wExpo.put fPART_EXPO_NOW_EXPO 0 0 1).prt 0).nextExpo ≠ 0 ∧ wExpo.linkDown (wExpo.homeDie 0) = false) ∧
    (((wPair 0 2).setPrt 0 { Part.init with reloads := [0x7FFF000] }).exists_ 0 = true ∧ (((wPair 0 2).setPrt 0 { Part.init with reloads := [0x7FFF000] }).prt 0).reloads = [0x7FFF000] ∧ (wPb 0 (List.replicate 4096 1)).body.length = 4096 ∧ 0x7FFF000 + 4096 ≤ 0x00C000000000 ∧ (wPair 0 2).halfKind ((wPair 0 2).get fPART_PAIR_HALF 0 0) = 3 ∧ (wPair 0 2).matched ((wPair 0 2).get fPART_PAIR_HALF 0 0) = true) ∧
    (((wPair 0 2).prt 0).reloads = [] ∧ ((wPair 0 2).setPrt 0 { Part.init with reloads := [0x7FFF000] }).get fPART_REL_STAT_OFFLINE 0 0 = 0 ∧ ((wPair 0 2).setPrt 0 { Part.init with reloads := [0x7FFF000] }).partSlots 0 = [] ∧ ((wPair 0 2).setPrt 0 { Part.init with reloads := [0x7FFF000] }).get fPART_STAT_STATE 0 0 = 1) := by
  exact ⟨by decide, by decide, by decide, by decide, by decide, by decide, by decide, by decide, by decide, by decide, by decide⟩

/-- A shadow that may take over: its windows are in order. -/
def wTake (state : Nat) (lost : Bool) : State := ((wPair 1 state).put fPART_EXPO_WIN1_GUARD 0 0 100).setPrt 0 { Part.init with pairLost := lost }
theorem test_witness_HeartbeatsClaimsAndTakeover :
    ((wPair 1 2).takesMirror 0 = true ∧ (wPair 1 2).locked = false ∧ (wPair 0 2).takesMirror 0 = false ∧ ((wPair 1 2).put fSEC_STAT_LOCKED 0 0 1).locked = true) ∧
    ((wPair 0 1).isShadow 0 = false ∧ (wPair 0 1).pairState 0 = 1 ∧ (wPair 0 2).pairState 0 = 2) ∧
    (((wPair 0 2).put fPART_PAIR_STAT_MISSES 0 0 1).get fPART_PAIR_STAT_MISSES 0 0 < 2 ∧ ((wPair 0 2).put fPART_PAIR_STAT_MISSES 0 0 1).pairState 0 = 2 ∧ ((wPair 0 2).put fPART_PAIR_STAT_MISSES 0 0 2).get fPART_PAIR_STAT_MISSES 0 0 = 2 ∧ ((wPair 0 2).put fPART_PAIR_STAT_MISSES 0 0 2).pairState 0 = 2 ∧ ((wPair 1 1).put fPART_PAIR_STAT_MISSES 0 0 2).get fPART_PAIR_STAT_MISSES 0 0 = 2 ∧ ((wPair 1 1).put fPART_PAIR_STAT_MISSES 0 0 2).isShadow 0 = true ∧ ((wPair 1 1).put fPART_PAIR_STAT_MISSES 0 0 2).pairState 0 = 1) ∧
    ((wPair 0 3).pairState 0 = 3 ∧ (wPair 0 3).conns = [] ∧ (wPair 0 3).isShadow 0 = false ∧ (wPair 1 3).isShadow 0 = true ∧ ((wPair 0 3).prt 0).heldRecs = [] ∧ (wPair 0 2).pairState 0 ≠ 3 ∧ (wPair 0 3).settled ∧ (wPair 0 3).exists_ 0 = true) ∧
    (∀ k : Nat, k < 3 → (let s := if k = 0 then wTake 2 false else if k = 1 then wTake 3 false else wTake 0 true; s.live = true ∧ s.settled ∧ s.isShadow 0 = true ∧ s.get fPART_STAT_STATE 0 0 = 1 ∧ s.get fPART_REL_STAT_OFFLINE 0 0 = 0 ∧ s.locked = false ∧ s.windowsOk 0 = true ∧ (s.prt 0).later = [] ∧ (s.prt 0).mirrored = [])) ∧
    ((wTake 2 false).pairState 0 = 2 ∧ (wTake 3 false).pairState 0 = 3 ∧ (wTake 0 true).pairState 0 = 0 ∧ ((wTake 0 true).prt 0).pairLost = true ∧ ((wTake 2 false).prt 0).nextExpo = 0 ∧
      (((wTake 2 false).setPrt 0 { Part.init with nextExpo := 7 }).prt 0).nextExpo ≠ 0) := by
  exact ⟨by decide, by decide, by decide, by decide, by decide, by decide⟩

/-- Base of the Drawer. -/
def dB : Nat := 0x010000000000
/-- Ring `r` as its table entry has it: 16 entries each, areas of 64 KiB apart. -/
def ringOf (r kind : Nat) : Ring := { Ring.init with sqBase := dB + 0x100000 + r * 0x40000, sqLog2 := 4, cqBase := dB + 0x110000 + r * 0x40000, cqLog2 := 4, winBase := dB + 0x120000 + r * 0x40000, win4k := 1, kind := kind }
/-- The bytes of that entry. -/
def entryOf (r kind : Nat) : List Nat := leBytes 6 (ringOf r kind).sqBase ++ [4, 4] ++ leBytes 6 (ringOf r kind).cqBase ++ leBytes 2 kind ++ leBytes 8 (ringOf r kind).winBase ++ leBytes 8 1 ++ List.replicate 32 0
/-- Partition 0 with rings 0 and 1, the second its service ring, both DISABLED, and an intake queue of 16 entries. -/
def wRings : State := sets ((wPart.write dB (entryOf 0 0)).write (dB + 64) (entryOf 1 1)) [(fRING_TABLE_ADDR, 0, 0, dB), (fPART_RINGS_COUNT, 0, 0, 2), (fPART_REQ_SLOTS_SVC_RING, 0, 0, 1), (fPART_INTAKE_BASE, 0, 0, dB + 0x10000), (fPART_INTAKE_LOG2, 0, 0, 4), (fPART_FW_RECORD_ADDR, 0, 0, dB + 0x20000), (fPART_REQ_SLOTS_COUNT, 0, 0, 4)]
/-- Both rings ACTIVE, each with one descriptor pending. -/
def wActive : State := (wRings.setRing 0 { ringOf 0 0 with state := 1, sqTailSeen := 1 }).setRing 1 { ringOf 1 1 with state := 1, sqTailSeen := 1 }
theorem test_witness_RingsAndFirmwarePosts :
    (wRings.live = true ∧ wRings.enableErr 0 = 0 ∧ wRings.enableErr 1 = 0 ∧ wRings.enableErr 2 ≠ 0 ∧ (wRings.ring 131071).state = 0 ∧ (wActive.ring 0).state ≠ 0) ∧
    (wActive.partOfRing 0 = some 0 ∧ (wActive.put fPART_STAT_STATE 0 0 2).isRunning 0 = true ∧ (wActive.put fPART_STAT_STATE 0 0 2).partOfRing 0 = some 0 ∧ wActive.isRunning 0 = false ∧ wActive.ringSlots 0 0 = []) ∧
    (sub32 (wRings.get fPART_INTAKE_IDX_TAIL 0 0) (wRings.get fPART_INTAKE_IDX_HEAD 0 0) < sub32 1 (wRings.get fPART_INTAKE_IDX_HEAD 0 0) ∧ sub32 0 (wRings.get fPART_INTAKE_IDX_HEAD 0 0) ≤ sub32 (wRings.get fPART_INTAKE_IDX_TAIL 0 0) (wRings.get fPART_INTAKE_IDX_HEAD 0 0) ∧ ∀ r ∈ wRings.partRings 0, (wRings.ring r).sqTailSeen = (wRings.ring r).sqHead) ∧
    (wPart.inReserved (wPart.get fPART_FW_RECORD_ADDR 0 0) 32 = false ∧ wActive.inReserved (wActive.get fPART_FW_RECORD_ADDR 0 0) 32 = true ∧ (wActive.put fPART_FW_RING_RING 0 0 2).partOfRing ((wActive.put fPART_FW_RING_RING 0 0 2).get fPART_FW_RING_RING 0 0) ≠ some 0) ∧
    (0 = wActive.get fPART_FW_RING_RING 0 0 ∧ (wActive.ring 0).state = 1 ∧ (wActive.ring 0).cqHeadSeen < 2 ^ 32 ∧ wActive.recordRoom 0 ∧ (wActive.put fPART_PAIR_STAT_STATE 0 0 5).pairState 0 = 5 ∧ (wActive.put fPART_PAIR_STAT_STATE 0 0 5).partOfRing 0 = some 0) := by
  exact ⟨by decide, by decide, by decide, by decide, by decide⟩

/-- A doorbell slot with SQ_TAIL and CQ_HEAD. -/
def wSlot (tail head : Nat) : List Byte := toBytes (leBytes 4 tail ++ leBytes 4 head ++ List.replicate 56 0)
/-- A DOORBELL message for ring 0. -/
def dbHdr : UcieHdr := { typ := 5, flags := 0, len := 4, cls := 0, part := 0, tag := 0, addr := 0x030000000000, word := 0 }
/-- A descriptor of ring `r` of partition 0. -/
def wDesc (opc r len payload reqId args : Nat) : DescWord := BitVec.ofNat 512 (makeDesc opc 0 r 0 0xFFFF len payload 0 reqId args)
theorem test_witness_DoorbellsAndDescriptorChecks :
    (WellFormed (.doorbellWrite 0x030000000004 (toBytes [1, 2, 3])) = true ∧ WellFormed (.doorbellWrite 0x0300007FFFFC (toBytes [1, 2, 3, 4])) = true ∧ WellFormed (.doorbellWrite 0x030000000004 (wSlot 1 0)) = true ∧ 0x030000000004 % 64 ≠ 0 ∧ (wRings.ring ((0x0300007FFFFC - doorbellBase) / 64)).state ≠ 1) ∧
    (WellFormed (.doorbellWrite 0x030000000000 (wSlot 1 0)) = true ∧ (wActive.doorbellSlot 0).length = 64 ∧ (wActive.ring 0).state = 1 ∧ wActive.partOfRing 0 = some 0 ∧ wActive.moduleFor (1 + wActive.homeDie 0) 0 0x030000000000 = some 0 ∧ (wActive.lane 1 0 false).outbox = [] ∧ (wActive.lane 1 0 false).retraining = false ∧ 5 ≤ (wActive.lane 1 0 false).credit 0) ∧
    (WellFormed (.doorbell port1 dbHdr (wSlot 16 0)) = true ∧ wRings.accepts port1 dbHdr ∧ wActive.accepts port1 dbHdr ∧ (wRings.ring 0).state ≠ 1 ∧ sub32 16 (wActive.ring 0).sqHead ≤ 2 ^ (wActive.ring 0).sqLog2 ∧ sub32 (wActive.ring 0).cqTail 0 ≤ sub32 (wActive.ring 0).cqTail (wActive.ring 0).cqHeadSeen ∧ 2 ^ (wActive.ring 0).sqLog2 < sub32 17 (wActive.ring 0).sqHead ∧ 17 ≠ (wActive.ring 0).sqTailSeen) ∧
    (wActive.recordRoom 0 ∧ wActive.locked = false ∧ ∀ o ∈ [0, 1, 2, 3, 4, 5, 7], wActive.takes 0 0 (wDesc o 0 16 8 1 0) ∧ wActive.descErr 0 0 (wDesc o 0 16 8 1 0) ≠ 0) ∧
    (WellFormed (.nopDescriptor 0 (wDesc 0 0 0 0 1 0)) = true ∧ WellFormed (.generate 0 (wDesc 1 0 0 0 1 0)) = true ∧ WellFormed (.embed 0 (wDesc 2 0 0 0 1 0)) = true ∧ WellFormed (.cancel 0 (wDesc 3 0 0 0 1 0)) = true ∧ WellFormed (.park 0 (wDesc 4 0 0 0 1 0)) = true ∧ WellFormed (.resume 0 (wDesc 5 0 0 0 1 0)) = true ∧ WellFormed (.stepDesc 0 (wDesc 6 0 0 0 1 0)) = true ∧ WellFormed (.attest 0 (wDesc 7 0 0 0 1 0)) = true ∧ WellFormed (.service 1 (wDesc 8 1 0 0 1 0)) = true) ∧
    (wActive.takes 0 0 (wDesc 6 0 0 0 1 0) ∧ wActive.descErr 0 0 (wDesc 6 0 0 0 1 0) = 3 ∧ wActive.takes 1 0 (wDesc 8 1 16 0 1 0) ∧ wActive.recordRoom 1 ∧ wActive.descErr 0 1 (wDesc 8 1 16 0 1 0) ≠ 0) ∧
    ((wActive.put fSEC_STAT_LOCKED 0 0 1).takes 0 0 (wDesc 1 0 0 0 1 0) ∧ (wActive.put fSEC_STAT_LOCKED 0 0 1).recordRoom 0 ∧ (wActive.put fSEC_STAT_LOCKED 0 0 1).locked = true ∧ ((wActive.put fSEC_STAT_LOCKED 0 0 1).ring 0).kind = 0 ∧ descOpc (wDesc 1 0 0 0 1 0) ≠ 7) ∧
    (wRings.partOfRing 0 = some 0 ∧ wActive.descErr 0 0 (wDesc 1 0 0 0 1 0) = 0 ∧ descOpc (wDesc 1 0 0 0 1 0) ≠ 0 ∧ (wActive.put fPART_INTAKE_IDX_TAIL 0 0 16).intakeFull 0 = true) := by
  exact ⟨by decide, by decide, by decide, by decide, by decide, by decide, by decide, by decide⟩

/-- A service command of 32 bytes at the service ring's window. -/
def wSvc (w : Nat) : State := (wActive.write (ringOf 1 1).winBase (leBytes 32 w)).setSlot 3 { Slot.init with state := 1, ring := 0, reqId := 7 }
/-- The SERVICE descriptor that names it. -/
def dSvc : DescWord := wDesc 8 1 32 (ringOf 1 1).winBase 1 0
/-- The command word the walkers read. -/
def wordOf (s : State) : CmdWord := BitVec.ofNat 256 (s.le (descPayload dSvc) 32)
/-- A partition of the training kind, whose ring holds a STEP. -/
def wTrain : State := wActive.put fPART_LAYOUT_KIND 0 0 1
theorem test_witness_RingUnitTakesDescriptors :
    (wActive.live = true ∧ wActive.takes 0 0 (wDesc 0 0 0 0 1 0) ∧ wActive.locked = false ∧ wActive.descErr 0 0 (wDesc 0 0 0 0 1 0) = 0 ∧ wActive.recordRoom 0) ∧
    (wTrain.takes 0 0 (wDesc 6 0 0 0 1 0) ∧ wTrain.descErr 0 0 (wDesc 6 0 0 0 1 0) = 0 ∧ wTrain.intakeFull 0 = false) ∧
    (∀ o : Nat, o < 3 → (let s := wSvc (if o = 0 then 0x83 else if o = 1 then 0x84 else 0x87 + 3 * 2 ^ 32 + 2 ^ 128); s.live = true ∧ s.takes 1 0 dSvc ∧ s.locked = false ∧ s.descErr 0 1 dSvc = 0 ∧ s.intakeFull 0 = false ∧ s.firstBad (descPayload dSvc) 32 = none ∧ s.offLog (descPayload dSvc) 32 ∧ apart (descPayload dSvc) 32 (s.ringEntry 1 + 32) 32)) ∧
    (svcOpc (wordOf (wSvc 0x83)) < 0x84 ∧ 0x84 ≤ svcOpc (wordOf (wSvc 0x84)) ∧ svcOpc (wordOf (wSvc 0x84)) ≤ 0x87 ∧ svcOpc (wordOf (wSvc 0x84)) ≠ 0x87) ∧
    (svcOpc (wordOf (wSvc (0x87 + 3 * 2 ^ 32 + 2 ^ 128))) = 0x87 ∧ bitsOf (wordOf (wSvc (0x87 + 3 * 2 ^ 32 + 2 ^ 128))).toNat 128 1 = 1 ∧ (wSvc 0).slotInRange 0 (svcSlot (wordOf (wSvc (0x87 + 3 * 2 ^ 32 + 2 ^ 128)))) = true ∧ (wSvc 0).get fPART_LAYOUT_KIND 0 0 = 0 ∧ ((wSvc 0).slot (svcSlot (wordOf (wSvc (0x87 + 3 * 2 ^ 32 + 2 ^ 128))))).state ≠ 0) ∧
    ((let d := wDesc 0 0 0 0 1 0; let s := wActive.write (ringOf 0 0).sqBase (leBytes 64 d.toNat); s.takes 0 0 d ∧ s.descErr 0 0 d = 0 ∧ (s.ring 0).sqHead < 2 ^ 32 ∧ (s.ring 0).sqTailSeen < 2 ^ 32 ∧ d = s.descAt 0 (s.ring 0).sqHead ∧ s.firstBad ((s.ring 0).sqBase + (s.ring 0).sqHead % 2 ^ (s.ring 0).sqLog2 * 64) 64 = none ∧ s.ctlOpen (s.ringDie 0) true 1 = true ∧ s.ctlOpen (s.ringDie 0) false 5 = true ∧ descFence d = false)) ∧
    ((let d := wDesc 0 0 0 0 1 0; let s := (wActive.write (ringOf 0 0).sqBase (leBytes 64 d.toNat)).setLineErr (ringOf 0 0).sqBase .bad; s.live = true ∧ s.takes 0 0 d ∧ s.locked = false ∧ s.descErr 0 0 d = 0 ∧ d = s.descAt 0 (s.ring 0).sqHead ∧ s.firstBad ((s.ring 0).sqBase + (s.ring 0).sqHead % 2 ^ (s.ring 0).sqLog2 * 64) 64 ≠ none)) ∧
    ((let d := wDesc 0 0 0 0 1 0; let s := (wActive.write (ringOf 0 0).sqBase (leBytes 64 d.toNat)).setLane 1 0 true { UcieLane.init with credits := [0, 0, 0] }; s.live = true ∧ s.takes 0 0 d ∧ s.locked = false ∧ s.descErr 0 0 d = 0 ∧ d = s.descAt 0 (s.ring 0).sqHead ∧ s.ctlOpen (s.ringDie 0) true 1 = false)) ∧
    ((let d : DescWord := BitVec.ofNat 512 (makeDesc 0 1 0 0 0xFFFF 0 0 0 1 0); let s := wActive.write (ringOf 0 0).sqBase (leBytes 64 d.toNat); s.takes 0 0 d ∧ s.descErr 0 0 d = 0 ∧ d = s.descAt 0 (s.ring 0).sqHead ∧ descFence d = true ∧ (s.ring 0).finals = (s.ring 0).handed)) := by
  exact ⟨by decide, by decide, by decide, by decide, by decide, by decide, by decide, by decide, by decide⟩

/-- A ring whose window holds the payload of a GENERATE with one token: TOP_P and REP are 1.0. -/
def wGen (maxNew : Nat) : State := wActive.write (ringOf 0 0).winBase (leBytes 4 1 ++ leBytes 4 maxNew ++ List.replicate 16 0 ++ leBytes 4 0x3F800000 ++ leBytes 4 0 ++ leBytes 4 0x3F800000 ++ List.replicate 28 0)
/-- Its descriptor. -/
def dGen : DescWord := wDesc 1 0 900 (ringOf 0 0).winBase 1 0
/-- A ring whose window holds the payload of an EMBED, and its descriptor. -/
def wEmb (cap : Nat) : State := wActive.write (ringOf 0 0).winBase (leBytes 8 1 ++ leBytes 8 (ringOf 0 0).winBase ++ leBytes 8 cap ++ List.replicate 40 0)
/-- Its descriptor. -/
def dEmb : DescWord := wDesc 2 0 68 (ringOf 0 0).winBase 1 0
/-- A request of ring 0 with ID 7 in slot 3. -/
def wReq : State := wActive.setSlot 3 { Slot.init with state := 1, ring := 0, reqId := 7 }
/-- A ring whose window holds the payload of an ATTEST, and its descriptor. -/
def wAtt : State := wActive.write ((ringOf 0 0).winBase + 64) (leBytes 8 ((ringOf 0 0).winBase + 1024) ++ leBytes 8 1664 ++ leBytes 16 0)
/-- Its descriptor. -/
def dAtt : DescWord := wDesc 7 0 96 (ringOf 0 0).winBase 1 0
theorem test_witness_FirmwareServesDescriptors :
    (∀ o : Nat, 1 ≤ o → o < 6 → (wActive.takes 0 0 (wDesc o 0 0 0 1 0) ∧ wActive.live = true ∧ wActive.locked = false ∧ wActive.descErr 0 0 (wDesc o 0 0 0 1 0) = 0 ∧ wActive.intakeFull 0 = false ∧ wActive.inReserved (wActive.intakePlace 0) 64 = true ∧ wActive.ctlReady (wActive.homeDie 0))) ∧
    ((wGen 1).takes 0 0 dGen ∧ (wGen 1).descErr 0 0 dGen = 0 ∧ (wGen 1).get fPART_REL_STAT_OFFLINE 0 0 = 0 ∧ ((wGen 1).handOn 0 0 dGen).generateOk dGen = true ∧ ((wGen 0).handOn 0 0 dGen).generateOk dGen = false ∧ ((wGen 1).put fPART_REL_STAT_OFFLINE 0 0 1).get fPART_REL_STAT_OFFLINE 0 0 = 1) ∧
    ((wEmb 16).takes 0 0 dEmb ∧ (wEmb 16).descErr 0 0 dEmb = 0 ∧ ((wEmb 16).handOn 0 0 dEmb).embedOk 0 dEmb = true ∧ ((wEmb 8).handOn 0 0 dEmb).embedOk 0 dEmb = false) ∧
    (wReq.takes 0 0 (wDesc 3 0 0 0 1 7) ∧ wReq.descErr 0 0 (wDesc 3 0 0 0 1 7) = 0 ∧ wReq.get fPART_INTAKE_IDX_HEAD 0 0 = wReq.get fPART_INTAKE_IDX_TAIL 0 0 ∧ wReq.inReserved (wReq.intakePlace 0) 64 = true ∧ wReq.ctlReady (wReq.homeDie 0) ∧ wReq.intakeFull 0 = false ∧ wReq.targets 0 0 8 = [] ∧ wReq.get fPART_LAYOUT_KIND 0 0 = 0 ∧ wReq.targets 0 0 (bitsOf (wDesc 3 0 0 0 1 7).toNat 320 64) = [3] ∧ wReq.slotInRange 0 3 = true ∧ (wReq.slot 3).state ≠ 0) ∧
    (wReq.takes 0 0 (wDesc 4 0 0 0 1 (7 * 2 ^ 32)) ∧ wReq.descErr 0 0 (wDesc 4 0 0 0 1 (7 * 2 ^ 32)) = 0 ∧ wActive.targets 0 0 7 = [] ∧ wReq.targets 0 0 (bitsOf (wDesc 4 0 0 0 1 (7 * 2 ^ 32)).toNat 352 32 + bitsOf (wDesc 4 0 0 0 1 (7 * 2 ^ 32)).toNat 384 32 * 2 ^ 32) = [3] ∧ (wReq.ring (wReq.get fPART_REQ_SLOTS_SVC_RING 0 0)).state = 1) ∧
    (wReq.takes 0 0 (wDesc 5 0 0 0 1 7) ∧ wReq.descErr 0 0 (wDesc 5 0 0 0 1 7) = 0 ∧ wReq.targets 0 0 (bitsOf (wDesc 5 0 0 0 1 7).toNat 320 64) = [3]) ∧
    (wAtt.takes 0 0 dAtt ∧ wAtt.descErr 0 0 dAtt = 0 ∧ descOpc dAtt = 7 ∧ wAtt.vault.fogged = false ∧ wAtt.vault.slots.length = 16 ∧ descLen dAtt = 96) ∧
    ((let u := wAtt.handOn 0 0 dAtt; u.le (descPayload dAtt + 64) 6 % 16 = 0 ∧ (wAtt.ring 0).inWindow (u.le (descPayload dAtt + 64) 6) (u.le (descPayload dAtt + 72) 4) = true ∧ u.le (descPayload dAtt + 80) 1 % 2 = 0 ∧ 1664 ≤ u.le (descPayload dAtt + 72) 4)) ∧
    (({ wAtt with vault := { wAtt.vault with fogged := true } } : State).takes 0 0 dAtt ∧ ({ wAtt with vault := { wAtt.vault with fogged := true } } : State).vault.fogged = true) := by
  exact ⟨by decide, by decide, by decide, by decide, by decide, by decide, by decide, by decide, by decide⟩

/-- A connection on ring 0. -/
def wConn (tail head : Nat) (ss : List Strm) : State := { wActive with conns := [(3, some { client := 0, ring := 0, tail := tail, head := head, streams := ss, full := false })] }
/-- A connection for which no ring was free. -/
def wFull : State := { wActive with conns := [(3, some { client := 0, ring := 0, tail := 0, head := 0, streams := [], full := true })] }
theorem test_witness_RdmaAndConnections :
    (WellFormed (.rdmaWrite 0 0 bytes16) = true ∧ wActive.live = true ∧ wActive.rdmaWritable 0 0 16 = false ∧ wActive.rdmaWritable 0 (ringOf 0 0).winBase 16 = true ∧ isDoorbell (ringOf 0 0).winBase = false) ∧
    ((wActive.put fPART_RINGS_COUNT 0 0 64).rdmaWritable 0 0x030000000000 4 = true ∧ wActive.rdmaWritable 0 0x030000000000 4 = false ∧ isDoorbell 0x030000000000 = true ∧ WellFormed (.rdmaWrite 0 0x030000000000 (toBytes [1, 0, 0, 0])) = true ∧ WellFormed (.doorbellWrite 0x030000000000 (toBytes [1, 0, 0, 0])) = true) ∧
    (wActive.rdmaReadable 0 0 16 = false ∧ wActive.rdmaReadable 0 (ringOf 0 0).cqBase 32 = true ∧ WellFormed (.rdmaRead 0 (ringOf 0 0).cqBase 32) = true) ∧
    ((wRings.ring (qpRing 0)).state = 0) ∧
    (State.reset.vault.feKey = false) ∧
    (Config.clientPool [] 0 = [1] → (let s := { wRings with vault := { wRings.vault with feKey := true } }; s.vault.feKey = true ∧ s.freeRings 0 = [1] ∧ s.enableErr 1 = 0)) ∧
    (Config.clientPool [] 0 = [] → (let s := { wRings with vault := { wRings.vault with feKey := true } }; s.vault.feKey = true ∧ s.freeRings 0 = [])) ∧
    (wActive.conn 3 = none ∧ (wConn 0 0 []).conn 3 = some { client := 0, ring := 0, tail := 0, head := 0, streams := [], full := false } ∧ ((wConn 0 0 []).ring 0).state ≠ 0 ∧ (wConn 0 0 []).partOfRing 0 = some 0 ∧ (wConn 0 0 []).isRunning 0 = false ∧ (wConn 0 0 []).ringSlots 0 0 = [] ∧ wFull.conn 3 = some { client := 0, ring := 0, tail := 0, head := 0, streams := [], full := true }) := by
  exact ⟨by decide, by decide, by decide, by decide, by decide, fun h => ⟨rfl, by unfold State.freeRings; rw [show ({ wRings with vault := { wRings.vault with feKey := true } } : State).credsInForce = [] from by decide, h]; decide, by decide⟩, fun h => ⟨rfl, by unfold State.freeRings; rw [show ({ wRings with vault := { wRings.vault with feKey := true } } : State).credsInForce = [] from by decide, h]; rfl⟩, by decide⟩

/-- A POST of a stream. -/
def wPost (opc : Nat) : PostReq := { stream := 5, opc := opc, flags := 0, context := 0xFFFF, deadline := 0, target := 0, ttl := 0, body := [] }
/-- An open stream 5. -/
def wStream : Strm := { id := 5, begun := false, dropped := false, held := [] }
/-- A connection whose ring holds one FINAL record of stream 5. -/
def wRecord : State := ((wConn 1 0 [wStream]).write (ringOf 0 0).cqBase (recordBytes 5 0 1 0 0 0 0)).setRing 0 { ringOf 0 0 with state := 1, cqTail := 1 }
/-- A stream whose response has begun, with a record held that is not its last. -/
def wHeldStream : Strm := { wStream with begun := true, held := [List.replicate 32 0] }
/-- As many streams as the ring of the connection takes. -/
def wMany : List Strm := (List.range 16).map (fun i => { wStream with id := 2 * i + 1 })
theorem test_witness_StreamsCarryRequests :
    ((wConn 0 0 []).live = true ∧ wActive.conn 3 = none ∧ (wPost 6).opc ∉ [1, 2, 3, 4, 5, 7] ∧ (wPost 1).opc ∈ [1, 2, 3, 4, 5, 7] ∧ (wPost 7).opc ∈ [1, 2, 3, 4, 5, 7]) ∧
    ((wConn 0 0 []).conn 3 = some { client := 0, ring := 0, tail := 0, head := 0, streams := [], full := false } ∧ (wPost 1).body = [] ∧ (wPost 1).stream < 2 ^ 32 ∧ (wConn 0 0 []).offLog (((wConn 0 0 []).ring 0).sqBase + 0 % 2 ^ ((wConn 0 0 []).ring 0).sqLog2 * 64) 64) ∧
    ((wConn 1 0 [wStream]).conn 3 = some { client := 0, ring := 0, tail := 1, head := 0, streams := [wStream], full := false } ∧ wStream.id = 5 ∧ ∀ x ∈ [wStream], x.id ≠ 6) ∧
    (0 = ((wConn 0 0 []).ring 0).cqTail ∧ (wMany.foldl (fun a x => a + x.bytes) 0) ≤ 4194304) ∧
    (wFull.live = true ∧ wFull.conn 3 = some { client := 0, ring := 0, tail := 0, head := 0, streams := [], full := true }) ∧
    ((wConn 16 0 wMany).conn 3 = some { client := 0, ring := 0, tail := 16, head := 0, streams := wMany, full := false } ∧ 2 ^ ((wConn 16 0 wMany).ring 0).sqLog2 ≤ ({ client := 0, ring := 0, tail := 16, head := 0, streams := wMany, full := false } : Conn).open_ ∧ ({ client := 0, ring := 0, tail := 0, head := 0, streams := [], full := false } : Conn).open_ < 2 ^ ((wConn 0 0 []).ring 0).sqLog2) ∧
    ((wConn 0 0 [wHeldStream]).conn 3 = some { client := 0, ring := 0, tail := 0, head := 0, streams := [wHeldStream], full := false } ∧ wHeldStream.begun = true ∧ wHeldStream.held ≠ [] ∧ wHeldStream.held.any recFinal = false) ∧
    (wRecord.conn 3 = some { client := 0, ring := 0, tail := 1, head := 0, streams := [wStream], full := false } ∧ 0 ≠ (wRecord.ring 0).cqTail ∧ wStream.begun = false ∧ wStream.dropped = false ∧ wStream.held = [] ∧ wRecord.le ((wRecord.ring 0).cqBase + 0 % 2 ^ (wRecord.ring 0).cqLog2 * 32) 4 = 5 ∧ wRecord.le ((wRecord.ring 0).cqBase + 8) 2 = 0 ∧ wRecord.le ((wRecord.ring 0).cqBase + 10) 2 % 2 = 1) := by
  exact ⟨by decide, by decide, by decide, by decide, by decide, by decide, by decide, by decide⟩


/-- BOOT with stages 1–3 complete and everything but stack 7 trained. -/
def wLast : State := { sets State.reset ((List.range 7).map (fun h => (fHBM_STAT_TRAINED, h, 0, 1)) ++ [(fDRW_STAT_TRAINED, 0, 0, 15), (fGLOBAL_LOCK_SETUP, 0, 0, 1)]) with supply := { Supply.init with stages := 3 } }
theorem test_witness_StacksAndPackagesTrain :
    (State.reset.live = true ∧ State.reset.supply.stages ≠ 3) ∧
    (wLast.live = true ∧ wLast.g fPWR_STATE_STATE = 2 ∧ wLast.supply.stages = 3 ∧ wLast.g fGLOBAL_LOCK_SETUP = 1 ∧ wLast.g fDRW_STAT_TRAINED = 15) ∧
    (∀ k : Nat, k < 8 → k ≠ 7 → wLast.get fHBM_STAT_TRAINED k 0 = 1) ∧
    (State.reset.bare ∧ State.reset.inFault = false) := by
  exact ⟨by decide, by decide, by decide, by decide⟩

/-- Stack 0 with a partial line in its buffer, the line's error known. -/
def wWcb (e : LineErr) : State := { State.reset with wcb := [(0, [{ line := 0, valid := [true, false, false, false], acks := [(hdr 3 1 0 0, port1)] }])], lineErr := if e = .good then [] else [(0, e)] }
/-- Stack 0 trained. -/
def wTrained : State := sets State.reset [(fHBM_STAT_TRAINED, 0, 0, 1)]
/-- Stack 0 STOPPED. -/
def wStopped : State := sets State.reset [(fHBM_STAT_LEVEL, 0, 0, 5)]
theorem test_witness_StacksFillStopFailAndPatrol :
    ((State.reset.wcbOf 0).find? (fun e => decide (e.line = lineOf 0)) = none) ∧
    (((wWcb .good).wcbOf 0).find? (fun e => decide (e.line = lineOf 63)) = some { line := 0, valid := [true, false, false, false], acks := [(hdr 3 1 0 0, port1)] } ∧ (wWcb .good).get fHBM_STAT_LEVEL 0 0 ≠ 5 ∧ (wWcb .good).lineErrOf 0 ≠ .bad ∧ (wWcb .good).stackOffline 0 = false ∧ (wWcb .good).live = true ∧ (wWcb .good).sendsOn 1 false (wrAckHdr (hdr 3 1 0 0) 0 0) 0) ∧
    (((wWcb .bad).wcbOf 0).find? (fun e => decide (e.line = lineOf 0)) = some { line := 0, valid := [true, false, false, false], acks := [(hdr 3 1 0 0, port1)] } ∧ (wWcb .bad).get fHBM_STAT_LEVEL 0 0 ≠ 5 ∧ (wWcb .bad).lineErrOf 0 = .bad ∧ (wWcb .bad).bare ∧ (wWcb .bad).sendsOn 1 false (wrAckHdr (hdr 3 1 0 0) 1 stHbmUe) 0) ∧
    (∀ (e : LineErr) (g : Nat) (x : WcbEntry), x ∈ (wWcb e).wcbOf g → (g = 0 ∧ x.line = 0) ∨ (hdr 3 1 0 0, port1) ∉ x.acks) ∧
    (State.reset.get fHBM_STAT_OFFLINE 7 0 = 0 ∧ State.reset.hbmHeld = [] ∧ State.reset.get fHBM_STAT_LEVEL 7 0 = 0 ∧ 0 < State.reset.get fHBM_THERM_WARN_C 7 0 ∧ wStopped.get fHBM_STAT_LEVEL 0 0 = 5 ∧ wStopped.get fHBM_STAT_OFFLINE 0 0 = 0 ∧ wStopped.hbmHeld = [] ∧ ∀ x ∈ wStopped.plates, ∀ w ∈ x.2.waiting, w.why ≠ .stack) ∧
    (State.reset.get fHBM_STAT_LEVEL 7 0 ≠ 5 ∧ wStopped.wcbOf 0 = [] ∧ wStopped.bare ∧ wStopped.inFault = false ∧ wStopped.live = true) ∧
    (WellFormed (.hbmPatrolRead 0 .clean) = true ∧ State.reset.get fHBM_STAT_TRAINED (State.reset.stackOf (lineOf 0)) 0 = 0 ∧ State.reset.settled) ∧
    (wTrained.live = true ∧ wTrained.settled ∧ wTrained.get fHBM_STAT_TRAINED (wTrained.stackOf (lineOf 63)) 0 = 1 ∧ wTrained.stackHolds (lineOf 63) = false ∧ wTrained.stackOffline (lineOf 63) = false ∧ wTrained.lineErrOf (lineOf 63) = .good ∧ wTrained.bare ∧ wTrained.bgRoom (stackKey (wTrained.stackOf (lineOf 63))) 64 hbmCap = true ∧ ({ wTrained with bgWork := [(stackKey 0, 0, hbmCap)] } : State).bgRoom (stackKey 0) 64 hbmCap = false) ∧
    (State.reset.bgRoom drawerKey 64 drawerCap = true ∧ ({ State.reset with bgWork := [(drawerKey, 0, drawerCap)] } : State).bgRoom drawerKey 64 drawerCap = false) ∧
    (WellFormed (.drawerPatrolRead 0x013FFFFFFFFF .clean) = true ∧ State.reset.lineErrOf (lineOf 0x013FFFFFFFFF) = .good ∧ State.reset.bare ∧ State.reset.inLogRing (lineOf 0x013FFFFFFFFF) = false ∧ ∀ j : Nat, j < 64 → State.reset.inLogRing (lineOf 0x013FFFFFFFFF + j) = false) := by
  exact ⟨by decide, by decide, by decide, (fun e g x hx => by
    by_cases hg : g = 0
    · subst hg
      exact Or.inl ⟨rfl, by rw [List.mem_singleton.mp hx]⟩
    · have h0 : (wWcb e).wcbOf g = [] := by unfold State.wcbOf wWcb; simp only [smapGet]; rw [if_neg (fun h => hg h.symm)]
      rw [h0] at hx; cases hx), by decide, by decide, by decide, by decide, by decide, by decide⟩

/-- Source 6 with a policy. -/
def wAlarm (p : Nat) : State := State.reset.put fSEC_ALARM_POLICY_POLICY 0 0 (p * 4096)
theorem test_witness_AlarmPoliciesAndFog :
    (WellFormed (.lightLeakAlarm 6) = true ∧ (wAlarm 0).live = true ∧ (wAlarm 0).bare ∧ (wAlarm 0).alarmPolicy 6 = 0) ∧
    ((wAlarm 1).bare ∧ (wAlarm 1).alarmPolicy 6 = 1 ∧ (wAlarm 1).locked = false) ∧
    ((wAlarm 2).bare ∧ (wAlarm 2).alarmPolicy 6 = 2 ∧ (wAlarm 3).bare ∧ (wAlarm 3).alarmPolicy 6 = 3) ∧
    ((State.reset.put fSEC_STAT_FOG_BUSY 0 0 1).live = true ∧ (State.reset.put fSEC_STAT_FOG_BUSY 0 0 1).g fSEC_STAT_FOG_BUSY = 1) := by
  exact ⟨by decide, by decide, by decide, by decide⟩

/-- A LOCKED engine whose DEBUG source has policy LOG, with a LOCK_CLEAR token for nonce 5 in the reserved range. -/
def wToken : State := { sets (State.reset.write 0x010000000000 (leBytes 2 2 ++ leBytes 2 0 ++ leBytes 4 (State.reset.g fGLOBAL_ENGINE_ID_ENGINE_ID) ++ leBytes 8 5)) [(fSEC_TOKEN_ADDR, 0, 0, 0x010000000000), (fSEC_STAT_LOCKED, 0, 0, 1), (fSEC_ALARM_POLICY_POLICY, 0, 0, 0)] with vault := { Vault.init with locked := true, nonce := some (5, 1) } }
/-- Partition 0 with a package of 64 plaintext bytes at 0x1000, to be decrypted to `dst`. -/
def wPkg (dst : Nat) : State := sets ((wPart.writeLe 0x1004 4 576).writeLe 0x1010 8 64) [(fSEC_PKG_SRC_ADDR, 0, 0, 0x1000), (fSEC_PKG_DST_ADDR, 0, 0, dst)]
/-- An engine without partitions on which a package is under way. -/
def wPkgOn : State := { State.reset.put fSEC_ALARM_POLICY_POLICY 0 0 0 with vault := { Vault.init with pkg := some (0, 0x1000, 0x4000, 64) } }
theorem test_witness_NoncesTokensPackagesAndMeasurements :
    (State.reset.live = true ∧ State.reset.bare ∧ State.reset.tokenKind ≠ 2) ∧
    (wToken.live = true ∧ wToken.bare ∧ wToken.tokenKind = 2 ∧ wToken.alarmPolicy 6 = 0 ∧ wToken.locked = true ∧ wToken.vault.fogged = false) ∧
    (({ wToken with vault := { wToken.vault with nonce := none } } : State).tokenOk (wToken.bytes (wToken.g fSEC_TOKEN_ADDR) 1152) = false) ∧
    ((Config.verify ((wToken.bytes 0x010000000000 1152).drop 128 |>.take 512) ((wToken.bytes 0x010000000000 1152).take 640) ((wToken.bytes 0x010000000000 1152).drop 640 |>.take 512) = true → wToken.tokenOk (wToken.bytes (wToken.g fSEC_TOKEN_ADDR) 1152) = true)) ∧
    ((State.reset.put fSEC_STAT_DEBUG 0 0 1).g fSEC_STAT_DEBUG = 1) ∧
    ((wPkg 0x4000).live = true ∧ WellFormed (.secPkgCtrlStart 0) = true ∧ (wPkg 0x4000).g fSEC_PKG_CTRL_BUSY = 0 ∧ (wPkg 0x4000).pkgSizes 0x1000 = (576, 64) ∧ (wPkg 0x4000).pkgSrcOk 0 0x1000 576 = true ∧ (wPkg 0x4000).pkgSrcOk 0 0x1000 640 = true ∧ (wPkg 0x4000).inHbm 0 0x4000 64 = true ∧ rangesMeet 0x1000 640 0x4000 64 = false) ∧
    (rangesMeet 0x1000 640 0x127F 64 = true ∧ rangesMeet 0x1000 640 0x1280 64 = false ∧ (wPkg 0x127F).g fSEC_PKG_DST_ADDR = 0x127F) ∧
    (wPkgOn.live = true ∧ wPkgOn.bare ∧ wPkgOn.alarmPolicy 5 = 0 ∧ wPkgOn.vault.pkg = some (0, 0x1000, 0x4000, 64)) ∧
    (WellFormed (.secExtend 12 0x010000000000) = true ∧ State.reset.vault.slots.length = 16 ∧ State.reset.inReserved 0x010000000000 64 = true ∧ WellFormed (.secExtend 13 0x010000000000) = true ∧ WellFormed (.secExtend 4 0x010000000000) = true ∧ WellFormed (.secExtend 5 0x010000000020) = true ∧ 0x010000000020 % 64 ≠ 0 ∧ State.reset.inReserved 0 64 = false) := by
  exact ⟨by decide, by decide, by decide, fun h => by rw [show wToken.g fSEC_TOKEN_ADDR = 0x010000000000 from by decide]; unfold State.tokenOk; simp only [show wToken.vault.nonce = some (5, 1) from rfl, List.drop_zero, h]; decide, by decide, by decide, by decide, by decide, by decide⟩

theorem test_witness_SpdmAnswersEachRequest :
    (State.reset.live = true ∧ State.reset.g fSEC_STAT_FOG_BUSY = 0 ∧ State.reset.vault.fogged = false ∧ ({ State.reset with vault := { Vault.init with fogged := true } } : State).vault.fogged = true) ∧
    (WellFormed (.getCertificate 65535 65535) = true ∧ WellFormed (.challenge 255 0) = true ∧ WellFormed (.challenge 0 0) = true ∧ WellFormed (.getMeasurements 17 0) = true ∧ WellFormed (.getMeasurements 1 0) = true ∧ WellFormed (.getMeasurements 0 0) = true ∧ WellFormed (.spdmUnsupportedRequest 255) = true) ∧
    ((ikChain.length ≤ 65535 ∨ 65535 < ikChain.length) ∧ (Config.chainLen = 1 → 0 < ikChain.length ∧ ikChain.length ≤ 1)) := by
  exact ⟨by decide, by decide, ⟨by omega, fun h => by unfold ikChain; simp [h]⟩⟩

/-- The module OFF, mated or not. -/
def wOff (mated : Bool) : State := { State.reset.powerOff with supply := { State.reset.powerOff.supply with mated := mated, presence := false } }
/-- The module in PRECHARGE, its presence mated or not, its precharge complete or not. -/
def wCharge (presence charged : Bool) : State := { State.reset with supply := { Supply.init with main := 1, presence := presence, inRange := charged, charged := charged } }
theorem test_witness_SupplyEventsMoveTheMainSwitch :
    (State.reset.supply.main ≠ 0 ∧ 3599 < 3600 ∧ 6000 < 6001 ∧ WellFormed (.railFault 12) = true ∧ State.reset.supply.main = 2 ∧ (wCharge true false).supply.main = 1) ∧
    ((wOff false).supply.main = 0 ∧ (wOff true).supply.main = 0 ∧ (wOff true).supply.mated = true) ∧
    ((wCharge true false).unpowered ∧ (wCharge true false).supply.main = 1 ∧ (wCharge true false).supply.presence = true) ∧
    ((wCharge false false).supply.main = 1 ∧ (wCharge false false).supply.presence = false) ∧
    ((wCharge false true).unpowered ∧ (wCharge false true).supply.main = 1 ∧ (wCharge false true).supply.inRange = true ∧ (wCharge false true).supply.charged = true) ∧
    (WellFormed (.railPowerGood 0) = true ∧ ∀ q : Nat, q < 13 → railStep q < railStep 0 → State.reset.railGood q = true) ∧
    (∀ q : Nat, q < 13 → railStep q < railStep 12 → (State.reset.put fPWR_STAT_RAIL_PG 0 0 0xFFF).railGood q = true) := by
  exact ⟨by decide, by decide, by unfold State.unpowered; decide, by decide, by unfold State.unpowered; decide, by decide, by decide⟩

theorem test_witness_WarmResetReturnsTheModuleToBoot :
    (State.reset.supply.main = 2 ∧ State.reset.live = true ∧ State.reset.g fPWR_STATE_STATE = 2 ∧ State.reset.supply.stuck = false) := by
  decide

/-- BOOT with the rails of the first three steps good, after a number of stages. -/
def wBoot (n : Nat) : State := { State.reset.put fPWR_STAT_RAIL_PG 0 0 31 with supply := { Supply.init with stages := n } }
/-- What the boot code finds: bank A verifies. -/
def wScan : BootScan := { lidOpen := false, vaultOk := true, bankA := some 0, bankB := none, digest := 3, ucode := [] }
theorem test_witness_BootStagesAdvance :
    ((wBoot 0).live = true ∧ (wBoot 0).g fPWR_STATE_STATE = 2 ∧ (wBoot 0).vault.slots.length = 16 ∧ (wBoot 0).supply.stages = 0 ∧ (wBoot 0).supply.stuck = false ∧ (wBoot 0).supply.second = false ∧ wScan.lidOpen = false ∧ (wBoot 0).vault.once = none ∧ (wBoot 0).bankOk wScan (wBoot 0).vault.preferred = true) ∧
    (∀ i : Nat, i < 5 → (wBoot 0).railGood i = true) ∧
    ((wBoot 1).supply.stages = 1 ∧ (wBoot 1).bankOk wScan ((wBoot 1).g fSEC_STAT_BOOT_BANK) = true ∧ (wBoot 2).supply.stages = 2 ∧ (wBoot 2).selectRec kindSettings [] = none) := by
  exact ⟨by decide, by decide, by decide⟩

/-- A module in a state, without partitions. -/
def wMod (st : Nat) : State := State.reset.put fPWR_STATE_STATE 0 0 st
theorem test_witness_DrainInputRangeAndPowerGovernor :
    ((wMod 3).live = true ∧ (wMod 3).bare ∧ WellFormed (.pwrCtrlDrain 3600) = true ∧ WellFormed (.pwrCtrlDrain 0) = true ∧ (wMod 3).g fPWR_STATE_STATE = 3 ∧ (wMod 4).g fPWR_STATE_STATE = 4) ∧
    ((wMod 5).draining = true) ∧
    (WellFormed (.inputRange 3999) = true ∧ WellFormed (.inputRange 3600) = true ∧ (wMod 3).inFault = false) ∧
    (WellFormed (.powerSample 65535 65535 65535) = true ∧ WellFormed (.powerSlowLoop { tjC := 0, overTemp := false, p100W := 0, partW := [] }) = true ∧ WellFormed (.droopStretch 2) = true ∧ 2 ∉ State.reset.supply.stretched ∧ WellFormed (.droopRecover 0) = true) := by
  exact ⟨by decide, by decide, by decide, by decide⟩

theorem test_witness_VetasReadsAndDenials :
    (State.reset.live = true ∧ State.reset.g fSEC_STAT_FOG_BUSY = 0 ∧ State.reset.supply.stuck = false ∧ WellFormed (.regRead { i3c := true, seq := 1 } 0x0F0000000000 32) = true ∧ ∀ i : Nat, i < 32 → 0x0F0000000000 + 8 * i ≠ fldAddr fSEC_NONCE_NONCE 0 0) ∧
    (WellFormed (.vetasUnknownCommand { i3c := true, seq := 1 } 0x0E) = true ∧ WellFormed (.vetasUnknownCommand { i3c := true, seq := 1 } 0) = true) ∧
    ((State.reset.put fSEC_STAT_FOG_BUSY 0 0 1).g fSEC_STAT_FOG_BUSY = 1 ∧ WellFormed (.settingsSave { i3c := true, seq := 1 }) = true) ∧
    (((wMod 3).put fMGMT_CFG_I3C_TRUST 0 0 0).g fSEC_STAT_FOG_BUSY = 0 ∧ ((wMod 3).put fMGMT_CFG_I3C_TRUST 0 0 0).supply.stuck = false ∧ 3 ≤ ((wMod 3).put fMGMT_CFG_I3C_TRUST 0 0 0).g fPWR_STATE_STATE ∧ ((wMod 3).put fMGMT_CFG_I3C_TRUST 0 0 0).g fMGMT_CFG_I3C_TRUST = 0) := by
  exact ⟨by decide, by decide, by decide, by decide⟩

theorem test_witness_VetasCommandsAct :
    ((wMod 3).live = true ∧ (wMod 3).g fSEC_STAT_FOG_BUSY = 0 ∧ (wMod 3).supply.stuck = false ∧ 3 ≤ (wMod 3).g fPWR_STATE_STATE ∧ (wMod 3).vault.fogged = false ∧ (wMod 3).flash.savedAt = 0) ∧
    ((wMod 3).selectRec kindSettings [] = none ∧ WellFormed (.credentials { i3c := false, seq := 1 } bytes16) = true ∧ WellFormed (.clearHold { i3c := false, seq := 1 } 15) = true ∧ WellFormed (.forceTakeover { i3c := false, seq := 1 } 15) = true) ∧
    (WellFormed (.regWrite { i3c := false, seq := 1 } (fldAddr fSEC_OPER_KEY_DIGEST 0 0) 0 0) = true ∧ fldAddr fSEC_OPER_KEY_DIGEST 0 0 % 8 = 0 ∧ (findReg (fldAddr fSEC_OPER_KEY_DIGEST 0 0)).isSome = true) := by
  exact ⟨by decide, by decide, by decide⟩

theorem test_witness_FirmwareSensorsAndCalibration :
    (State.reset.live = true ∧ State.reset.g fSEC_STAT_FOG_BUSY = 0 ∧ State.reset.vault.svn ≤ 0) ∧
    (State.reset.bare ∧ (State.reset.put fSEC_ALARM_POLICY_POLICY 0 0 0).bare ∧ (State.reset.put fSEC_ALARM_POLICY_POLICY 0 0 0).alarmPolicy 5 = 0) ∧
    (({ State.reset with flash := { Flash.init with update := some 1 } } : State).flash.update ≠ none) ∧
    (WellFormed (.sensorRefresh (List.replicate 30 7)) = true ∧ WellFormed (.stepWedgeCalibration { half := 15, txLat := 65535, rxLat := 65535, fecHigh := false, ucieLow := none, voltLow := false, pllOff := false }) = true) := by
  exact ⟨by decide, by decide, by decide, by decide⟩


/-- Bank 63 of plate 0 in transition, with a request held. -/
def wMove (closing : Bool) (held : Option Bool) : State := State.reset.setBankMove 0 63 (some { closing := closing, held := held })
/-- Bank 63 of plate 0 ASLEEP. -/
def wAsleep : State := sets State.reset [(fTRAY_PWR_AWAKE_AWAKE, 0, 0, 2 ^ 63 - 1), (fTRAY_PWR_ASLEEP_ASLEEP, 0, 0, 2 ^ 63)]
theorem test_witness_TrayBanksSleepAndWake :
    (State.reset.live = true ∧ State.reset.bankMove 127 63 = none ∧ State.reset.pinned 127 63 = false ∧ State.reset.bankAwake 127 63 = true) ∧
    (wAsleep.live = true ∧ wAsleep.bankMove 0 63 = none ∧ wAsleep.bankAsleep 0 63 = true) ∧
    ((State.reset.put fTRAY_PIN_PINNED 0 0 1).pinned 0 0 = true ∧ State.reset.linkDown (dieOfPlate 0) = false) ∧
    ((wMove true none).bankMove 0 63 = some { closing := true, held := none } ∧ (wMove true (some false)).bankMove 0 63 = some { closing := true, held := some false } ∧ (some false : Option Bool) ≠ some true) ∧
    ((wMove false none).bankMove 0 63 = some { closing := false, held := none } ∧ (wMove false (some true)).bankMove 0 63 = some { closing := false, held := some true } ∧ (some true : Option Bool) ≠ some false ∧ (wMove false (some true)).pinned 0 63 = false) := by
  exact ⟨by decide, by decide, by decide, by decide, by decide⟩

theorem test_witness_WashReadsTrayLines :
    (State.reset.live = true ∧ State.reset.settled ∧ trayWin - 1 < trayWin ∧ wAsleep.settled ∧ wAsleep.bankAwake 0 (bankOf (wAsleep.hashMode 0) 0x7FFFFF) = false) ∧
    (State.reset.bankAwake 127 (bankOf (State.reset.hashMode 127) 0x7FFFFF) = true ∧ State.reset.lineErrOf (trayAddr 127 (lineOf 0x7FFFFF)) = .good ∧ State.reset.bare ∧ State.reset.bgRoom 127 1 trayCap = true ∧ ({ State.reset with bgWork := [(127, 0, trayCap)] } : State).bgRoom 127 1 trayCap = false) ∧
    ((State.reset.setLineErr (trayAddr 0 0) .corrected).lineErrOf (trayAddr 0 (lineOf 63)) = .corrected ∧ (State.reset.setLineErr (trayAddr 0 0) .corrected).bankAwake 0 (bankOf ((State.reset.setLineErr (trayAddr 0 0) .corrected).hashMode 0) 63) = true) := by
  exact ⟨by decide, by decide, by decide⟩

/-- A strip of the group with key 0 whose count has reached the interval. -/
def wGroup (count : Nat) : State := State.reset.setPlate 0 { Plate.init with groups := [(0, some { packed := true, n := 2, narrow := [(0, { val := 3, ovf := none })], wide := [], strips := [(0, { count := count, tag := 0 })] })] }
/-- Plate 0 running context 0 of partition 0, whose program of two commands stands at 0x2000; a waiter may wait there. -/
def wCtxRun (ws : List Waiter) : State := ((wExpo.setCtx 0 { Ctx.init with part := 0, run := .running, residency := 1, takesPart := true, lanePlates := 1, progs := [(0x2000, 2)] })).setPlate 0 { Plate.init with ctx := some 0, waiting := ws }
/-- A waiter of plate 0. -/
def wWaits (opc : Nat) (fs : List (Nat × Nat)) (why : WaitWhy) : Waiter := { cmd := cmd opc fs, why := why, begun := false, mask := 0 }
theorem test_witness_PlatesPromoteFetchAndWait :
    (State.reset.live = true ∧ (State.reset.plate 127).group 31 = none) ∧
    (((wGroup 1).plate 0).group 0 = some { packed := true, n := 2, narrow := [(0, { val := 3, ovf := none })], wide := [], strips := [(0, { count := 1, tag := 0 })] } ∧ (smapGet (fun _ => StripAcc.zero) 0 [(0, { count := 1, tag := 0 })]).count < 2) ∧
    (((wGroup 2).plate 0).group 0 = some { packed := true, n := 2, narrow := [(0, { val := 3, ovf := none })], wide := [], strips := [(0, { count := 2, tag := 0 })] } ∧ 2 ≤ (smapGet (fun _ => StripAcc.zero) 0 [(0, { count := 2, tag := 0 })]).count ∧ 0 < (smapGet (fun _ => StripAcc.zero) 0 [(0, { count := 2, tag := 0 })]).count) ∧
    (((wCtxRun []).plate 0).waiting.find? (fun w => decide (w.cmd.index = 0 ∧ w.why = .sem)) = none) ∧
    (((wCtxRun [wWaits 0 [(8, 1), (112, 1)] .sem]).plate 0).waiting.find? (fun w => decide (w.cmd.index = 0 ∧ w.why = .sem)) = some (wWaits 0 [(8, 1), (112, 1)] .sem) ∧ ((wCtxRun []).plate 0).ctx = some 0 ∧ 0 ∈ lanePlates ((wCtxRun []).ctx 0) ∧ fieldOf ((wCtxRun []).reg (fldAddr (faultReg 0 0).1 (faultReg 0 0).2 0)) 63 1 = 0) ∧
    ((State.reset.plate 0).ctx = none) ∧
    ((wCtxRun []).live = true ∧ ((wCtxRun []).ctx 0).progs.getD 0 (0, 0) = (0x2000, 2) ∧ ((wCtxRun []).plate 0).ended = false ∧ (wCtxRun []).runsCtxs ((wCtxRun []).ownerOf 0) = true ∧ ((wCtxRun []).plate 0).fetchPos < 2 ∧ (wCtxRun []).granted 0 0x2000 32 true = true ∧ (wCtxRun []).held 0x2000 32 = false ∧ (wCtxRun []).badLine 0x2000 32 = none ∧ ({ plate := 0, index := 0, word := (wCtxRun []).cmdWord 0x2000 } : PlateCmd).tag = false ∧ fieldOf ((wCtxRun []).prt 0).dens 1 5 < 8) ∧
    (((wCtxRun []).plate 0).waiting.find? (fun w => decide (w.why = .clock)) = none ∧ ((wCtxRun []).plate 0).waiting.find? (fun w => decide (w.why = .window)) = none) ∧
    (((wCtxRun [wWaits 2 [(128, 100)] .clock]).plate 0).waiting.find? (fun w => decide (w.why = .clock)) = some (wWaits 2 [(128, 100)] .clock) ∧ (wCtxRun [wWaits 2 [(128, 100)] .clock]).clocked ((wCtxRun [wWaits 2 [(128, 100)] .clock]).plate 0) = true ∧ smapWf (fun _ => Plate.init) (wCtxRun [wWaits 2 [(128, 100)] .clock]).plates = true) ∧
    (((wCtxRun [wWaits 3 [] .window]).plate 0).waiting.find? (fun w => decide (w.why = .window)) = some (wWaits 3 [] .window) ∧ -(2 ^ 40 : Int) < ((wCtxRun []).timer.replicas.getD 0 (wCtxRun []).timer.master).rate) := by
  exact ⟨by decide, by decide, by decide, by decide, by decide, by decide, by decide, by decide, by decide, by decide⟩

/-- Partition 0 with four request slots, records at 0x200000, four pages of one layer, and a service command waiting. -/
def wLat (w : Nat) (hold floor : Nat) : State :=
  (sets (((((wPart.writeLe 0x200010 4 1).writeLe 0x200014 4 1).writeLe 0x200040 6 0x300000).writeLe 0x200058 4 0x3F800000).writeLe 0x200060 4 0x3F800000)
    [(fPART_REQ_SLOTS_COUNT, 0, 0, 4), (fPART_REQ_CFG_REQ_BASE, 0, 0, 0x200000), (fPART_LAT_RANGE_PAGES, 0, 0, 4), (fPART_LAT_CFG_LAYERS, 0, 0, 1), (fPART_LAT_PT_PT_ADDR, 0, 0, 0x400000), (fPART_STAT_HOLD, 0, 0, hold)]).setPrt 0
    { Part.init with svc := [{ ring := 0, reqId := 1, word := BitVec.ofNat 256 w, due := true }], growFloor := floor }
/-- The same with slot 0 in a state. -/
def wLatS (w st hold drawer : Nat) : State := ((wLat w hold 0).put fPART_DRW_CFG_SIZE_4K 0 0 drawer).setSlot 0 { Slot.init with state := st, expiry := 5 }
/-- Slot 3 of `wReq` with a LAT_END for it waiting. -/
def wEnd : State := wReq.setPrt 0 { Part.init with svc := [{ ring := 1, reqId := 1, word := BitVec.ofNat 256 (0x87 + 3 * 2 ^ 32), due := true }] }
/-- The prompt's length of slot 0 is the bound. -/
def wLong : State := (wLat 0x84 0 0).writeLe 0x200010 4 262144
/-- The upper bits of the address of slot 0's token log are not 0. -/
def wHigh : State := (wLat 0x84 0 0).writeLe 0x200036 2 1
theorem test_witness_WalkersServeRequests :
    (wPart.live = true ∧ (wPart.prt 0).svc = [] ∧ (wLat 0x84 0 0).live = true ∧ ∀ x ∈ ((wLat 0x84 0 0).prt 0).svc, x = { ring := 0, reqId := 1, word := BitVec.ofNat 256 0x84, due := true }) ∧
    (WellFormed (.latAdmit 0 (BitVec.ofNat 256 0x84)) = true ∧ WellFormed (.latAdmit 0 (BitVec.ofNat 256 (0x84 + 4 * 2 ^ 32))) = true ∧ (wLat 0x84 0 0).slotInRange 0 (svcSlot (BitVec.ofNat 256 (0x84 + 4 * 2 ^ 32))) = false) ∧
    ((wLat 0x84 1 0).slotInRange 0 0 = true ∧ ((wLat 0x84 1 0).slot 0).state = 0 ∧ (wLat 0x84 1 0).get fPART_LAYOUT_KIND 0 0 ≠ 1 ∧ ((wLat 0x84 1 0).loadRecord 0 0).promptLen < 262144 ∧ (wLat 0x84 1 0).paramsValid ((wLat 0x84 1 0).loadRecord 0 0) = true ∧ (wLat 0x84 1 0).recordAddrs 0 0 ((wLat 0x84 1 0).loadRecord 0 0) = true ∧ (wLat 0x84 1 0).draining = false ∧ ((wLat 0x84 1 0).prt 0).portMissing = false ∧ (wLat 0x84 1 0).get fPART_STAT_HOLD 0 0 = 1) ∧
    (wHigh.slotInRange 0 0 = true ∧ (wHigh.slot 0).state = 0 ∧ wHigh.get fPART_LAYOUT_KIND 0 0 ≠ 1 ∧ (wHigh.loadRecord 0 0).promptLen < 262144 ∧ (wHigh.paramsValid (wHigh.loadRecord 0 0) && wHigh.recordAddrs 0 0 (wHigh.loadRecord 0 0)) = false) ∧
    (wLong.slotInRange 0 0 = true ∧ (wLong.slot 0).state = 0 ∧ wLong.get fPART_LAYOUT_KIND 0 0 ≠ 1 ∧ 262144 ≤ (wLong.loadRecord 0 0).promptLen ∧ wLong.admits 0) ∧
    ((wLat 0x84 0 4).paramsValid ((wLat 0x84 0 4).loadRecord 0 0) = true ∧ (wLat 0x84 0 4).recordAddrs 0 0 ((wLat 0x84 0 4).loadRecord 0 0) = true ∧ (wLat 0x84 0 4).admits 0 ∧ ((wLat 0x84 0 4).loadRecord 0 0).flags % 2 = 0 ∧ ((wLat 0x84 0 4).setSlot 0 { (wLat 0x84 0 4).loadRecord 0 0 with state := 1 }).freeFrames 0 < framesFor ((wLat 0x84 0 4).loadRecord 0 0).promptLen ((wLat 0x84 0 4).loadRecord 0 0).reserve + ((wLat 0x84 0 4).prt 0).growFloor ∧ (wLat 0x84 0 4).nodeCount 0 = 0) ∧
    ((wLat 0x84 0 3).paramsValid ((wLat 0x84 0 3).loadRecord 0 0) = true ∧ (wLat 0x84 0 3).recordAddrs 0 0 ((wLat 0x84 0 3).loadRecord 0 0) = true ∧ (wLat 0x84 0 3).admits 0 ∧ ((wLat 0x84 0 3).loadRecord 0 0).flags % 2 = 0 ∧ ((wLat 0x84 0 3).loadRecord 0 0).flags / 4 % 2 = 0 ∧ (wLat 0x84 0 3).badWriteLine ((wLat 0x84 0 3).loadRecord 0 0).counts 8192 = none ∧ framesFor ((wLat 0x84 0 3).loadRecord 0 0).promptLen ((wLat 0x84 0 3).loadRecord 0 0).reserve + ((wLat 0x84 0 3).prt 0).growFloor ≤ ((wLat 0x84 0 3).setSlot 0 { (wLat 0x84 0 3).loadRecord 0 0 with state := 1 }).freeFrames 0 ∧ ((wLat 0x84 0 3).loadRecord 0 0).counts = 0x300000) ∧
    ((wLat 0x84 0 3).offLog 0x300000 8192) ∧
    (WellFormed (.latPark 0 (BitVec.ofNat 256 (0x85 + 86400 * 2 ^ 128))) = true ∧ (wLatS (0x85 + 86400 * 2 ^ 128) 1 0 0).slotInRange 0 0 = true ∧ ((wLatS 0 1 0 0).slot 0).state = 1 ∧ bitsOf (BitVec.ofNat 256 (0x85 + 86400 * 2 ^ 128)).toNat 128 32 = 86400 ∧ bitsOf (BitVec.ofNat 256 (0x85 + 86401 * 2 ^ 128)).toNat 128 32 = 86401 ∧ (wLatS 0 1 0 0).get fPART_DRW_CFG_SIZE_4K 0 0 = 0) ∧
    ((wLatS 0 1 0 4).get fPART_DRW_CFG_SIZE_4K 0 0 ≠ 0 ∧ ((wLatS 0 1 0 4).freeDrawer 0 ((wLatS 0 1 0 4).privateBlocks 0 0).length).length = ((wLatS 0 1 0 4).privateBlocks 0 0).length) ∧
    (((wLatS 0 0 0 0).slot 0).state ≠ 4 ∧ ((wLatS 0 4 0 0).slot 0).state = 4 ∧ ((wLatS 0 4 0 0).slot 0).drawer = []) ∧
    (smapWf (fun _ => Slot.init) (wLatS 0 2 0 0).slots = true ∧ ((wLatS 0 2 0 0).slot 0).part = 0 ∧ ((wLatS 0 2 0 0).slot 0).state = 2 ∧ (((wLatS 0 2 0 0).setPrt 0 { Part.init with phase := .ticked, tickT := 5 }).slot 0).expiry ≤ ((wLatS 0 2 0 0).setPrt 0 { Part.init with phase := .ticked, tickT := 5 }).boundaryTick 0) ∧
    (WellFormed (.latResume 0 (BitVec.ofNat 256 0x86)) = true ∧ (wLatS 0x86 2 0 0).slotInRange 0 0 = true ∧ ((wLatS 0x86 2 0 0).slot 0).state = 2 ∧ (wLatS 0x86 2 0 0).boundaryTick 0 < ((wLatS 0x86 2 0 0).slot 0).expiry ∧ (wLatS 0x86 2 0 0).admits 0 ∧ (wLatS 0x86 2 1 0).draining = false ∧ ((wLatS 0x86 2 1 0).prt 0).portMissing = false ∧ (wLatS 0x86 2 1 0).get fPART_STAT_HOLD 0 0 = 1 ∧ ((wLatS 0x86 2 0 0).slot 0).frames = [] ∧ ((wLatS 0x86 2 0 0).slot 0).drawer = [] ∧ 0 + ((wLatS 0x86 2 0 0).slot 0).oldReserve + ((wLatS 0x86 2 0 0).prt 0).growFloor ≤ (wLatS 0x86 2 0 0).freeFrames 0) ∧
    (((wLatS 0x86 3 0 0).slot 0).state = 3 ∧ (wLatS 0x86 3 0 0).slotInRange 0 0 = true ∧ (wLatS 0x86 3 0 0).admits 0 ∧ ((wLatS 0x86 3 0 0).slot 0).flags % 2 = 0 ∧ framesFor (((wLatS 0x86 3 0 0).slot 0).len + 1) ((wLatS 0x86 3 0 0).slot 0).reserve + ((wLatS 0x86 3 0 0).prt 0).growFloor ≤ (wLatS 0x86 3 0 0).freeFrames 0) ∧
    (WellFormed (.latEnd 0 (BitVec.ofNat 256 0x87)) = true ∧ (wLatS 0x87 0 0 0).slotInRange 0 0 = true ∧ ((wLatS 0x87 0 0 0).slot 0).state = 0 ∧ ((wLatS 0x87 4 0 0).slot 0).state = 4 ∧ ((wLatS 0x87 1 0 0).slot 0).state ≠ 0 ∧ ((wLatS 0x87 1 0 0).slot 0).state ≠ 4) ∧
    (WellFormed (.latEndCancel 0 (BitVec.ofNat 256 (0x87 + 2 ^ 128))) = true ∧ ((wLatS (0x87 + 2 ^ 128) 1 0 0).prt 0).svc = [{ ring := 0, reqId := 1, word := BitVec.ofNat 256 (0x87 + 2 ^ 128), due := true }] ∧ ∀ x ∈ ((wLatS 0x86 1 0 0).prt 0).svc, x.word ≠ BitVec.ofNat 256 (0x87 + 2 ^ 128)) ∧
    (wEnd.live = true ∧ wEnd.slotInRange 0 3 = true ∧ wEnd.get fPART_LAYOUT_KIND 0 0 ≠ 1 ∧ (wEnd.slot 3).state = 1 ∧ (wEnd.slot 3).noRecords = false ∧ wEnd.recordRoom (wEnd.slot 3).ring ∧ (wEnd.ring (wEnd.slot 3).ring).state = 1) := by
  exact ⟨by decide, by decide, by decide, by decide, by decide, by decide, by decide, offLog_of _ (by decide) (by decide) _ _ (by decide), by decide, by decide, by decide, by decide, by decide, by decide, by decide, by decide, by decide⟩

/-- Partition 0 RUNNING in a phase. -/
def wPhase (x : Part) : State := wRun.setPrt 0 x
/-- After a commit at time 0. -/
def wDone : State := wPhase { Part.init with phase := .committed, firstDone := true, nextK := 1 }
theorem test_witness_ExposuresTickReleaseAndCommit :
    (wPart.isRunning 0 = false ∧ wRun.live = true ∧ wRun.mayRelease 0 = true ∧ wRun.pairState 0 = 0 ∧ wRun.isRunning 0 = true ∧ wRun.inFault = false ∧ (wRun.prt 0).tookOver = false) ∧
    ((wRun.prt 0).firstDone = false ∧ (wRun.prt 0).nextExpo = 0 ∧ ((wPhase { Part.init with nextK := 1 }).prt 0).startT + (wPhase { Part.init with nextK := 1 }).admitLead 0 ≤ (wPhase { Part.init with nextK := 1 }).tickTime 0 1 ∧ (wPhase { Part.init with startT := 1 }).tickTime 0 0 < 1 + (wPhase { Part.init with startT := 1 }).admitLead 0) ∧
    ((wDone.prt 0).firstDone = true ∧ (wDone.prt 0).phase = .committed ∧ (wDone.prt 0).commitT + wDone.admitLead 0 ≤ wDone.tickTime 0 (wDone.prt 0).nextK ∧ wDone.mayRelease 0 = true) ∧
    ((wExpo.prt 0).firstDone = true ∧ (wExpo.prt 0).phase ≠ .committed ∧ wExpo.mayRelease 0 = true) ∧
    ((wExpo.put fPART_STAT_STATE 0 0 3).isRunning 0 = true ∧ (wExpo.put fPART_STAT_STATE 0 0 3).mayRelease 0 = false ∧ ((wPhase { Part.init with nextK := 1 }).prt 0).phase = .idle ∧ ((wPhase { Part.init with nextK := 1 }).prt 0).cutoffDone = false ∧ ((wPhase { Part.init with nextK := 1 }).prt 0).startT ≤ (wPhase { Part.init with nextK := 1 }).tickTime 0 1 - (wPhase { Part.init with nextK := 1 }).admitLead 0) ∧
    (wPart.mayRelease 0 = false ∧ (wDone.prt 0).cutoffDone = false ∧ wDone.get fPART_LAYOUT_KIND 0 0 ≠ 1 ∧ (wDone.prt 0).commitT ≤ wDone.tickTime 0 (wDone.prt 0).nextK - wDone.admitLead 0) ∧
    (((wPhase { Part.init with phase := .ticked, nextExpo := 2 ^ 64 - 1 }).prt 0).phase = .ticked ∧ (wPhase { Part.init with phase := .ticked, nextExpo := 2 ^ 64 - 1 }).mayRelease 0 = true ∧ ((wPhase { Part.init with phase := .ticked }).prt 0).svc = [] ∧ ((wPhase { Part.init with phase := .ticked }).prt 0).reloads = [] ∧ ((wPhase { Part.init with phase := .ticked }).prt 0).voidNext = none ∧ ((wPhase { Part.init with phase := .ticked }).carrOf 0).early = []) ∧
    (State.reset.mayCommit 0 = false ∧ State.reset.settled) ∧
    (wExpo.mayCommit 0 = true ∧ (wExpo.prt 0).stopping = false ∧ wExpo.get fPART_STAT_STATE 0 0 ≠ 3 ∧ wExpo.draining = false ∧ (wExpo.prt 0).later = [] ∧ (wExpo.prt 0).unbind = false) ∧
    (wExpo.partNow 0 ≤ (wExpo.prt 0).tickT + wExpo.period 0 ∧ ({ wExpo with timer := { wExpo.timer with replicas := [{ Clock.init with time := 2 ^ 40 * 100001 }, Clock.init] } } : State).partNow 0 = 100001 ∧ wExpo.period 0 = 100000) ∧
    (((wPhase { Part.init with phase := .released, voided := true }).prt 0).voided = true ∧ ((wPhase { Part.init with phase := .released, voided := true }).prt 0).phase = .released ∧ ((wPhase { Part.init with phase := .released, voided := true }).prt 0).reloads = [] ∧ (wPhase { Part.init with phase := .released, voided := true }).inFault = false ∧ ((wPhase { Part.init with phase := .released, voided := true }).carrOf 0).early = [] ∧ (wExpo.prt 0).voided = false) := by
  exact ⟨by decide, by decide, by decide, by decide, by decide, by decide, by decide, by decide, by decide, by decide, by decide⟩

/-- A partition 0 that CREATE accepts. -/
def wNew : State := sets State.reset [(fPART_LAYOUT_CLUSTERS, 0, 0, 1), (fPART_HBM_SIZE_2M, 0, 0, 64), (fPART_EXPO_PERIOD_PERIOD_NS, 0, 0, 100000), (fPART_EXPO_WIN1_GUARD, 0, 0, 100), (fPART_RINGS_COUNT, 0, 0, 1), (fPART_LAYOUT_CTX_COUNT, 0, 0, 1), (fPART_LAYOUT_RESIDENT_MAX, 0, 0, 1), (fPART_LAT_CFG_LAYERS, 0, 0, 1), (fPART_LAT_RANGE_PAGES, 0, 0, 1), (fPART_LAT_PT_PT_ADDR, 0, 0, 0x400000)]
theorem test_witness_PartitionsStartAndEnd :
    (wPart.live = true ∧ wPart.exists_ 0 = true ∧ wPart.linkDown (wPart.homeDie 0) = false) ∧
    (State.reset.exists_ 0 = false ∧ State.reset.createErr 0 ≠ 0 ∧ wNew.exists_ 0 = false ∧ wNew.createErr 0 = 0 ∧ wNew.get fPART_CIDX_CFG_NODES 0 0 = 0 ∧ wNew.get fPART_LAT_PT_PT_ADDR 0 0 = 0x400000 ∧ wNew.get fPART_LAT_RANGE_PAGES 0 0 = 1 ∧ wNew.inHbm 0 0x400000 (16 * 1) = true ∧ ∀ h, h < 8 → wNew.get fHBM_STAT_OFFLINE h 0 = 0) ∧
    (∀ l, wNew.lineErrOf l ≠ .bad) ∧
    (State.reset.get fPART_STAT_STATE 0 0 ≠ 1 ∧ (wTake 0 false).get fPART_STAT_STATE 0 0 = 1 ∧ (wTake 0 false).get fPART_REL_STAT_OFFLINE 0 0 = 0 ∧ (wTake 0 false).locked = false ∧ (wTake 0 false).pairState 0 = 0 ∧ (wTake 0 false).windowsOk 0 = true ∧ (wPart.put fPART_EXPO_PERIOD_PERIOD_NS 0 0 99999).windowsOk 0 = false ∧ wPart.pairState 0 = 0 ∧ (wPart.put fPART_EXPO_PERIOD_PERIOD_NS 0 0 99999).get fPART_STAT_STATE 0 0 = 1) ∧
    (wPart.get fPART_STAT_STATE 0 0 ≠ 2 ∧ wExpo.get fPART_STAT_STATE 0 0 = 2 ∧ (wExpo.prt 0).phase = .released ∧ wRun.get fPART_STAT_STATE 0 0 = 2 ∧ (wRun.prt 0).phase ≠ .released ∧ (wRun.prt 0).later = [] ∧ ∀ r ∈ wRun.partRings 0, (wRun.ring r).disabling = false) ∧
    (wReq.partSlots 0 ≠ [] ∧ wActive.partSlots 0 = [] ∧ wActive.get fPART_STAT_STATE 0 0 = 1 ∧ wActive.plan 0 = none) := by
  exact ⟨by decide, by decide, fun l => by rw [show wNew.lineErrOf l = .good from rfl]; decide, by decide, by decide, by decide⟩

/-- Partition 0 with an exposure released, one resident slot, and context 4095 in a state. -/
def wCtx (run : RunState) (res : Nat) : State := (sets wExpo [(fPART_LAYOUT_RESIDENT_MAX, 0, 0, 1)]).setCtx 4095 { Ctx.init with part := 0, run := run, residency := res, takesPart := true, lanePlates := 1 }
/-- Context 4095 swapped out, and context 4094, which is DONE, in the one resident slot. -/
def wVictim : State := (wCtx .ready 0).setCtx 4094 { Ctx.init with part := 0, run := .done, residency := 1, takesPart := true, lanePlates := 1, resSlot := some 0 }
theorem test_witness_ContextsStartYieldAndSwap :
    ((wCtx .ready 0).live = true ∧ ((wCtx .ready 0).ctx 4095).part = 0 ∧ ((wCtx .ready 0).ctx 4095).residency ≠ 1) ∧
    (((wCtx .ready 1).ctx 4095).run = .ready ∧ ((wCtx .ready 1).ctx 4095).takesPart = true ∧ (wCtx .ready 1).runsCtxs 0 = true ∧ (wCtx .ready 1).chosen ((wCtx .ready 1).ctx 4095) = some 4095 ∧ ((wCtx .ready 1).ctx 4095).saved = [] ∧ ∀ p ∈ lanePlates ((wCtx .ready 1).ctx 4095), ((wCtx .ready 1).plate p).ctx = none) ∧
    (((wCtx .running 1).ctx 4095).run = .running ∧ (((wCtx .running 1).setPrt 0 { (wCtx .running 1).prt 0 with quantum := 1 }).prt 0).quantum ≠ 0 ∧ ((wCtx .running 1).prt 0).quantum = 0) ∧
    (((wCtx .ready 0).prt 0).swapIn = none ∧ ((wCtx .ready 0).prt 0).swapOut = none ∧ ((wCtx .ready 0).prt 0).exchange = [] ∧ (wCtx .ready 0).runsCtxs 0 = true ∧ (wCtx .ready 0).roomFor 0 4095 none = true) ∧
    (firstBy chosenBefore (((wCtx .ready 0).ctxs.filter (fun e => decide (e.2.part = 0))).filter (fun e => decide (e.2.residency = 0 ∧ e.2.run = .ready) && e.2.takesPart)) = some 4095) ∧
    (firstBy chosenBefore (((wCtx .ready 1).ctxs.filter (fun e => decide (e.2.part = 0))).filter (fun e => decide (e.2.residency = 0 ∧ e.2.run = .ready) && e.2.takesPart)) = none) ∧
    ((((wCtx .ready 2).setPrt 0 { wExpo.prt 0 with swapIn := some 4095 }).prt 0).swapIn = some 4095 ∧ (((wCtx .ready 2).setPrt 0 { wExpo.prt 0 with swapIn := some 4095 }).prt 0).swapOut = none) ∧
    ((wCtx .ready 2).badLine ((wCtx .ready 2).ctx 4095).saveHbm (((wCtx .ready 2).ctx 4095).lanePlates * (wCtx .ready 2).imageBytes ((wCtx .ready 2).ctx 4095)) = none) ∧
    ((((wCtx .ready 2).setPrt 0 { wExpo.prt 0 with swapOut := some 4095 }).prt 0).swapOut = some 4095 ∧ (((wCtx .ready 2).setPrt 0 { wExpo.prt 0 with swapOut := some 4095 }).prt 0).swapIn = none) ∧
    (∀ a m : Nat, (wCtx .ready 2).badLines a m = [] ∧ (wCtx .ready 2).badWriteLines a m = [] ∧ (wCtx .ready 2).badWriteLine a m = none) ∧
    (wVictim.live = true ∧ (wVictim.prt 0).swapIn = none ∧ (wVictim.prt 0).swapOut = none ∧ (wVictim.prt 0).exchange = [] ∧ wVictim.runsCtxs 0 = true ∧ wVictim.roomFor 0 4095 none = false ∧ firstBy chosenBefore ((wVictim.ctxs.filter (fun e => decide (e.2.part = 0))).filter (fun e => decide (e.2.residency = 0 ∧ e.2.run = .ready) && e.2.takesPart)) = some 4095 ∧ firstBy (fun a b => decide (a.2.blockT64 < b.2.blockT64)) (((wVictim.holders 0).filter (fun e => decide (e.2.residency = 1))).filter (fun e => decide (e.2.run = .done ∨ e.2.run = .disabled) && wVictim.roomFor 0 4095 (some e.1))) = some 4094) ∧
    (((wVictim.setPrt 0 { wExpo.prt 0 with swapOut := some 4094, swapIn := some 4095 }).prt 0).swapOut = some 4094 ∧ ((wVictim.setPrt 0 { wExpo.prt 0 with swapOut := some 4094, swapIn := some 4095 }).prt 0).swapIn = some 4095) := by
  exact ⟨by decide, by decide, by decide, by decide, by decide, by decide, by decide, by exact badLine_of _ rfl (online_of _ (by decide)) _ _, by decide, fun a m => badLines_of _ rfl (online_of _ (by decide)) a m, by decide, by decide⟩

/-- The exposure with stack 0 STOPPED, and with the first line of plate 0's tray and one of HBM uncorrectable. -/
def wHalt : State := wExpo.put fHBM_STAT_LEVEL 0 0 5
def wHurt : State := (wExpo.setLineErr (trayAddr 0 0) .bad).setLineErr 0x200000 .bad
/-- TRAY_COPY of 16 bytes from HBM to tray offset 0x1000, and the other way. -/
def wFrom : PlateCmd := cmd 0x58 [(32, 0x1000), (64, 16), (128, 0x200000)]
def wTo : PlateCmd := cmd 0x58 [(32, 0x1000), (64, 16), (128, 0x200000), (176, 1)]
theorem test_witness_PlateCommandsRunWaitOrFault :
    (wExpo.ready (cmd 0x00 []) ∧ wExpo.ready (cmd 0x20 []) ∧ wExpo.ready (cmd 0x95 [])) ∧
    (wExpo.ready (cmd 0xFF []) ∧ (cmd 0xFF []).opc ∉ knownOpcodes ∧ (cmd 0 []).opc = 0x00) ∧
    (stillRuns (wExpo.begun (cmd 0 [])) (wExpo.begun (cmd 0 [])) 0 = true ∧ (match bodyOf (cmd 0 []) (wExpo.begun (cmd 0 [])) with | .ok _ => true | _ => false) = true) ∧
    ((match bodyOf (cmd 2 [(128, 5)]) (wExpo.begun (cmd 2 [(128, 5)])) with | .error (.wait t why) => decide (why = .clock) && stillRuns (wExpo.begun (cmd 2 [(128, 5)])) t 0 | _ => false) = true) ∧
    ((match bodyOf (cmd 0x20 []) (wExpo.begun (cmd 0x20 [])) with | .error (.fault _ _ _ _ _ _) => true | _ => false) = true) ∧
    (wHalt.ready wFrom ∧ (match bodyOf wFrom (wHalt.begun wFrom) with | .error (.wait _ .stack) => true | _ => false) = true) ∧
    (wHurt.ready (cmd 6 [(128, 1), (144, 1)]) ∧ (match bodyOf (cmd 6 [(128, 1), (144, 1)]) (wHurt.begun (cmd 6 [(128, 1), (144, 1)])) with | .error (.ue _ _ _) => true | _ => false) = true) ∧
    (wHurt.ready wTo ∧ (match bodyOf wTo (wHurt.begun wTo) with | .error (.lost _ _ _) => true | _ => false) = true) := by
  exact ⟨by decide, by decide, by decide, by decide, by decide, by decide, by decide, by decide⟩

/-- Partition 0 in STATIC mode. -/
def wStatic : State := wExpo.put fPART_TRAY_CFG_SYNC 0 0 1
theorem test_witness_SemaphoresGateCommands :
    (State.reset.live = true ∧ 16 ≤ State.reset.ownerOf 127 ∧ State.reset.settled) ∧
    (wExpo.ownerOf 0 < 16 ∧ (wExpo.plate 0).ended = false ∧ (wExpo.prt (wExpo.ownerOf 0)).voided = false ∧ (cmd 0 []).index < ((wExpo.setPlate 0 { Plate.init with skip := 1 }).plate 0).skip ∧ (wExpo.setPlate 0 { Plate.init with skip := 1 }).settled) ∧
    (wExpo.ready { cmd 0 [(8, 1), (112, 1)] with word := 0 } ∧ (cmd 0 [(8, 1), (112, 1)]).tag = false ∧ (wExpo.plate 0).tagged = [] ∧ wExpo.staticMode 0 = false) ∧
    ((cmd 0 [(8, 1), (112, 1)]).waitSem = true ∧ (cmd 0 [(8, 1), (112, 1)]).waitCnt = 1 ∧ wExpo.sem 0 0 < 1 ∧ (wExpo.setSem 0 0 1).sem 0 0 = 1 ∧ (wExpo.setSem 0 0 1).ready { cmd 0 [(8, 1), (112, 1)] with word := 0 } ∧ (cmd 0 [(8, 1), (112, 1)]).signalSem = false) ∧
    ((cmd 0 [(8, 2), (104, 255), (120, 255)]).waitSem = false ∧ (cmd 0 [(8, 2), (104, 255), (120, 255)]).signalSem = true ∧ (cmd 0 [(8, 2), (104, 255), (120, 255)]).sigCnt = 255) ∧
    (wStatic.ready (cmd 0 [(8, 1)]) ∧ wStatic.staticMode 0 = true ∧ (wStatic.plate 0).tagged = []) := by
  exact ⟨by decide, by decide, by decide, by decide, by decide, by decide⟩

theorem test_witness_SequencerCommandsRun :
    ((wCtxRun []).ready (cmd 0 []) ∧ (wCtxRun []).ready (cmd 1 []) ∧ (wCtxRun []).ready (cmd 4 []) ∧ (wCtxRun []).ready (cmd 5 []) ∧ (cmd 9 []).opc = 9) ∧
    ((wExpo.plate 0).ctx = none ∧ ((wCtxRun []).plate 0).ctx = some 0 ∧ lanePlates ((wCtxRun []).ctx 0) = [0]) ∧
    (wExpo.ready (cmd 2 []) ∧ (cmd 2 []).le 16 8 ≤ wExpo.cycles 0 ∧ wExpo.ready (cmd 2 [(128, 1)]) ∧ wExpo.cycles 0 < (cmd 2 [(128, 1)]).le 16 8) ∧
    ((cmd 3 [(128, 3)]).le 16 1 ≤ 3 ∧ (wExpo.plate 0).boundary = true ∧ wExpo.windowAt (wExpo.ownerOf 0) 3 ≤ wExpo.nowDie (dieOfPlate 0) ∧ ((wExpo.put fPART_EXPO_WIN1_COMMIT 0 0 1).nowDie (dieOfPlate 0)) < (wExpo.put fPART_EXPO_WIN1_COMMIT 0 0 1).windowAt 0 3 ∧ (wExpo.put fPART_EXPO_WIN1_COMMIT 0 0 1).ready (cmd 3 [(128, 3)])) ∧
    (∀ id, ((wCtxRun []).plate 0).ctx = some id → ∀ q ∈ lanePlates ((wCtxRun []).ctx id), q ≠ 0 → (cmd 5 []).le 16 1 ∈ ((wCtxRun []).plate q).bars) ∧
    (wExpo.ready (cmd 6 [(128, 1), (144, 1)]) ∧ (cmd 6 [(128, 1), (144, 1)]).le 16 1 ≤ 1 ∧ 1 ≤ (cmd 6 [(128, 1), (144, 1)]).le 18 2 ∧ (cmd 6 [(128, 1), (144, 1)]).trayAddr % 16 = 0 ∧ wExpo.wholeTray 0 ∧ (cmd 6 []).trayAddr + 4 ≤ wExpo.grainTop 0) ∧
    (¬(ofLe (wExpo.tray 0 0 4) = 0 ↔ (cmd 6 [(128, 1), (144, 1)]).le 16 1 = 0) ∧ (ofLe (wExpo.tray 0 0 4) = 0 ↔ (cmd 6 [(144, 1)]).le 16 1 = 0)) ∧
    (wExpo.ready (cmd 0x47 [(176, 1)]) ∧ (cmd 0x47 [(176, 1)]).le 20 1 ≤ 1 ∧ 1 ≤ (cmd 0x47 [(176, 1)]).le 22 2 ∧ clIn ((cmd 0x47 [(176, 1)]).le 16 4) 1088 ∧ sheetOk (sheetOf (wExpo.bytes (clAt 0 ((cmd 0x47 [(176, 1)]).le 16 4)) 1088)) = true) ∧
    (wExpo.ready (cmd 7 [(128, 1)]) ∧ (cmd 7 [(128, 1)]).le 16 8 ≠ 0) ∧
    ((wCtxRun []).get fPART_LAYOUT_CTX_FIRST 0 0 ≤ waitCtxOf (cmd 8 [(192, 1)]) ∧ waitCtxOf (cmd 8 [(192, 1)]) < 0 + ((wCtxRun []).put fPART_LAYOUT_CTX_COUNT 0 0 1).get fPART_LAYOUT_CTX_COUNT 0 0 ∧ ((wCtxRun []).ctx 0).part = 0 ∧ ((wCtxRun []).ctx 0).takesPart = true ∧ ((wCtxRun []).ctx 0).progress < waitValOf (cmd 8 [(192, 1)]) ∧ ((wCtxRun []).ctx 0).run ≠ .done) ∧
    ((let s := ((wCtxRun []).put fPART_LAYOUT_CTX_COUNT 0 0 1).setPlate 0 Plate.init; s.ready (cmd 8 [(192, 1)]) ∧ (s.plate 0).ctx = none ∧ (s.plate 0).boundary = true ∧ s.ready (cmd 8 []) ∧ waitValOf (cmd 8 []) ≤ (s.ctx 0).progress)) ∧
    ((let s := ((wCtxRun []).put fPART_LAYOUT_CTX_COUNT 0 0 2).setCtx 1 { Ctx.init with part := 0, takesPart := true }; let s := s.setPlate 0 { s.plate 0 with boundary := true }; let c := cmd 8 [(128, 1), (192, 1)]; s.ready c ∧ waitCtxOf c = 1 ∧ (s.ctx 1).progress < waitValOf c ∧ (s.ctx 1).run ≠ .done ∧ (s.ctx 1).part = s.ownerOf 0 ∧ (s.plate 0).boundary = true ∧ (s.plate 0).ctx = some 0 ∧ (s.ctx 0).run = .running ∧ (s.begun c).waitPath 0 (s.ctxs.length + 1) 1 = none)) ∧
    (wExpo.get fPART_LAYOUT_KIND 0 0 ≠ 1 ∧ (wExpo.put fPART_LAYOUT_KIND 0 0 1).get fPART_LAYOUT_KIND 0 0 = 1 ∧ (wExpo.put fPART_LAYOUT_KIND 0 0 1).ready (cmd 9 [])) := by
  exact ⟨by decide, by decide, by decide, by decide, fun id h q hq hn => by cases h; rw [show lanePlates ((wCtxRun []).ctx 0) = [0] from by decide] at hq; exact absurd (List.mem_singleton.mp hq) hn, ⟨by decide, by decide, by decide, by decide, wholeTray_of _ _ (by decide) (by decide), by decide⟩, by decide, by decide, by decide, by decide, by decide, by decide, by decide⟩


/-- A group of a mode, empty. -/
def emptyGroup (packed : Bool) : Group := { packed := packed, n := 32, narrow := [], wide := [], strips := [] }
/-- A tile of one weight, of `k` rows and one column. -/
def oneTile (k : Nat) : Tile := { kind := .wide 8, kRows := k, cols := 1, weights := [List.replicate k 1], gsize := 0, gmult := [], strips := [] }
/-- An exposure in which the last group of a mode is open on plate 0, with an ACTIVE and a SHADOW tile. -/
def wOpen (packed : Bool) : State := wExpo.setPlate 0 { Plate.init with groups := [(if packed then 31 else 30, some (emptyGroup packed))], active := some (oneTile 1), shadow := some (oneTile 160) }
/-- GRAIN_LOAD of five rows and one column of T5, and of 128 rows and 256 columns of grouped W8 planes. -/
def wLoad (wide : Bool) : PlateCmd := if wide then cmd 0x20 [(74, 128), (82, 256), (128, 104), (136, 1), (144, 256), (192, 2)] else cmd 0x20 [(74, 5), (82, 1), (144, 16)]
/-- GRAIN_PASS of 16 rows of A4G codes of a table over the SHADOW tile, with PROMOTE_AFTER. -/
def wPassG (table : Nat) : PlateCmd := cmd 0x21 [(16, 15), (64, 16), (74, 160), (128, 2 + 4 * table), (136, 3), (144, 80)]
theorem test_witness_GrainTilesAndGroups :
    (wExpo.ready (wLoad true) ∧ wExpo.ready (wLoad false) ∧ wExpo.ready (cmd 0x22 [(74, 160), (82, 256), (128, 1), (144, 80)]) ∧ wExpo.wholeTray 0) ∧
    ((wLoad false).kRows = 5 ∧ (wLoad false).cols = 1 ∧ (wLoad false).bits 16 0 7 = 0 ∧ (wLoad false).trayAddr = 0 ∧ (wLoad false).le 18 2 = 16 ∧ 0 + (1 - 1) * 16 + colBytesRead 0 false 5 ≤ wExpo.grainTop 0 ∧ (∀ b ∈ wExpo.tray 0 0 (ceilDiv 5 5), t5Invalid b = false)) ∧
    (wExpo.ready (cmd 0x20 [(74, 5), (82, 1)]) ∧ (cmd 0x20 [(74, 5), (82, 1)]).le 18 2 = 0 ∧ 0 + (1 - 1) * 32 + colBytesRead 0 false 5 ≤ wExpo.grainTop 0) ∧
    ((wLoad true).kRows = 128 ∧ (wLoad true).cols = 256 ∧ (wLoad true).bits 16 0 5 = 8 ∧ (wLoad true).bits 16 5 1 = 1 ∧ (wLoad true).bits 16 6 1 = 1 ∧ (wLoad true).le 17 1 = 1 ∧ (wLoad true).le 18 2 = 256 ∧ (wLoad true).le 24 2 = 2 ∧ (wLoad true).le 20 4 + (256 - 1) * 2 + 128 / (16 * 2 ^ 1) ≤ wExpo.grainTop 0 ∧ (wLoad true).trayAddr + (256 - 1) * 256 + colBytesRead 8 true 128 ≤ wExpo.grainTop 0) ∧
    ((cmd 0x22 [(74, 160), (82, 256), (128, 1), (144, 80)]).kRows = 160 ∧ (cmd 0x22 [(74, 160), (82, 256), (128, 1), (144, 80)]).cols = 256 ∧ (cmd 0x22 [(74, 160), (82, 256), (128, 1), (144, 80)]).le 16 1 = 1 ∧ (cmd 0x22 [(74, 160), (82, 256), (128, 1), (144, 80)]).le 18 2 % 16 = 0 ∧ 0 + (256 - 1) * 80 + ceilDiv 160 2 ≤ wExpo.grainTop 0) ∧
    ((wExpo.put fPART_SCHED_SAVE_GROUPS 0 0 16).ready (cmd 0x23 [(16, 0), (64, 256)]) ∧ groupsInRange (cmd 0x23 [(16, 0), (64, 256)]) = true ∧ openMask (wExpo.plate 0).groups &&& groupsMask (cmd 0x23 [(16, 0), (64, 256)]) = 0 ∧ storage40 (openMask (wExpo.plate 0).groups ||| groupsMask (cmd 0x23 [(16, 0), (64, 256)])) ≤ (wExpo.put fPART_SCHED_SAVE_GROUPS 0 0 16).saveGroups 0) ∧
    ((wOpen true).ready (cmd 0x27 [(16, 63), (64, 1)]) ∧ groupsInRange (cmd 0x27 [(16, 63), (64, 1)]) = true ∧ groupsOpen ((wOpen true).plate 0) (cmd 0x27 [(16, 63), (64, 1)]) = true) ∧
    ((wOpen false).ready (cmd 0x24 [(16, 15), (64, 16)]) ∧ groupsInRange (cmd 0x24 [(16, 15), (64, 16)]) = true ∧ groupsOpen ((wOpen false).plate 0) (cmd 0x24 [(16, 15), (64, 16)]) = true) ∧
    ((wOpen true).ready (cmd 0x21 [(16, 63), (64, 16), (74, 1), (128, 1), (144, 16)]) ∧ groupsInRange (cmd 0x21 [(16, 63), (64, 16), (74, 1), (128, 1), (144, 16)]) = true ∧ (cmd 0x21 [(16, 63), (64, 16), (74, 1), (128, 1), (144, 16)]).bits 16 0 2 = 1 ∧ (cmd 0x21 [(16, 63), (64, 16), (74, 1), (128, 1), (144, 16)]).packed = true ∧ (cmd 0x21 [(16, 63), (64, 16), (74, 1), (128, 1), (144, 16)]).bits 17 0 1 = 0) ∧
    (((wOpen true).setPlate 0 { (wOpen true).plate 0 with boundary := false }).ready (cmd 0x21 [(16, 63), (64, 16), (74, 1), (128, 1), (144, 16)]) ∧ (((wOpen true).setPlate 0 { (wOpen true).plate 0 with boundary := false }).plate 0).active = some (oneTile 1)) ∧
    ((wOpen false).ready (cmd 0x21 [(16, 15), (64, 16), (74, 160), (136, 1), (144, 160)]) ∧ groupsOpen ((wOpen false).plate 0) (cmd 0x21 [(16, 15), (64, 16), (74, 160), (136, 1), (144, 160)]) = true ∧ ((wOpen false).plate 0).shadow = some (oneTile 160) ∧ (cmd 0x21 [(16, 15), (64, 16), (74, 160), (136, 1), (144, 160)]).kRows = (oneTile 160).kRows ∧ (cmd 0x21 [(16, 15), (64, 16), (74, 160), (136, 1), (144, 160)]).bits 16 0 2 = 0 ∧ (cmd 0x21 [(16, 15), (64, 16), (74, 160), (136, 1), (144, 160)]).packed = false ∧ (cmd 0x21 [(16, 15), (64, 16), (74, 160), (136, 1), (144, 160)]).bits 17 0 1 = 1 ∧ 0 + (16 - 1) * 160 + 160 ≤ (wOpen false).grainTop 0) ∧
    ((wOpen false).ready (wPassG 1) ∧ (wPassG 1).bits 16 0 2 = 2 ∧ (wPassG 1).bits 16 2 4 = 1 ∧ (wOpen false).a4gAt 0 1 + 16 ≤ (wOpen false).grainTop 0 ∧ (wPassG 1).bits 17 0 1 = 1 ∧ (wPassG 1).bits 17 1 1 = 1 ∧ (wOpen false).ready (wPassG 0) ∧ (wPassG 0).bits 16 2 4 = 0 ∧ 0 + (16 - 1) * 80 + ceilDiv 160 2 ≤ (wOpen false).grainTop 0) ∧
    ((wOpen false).wholeTray 0 ∧ (wOpen true).wholeTray 0 ∧ ((wOpen true).setPlate 0 { (wOpen true).plate 0 with boundary := false }).wholeTray 0) := by
  exact ⟨⟨by decide, by decide, by decide, wholeTray_of _ _ (by decide) (by decide)⟩, by decide, by decide, by decide, by decide, by decide, by decide, by decide, by decide, by decide, by decide, by decide, ⟨wholeTray_of _ _ (by decide) (by decide), wholeTray_of _ _ (by decide) (by decide), wholeTray_of _ _ (by decide) (by decide)⟩⟩

/-- ACC_DRAIN of one row of the last group, of 256 columns, with each addend and the row maxima, from a record of zeros. -/
def wDrain : PlateCmd := cmd 0x25 [(16, 15), (64, 1), (82, 256), (128, 57), (160, 64)]
/-- ACC_QUANT of 256 rows, 128 partial rows and 256 columns, in a code. -/
def wQuant (k : Nat) : PlateCmd := cmd 0x26 [(16, 256), (64, 256), (74, 128), (82, 256), (128, 0x400000), (160, 0x500000), (248, k)]
/-- AGIT_ROTATE of one row of 16384 values in one block of 2¹⁴, FP32 to FP32. -/
def wRotate : PlateCmd := cmd 0x50 [(64, 1), (76, 16384), (128, 14), (136, 5), (160, 0x100000)]
theorem test_witness_DrainQuantiseAndRotate :
    ((wOpen false).ready wDrain ∧ groupsInRange wDrain = true ∧ groupsOpen ((wOpen false).plate 0) wDrain = true ∧ wDrain.cols = 256 ∧ wDrain.bits 16 0 2 = 1 ∧ wDrain.bits 16 2 1 = 0 ∧ wDrain.bits 16 3 1 = 1 ∧ wDrain.bits 16 4 1 = 1 ∧ wDrain.bits 16 5 1 = 1 ∧ wDrain.trayAddr = 0 ∧ wDrain.le 18 2 = 0 ∧ wDrain.le 20 4 = 64) ∧
    (drainRecOk (drainRec ((wOpen false).tray 0 64 64)) = true ∧ (drainRec ((wOpen false).tray 0 64 64)).addStride % 16 = 0 ∧ (drainRec ((wOpen false).tray 0 64 64)).sw + 256 * 4 ≤ (wOpen false).grainTop 0 ∧ (drainRec ((wOpen false).tray 0 64 64)).sa + 0 + 4 ≤ (wOpen false).grainTop 0 ∧ (drainRec ((wOpen false).tray 0 64 64)).burn + 0 + 4 * 256 ≤ (wOpen false).grainTop 0 ∧ (drainRec ((wOpen false).tray 0 64 64)).lr + 0 + 4 * 256 ≤ (wOpen false).grainTop 0 ∧ (drainRec ((wOpen false).tray 0 64 64)).rowmax + 4 * 1 ≤ (wOpen false).grainTop 0) ∧
    (wExpo.ready (wQuant 0) ∧ wExpo.ready (wQuant 1) ∧ wExpo.ready (wQuant 2) ∧ (wQuant 2).rows = 256 ∧ (wQuant 2).kRows = 128 ∧ (wQuant 2).cols = 256 ∧ (wQuant 2).bits 31 0 2 = 2 ∧ (wQuant 2).bits 31 3 4 = 0 ∧ (wQuant 2).le 2 2 = 256 ∧ 0 + 256 * roundUp (2 * 256) 64 + 128 * 256 * 4 ≤ wExpo.grainTop 0 ∧ (wQuant 0).le 16 4 + (256 - 1) * 256 + 256 ≤ wExpo.grainTop 0 ∧ (wQuant 0).le 20 4 + (256 - 1) * 256 + 4 ≤ wExpo.grainTop 0) ∧
    (wExpo.ready (wQuant 10) ∧ (wQuant 10).bits 31 0 2 = 2 ∧ (wQuant 10).bits 31 3 4 = 1 ∧ wExpo.a4gAt 0 1 + 16 ≤ wExpo.grainTop 0) ∧
    (wExpo.get fPLATE_DEBUG_ACC_VISIBLE 0 0 = 0 ∧ wExpo.ready (cmd 0x28 []) ∧ (sets (wOpen true) [(fPLATE_DEBUG_ACC_VISIBLE, 0, 0, 1)]).get fPLATE_DEBUG_ACC_VISIBLE 0 0 = 1 ∧ (sets (wOpen true) [(fPLATE_DEBUG_ACC_VISIBLE, 0, 0, 1)]).ready (cmd 0x28 [(16, 63), (64, 1)]) ∧ groupsInRange (cmd 0x28 [(16, 63), (64, 1)]) = true ∧ groupsOpen ((sets (wOpen true) [(fPLATE_DEBUG_ACC_VISIBLE, 0, 0, 1)]).plate 0) (cmd 0x28 [(16, 63), (64, 1)]) = true ∧ 0 + 16 * ceilDiv 1 16 * 2048 ≤ (wOpen true).grainTop 0) ∧
    (wExpo.ready wRotate ∧ wRotate.le 16 1 = 14 ∧ wRotate.bits 8 12 17 = 16384 ∧ wRotate.bits 17 0 2 = 1 ∧ wRotate.bits 17 2 2 = 1 ∧ wRotate.bits 8 12 17 % 2 ^ wRotate.le 16 1 = 0 ∧ safeRows wRotate = 1 ∧ wRotate.le 20 4 % 16 = 0 ∧ wRotate.trayAddr + 0 + 4 * 16384 ≤ wExpo.grainTop 0 ∧ wRotate.le 20 4 + 0 + 4 * 16384 ≤ wExpo.grainTop 0) ∧
    ((sets (wOpen true) [(fPLATE_DEBUG_ACC_VISIBLE, 0, 0, 1)]).wholeTray 0 ∧ (wOpen false).wholeTray 0 ∧ wExpo.wholeTray 0) := by
  exact ⟨by decide, by decide, by decide, by decide, by decide, by decide, ⟨wholeTray_of _ _ (by decide) (by decide), wholeTray_of _ _ (by decide) (by decide), wholeTray_of _ _ (by decide) (by decide)⟩⟩

/-- SAFE_GEMM of one row of one value and one column, in FP32, with B in the last window of the cluster. -/
def wGemm : PlateCmd := cmd 0x40 [(64, 1), (76, 1), (128, 9), (136, 0x84), (144, 1), (160, 0x3FFFFF0 - 0x0), (192, 64)]
/-- SAFE_GEMM of one row of one value by a weight record at 0x400, with the drain record at 0x800, the low-rank addend and the row maxima. -/
def wGemmW : PlateCmd := cmd 0x40 [(16, 6), (64, 1), (76, 1), (128, 9), (144, 1), (160, 0x400), (192, 0x100), (224, 0x800)]
/-- SAFE_ROWOP: an operation on one row of one value, in FP32 but for the G8 side of 12 and 13, its parameters at 64. -/
def wRowF (op : Nat) : PlateCmd := cmd 0x41 [(64, 1), (76, 1), (128, op), (136, if op = 12 then 41 else if op = 13 then 13 else 9), (160, 16), (192, 32), (224, 64)]
/-- SAFE_ROWOP: an operation on one row of one value, from and to FP32. -/
def wRow (op : Nat) : PlateCmd := cmd 0x41 [(64, 1), (76, 1), (128, op), (136, 9), (160, 16), (192, 32)]
/-- SAFE_LOWRANK of one row, rank 64 and one column: its first and its second half. -/
def wRank (second : Nat) : PlateCmd := cmd 0x42 [(16, second + 2), (64, 1), (76, 1), (85, 64), (128, 0x400), (160, 0x1000), (192, 0x2000)]
theorem test_witness_SafelightCommandsRun :
    (wExpo.ready wGemm ∧ safeCols wGemm = 1 ∧ safeRows wGemm = 1 ∧ wGemm.le 18 2 = 1 ∧ wGemm.bits 16 0 3 = 1 ∧ wGemm.bits 16 3 3 = 1 ∧ wGemm.le 28 4 = 0 ∧ (wGemm.le 17 1, 1) ∈ [(0x80, 0), (0x81, 2), (0x82, 3), (0x83, 4), (0x84, 1)] ∧ wGemm.le 20 4 % 16 = 0 ∧ wGemm.le 24 4 % 16 = 0 ∧ wGemm.bits 2 4 1 = 0) ∧
    ((∀ i, i < safeRows wGemm → clIn (wGemm.trayAddr + i * stagedStride 1 1) (fmtSize 1 * 1)) ∧ (∀ i, i < 1 → clIn (wGemm.le 20 4 + i * 1 * fmtSize 1) (fmtSize 1 * 1)) ∧ ∀ i, i < safeRows wGemm → clIn (wGemm.le 24 4 + i * stagedStride 1 1) (fmtSize 1 * 1)) ∧
    (wExpo.ready wGemmW ∧ wGemmW.le 17 1 = 0 ∧ wGemmW.le 18 2 = 1 ∧ safeCols wGemmW = 1 ∧ safeRows wGemmW = 1 ∧ wGemmW.le 20 4 = 0x400 ∧ wGemmW.le 28 4 = 0x800 ∧ wExpo.drainIn 0 0x800 ∧ wGemmW.bits 2 0 3 = 6 ∧ scalesIn (wExpo.drainAt 0 0x800) 1 ∧ clIn ((wExpo.drainAt 0 0x800).lr + 0 * (wExpo.drainAt 0 0x800).addStride) (4 * 1) ∧ clIn ((wExpo.drainAt 0 0x800).rowmax + 4 * 0) 4) ∧
    ((match wExpo.clWRec 0 0x400 with | .ok w => decide (wExpo.weightIn 0 w 0 0) | .error _ => false) = true) ∧
    (∀ op, op < 14 → (wRowF op).le 16 1 = op ∧ wExpo.ready (wRowF op) ∧ convertible op ((wRowF op).bits 17 0 3) ((wRowF op).bits 17 3 3) = true) ∧
    (rowopLen (wRowF 12) = 1 ∧ safeRows (wRowF 12) = 1 ∧ (wRowF 12).bits 17 3 3 = 5 ∧ (wRowF 13).bits 17 0 3 = 5 ∧ clIn (wRowF 13).trayAddr (g8Bytes 1) ∧ clIn ((wRowF 12).le 24 4) (g8Bytes 1) ∧ (wRowF 12).le 28 4 = 64 ∧ clIn 64 64 ∧ clIn (wExpo.le (clAt 0 64) 4) 4 ∧ clIn (wExpo.le (clAt 0 64 + 4) 4) 4) ∧
    (wExpo.ready (wRow 0) ∧ wExpo.ready (wRow 1) ∧ wExpo.ready (wRow 2)) ∧
    (wExpo.ready (wRow 11) ∧ (wRow 1).le 16 1 = 1 ∧ (wRow 1).bits 17 0 3 = 1 ∧ (wRow 1).bits 17 3 3 = 1 ∧ rowopLen (wRow 1) = 1 ∧ safeRows (wRow 1) = 1 ∧ (wRow 1).le 20 4 % 16 = 0 ∧ (wRow 1).le 24 4 % 16 = 0 ∧ clIn (wRow 1).trayAddr 4 ∧ clIn ((wRow 1).le 20 4) 4 ∧ clIn ((wRow 1).le 24 4) 4) ∧
    (wExpo.ready (wRow 7) ∧ wExpo.ready (wRow 9) ∧ (wRow 9).le 16 1 = 9 ∧ clIn ((wRow 9).le 24 4 + 4 * 0) 4) ∧
    (wExpo.ready (wRank 0) ∧ (wRank 0).bits 2 0 1 = 0 ∧ (wRank 0).bits 2 1 7 = 1 ∧ (wRank 0).bits 8 21 7 = 64 ∧ safeCols (wRank 0) = 1 ∧ clIn ((wRank 0).le 16 4) 128 ∧ clIn (wRank 0).trayAddr 2 ∧ clIn ((wRank 0).le 20 4) 256) ∧
    (wExpo.ready (wRank 1) ∧ (wRank 1).bits 2 0 1 = 1 ∧ (wRank 1).le 24 4 % 64 = 0 ∧ clIn ((wRank 1).le 24 4) 64 ∧ drainRecOk (drainRec (wExpo.bytes (clAt 0 ((wRank 1).le 24 4)) 64)) = true ∧ (∀ k, k < 64 → clIn ((wRank 1).le 16 4 + 2 * 1 * k) (2 * 1)) ∧ clIn (wRank 1).trayAddr 256 ∧ clIn (drainRec (wExpo.bytes (clAt 0 ((wRank 1).le 24 4)) 64)).lr 4) ∧
    (∀ q, q / 8 = 0 → wExpo.wholeTray q) := by
  exact ⟨by decide, by decide, by decide, by decide, by decide, by decide, by decide, by decide, by decide, by decide, by decide, by exact wholeCluster_of _ (by decide) (by decide)⟩

/-- A burn command over one row and one column, its list at 0x1000. -/
def wBurn (opc : Nat) (fs : List (Nat × Nat)) : PlateCmd := cmd opc ([(64, 1), (76, 1), (128, 0x1000)] ++ fs)
/-- The same exposure with a sheet at 0x1000 whose decision was FALLBACK. -/
def wFallback : State := wExpo.writeLe (clAt 0 0x1000 + 4) 1 2
/-- The same exposure with two candidate records of one column each. -/
def wRecords : State := ((wExpo.writeLe (clAt 0 4) 2 1).writeLe (clAt 0 576) 4 1).writeLe (clAt 0 580) 2 1
/-- The same exposure with a sheet of one static and one dynamic channel. -/
def wDyn : State := ((wExpo.writeLe (clAt 0 0x1000) 2 2).writeLe (clAt 0 0x1002) 2 1).writeLe (clAt 0 0x1044) 3 1
/-- That sheet. -/
def wDynSheet : Sheet := sheetOf (wDyn.bytes (clAt 0 0x1000) 1088)
/-- BURN_PRODUCT of one row and one column over it. -/
def wBp : PlateCmd := wBurn 0x46 [(16, 1), (160, 0x2000), (192, 0x3000), (224, 0x4000)]
theorem test_witness_BurnCommandsRun :
    (wExpo.ready (wBurn 0x43 [(160, 0x2000)]) ∧ safeCols (wBurn 0x43 [(160, 0x2000)]) = 1 ∧ (wBurn 0x43 [(160, 0x2000)]).le 16 4 = 0x1000 ∧ clIn 0x1000 1088 ∧ clIn 0x2000 576 ∧ clIn ((wBurn 0x43 []).trayAddr + 0 * stagedStride 0 1) (2 * 1) ∧ sheetOk (sheetOf (wExpo.bytes (clAt 0 0x1000) 1088)) = true) ∧
    (sheetOk (sheetOf (wFallback.bytes (clAt 0 0x1000) 1088)) = true ∧ (sheetOf (wFallback.bytes (clAt 0 0x1000) 1088)).decision = 2 ∧ (sheetOf (wExpo.bytes (clAt 0 0x1000) 1088)).decision ≠ 2) ∧
    (wRecords.ready (wBurn 0x44 [(160, 0x2000), (192, 2)]) ∧ (wBurn 0x44 [(160, 0x2000), (192, 2)]).le 24 2 = 2 ∧ (wBurn 0x44 [(160, 0x2000), (192, 2)]).le 28 1 = 0 ∧ (sheetOf (wRecords.bytes (clAt 0 0x1000) 1088)).static ≤ 0 ∧ rangesDisjoint ((List.range 2).map (fun i => (wRecords.le (clAt 0 (576 * i)) 4, wRecords.le (clAt 0 (576 * i) + 4) 2))) = true ∧ sheetOk (sheetOf (wRecords.bytes (clAt 0 0x1000) 1088)) = true) ∧
    (wExpo.ready (wBurn 0x45 [(160, 0x2000), (192, 0x3000)]) ∧ wFallback.ready (wBurn 0x45 [(160, 0x2000), (192, 0x3000)]) ∧ clIn 0x2000 512 ∧ clIn 0x3000 4) ∧
    (wExpo.ready (wBurn 0x46 [(16, 1), (160, 0x2000), (192, 0x3000), (224, 0x4000)]) ∧ (wBurn 0x46 [(16, 1), (160, 0x2000), (192, 0x3000), (224, 0x4000)]).bits 2 0 8 = 1 ∧ (wBurn 0x46 [(16, 1), (160, 0x2000), (192, 0x3000), (224, 0x4000)]).le 28 4 = 0x4000 ∧ bitsOf (wExpo.le (clAt 0 0x3000) 1) 0 7 ≤ 16 ∧ drainRecOk (drainRec (wExpo.bytes (clAt 0 0x4000) 64)) = true ∧ (sheetOf (wExpo.bytes (clAt 0 0x1000) 1088)).entries = [] ∧ clIn (drainRec (wExpo.bytes (clAt 0 0x4000) 64)).burn 4) ∧
    (wDyn.ready wBp ∧ wDynSheet.entries = [(0, false), (1, false)] ∧ wDynSheet.static = 1 ∧ sheetOk wDynSheet = true ∧ wDyn.drainIn 0 0x4000 ∧ scalesIn (wDyn.drainAt 0 0x4000) 1 ∧ clIn (wBp.le 20 4 + 0 * stagedStride 0 1) 2 ∧ clIn (wBp.trayAddr + 0 * 1 * 512 + 512 * 0) 512 ∧ (match wDyn.clWRec 0 0x3000 with | .ok w => decide (wDyn.weightIn 0 w 1 0) | .error _ => false) = true) ∧
    (∀ q, q / 8 = 0 → wDyn.wholeTray q) ∧
    (∀ q, q / 8 = 0 → wExpo.wholeTray q ∧ wFallback.wholeTray q ∧ wRecords.wholeTray q) := by
  exact ⟨by decide, by decide, by decide, by decide, by decide, by decide, by exact wholeCluster_of _ (by decide) (by decide), fun q h => ⟨wholeCluster_of _ (by decide) (by decide) q h, wholeCluster_of _ (by decide) (by decide) q h, wholeCluster_of _ (by decide) (by decide) q h⟩⟩

/-- TRAY_COPY of 16 bytes, in and out, to or from HBM. -/
def wCopy (out : Nat) : PlateCmd := cmd 0x58 [(32, 0x7FFFF0), (64, 16), (128, 0x200000), (176, out)]
/-- TRAY_COPY of 16 bytes in, with one for destination semaphore 63. -/
def wCopySem : PlateCmd := cmd 0x58 [(32, 0x7FFFF0), (64, 16), (128, 0x200000), (176, 2), (184, 1), (192, 63), (208, 100)]
/-- TRAY_GATHER of one row of 16 bytes out of one. -/
def wGather : PlateCmd := cmd 0x59 [(32, 0x7FFFF0), (64, 1), (78, 1), (128, 0x200000), (176, 16), (192, 0x100)]
/-- TRAY_BCAST of 16 bytes to plate 7. -/
def wBcast : PlateCmd := cmd 0x5A [(64, 16), (128, 7), (144, 1), (160, 0x7FFFF0)]
/-- The exposure with the absent entry in the list of the gather. -/
def wAbsent : State := wExpo.writeLe (trayAddr 0 0x100) 4 0xFFFFFFFF
theorem test_witness_DmaCommandsRun :
    (wExpo.ready (wCopy 0) ∧ wExpo.ready (wCopy 1) ∧ wExpo.staticMode 0 = false ∧ dmaOk (wCopy 1) (wCopy 1).trayAddr = true ∧ (wCopy 1).le 16 6 = 0x200000 ∧ (wCopy 1).bits 22 0 1 = 1 ∧ (wCopy 0).bits 22 0 1 = 0 ∧ (wCopy 0).bits 22 1 1 = 0 ∧ dmaLen (wCopy 0) = 16) ∧
    (wExpo.dmaReadable 0 0x200000 16 ∧ wExpo.dmaWritable 0 0x200000 16 ∧ wExpo.dmaReadable 0 (trayAddr 0 0x7FFFF0) 16 ∧ wExpo.dmaWritable 0 (trayAddr 0 0x7FFFF0) 16) ∧
    (wExpo.offLog 0x200000 16 ∧ wExpo.offLog (trayAddr 0 0x7FFFF0) 16) ∧
    (wExpo.ready wCopySem ∧ wCopySem.bits 22 1 1 = 1 ∧ wCopySem.le 23 1 = 1 ∧ wCopySem.le 24 1 = 63 ∧ isTray (trayAddr 0 0x7FFFF0) = true ∧ wExpo.partOfPlate (trayPlate (trayAddr 0 0x7FFFF0)) = wExpo.partOfPlate 0 ∧ (wExpo.plate 0).ctx = none) ∧
    (wStatic.ready wCopySem ∧ wStatic.staticMode 0 = true ∧ wStatic.cycles 0 ≤ wCopySem.le 26 4) ∧
    (wExpo.ready wBcast ∧ dmaOk wBcast wBcast.trayAddr = true ∧ dmaOk wBcast (wBcast.le 20 4) = true ∧ wBcast.le 16 2 = 7 ∧ wBcast.le 18 2 = 1 ∧ wBcast.bits 30 0 1 = 0 ∧ wExpo.dmaReadable 0 (trayAddr 0 0) 16 ∧ wExpo.granted 0 (trayAddr (7 + 0) 0x7FFFF0) 16 false = true ∧ wExpo.dmaWritable 0 (trayAddr (7 + 0) 0x7FFFF0) 16) ∧
    (wAbsent.ready wGather ∧ wGather.bits 8 0 14 = 1 ∧ wGather.le 22 2 = 16 ∧ wGather.le 24 4 = 0x100 ∧ countOf (wGather.bits 8 14 18) 18 = 1 ∧ wGather.trayAddr + (1 - 1) * roundUp 16 64 + 16 ≤ trayWin ∧ wAbsent.le (trayAddr 0 (wGather.le 24 4)) 4 = 0xFFFFFFFF ∧ wExpo.ready wGather ∧ wExpo.le (trayAddr 0 (wGather.le 24 4)) 4 = 0 ∧ apart (0x200000 + 0 * 16) 16 (trayAddr 0 0x7FFFF0 + 0 * 64) 16) ∧
    (wAbsent.dmaReadable 0 (trayAddr 0 0x100) 4 ∧ wAbsent.dmaReadable 0 (0x200000 + 0 * 16) 16 ∧ wAbsent.dmaWritable 0 (trayAddr 0 0x7FFFF0 + 0 * 64) 16 ∧ wAbsent.staticMode 0 = false) ∧
    (wExpo.ready (cmd 0x5C [(191, 1)]) ∧ wExpo.ready (cmd 0x5C [(191, 1), (192, 1)]) ∧ ((cmd 0x5C [(191, 1)]).le 16 8).testBit 63 = true ∧ (cmd 0x5C [(191, 1), (192, 1)]).le 24 1 = 1 ∧ wExpo.bankMove 0 63 = none ∧ wExpo.pinned 0 63 = false ∧ wExpo.bankAwake 0 63 = true) ∧
    ((sets wExpo [(fTRAY_PWR_AWAKE_AWAKE, 0, 0, 2 ^ 63 - 1), (fTRAY_PWR_ASLEEP_ASLEEP, 0, 0, 2 ^ 63)]).bankAsleep 0 63 = true ∧ (sets wExpo [(fTRAY_PWR_AWAKE_AWAKE, 0, 0, 2 ^ 63 - 1), (fTRAY_PWR_ASLEEP_ASLEEP, 0, 0, 2 ^ 63)]).bankMove 0 63 = none) := by
  exact ⟨by decide, by decide, ⟨offLog_of _ (by decide) (by decide) _ _ (by decide), offLog_of _ (by decide) (by decide) _ _ (by decide)⟩, by decide, by decide, by decide, by decide, by decide, by decide, by decide⟩

theorem test_witness_TrayFillRepeatsItsPattern :
    (wExpo.ready (cmd 0x5B [(32, 0x7FFFF0), (64, 16), (128, 0x01020304), (160, 2 ^ 96 - 1)]) ∧ (cmd 0x5B [(32, 0x7FFFF0), (64, 16), (128, 0x01020304), (160, 2 ^ 96 - 1)]).bits 8 0 24 = 16 ∧ (cmd 0x5B [(32, 0x7FFFF0), (64, 16), (128, 0x01020304), (160, 2 ^ 96 - 1)]).trayAddr + 16 ≤ trayWin ∧ wExpo.dmaWritable (wExpo.ownerOf 0) (trayAddr 0 0x7FFFF0) 16 ∧ (cmd 0x5B []).opc = 0x5B) := by
  decide

/-- The exposure with the header of an empty BCR tile of one row at 0, and 40-bit group 15 of plate 0 open. -/
def wTile : State := (((((((wOpen false).writeLe (clAt 0 0) 1 1).writeLe (clAt 0 1) 1 2).writeLe (clAt 0 4) 2 1).writeLe (clAt 0 8) 4 1).writeLe (clAt 0 20) 4 64).writeLe (clAt 0 24) 4 80).writeLe (clAt 0 28) 8 (96 + 96 * 2 ^ 32)
/-- The header of that tile. -/
def oneHdr : TileHdr := { format := 1, vfmt := 2, bw := 0, nrows := 1, klen := 1, nnz := 0, nblk := 0, ptrOff := 64, idxOff := 80, valOff := 96, total := 96 }
/-- DODGE_SPMM of that tile for one row of A8 codes. -/
def wSpmm : PlateCmd := cmd 0x60 [(16, 15), (64, 1), (82, 1), (144, 16), (160, 0x1000), (192, 1)]
/-- DODGE_CHECK of that tile. -/
def wCheck : PlateCmd := cmd 0x61 [(64, 256), (82, 1), (128, 0x2000), (160, 1)]
/-- The exposure with the shape of a cache of one head of 16 values, and a page list that names no page at 0x100. -/
def wHeads : State := sets (wExpo.writeLe (clAt 0 0x100) 4 0xFFFFFFFF) [(fPART_LAT_CFG_KVHEADS, 0, 0, 1), (fPART_LAT_CFG_DIM, 0, 0, 16)]
/-- ENL_FETCH of 64 tokens and 16 values. -/
def wFetch : PlateCmd := cmd 0x70 [(32, 0x1000), (64, 64), (128, 0x100), (160, 16), (192, 0x4000)]
/-- ENL_DEVELOP of one row and 160 keys. -/
def wDevelop : PlateCmd := cmd 0x71 [(32, 0x1000), (64, 1), (73, 160), (128, 0x1100), (160, 0x1010), (192, 0x2000), (224, 0x3F800000)]
/-- ENL_MERGE of two parts of one row and one value, to FP32. -/
def wMerge : PlateCmd := cmd 0x72 [(16, 2), (20, 1), (64, 1), (73, 1), (128, 0x4000), (160, 64), (192, 0x8000), (224, 0x3F800000)]
/-- The same with page 0 in the list, the page and its table in HBM. -/
def wPaged : State := sets (wHeads.writeLe (clAt 0 0x100) 4 0) [(fPART_LAT_CFG_LAYERS, 0, 0, 1), (fPART_LAT_RANGE_PAGES, 0, 0, 1), (fPART_LAT_POOL_BASE_4K, 0, 0, 256), (fPART_LAT_PT_PT_ADDR, 0, 0, 0x400000)]
/-- ENL_FETCH of V in that exposure. -/
def wFetchV : PlateCmd := cmd 0x70 [(32, 0x1000), (64, 64), (128, 0x100), (160, 16), (176, 1), (192, 0x4000), (224, 100)]
/-- The exposure with a row of 160 visible keys. -/
def wKeys : State := wExpo.writeLe (clAt 0 0x2000) 4 160
theorem test_witness_SparseAndAttentionCommandsRun :
    (wTile.ready wSpmm ∧ wSpmm.cols = 1 ∧ wSpmm.rows = 1 ∧ wSpmm.le 24 4 = 1 ∧ wSpmm.bits 16 0 2 = 0 ∧ wSpmm.packed = false ∧ groupsInRange wSpmm = true ∧ groupsOpen (wTile.plate 0) wSpmm = true ∧ clIn wSpmm.trayAddr 64 ∧ clIn (wSpmm.le 20 4 + 0 * wSpmm.le 18 2) 1) ∧
    (oneHdr = tileHdr (wTile.bytes (clAt 0 0) 64) ∧ hdrChecks oneHdr 1 1 0 false = none ∧ bodyChecks oneHdr (wTile.bytes (clAt 0 0) oneHdr.total) = none) ∧
    (wTile.ready wCheck ∧ wCheck.rows = 256 ∧ wCheck.cols = 1 ∧ wCheck.le 20 4 = 1 ∧ clIn wCheck.trayAddr 64 ∧ clIn (wCheck.le 16 4) 16 ∧ hdrChecks oneHdr 1 1 0 true = none ∧ wExpo.ready wCheck ∧ (hdrChecks (tileHdr (wExpo.bytes (clAt 0 0) 64)) 1 1 0 true).isSome = true) ∧
    (wHeads.ready wFetch ∧ wHeads.staticMode 0 = false ∧ wFetch.bits 8 0 16 = 64 ∧ wFetch.bits 2 0 8 < wHeads.get fPART_LAT_CFG_KVHEADS 0 0 ∧ wFetch.le 20 2 = 16 ∧ wFetch.le 20 2 ≤ wHeads.get fPART_LAT_CFG_DIM 0 0 ∧ clIn (wFetch.le 16 4) (4 * ceilDiv 64 64) ∧ wHeads.le (clAt 0 (wFetch.le 16 4) + 4 * 0) 4 = none32 ∧ wFetch.bits 22 0 2 = 0 ∧ clIn wFetch.trayAddr (roundUp 64 256 * codeStride 16 false) ∧ clIn (wFetch.le 24 4) (2 * roundUp 64 256)) ∧
    (wPaged.ready wFetch ∧ wPaged.ready wFetchV ∧ wPaged.pageIn 0 (wPaged.le (clAt 0 0x100 + 4 * 0) 4) 0 false false ∧ wPaged.pageIn 0 (wPaged.le (clAt 0 0x100 + 4 * 0) 4) 0 true false ∧ wPaged.le (clAt 0 0x100) 4 = 0 ∧ wFetchV.bits 22 0 2 = 1 ∧ clIn wFetchV.trayAddr (roundUp 64 160 / 160 * (16 * (8 * 20))) ∧ clIn (wFetchV.le 24 4) (2 * roundUp 64 160) ∧ (wPaged.put fPART_TRAY_CFG_SYNC 0 0 1).staticMode 0 = true ∧ (wPaged.put fPART_TRAY_CFG_SYNC 0 0 1).cycles 0 ≤ wFetchV.le 28 4) ∧
    (wExpo.ready wDevelop ∧ wDevelop.bits 8 0 9 = 1 ∧ wDevelop.bits 8 9 16 = 160 ∧ tauOk (wDevelop.le 28 4) = true ∧ clIn (wDevelop.le 24 4) 16 ∧ clIn wDevelop.trayAddr 4 ∧ clIn (wDevelop.le 16 4) 320 ∧ clIn (wDevelop.le 20 4) 4 ∧ wExpo.le (clAt 0 wDevelop.trayAddr) 4 = 0 ∧ wExpo.le (clAt 0 (wDevelop.le 20 4)) 4 = 0 ∧ clIn (0 + 1024 * 0) (4 * 160) ∧ clIn 0 160 ∧ wKeys.ready wDevelop ∧ wDevelop.bits 2 0 3 = 0 ∧ min (wKeys.le (clAt 0 (wDevelop.le 24 4) + 16 * 0) 4 - 32768 * 0) 160 = 160 ∧ clIn wDevelop.trayAddr (4 * ceilDiv 160 256) ∧ clIn (wDevelop.le 16 4) (2 * 160) ∧ wKeys.le (clAt 0 wDevelop.trayAddr + 4 * 0) 4 = 0 ∧ wKeys.le (clAt 0 (wDevelop.le 20 4) + 4 * 0) 4 = 0) ∧
    (∀ q, q / 8 = 0 → (wPaged.wholeTray q ∧ wPaged.splitMode q = false) ∧ wKeys.wholeTray q ∧ wKeys.splitMode q = false) ∧
    (wExpo.ready wMerge ∧ wMerge.bits 8 0 9 = 1 ∧ wMerge.bits 8 9 9 = 1 ∧ wMerge.bits 2 0 4 = 2 ∧ wMerge.bits 2 4 2 = 1 ∧ tauOk (wMerge.le 28 4) = true ∧ (∀ k, k < 2 → clIn (wMerge.le 16 4 + 4096 * k + 16 * 0) 16 ∧ clIn (wMerge.trayAddr + k * wMerge.le 20 4 + 0) 4) ∧ clIn (wMerge.le 24 4) 4) ∧
    (∀ q, q / 8 = 0 → (wTile.wholeTray q ∧ wTile.splitMode q = false) ∧ (wExpo.wholeTray q ∧ wExpo.splitMode q = false) ∧ wHeads.wholeTray q ∧ wHeads.splitMode q = false) := by
  exact ⟨by decide, by decide, by decide, by decide, ⟨by decide, by decide, .inr ⟨by decide, by decide, by decide, offLog_of _ (by decide) (by decide) _ _ (by decide), by decide, by decide⟩, .inr ⟨by decide, by decide, by decide, offLog_of _ (by decide) (by decide) _ _ (by decide), by decide, by decide⟩, by decide⟩, by decide, fun q h => ⟨⟨wholeCluster_of _ (by decide) (by decide) q h, splitMode_of _ (by decide) q h⟩, wholeCluster_of _ (by decide) (by decide) q h, splitMode_of _ (by decide) q h⟩, by decide, fun q h => ⟨⟨wholeCluster_of _ (by decide) (by decide) q h, splitMode_of _ (by decide) q h⟩, ⟨wholeCluster_of _ (by decide) (by decide) q h, splitMode_of _ (by decide) q h⟩, wholeCluster_of _ (by decide) (by decide) q h, splitMode_of _ (by decide) q h⟩⟩

/-- The exposure with one request ACTIVE in slot 0, whose one frame is frame 0, one layer, and one head of 16 values. -/
def wReqs : State := (sets wExpo [(fPART_REQ_SLOTS_COUNT, 0, 0, 1), (fPART_LAT_CFG_LAYERS, 0, 0, 1), (fPART_LAT_RANGE_PAGES, 0, 0, 1), (fPART_LAT_CFG_KVHEADS, 0, 0, 1), (fPART_LAT_CFG_DIM, 0, 0, 16), (fPART_LAT_POOL_BASE_4K, 0, 0, 256)]).setSlot 0 { Slot.init with state := 1, frames := [0] }
/-- The same, with a row to sample of one logit in plate 7's tray at 0x2000. -/
def wRows : State := ((wReqs.writeLe (clAt 0 4) 4 noToken).writeLe (clAt 0 0x100) 6 (trayAddr 7 0x2000)).writeLe (clAt 0 0x108) 4 1
/-- LAT_PLIST of 64 positions, LAT_WRITE of one position, and LOUPE_SAMPLE of that row. -/
def wPlist : PlateCmd := cmd 0x80 [(32, 0x1000), (64, 64)]
def wWrite : PlateCmd := cmd 0x81 [(32, 0x1000), (64, 1), (128, 0x2000), (160, 0x3000)]
def wSample : PlateCmd := cmd 0x88 [(64, 1), (128, 0x100), (160, 1), (192, 1), (224, 0x200)]
theorem test_witness_LatentAndLoupeCommandsRun :
    (wReqs.ready wPlist ∧ wPlist.bits 8 0 19 = 64 ∧ wPlist.bits 2 0 8 < wReqs.layers 0 ∧ clIn wPlist.trayAddr (4 * ceilDiv 64 64) ∧ wReqs.slotInRange 0 (wPlist.le 16 4) = true ∧ (wReqs.slot (wPlist.le 16 4)).state = 1 ∧ ((wReqs.slot (wPlist.le 16 4)).frameOf 0).isSome = true ∧ ceilDiv 64 64 = 1 ∧ wReqs.ownerOf 0 = 0 ∧ wPlist.trayAddr % 16 = 0) ∧
    (wReqs.ready wWrite ∧ wWrite.bits 8 0 12 = 1 ∧ wWrite.le 26 1 < wReqs.layers 0 ∧ clIn (wWrite.le 20 4) 8 ∧ wReqs.le (clAt 0 (wWrite.le 20 4)) 4 = 0 ∧ wReqs.le (clAt 0 (wWrite.le 20 4) + 4) 4 = 0 ∧ clIn wWrite.trayAddr (1 * 16 * 2) ∧ clIn (wWrite.le 16 4) (1 * 16 * 2) ∧ (wReqs.slot 0).len ≤ 0 ∧ (wReqs.slot 0).frameOf (0 / 64) = some 0 ∧ wReqs.mirrorsCache 0 = false ∧ wReqs.held (wReqs.pageAddr 0 (wReqs.pageOf 0 0 0)) (wReqs.pageBytes 0) = false ∧ wReqs.positionBad 0 0 0 0 = none ∧ wWrite.le 24 2 = 0) ∧
    (wRows.ready wSample ∧ wSample.bits 8 0 12 = 1 ∧ wSample.le 20 4 = 1 ∧ wSample.le 24 4 = 1 ∧ clIn wSample.trayAddr 8 ∧ clIn (wSample.le 16 4) 16 ∧ clIn (wSample.le 28 4) 4 ∧ wRows.le (clAt 0 wSample.trayAddr) 4 = 0 ∧ wRows.le (clAt 0 wSample.trayAddr + 4) 4 = noToken ∧ wRows.le (clAt 0 (wSample.le 16 4) + 8) 4 = wSample.le 24 4 ∧ wRows.slotInRange 0 0 = true ∧ (wRows.slot 0).state = 1) ∧
    (let a := wRows.le (clAt 0 (wSample.le 16 4)) 6; wRows.inTrays 0 a 4 = true ∧ wRows.sleepAt a 4 = none ∧ wRows.badLine a 4 = none ∧ wRows.held a 4 = false) ∧
    (sampleRuns [(0, noToken)] none [] [] = some [(0, [])] ∧ sampleRuns [(0, 7), (0, 8), (0, noToken), (1, noToken)] none [] [] = some [(0, [7, 8]), (1, [])] ∧ ([(0, [7, 8]), (1, [])].map Prod.fst).Nodup) ∧
    (∀ q, q / 8 = 0 → (wReqs.wholeTray q ∧ wReqs.splitMode q = false) ∧ wRows.wholeTray q ∧ wRows.splitMode q = false) := by
  exact ⟨by decide, by decide, by decide, by decide, by decide, fun q h => ⟨⟨wholeCluster_of _ (by decide) (by decide) q h, splitMode_of _ (by decide) q h⟩, wholeCluster_of _ (by decide) (by decide) q h, splitMode_of _ (by decide) q h⟩⟩

/-- A Carrier of one rank, whose layer 0 has one expert, one row of 16 bytes and outputs of 16 bytes; at a root without children. -/
def wRank1 : State :=
  sets ((wExpo.write 0x300000 ((List.range 64).map (fun i => if i = 2 then 1 else if i = 6 then 16 else if i = 9 then 16 else if i = 10 then 1 else if i = 14 then 16 else if i = 16 then 1 else if i = 18 then 1 else if i = 19 then 1 else if i = 20 then 1 else if i = 22 then 8 else 0))).writeLe 0x200000 2 0xFFFF)
    [(fCARR_LAYERS_ADDR, 0, 0, 0x300000), (fCARR_INBUF_BASE_4K, 0, 0, 16), (fCARR_INBUF_SIZE_4K, 0, 0, 2), (fCARR_JOB_NRANKS, 0, 0, 1), (fCARR_HOME_ADDR, 0, 0, 0x4000), (fCARR_TREE_ADDR, 0, 0, 0x200000)]
/-- The same with a batch of a kind from rank 0 complete. -/
def wIn (kind : Nat) : State := wRank1.setCarr 0 { Carr.init with inn := [{ kind := kind, layer := 0, src := 0, total := some 1, got := [0], counts := [], fails := [], grads := [], complete := true }] }
/-- The same with a Halide table of one code at 0x100. -/
def wTable : State := wRank1.writeLe (clAt 0 0x100) 1 1
theorem test_witness_CarrierCommandsRun :
    (wRank1.ready (cmd 0x91 [(128, 1)]) ∧ (cmd 0x91 [(128, 1)]).le 16 1 = 1 ∧ (wRank1.plate 0).boundary = true ∧ wRank1.layerReady 0 0 ∧ wRank1.allIn 0 1 0 = false ∧ (wRank1.plate 0).ctx = none ∧ (wIn 1).ready (cmd 0x91 [(128, 1)]) ∧ (wIn 1).allIn 0 1 0 = true ∧ (wIn 1).layerReady 0 0 ∧ carrLayer (cmd 0x91 [(128, 1)]) = 0) ∧
    (wRank1.ready (cmd 0x90 [(64, 1), (128, 0x5000), (176, 16), (192, 0x6000)]) ∧ wRank1.nranks 0 = 1 ∧ wRank1.selfRank 0 = 0 ∧ 0 ∉ (wRank1.carrOf 0).dispatched ∧ wRank1.canRead 0 0x4000 (4 * (wRank1.layerRaw 0 0).nexp) ∧ wRank1.canRead 0 (0x6000 + 0) (4 * (wRank1.layerRaw 0 0).nexp) ∧ wRank1.canRead 0 (0x5000 + 0) (wRank1.layerRaw 0 0).rowBytes ∧ clIn 0 (1 * (wRank1.layerRaw 0 0).k * 8) ∧ countOf ((cmd 0x90 [(64, 1)]).bits 8 0 12) 12 = 1) ∧
    (∀ a, 0x300000 ≤ a → a < 0x300000 + 64 → ¬ wRank1.inbound 0 a ∧ isTray a = false ∧ wRank1.inLogRing a = false) ∧
    (wRank1.ready (cmd 0x92 [(128, 0x10000)]) ∧ (cmd 0x92 [(128, 0x10000)]).le 16 6 = 0x10000 ∧ wRank1.inInbound 0 0x10000 (zoneRows (wRank1.layerRaw 0 0) 1 (wRank1.layerRaw 0 0).outBytes) = true ∧ wRank1.canRead 0 (countAddr (wRank1.layerRaw 0 0) 1 0 0) (2 * (wRank1.layerRaw 0 0).nlocal) ∧ wRank1.canRead 0 (0x10000 + (0 * 1 + 0) * 16) 16 ∧ (wRank1.layerRaw 0 0).nlocal = 1 ∧ (wRank1.layerRaw 0 0).cap = 1 ∧ (wRank1.layerRaw 0 0).outBytes = 16) ∧
    ((wIn 1).ready (cmd 0x93 [(64, 1), (128, 0x7000), (176, 16)]) ∧ (cmd 0x93 [(64, 1), (128, 0x7000), (176, 16)]).le 24 1 ≤ 1 ∧ ((wIn 1).plate 0).boundary = true ∧ (wIn 1).allIn 0 1 0 = true ∧ wRank1.ready (cmd 0x93 [(64, 1), (128, 0x7000), (176, 16)]) ∧ clIn 0 (1 * ((wIn 1).layerRaw 0 0).k * 8) ∧ (wIn 1).le (clAt 0 0 + 8 * 0 + 2) 2 ≠ 0xFFFF ∧ (wIn 1).canRead 0 (((wIn 1).layerRaw 0 0).rzone + ((wIn 1).le (clAt 0 0) 2 * ((wIn 1).layerRaw 0 0).cap + (wIn 1).le (clAt 0 0 + 2) 2) * 16) 16 ∧ (wIn 1).canWrite 0 (0x7000 + 0 * 16) (((wIn 1).layerRaw 0 0).hidden * 2)) ∧
    (wRank1.ready (cmd 0x94 [(64, 1), (128, 0x10000), (176, 0x212000)]) ∧ (cmd 0x94 [(64, 1), (128, 0x10000), (176, 0x212000)]).bits 8 0 16 = 1 ∧ (cmd 0x94 [(64, 1), (128, 0x10000), (176, 0x212000)]).le 22 6 = 0x212000 ∧ wRank1.isRoot 0 = true) ∧
    (wRank1.children 0 = [] ∧ wRank1.offLog (0x200000 + 2 * 0) 2 ∧ (wRank1.carrOf 0).reduced = [] ∧ wRank1.canRead 0 0x10000 1056 ∧ wRank1.canWrite 0 0x212000 1056) ∧
    (wRank1.offLog 0x212000 1056) ∧
    (wTable.ready (cmd 0x95 [(32, 0x100), (128, 14), (136, 7), (144, 65535)]) ∧ (cmd 0x95 [(32, 0x100), (128, 14), (136, 7), (144, 65535)]).le 16 1 = 14 ∧ clIn 0x100 256 ∧ halValid (wTable.bytes (clAt 0 0x100) 256) = true ∧ wTable.halBusy 0 (4 * 14 + 3) = false ∧ (cmd 0x95 [(32, 0x100), (128, 14), (136, 7), (144, 65535)]).bits 17 2 1 = 1 ∧ (cmd 0x95 [(32, 0x100), (128, 14), (136, 3)]).bits 17 2 1 = 0) ∧
    (∀ q, q / 8 = 0 → wRank1.wholeTray q ∧ (wIn 1).wholeTray q ∧ wTable.wholeTray q) := by
  exact ⟨by decide, by decide, by (intro a h1 h2; have hl : wRank1.get fCARR_INBUF_BASE_4K 0 0 = 16 := (by decide); have hs : wRank1.get fCARR_INBUF_SIZE_4K 0 0 = 2 := (by decide); exact ⟨by unfold State.inbound State.inInbound; simp only [hl, hs, decide_eq_true_eq]; omega, by unfold isTray; rw [decide_eq_false_iff_not]; have : trayBase > 0x400000 := (by decide); omega, by unfold State.inLogRing; rw [show wRank1.g fREL_LOG_BASE = 0 from by decide, show wRank1.g fREL_LOG_LOG2 = 14 from by decide]; exact decide_eq_false (by omega)⟩), by decide, by decide, by decide, ⟨by decide, offLog_of _ (by decide) (by decide) _ _ (by decide), by decide⟩, offLog_of _ (by decide) (by decide) _ _ (by decide), by decide, fun q h => ⟨wholeCluster_of _ (by decide) (by decide) q h, wholeCluster_of _ (by decide) (by decide) q h, wholeCluster_of _ (by decide) (by decide) q h⟩⟩


/-! ### Ill-formed commands, one for each check -/

theorem test_ill_formed_address_below_the_register_page : WellFormed (.registerWrite 0x0EFFFFFFFFF8 8 0) = false := by decide
theorem test_ill_formed_module_24_of_link_0 : WellFormed (.nopMsg { link := 0, module := 24, up := true }) = false := by decide
theorem test_ill_formed_module_4_of_link_1 : WellFormed (.ucieRetrainTimeout 1 4) = false := by decide
theorem test_ill_formed_link_3 : WellFormed (.ucieMessageSend 3 true (hdr 3 1 0 0) bytes16) = false := by decide
theorem test_ill_formed_header_of_another_type : WellFormed (.wrAck port1 (hdr 3 0 0 0)) = false := by decide
theorem test_ill_formed_header_class_4 : WellFormed (.wrAck port1 { hdr 4 0 0 0 with cls := 4 }) = false := by decide
theorem test_ill_formed_send_in_class_3 : WellFormed (.ucieMessageSend 1 true { hdr 3 1 0 0 with cls := 3 } bytes16) = false := by decide
theorem test_ill_formed_data_not_as_long_as_len : WellFormed (.wr port1 (hdr 3 2 0 0) bytes16) = false := by decide
theorem test_ill_formed_read_of_no_cell : WellFormed (.rdReq port1 (hdr 1 0 0 0)) = false := by decide
theorem test_ill_formed_read_of_257_cells : WellFormed (.rdReq port1 (hdr 1 0 0 257)) = false := by decide
theorem test_ill_formed_completion_without_data_or_err : WellFormed (.rdCpl port1 (hdr 2 0 0 0) []) = false := by decide
theorem test_ill_formed_write_of_no_cell : WellFormed (.wr port1 (hdr 3 0 0 0) []) = false := by decide
theorem test_ill_formed_doorbell_outside_the_pages : WellFormed (.doorbell port1 (hdr 5 4 0x030000800000 0) (List.replicate 64 0)) = false := by decide
theorem test_ill_formed_event_of_five_cells : WellFormed (.event port1 (hdr 6 5 0 0) (List.replicate 80 0)) = false := by decide
theorem test_ill_formed_credit_above_16_bits : WellFormed (.credit port1 65536 0 0) = false := by decide
theorem test_ill_formed_time_toward_die_2 : WellFormed (.time 2 { strobe := 0, rate := 0, load := false }) = false := by decide
theorem test_ill_formed_plate_128 : WellFormed (.grainLoad { cmd 0x20 [] with plate := 128 }) = false := by decide
theorem test_ill_formed_another_rows_opcode : WellFormed (.grainLoad (cmd 0x21 [])) = false := by decide
theorem test_ill_formed_strip_4096 : WellFormed (.promotion 0 0 4096) = false := by decide
theorem test_ill_formed_bank_64 : WellFormed (.bankAwake 0 64) = false := by decide
theorem test_ill_formed_tray_offset_above_the_window : WellFormed (.washTrayRead 0 0x800000 .clean) = false := by decide
theorem test_ill_formed_service_command_of_another_opcode : WellFormed (.latAdmit 0 0x85) = false := by decide
theorem test_ill_formed_end_with_cancel_set : WellFormed (.latEnd 0 (BitVec.ofNat 256 (0x87 + 2 ^ 128))) = false := by decide
theorem test_ill_formed_cancel_without_its_bit : WellFormed (.latEndCancel 0 0x87) = false := by decide
theorem test_ill_formed_request_slot_65536 : WellFormed (.latParkMoveEnd 65536 true) = false := by decide
theorem test_ill_formed_partition_16 : WellFormed (.exposureTick 16) = false := by decide
theorem test_ill_formed_context_4096 : WellFormed (.contextStart 4096) = false := by decide
theorem test_ill_formed_ring_131072 : WellFormed (.ringEnable 131072) = false := by decide
theorem test_ill_formed_doorbell_write_past_the_pages : WellFormed (.doorbellWrite 0x0300007FFFFC (List.replicate 8 0)) = false := by decide
theorem test_ill_formed_descriptor_of_another_opcode : WellFormed (.generate 0 2) = false := by decide
theorem test_ill_formed_intake_head_above_32_bits : WellFormed (.partIntakeIdxHeadWrite 0 (2 ^ 32)) = false := by decide
theorem test_ill_formed_rdma_address_above_48_bits : WellFormed (.rdmaRead 0 (2 ^ 48) 16) = false := by decide
theorem test_ill_formed_stack_8 : WellFormed (.hbmOffline 8) = false := by decide
theorem test_ill_formed_package_4 : WellFormed (.drawerTraining 4 true) = false := by decide
theorem test_ill_formed_patrol_outside_hbm : WellFormed (.hbmPatrolRead 0x00C000000000 .clean) = false := by decide
theorem test_ill_formed_patrol_outside_the_drawer : WellFormed (.drawerPatrolRead 0x014000000000 .clean) = false := by decide
theorem test_ill_formed_half_16 : WellFormed (.linkUp 16) = false := by decide
theorem test_ill_formed_block_header_class_256 : WellFormed (.cbtData 0 { wCbt true 0 with hdr := { wCbtHdr true with cls := 256 } }) = false := by decide
theorem test_ill_formed_block_sequence_above_32_bits : WellFormed (.cbtData 0 (wCbt true (2 ^ 32))) = false := by decide
theorem test_ill_formed_flow_16384 : WellFormed (.cbtAckTimer 16384) = false := by decide
theorem test_ill_formed_association_number_4 : WellFormed (.macsecSakInstall 0 4) = false := by decide
theorem test_ill_formed_carrier_message_of_another_kind : WellFormed (.returnMsg 0 (wCm 0 0 0 0)) = false := by decide
theorem test_ill_formed_carrier_message_without_a_header : WellFormed (.dispatchMsg 0 { attempt := 0, poison := false, body := [] }) = false := by decide
theorem test_ill_formed_calibration_of_half_16 : WellFormed (.stepWedgeCalibration { half := 16, txLat := 0, rxLat := 0, fecHigh := false, ucieLow := none, voltLow := false, pllOff := false }) = false := by decide
theorem test_ill_formed_measurement_slot_16 : WellFormed (.secExtend 16 0) = false := by decide
theorem test_ill_formed_lid_source_7 : WellFormed (.lightLeakAlarm 7) = false := by decide
theorem test_ill_formed_certificate_offset_above_16_bits : WellFormed (.getCertificate 65536 0) = false := by decide
theorem test_ill_formed_spdm_slot_256 : WellFormed (.challenge 256 0) = false := by decide
theorem test_ill_formed_spdm_code_256 : WellFormed (.spdmUnsupportedRequest 256) = false := by decide
theorem test_ill_formed_input_voltage_above_16_bits : WellFormed (.inputRange 65536) = false := by decide
theorem test_ill_formed_rail_13 : WellFormed (.railFault 13) = false := by decide
theorem test_ill_formed_drain_deadline_4096 : WellFormed (.pwrCtrlDrain 4096) = false := by decide
theorem test_ill_formed_power_of_17_partitions : WellFormed (.powerSlowLoop { tjC := 0, overTemp := false, p100W := 0, partW := List.replicate 17 0 }) = false := by decide
theorem test_ill_formed_clock_of_die_3 : WellFormed (.droopStretch 3) = false := by decide
theorem test_ill_formed_known_vetas_command : WellFormed (.vetasUnknownCommand { i3c := false, seq := 0 } 0x0D) = false := by decide
theorem test_ill_formed_29_sensors : WellFormed (.sensorRefresh (List.replicate 29 0)) = false := by decide
theorem test_ill_formed_densitometer_block_187 : WellFormed (.densCtrWrite 187 0 0) = false := by decide
theorem test_ill_formed_densitometer_counter_16 : WellFormed (.densSelWrite 0 16 0) = false := by decide

/-- A reserved opcode is well formed as any row's command: R97 says what it does. -/
theorem test_well_formed_reserved_opcode : WellFormed (.grainLoad (cmd 0xFF [])) = true := by decide

/-! ### Values that the spec's own examples give -/

/-- R38: the T5 byte of the digits (2, 1, 0, 0, 2), and its weights. -/
theorem test_t5_example : t5Encode [2, 1, 0, 0, 2] = 0xA7 ∧ (List.range 5).map (t5Weight [0xA7]) = [1, 0, -1, -1, 1] ∧ t5Encode [1, 1, 1, 1, 1] = 0x79 := by
  decide
/-- R42: the weights of the bytes E3 01 28 F7 in W4-E. -/
theorem test_w4_example : (List.range 8).map (wElemWeight 4 [0xE3, 0x01, 0x28, 0xF7]) = [3, -2, 1, 0, -8, 2, 7, -1] := by decide
/-- R52–R58: the row of the quantisation example, clip 4.00 and absmax 5.80. -/
theorem test_a8_example :
    (quantRow .a8 false 0x40800000 0x40B9999A
      ([0x3ED70A3D, 0xBFA66666, 0x403CCCCD, 0x3D8F5C29, 0xBF28F5C3, 0x40B9999A, 0xBE3851EC, 0x3F851EB8].map (fdecode fp32)) (fun _ => none)).codes =
        [0x0D, 0xD7, 0x5E, 0x02, 0xEB, 0x7F, 0xFA, 0x21] := by decide
/-- R65: element 5 of that row counts one saturation. -/
theorem test_a8_saturation :
    (quantRow .a8 false 0x40800000 0x40B9999A
      ([0x3ED70A3D, 0xBFA66666, 0x403CCCCD, 0x3D8F5C29, 0xBF28F5C3, 0x40B9999A, 0xBE3851EC, 0x3F851EB8].map (fdecode fp32)) (fun _ => none)).sats =
        1 := by decide
/-- The column of strip S6 of the skipping example, with eight live rows. -/
def skipTile : Tile :=
  { kind := .wide 4, kRows := 8, cols := 1, weights := [[1, -2, 0, -1, 1, 0, -2, 1]], gsize := 0, gmult := [],
    strips := stripPlans (.wide 4) true true [[1, -2, 0, -1, 1, 0, -2, 1]] }
/-- R75: strip S6 of the example runs plane 0 and the sign plane, shifted by 1. -/
theorem test_skipped_planes : (skipTile.strips.headD ⟨[], 0⟩).planes = [(0, 0), (3, 1)] := by decide
/-- R69, R81, R82: its pass and the promotion leave 117 in the wide entry. -/
theorem test_skipped_column :
    (let r := (passRows skipTile ((wOpen false).plate 0) false 15 [[13, -41, 94, 2, -21, 127, -6, 33]]).1
     (r.group 30).map (fun g => smapGet (fun _ => 0) 0 (promoteGroup g).1.wide)) = some 117 := by decide
/-- R132: the stages of the rotation example, from the sign-flipped block (3, 1, −2, 0.5). -/
theorem test_agitator_example :
    agitStage 0 [0x40400000, 0x3F800000, 0xC0000000, 0x3F000000] = [0x40800000, 0x40000000, 0xBFC00000, 0xC0200000] ∧
    agitStage 1 [0x40800000, 0x40000000, 0xBFC00000, 0xC0200000] = [0x40200000, 0xBF000000, 0x40B00000, 0x40900000] := by decide
/-- R140, R141: four rows 512 bytes apart fall in one bank under LINEAR and in four under HASH. -/
theorem test_bank_example : [0, 512, 1024, 1536].map (bankOf false) = [0, 0, 0, 0] ∧ ([0, 512, 1024, 1536].map (bankOf true)).Nodup := by decide
/-- R216: pages of Model Kestrel, two heads of 128 values with K8 and V8 codes. -/
theorem test_page_example :
    (sets State.reset [(fPART_LAT_CFG_KVHEADS, 0, 0, 2), (fPART_LAT_CFG_DIM, 0, 0, 128)]).hsz 0 = 16640 ∧
    (sets State.reset [(fPART_LAT_CFG_KVHEADS, 0, 0, 2), (fPART_LAT_CFG_DIM, 0, 0, 128)]).pageBytes 0 = 36864 := by decide
/-- R265: a save slot of 4 groups. -/
theorem test_save_slot_example : slotBytes 4 = 106496 := by decide
/-- R309: 0x0012_3456_7000 under INTERLEAVE_ALL. -/
theorem test_hbm_example : State.reset.stackOf 0x001234567000 = 7 ∧ State.reset.stackOff 0x001234567000 = 0x2468AC000 := by decide
/-- R309: the same under NEAR_ONLY. -/
theorem test_hbm_near_example :
    ({ State.reset with nearBands := [(0x001234400000, 0x200000)] } : State).stackOf 0x001234567000 = 7 ∧
    ({ State.reset with nearBands := [(0x001234400000, 0x200000)] } : State).stackOff 0x001234567000 = 0x246899000 := by decide
/-- R376: the dispatch zone of layer 23 on 32 ranks. -/
theorem test_zone_example :
    zoneRows (layerEnt [0, 0, 0, 0, 0, 0, 0x10, 0x1D, 0, 0, 0, 0, 0, 0, 0, 0, 12, 0, 6]) 32 7440 = 17141760 ∧ subZone 32 4 9 * 2 = 274 := by decide


/-! ### Single steps -/

/-- Does an outcome give a next state with a property? -/
def gives (o : Host.Outcome State Fault Refusal) (p : State → Bool) : Bool := match o with
  | .next t => p t
  | _ => false
/-- A state with one command waiting. -/
def withOne (i : Instr) (s : State) : State := { s with pending := [i] }

/-- The queue is served from its front, and the command leaves it. -/
theorem test_step_takes_the_front : gives (step (withOne (.linkUp 15) State.reset)) (fun t => t.pending.isEmpty) = true := by decide
/-- A command that is not well formed is refused by name. -/
theorem test_ill_formed_is_refused : step (withOne (.linkUp 16) State.reset) = .refused (.illFormed "LINK_UP") := rfl
/-- R8: a write of four bytes to a register changes only the fields it covers. -/
theorem test_register_write :
    gives (exec (.registerWrite (fldAddr fPART_LAYOUT_CLUSTERS 0 0) 8 0x3) State.reset) (fun t => t.get fPART_LAYOUT_CLUSTERS 0 0 == 3) = true := by
  decide
/-- R88, R86: ACC_OPEN of 17 rows opens two groups. -/
theorem test_acc_open :
    gives (exec (.accOpen (cmd 0x23 [(64, 17)])) (wExpo.put fPART_SCHED_SAVE_GROUPS 0 0 16))
      (fun t => ((t.plate 0).group 0).isSome && ((t.plate 0).group 2).isSome && ((t.plate 0).group 4).isNone) = true := by decide
/-- R101: ACC_CLOSE of a group that is not open faults. -/
theorem test_acc_close_of_a_closed_group :
    gives (exec (.accClose (cmd 0x27 [(64, 1)])) wExpo) (fun t => (t.plate 0).ended) = true := by decide
/-- R160: the pattern lies lower byte first. -/
theorem test_tray_fill :
    gives (exec (.trayFill (cmd 0x5B [(64, 16), (128, 0x01020304)])) wExpo) (fun t => t.tray 0 0 8 == [4, 3, 2, 1, 4, 3, 2, 1]) = true := by decide
/-- R157: TRAY_COPY out of the tray. -/
theorem test_tray_copy_out :
    gives (exec (.trayCopy (cmd 0x58 [(64, 16), (128, 0x1000), (176, 1)])) (wExpo.writeLe (trayAddr 0 0) 2 0xBEEF))
      (fun t => t.le 0x1000 4 == 0xBEEF) = true := by decide
/-- R157, R162: a device address outside the partition faults the command. -/
theorem test_tray_copy_outside :
    gives (exec (.trayCopy (cmd 0x58 [(64, 16), (128, 0x8000000)])) wExpo) (fun t => (t.plate 0).ended) = true := by decide
/-- R117: ADD of 1.0 and 2.0. -/
theorem test_safe_rowop_add :
    gives (exec (.safeRowop (wRow 1)) ((wExpo.writeLe (clAt 0 0) 4 0x3F800000).writeLe (clAt 0 16) 4 0x40000000))
      (fun t => t.le (clAt 0 32) 4 == 0x40400000) = true := by decide
/-- R115: 2.0 × 3.0 in FP32. -/
theorem test_safe_gemm :
    gives (exec (.safeGemm (cmd 0x40 [(64, 1), (76, 1), (128, 9), (136, 0x84), (144, 1), (160, 16), (192, 64)]))
      ((wExpo.writeLe (clAt 0 0) 4 0x40000000).writeLe (clAt 0 16) 4 0x40400000)) (fun t => t.le (clAt 0 64) 4 == 0x40C00000) = true := by decide
/-- R92: a row of codes; the largest of 1.0 and −0.5 takes 127. -/
theorem test_acc_quant :
    gives (exec (.accQuant (cmd 0x26 [(16, 16), (64, 1), (74, 1), (82, 2), (128, 0x1000), (160, 0x2000)]))
      (((wExpo.writeLe (trayAddr 0 0) 4 0xBF003F80).writeLe (trayAddr 0 64) 4 0x3F800000))) (fun t => t.le (trayAddr 0 0x1000) 1 == 127) = true := by decide
/-- R268: CTX_POST raises the progress of the plate's context. -/
theorem test_ctx_post : gives (exec (.ctxPost (cmd 7 [(128, 5)])) (wCtxRun [])) (fun t => (t.ctx 0).progress == 5) = true := by decide
/-- R148: a waiting command passes once its count is there, and takes it. -/
theorem test_semaphore_count :
    gives (exec (.seqNop (cmd 0 [(8, 1), (112, 2)])) (wExpo.setSem 0 0 3)) (fun t => t.sem 0 0 == 1) = true := by decide
/-- R270: SEQ_SKIPIF on a word that is 0 passes over one command. -/
theorem test_seq_skipif :
    gives (exec (.seqSkipif (cmd 6 [(144, 1)])) wExpo) (fun t => (t.plate 0).skip == 2 || (t.plate 0).skip == 0) = true := by decide
/-- R231: the page of the one block of a request. -/
theorem test_lat_plist :
    gives (exec (.latPlist wPlist) (wReqs.put fPART_LAT_RANGE_FIRST 0 0 7)) (fun t => t.le (clAt 0 0x1000) 4 == 7) = true := by decide
/-- R384: a table loaded and made current. -/
theorem test_hal_load :
    gives (exec (.halLoad (cmd 0x95 [(32, 0x100), (128, 2), (136, 5)])) wTable) (fun t => t.halCurrent 0 2 == some 9) = true := by decide
/-- R164: a bank asked to sleep leaves AWAKE. -/
theorem test_bank_sleeps :
    gives (exec (.trayPwrSleep 5 0x8000000000000000) State.reset) (fun t => !t.bankAwake 5 63 && t.bankAwake 5 62) = true := by decide
/-- R164: a pinned bank stays AWAKE. -/
theorem test_pinned_bank_stays_awake :
    gives (exec (.trayPwrSleep 0 1) (State.reset.put fTRAY_PIN_PINNED 0 0 1)) (fun t => t.bankAwake 0 0) = true := by decide
/-- R29: credits that come in are added. -/
theorem test_credit :
    gives (exec (.credit port1 0 0 5) State.reset) (fun t => (t.lane 1 0 false).credit 2 == (State.reset.lane 1 0 false).credit 2 + 5) = true := by decide
/-- R477: a counter written by software. -/
theorem test_densitometer_counter :
    gives (exec (.densCtrWrite 186 15 9) State.reset) (fun t => t.reg (densCtrAddr 186 15) == 9) = true := by decide
/-- R456: DRAIN in READY begins to drain. -/
theorem test_drain : gives (exec (.vetasDrain { i3c := false, seq := 0 } 30) (State.reset.put fPWR_STATE_STATE 0 0 modReady)) (fun t => t.draining) = true := by decide

end Sys2Proof.Tests
end

section
/-! How commands answer: O3. -/

namespace Sys2Proof.Machine

/-! ### How a command answers (R10, R451, R453, R454) -/

/-- The commands of the supply, which act whether or not the module runs. -/
def supplyActs (i : Instr) : Prop :=
  i ∈ [.contact48vMate, .prechargeTimeout, .presenceMated, .presenceBreak, .inputOvercurrent, .resetN, .resetNRelease] ∨
  (∃ vin, i = .prechargeComplete vin ∨ i = .inputOutOfRange vin) ∨ ∃ rail, i = .railPowerGood rail ∨ i = .railFault rail

/-- The messages that name an address: a read or a write of header `h`. -/
def namesAddress (i : Instr) (h : UcieHdr) : Prop := ∃ p, i = .rdReq p h ∨ ∃ d, i = .wr p h d

/-- Every command answers in one of three ways: as a command of a running module, as one of the supply, or as a message that names an address. -/
theorem exec_answers (i : Instr) (s : State) :
    (∃ m t, exec i s = s.answer m (WellFormed i) t) ∨
    (supplyActs i ∧ ∃ m t, exec i s = s.answerAlways m (WellFormed i) t) ∨
    ∃ h, namesAddress i h ∧ ∃ m t, exec i s = s.answerAt m (WellFormed i) h.addr t := by
  cases i with
  | rdReq p h => exact .inr (.inr ⟨h, ⟨p, .inl rfl⟩, _, _, rfl⟩)
  | wr p h d => exact .inr (.inr ⟨h, ⟨p, .inr ⟨d, rfl⟩⟩, _, _, rfl⟩)
  | prechargeComplete vin => exact .inr (.inl ⟨.inr (.inl ⟨vin, .inl rfl⟩), "PRECHARGE_COMPLETE", _, rfl⟩)
  | inputOutOfRange vin => exact .inr (.inl ⟨.inr (.inl ⟨vin, .inr rfl⟩), "INPUT_OUT_OF_RANGE", _, rfl⟩)
  | railPowerGood rail => exact .inr (.inl ⟨.inr (.inr ⟨rail, .inl rfl⟩), "RAIL_POWER_GOOD", _, rfl⟩)
  | railFault rail => exact .inr (.inl ⟨.inr (.inr ⟨rail, .inr rfl⟩), "RAIL_FAULT", _, rfl⟩)
  | contact48vMate => exact .inr (.inl ⟨.inl (by simp), "CONTACT_48V_MATE", _, rfl⟩)
  | prechargeTimeout => exact .inr (.inl ⟨.inl (by simp), "PRECHARGE_TIMEOUT", _, rfl⟩)
  | presenceMated => exact .inr (.inl ⟨.inl (by simp), "PRESENCE_MATED", _, rfl⟩)
  | presenceBreak => exact .inr (.inl ⟨.inl (by simp), "PRESENCE_BREAK", _, rfl⟩)
  | inputOvercurrent => exact .inr (.inl ⟨.inl (by simp), "INPUT_OVERCURRENT", _, rfl⟩)
  | resetN => exact .inr (.inl ⟨.inl (by simp), "RESET_N", _, rfl⟩)
  | resetNRelease => exact .inr (.inl ⟨.inl (by simp), "RESET_N_RELEASE", _, rfl⟩)
  | _ => left; unfold exec; exact ⟨_, _, rfl⟩

theorem State.answerAt_off (s : State) (m : String) (ok : Bool) (a : Nat) (t : Option State) (hl : s.live = false) (ho : ok = true) :
    s.answerAt m ok a t = .next s := by simp [State.answerAt, ho, hl]

/-- A message that names an address answers a next state, or faults at that address in a module that runs. -/
theorem State.answerAt_cases (s : State) (m : String) (ok : Bool) (a : Nat) (t : Option State) (ho : ok = true) :
    (∃ u, s.answerAt m ok a t = .next u) ∨ (s.live = true ∧ s.answerAt m ok a t = .fault (.unmappedAddress a)) := by
  cases hl : s.live with
  | false => exact .inl ⟨s, s.answerAt_off m ok a t hl ho⟩
  | true =>
    cases t with
    | some u => exact .inl ⟨u, by simp [State.answerAt, ho, hl]⟩
    | none => exact .inr ⟨rfl, by simp [State.answerAt, ho, hl]⟩

/-- Ill-formed operands are refused. -/
theorem exec_illFormed (i : Instr) (s : State) (hw : WellFormed i = false) : ∃ m, exec i s = .refused (.illFormed m) := by
  rcases exec_answers i s with ⟨m, t, e⟩ | ⟨-, m, t, e⟩ | ⟨h, -, m, t, e⟩
  · exact ⟨m, by rw [e, hw]; rfl⟩
  · exact ⟨m, by rw [e, hw]; rfl⟩
  · exact ⟨m, by rw [e, hw]; rfl⟩

/-- A well-formed command answers a next state, unless it is a message whose address no region covers. -/
theorem exec_wellFormed (i : Instr) (s : State) (hw : WellFormed i = true) :
    (∃ t, exec i s = .next t) ∨ (s.live = true ∧ ∃ h, namesAddress i h ∧ exec i s = .fault (.unmappedAddress h.addr)) := by
  rcases exec_answers i s with ⟨m, t, e⟩ | ⟨-, m, t, e⟩ | ⟨h, hi, m, t, e⟩
  · exact .inl ⟨_, by rw [e, hw]; rfl⟩
  · exact .inl ⟨t, by rw [e, hw]; rfl⟩
  · rcases s.answerAt_cases m _ h.addr t hw with ⟨u, e'⟩ | ⟨hl, e'⟩
    · exact .inl ⟨u, e.trans e'⟩
    · exact .inr ⟨hl, h, hi, e.trans e'⟩

/-- In a module that does not run, a command that is not one of the supply does nothing. -/
theorem exec_off (i : Instr) (s : State) (hw : WellFormed i = true) (hl : s.live = false) (hs : ¬ supplyActs i) : exec i s = .next s := by
  rcases exec_answers i s with ⟨m, t, e⟩ | ⟨hi, -⟩ | ⟨h, -, m, t, e⟩
  · exact e.trans (s.answer_off m _ t hl hw)
  · exact absurd hi hs
  · exact e.trans (s.answerAt_off m _ h.addr t hl hw)

/-- Settles O3: each of the three ways in which a command answers, refused, in a running module, and in one that does not run. -/
theorem commandsEndAsTheirOperandsSay : Obligations.CommandsEndAsTheirOperandsSay := by
  unfold Obligations.CommandsEndAsTheirOperandsSay
  intro s i
  refine ⟨exec_illFormed i s, fun hw => ?_, fun hw hl hn hv hr => exec_off i s hw hl ?_⟩
  · rcases exec_wellFormed i s hw with h | ⟨hl, h, ⟨p, hi⟩, e⟩
    · exact .inl h
    · exact .inr ⟨hl, p, h, hi, e⟩
  · rintro (h | ⟨vin, h⟩ | ⟨rail, h⟩)
    · exact hn h
    · exact h.elim (hv vin).1 (hv vin).2
    · exact h.elim (hr rail).1 (hr rail).2

end Sys2Proof.Machine
end

section
/-! The state after reset, and an edge of the timebase: O2 and O1. -/

namespace Sys2Proof.Machine

/-- After reset every register holds its default. -/
theorem reset_reg (a : Nat) : State.reset.reg a = regDefault a := rfl

/-- After reset no partition exists, and none is paired. -/
theorem reset_bare_alone : ∀ n, n < 16 → State.reset.exists_ n = false ∧ State.reset.pairState n = 0 := by decide

/-- Settles O2: reset leaves every table empty, so each of its values is a default. -/
theorem resetLeavesTheStatedValues : Obligations.ResetLeavesTheStatedValues := by
  unfold Obligations.ResetLeavesTheStatedValues
  exact ⟨fun a _ _ => reset_reg a, by decide, by decide, rfl, rfl, by decide, by decide, by decide, by decide, reset_bare_alone, fun _ => rfl,
    rfl, rfl, rfl, rfl, rfl, rfl⟩

/-- Stack 0 at thermal level 1, its counter 0 selecting HBM_THROTTLE_US, and every clock at 999 ns: the next edge ends a microsecond. -/
def wThrottled : State :=
  let c : Clock := { time := 999 * 2 ^ 40, rate := 0, pending := none }
  let s : State := { State.reset with timer := { Timer.init with master := c, replicas := [c, c] } }
  (s.put fHBM_STAT_LEVEL 0 0 1).setReg (densSelAddr 162 0) 6

/-- A register's value after a step that answers a next state. -/
def regAfter (o : Host.Outcome State Fault Refusal) (a : Nat) : Option Word64 :=
  match o with
  | .next t => some (t.reg a)
  | _ => none

set_option maxRecDepth 4000 in
theorem wThrottled_counts : regAfter (step wThrottled) (densCtrAddr 162 0) = some 1 ∧ wThrottled.reg (densCtrAddr 162 0) = 0 := by decide

theorem wThrottled_bare : wThrottled.bare := by unfold State.bare; decide

/-- Refutes O1: an edge counts the time of a throttled stack (R325) in a module that has no partition, so that a register changes beside the
timer and the plates. -/
theorem not_aStepRunsTheFrontCommand : ¬ Obligations.AStepRunsTheFrontCommand := by
  unfold Obligations.AStepRunsTheFrontCommand
  rintro ⟨-, -, h⟩
  obtain ⟨t, ht, -, -, -, -, -, honly⟩ := h wThrottled rfl (by decide)
  obtain ⟨hone, hzero⟩ := wThrottled_counts
  rw [ht, regAfter, Option.some_inj, honly wThrottled_bare rfl] at hone
  exact absurd (hzero.symm.trans hone) (by decide)

end Sys2Proof.Machine
end

section
/-! Registers by address, and what a write leaves in their fields: O10. -/

namespace Sys2Proof.Machine

/-! ### Which register stands at an address (R6, R12) -/

/-- The register found at an offset is one of the list, and stands there. -/
theorem regAtOff_some {off : Nat} {rs : List RegSpec} {r : RegSpec} {j : Nat} (h : regAtOff off rs = some (r, j)) :
    r ∈ rs ∧ off = r.off + r.stride * j := by
  induction rs with
  | nil => cases h
  | cons q rs ih =>
    rw [regAtOff] at h
    by_cases hq : q.off ≤ off ∧ (if q.stride = 0 then off = q.off else (off - q.off) % q.stride = 0 ∧ (off - q.off) / q.stride < q.count)
    · rw [if_pos hq] at h
      obtain ⟨rfl, rfl⟩ := Prod.mk.inj (Option.some.inj h)
      obtain ⟨hle, hq⟩ := hq
      refine ⟨List.mem_cons_self .., ?_⟩
      by_cases hs : q.stride = 0
      · rw [if_pos hs] at hq
        simp [hs, hq]
      · rw [if_neg hs] at hq ⊢
        rw [Nat.mul_div_cancel' (Nat.dvd_of_mod_eq_zero hq.1)]
        omega
    · rw [if_neg hq] at h
      exact (ih h).imp_left (List.mem_cons_of_mem _)

theorem blockBase_eq {b : Block} {i : Nat} (hi : i < blockCount b) : blockBase b i = blockBase b 0 + i * blockStride b := by
  cases b with
  | plate | cluster | hbm | port | part => simp only [blockBase, blockStride, Nat.zero_mul, Nat.add_zero]
  | global | timer | sec | pwr | dens => rw [Nat.lt_one_iff.mp hi, Nat.zero_mul]; rfl

/-- The first and the last address of two blocks: one block ends before the other begins. -/
theorem blocks_apart {b c : Block} (h : c ≠ b) :
    blockBase b 0 + blockCount b * blockStride b ≤ blockBase c 0 ∨ blockBase c 0 + blockCount c * blockStride c ≤ blockBase b 0 := by
  revert h
  cases b <;> cases c <;> decide

theorem blockStride_pos (b : Block) : 0 < blockStride b := by cases b <;> decide

/-- An address that a block holds is not below the base it is counted from. -/
theorem blockHolds_base_le {b : Block} {a i : Nat} (h : blockHolds b a = some i) : blockBase b i ≤ a := by
  unfold blockHolds at h
  extract_lets base i' at h
  split at h
  · cases h
  next hle =>
    split at h
    · next hi =>
      rw [← Option.some.inj h, blockBase_eq hi]
      have := Nat.div_mul_le_self (a - base) (blockStride b)
      show base + (a - base) / blockStride b * blockStride b ≤ a
      omega
    · cases h

/-- A register that an address names is one of its block, and stands at that address. -/
theorem findReg_some {a : Nat} {r : RegAt} (h : findReg a = some r) :
    r.spec ∈ blockRegs r.blk ∧ a = blockBase r.blk r.inst + (r.spec.off + r.spec.stride * r.idx) := by
  obtain ⟨b, -, hb⟩ := List.exists_of_findSome?_eq_some h
  split at hb
  · cases hb
  next i hi =>
    split at hb
    · cases hb
    next q j hq =>
      cases hb
      obtain ⟨hmem, hoff⟩ := regAtOff_some hq
      have := blockHolds_base_le hi
      exact ⟨hmem, by show a = blockBase b i + (q.off + q.stride * j); omega⟩

/-- An address within the span of one block lies in no other block. -/
theorem blockHolds_base {b : Block} {i off : Nat} (hi : i < blockCount b) (ho : off < blockStride b) (c : Block) :
    blockHolds c (blockBase b i + off) = if c = b then some i else none := by
  have hlast : (i + 1) * blockStride b ≤ blockCount b * blockStride b := Nat.mul_le_mul_right _ hi
  rw [Nat.add_mul, Nat.one_mul] at hlast
  unfold blockHolds
  extract_lets base i'
  rw [blockBase_eq hi]
  by_cases h : c = b
  · subst h
    have hi' : i' = i := by
      show (blockBase c i + off - blockBase c 0) / blockStride c = i
      rw [blockBase_eq hi, Nat.add_assoc, Nat.add_sub_cancel_left, Nat.add_comm, Nat.add_mul_div_right _ _ (blockStride_pos c),
        Nat.div_eq_of_lt ho, Nat.zero_add]
    rw [hi', if_neg (by show ¬ _ < blockBase c 0; omega), if_pos hi, if_pos rfl]
  · rw [if_neg h]
    rcases blocks_apart h with ha | ha
    · exact if_pos (by show _ < blockBase c 0; omega)
    · refine ite_eq_left_iff.mpr fun _ => if_neg (Nat.not_lt.mpr ?_)
      show blockCount c ≤ (blockBase b i + off - blockBase c 0) / blockStride c
      rw [Nat.le_div_iff_mul_le (blockStride_pos c), blockBase_eq hi]
      omega

/-- A search that only one element can end gives what that element gives. -/
theorem findSome?_only {α β : Type} [DecidableEq α] {f : α → Option β} {b : α} {l : List α} (hb : b ∈ l) (h : ∀ c, c ≠ b → f c = none) :
    l.findSome? f = f b := by
  induction l with
  | nil => cases hb
  | cons c l ih =>
    rw [List.findSome?_cons]
    by_cases hc : c = b
    · subst hc
      cases hf : f c with
      | some x => rfl
      | none => exact List.findSome?_eq_none_iff.mpr fun d _ => if hd : d = c then hd ▸ hf else h d hd
    · rw [h c hc]
      exact ih ((List.mem_cons.mp hb).resolve_left (Ne.symm hc))

/-- The register at an offset from a block's base. -/
theorem findReg_base {b : Block} {i off : Nat} (hi : i < blockCount b) (ho : off < blockStride b) :
    findReg (blockBase b i + off) = (regAtOff off (blockRegs b)).map (fun x => ⟨b, i, x.1, x.2⟩) := by
  have hb : b ∈ allBlocks := by cases b <;> decide
  rw [findReg, findSome?_only hb (fun c hc => by rw [blockHolds_base hi ho, if_neg hc]), blockHolds_base hi ho, if_pos rfl]
  show (match regAtOff (blockBase b i + off - blockBase b i) (blockRegs b) with | none => none | some (r, j) => some _) = _
  rw [Nat.add_sub_cancel_left]
  cases regAtOff off (blockRegs b) <;> rfl

/-! ### The fields of a written register (R8) -/

/-- The fields of a register: each within 64 bits, and no two with a bit in common. -/
def fieldsApart (fs : List FieldSpec) : Prop :=
  (∀ f ∈ fs, f.lo + f.w ≤ 64) ∧ fs.Pairwise (fun f g => f.lo + f.w ≤ g.lo ∨ g.lo + g.w ≤ f.lo)

/-- The registers of every block keep their fields apart. -/
theorem blockRegs_fieldsApart (b : Block) : ∀ r ∈ blockRegs b, fieldsApart r.fields := by
  unfold fieldsApart
  cases b <;> decide

theorem fieldOf_lt (v : Word64) (lo w : Nat) : fieldOf v lo w < 2 ^ w := Nat.mod_lt _ (Nat.two_pow_pos w)

/-- A field of a word that is cleared where another has ones depends on that field alone. -/
theorem fieldOf_clear_congr {v u : Word64} {lo w : Nat} (h : fieldOf v lo w = fieldOf u lo w) (m : Word64) :
    fieldOf (v &&& ~~~m) lo w = fieldOf (u &&& ~~~m) lo w := by
  have key : ∀ x : Word64, fieldOf (x &&& ~~~m) lo w = fieldOf x lo w &&& fieldOf (~~~m) lo w := fun x => by
    simp only [fieldOf, bitsOf, BitVec.toNat_and, Nat.shiftRight_and_distrib, Nat.and_mod_two_pow]
  rw [key, key, h]

/-- R8: what field `f` of a register outside the PART blocks holds after a write of `new`, where it held its bits of `old`. -/
def State.fieldWritten (s : State) (r : RegSpec) (new old : Word64) (f : FieldSpec) : Nat :=
  match f.acc with
  | .ro => fieldOf old f.lo f.w
  | .wo => fieldOf old f.lo f.w
  | .rw1c => fieldOf (old &&& ~~~new) f.lo f.w
  | .rwl => if s.g fGLOBAL_LOCK_SETUP = 1 ∨ fieldAccepts r f (fieldOf new f.lo f.w) = false then fieldOf old f.lo f.w
      else fieldOf new f.lo f.w
  | _ => if fieldAccepts r f (fieldOf new f.lo f.w) = false then fieldOf old f.lo f.w else fieldOf new f.lo f.w

/-- What a write of one field puts there, if it puts anything. -/
theorem State.writeField_cases (s : State) (r : RegAt) (new old : Word64) (f : FieldSpec) :
    s.writeField r new old f = old ∨ ∃ x, s.writeField r new old f = fieldPut old f.lo f.w x := by
  unfold State.writeField
  extract_lets x locked
  cases f.acc with
  | ro | wo => exact .inl rfl
  | rw1c => exact .inr ⟨_, rfl⟩
  | rwl | rw | rws => dsimp only; split; exacts [.inl rfl, .inr ⟨_, rfl⟩]

/-- A write of one field leaves the bits of every other. -/
theorem State.fieldOf_writeField_ne (s : State) (r : RegAt) (new old : Word64) {f g : FieldSpec} (h : f.lo + f.w ≤ g.lo ∨ g.lo + g.w ≤ f.lo) :
    fieldOf (s.writeField r new old f) g.lo g.w = fieldOf old g.lo g.w := by
  rcases s.writeField_cases r new old f with e | ⟨x, e⟩
  · rw [e]
  · rw [e, fieldOf_put_ne _ _ _ _ _ _ h]

/-- A write of one field outside the PART blocks sets it as its access code says. -/
theorem State.fieldOf_writeField_same (s : State) {r : RegAt} (hb : r.blk ≠ .part) (new old : Word64) {f : FieldSpec} (hw : f.lo + f.w ≤ 64) :
    fieldOf (s.writeField r new old f) f.lo f.w = s.fieldWritten r.spec new old f := by
  have hput : ∀ u : Word64, fieldOf (fieldPut old f.lo f.w (fieldOf u f.lo f.w)) f.lo f.w = fieldOf u f.lo f.w := fun u => by
    rw [fieldOf_put_same _ _ _ _ hw, Nat.mod_eq_of_lt (fieldOf_lt u f.lo f.w)]
  have hfree : s.fieldFrozen r f = false := by simp [State.fieldFrozen, hb]
  unfold State.writeField State.fieldWritten
  extract_lets x locked
  cases f.acc with
  | ro | wo => rfl
  | rw1c => exact hput _
  | rwl =>
    by_cases hl : s.g fGLOBAL_LOCK_SETUP = 1 <;> cases ha : fieldAccepts r.spec f x <;> simp [locked, hl, x, hput]
  | rw | rws => cases ha : fieldAccepts r.spec f x <;> simp [hfree, x, hput]

/-- What a field holds after a write depends, of the old word, on the field alone. -/
theorem State.fieldWritten_congr (s : State) (r : RegSpec) (new : Word64) {u v : Word64} {f : FieldSpec}
    (h : fieldOf u f.lo f.w = fieldOf v f.lo f.w) : s.fieldWritten r new u f = s.fieldWritten r new v f := by
  unfold State.fieldWritten
  rw [h, fieldOf_clear_congr h]

/-- Fields written one after another leave a field apart from all of them. -/
theorem State.fieldOf_writeFields_ne (s : State) (r : RegAt) (new : Word64) (f : FieldSpec) (fs : List FieldSpec)
    (h : ∀ g ∈ fs, f.lo + f.w ≤ g.lo ∨ g.lo + g.w ≤ f.lo) (old : Word64) :
    fieldOf (fs.foldl (fun v g => s.writeField r new v g) old) f.lo f.w = fieldOf old f.lo f.w := by
  induction fs generalizing old with
  | nil => rfl
  | cons g fs ih =>
    rw [List.foldl_cons, ih (fun k hk => h k (List.mem_cons_of_mem _ hk)), s.fieldOf_writeField_ne r new old (h g (List.mem_cons_self ..)).symm]

/-- Fields that are apart, written one after another, are each set as their access code says. -/
theorem State.fieldOf_writeFields (s : State) {r : RegAt} (hb : r.blk ≠ .part) (new : Word64) (fs : List FieldSpec) (h : fieldsApart fs)
    (old : Word64) : ∀ f ∈ fs, fieldOf (fs.foldl (fun v g => s.writeField r new v g) old) f.lo f.w = s.fieldWritten r.spec new old f := by
  induction fs generalizing old with
  | nil => intro f hf; cases hf
  | cons g fs ih =>
    obtain ⟨hw, hp⟩ := h
    obtain ⟨hg, hp⟩ := List.pairwise_cons.mp hp
    intro f hf
    rw [List.foldl_cons]
    rcases List.mem_cons.mp hf with rfl | hf'
    · rw [s.fieldOf_writeFields_ne r new f fs hg, s.fieldOf_writeField_same hb new old (hw f hf)]
    · rw [ih ⟨fun k hk => hw k (List.mem_cons_of_mem _ hk), hp⟩ _ f hf']
      exact s.fieldWritten_congr r.spec new (s.fieldOf_writeField_ne r new old (hg f hf'))

/-! ### Registers whose writes set fields and do nothing else -/

/-- Only the register written has changed. -/
theorem onlyRegs_setReg (s : State) (a : Nat) (v : Word64) : OnlyRegs s (s.setReg a v) [a] :=
  ⟨rfl, fun _ hb => s.reg_setReg_ne (fun e => hb (List.mem_singleton.mpr e.symm)) v⟩

theorem onlyRegs_refl (s : State) (named : List Nat) : OnlyRegs s s named := ⟨rfl, fun _ _ => rfl⟩

/-- Registers of the PART blocks whose writes act. -/
def partActionRegs : List String := ["PART_CTRL", "PART_FW_RECORD", "PART_CIRCUIT", "PART_PAIR", "PART_LAT_CFG", "PART_INTAKE_IDX"]

/-- They stand in no other block. -/
theorem blockRegs_partActionRegs {b : Block} (hb : b ≠ .part) : ∀ r ∈ blockRegs b, r.name ∉ partActionRegs := by
  revert hb
  cases b <;> decide

/-- A write of a register that is not listed among those that act triggers nothing. -/
theorem State.trigger_plain (s old : State) (r : RegAt) (v : Word64) (ha : r.spec.name ∉ actionRegs) (hp : r.spec.name ∉ partActionRegs) :
    s.trigger old r v = s := by
  simp only [actionRegs, densCtrRegs, partActionRegs, List.cons_append, List.nil_append, List.mem_cons, List.not_mem_nil, or_false, not_or] at ha hp
  simp only [State.trigger, ha, hp, or_false, if_false]

/-- A write of a register outside the PART blocks that does not act replaces its word, field by field. -/
theorem State.writeReg_plain (s : State) {addr : Nat} {r : RegAt} (v : Word64) (hr : findReg addr = some r) (hb : r.blk ≠ .part)
    (ha : r.spec.name ∉ actionRegs) : s.writeReg addr v = s.setReg addr (s.writtenWord r (s.reg addr) v) := by
  have hp := blockRegs_partActionRegs hb r.spec (findReg_some hr).1
  have hd : densCtrRegs.any (fun x => x == r.spec.name) = false := by
    rw [List.any_eq_false]
    exact fun x hx e => ha (List.mem_append_right _ (beq_iff_eq.mp e ▸ hx))
  have ht := (s.setReg addr (s.writtenWord r (s.reg addr) v)).trigger_plain s r v ha hp
  simp only [actionRegs, partActionRegs, List.cons_append, List.mem_cons, not_or] at ha hp
  unfold State.writeReg
  rw [hr]
  simp only [ha, hp, hd, hb, ht, false_and, if_false, reduceCtorEq]

/-- A 64-bit write of an aligned register in a module that runs. -/
theorem exec_registerWrite (s : State) (addr : Nat) (val : Word64) (hl : s.live = true) (hw : WellFormed (.registerWrite addr 8 val) = true)
    (ha : addr % 8 = 0) : exec (.registerWrite addr 8 val) s = .next (s.writeReg addr val) := by
  have e : s.registerWrite addr 8 val = s.writeReg addr val := if_pos ⟨rfl, ha⟩
  rw [← e]
  exact s.answer_live _ _ _ hl hw

/-- Every register stands at an aligned offset. -/
theorem findReg_aligned {a : Nat} {r : RegAt} (h : findReg a = some r) : a % 8 = 0 := by
  have hregs : ∀ b, ∀ q ∈ blockRegs b, q.off % 8 = 0 ∧ q.stride % 8 = 0 := fun b => by cases b <;> decide
  have hbase : ∀ b i, blockBase b i % 8 = 0 := fun b i => by cases b <;> simp only [blockBase] <;> omega
  obtain ⟨hmem, e⟩ := findReg_some h
  obtain ⟨hoff, hstride⟩ := hregs r.blk r.spec hmem
  have hidx : r.spec.stride * r.idx % 8 = 0 := by rw [Nat.mul_mod, hstride, Nat.zero_mul, Nat.zero_mod]
  have := hbase r.blk r.inst
  omega

/-- The register of the log's indexes. -/
theorem findReg_logIdx : findReg (fldAddr fREL_LOG_IDX_HEAD 0 0) = some ⟨.global, 0, specREL_LOG_IDX, 0⟩ := by decide

/-- The counters of bank conflicts of a plate. -/
theorem findReg_trayConf {p b : Nat} (hp : p < 128) (hb : b < 64) : findReg (fldAddr fTRAY_CONF_WAITS p b) = some ⟨.plate, p, specTRAY_CONF, b⟩ := by
  have hoff : ∀ b, b < 64 → regAtOff (0x400 + 8 * b) (blockRegs .plate) = some (specTRAY_CONF, b) := by decide
  have e : fldAddr fTRAY_CONF_WAITS p b = blockBase .plate p + (0x400 + 8 * b) := Nat.add_assoc ..
  rw [e, findReg_base (b := .plate) hp (by show _ < 0x10000; omega), hoff b hb]
  rfl

/-- The word that a write of TRAY_CONF leaves: the value, and OVF where it is the counter's maximum. -/
def trayConfWord (val : Word64) : Word64 :=
  fieldPut (fieldPut 0 0 48 (fieldOf val 0 48)) 63 1 (if fieldOf val 0 48 = 2 ^ 48 - 1 then 1 else 0)

theorem State.writeReg_trayConf (s : State) {addr : Nat} {r : RegAt} (v : Word64) (hr : findReg addr = some r)
    (hn : r.spec.name = "TRAY_CONF") : s.writeReg addr v = s.setReg addr (trayConfWord v) := by
  unfold State.writeReg trayConfWord
  simp only [hr, hn, densCtrRegs, List.any_cons, List.any_nil, String.reduceEq, String.reduceBEq, Bool.or_false, if_true, if_false, Bool.false_eq_true]

theorem State.writeReg_logIdx (s : State) {addr : Nat} {r : RegAt} (v : Word64) (hr : findReg addr = some r)
    (hn : r.spec.name = "REL_LOG_IDX") : s.writeReg addr v = s.logHead (fieldOf v fREL_LOG_IDX_HEAD.lo fREL_LOG_IDX_HEAD.w) := by
  unfold State.writeReg
  simp only [hr, hn, String.reduceEq, if_true, if_false]

/-- R422: a write of the log's HEAD: TAIL stays, and so does HEAD where the value would pass TAIL. -/
theorem logHead_sets (s : State) (h : Nat) (hh : h < 2 ^ 32) :
    OnlyRegs s (s.logHead h) [fldAddr fREL_LOG_IDX_HEAD 0 0] ∧ (s.logHead h).g fREL_LOG_IDX_TAIL = s.g fREL_LOG_IDX_TAIL ∧
    (s.logHead h).g fREL_LOG_IDX_HEAD =
      if sub32 (s.g fREL_LOG_IDX_TAIL) (s.g fREL_LOG_IDX_HEAD) < sub32 h (s.g fREL_LOG_IDX_HEAD) then s.g fREL_LOG_IDX_HEAD else h := by
  unfold State.logHead
  dsimp only
  split
  · exact ⟨onlyRegs_refl s _, rfl, rfl⟩
  · refine ⟨onlyRegs_setReg s _ _, s.get_put_ne _ _ _ _ _ _ _ (.inr (by decide)), ?_⟩
    exact (s.get_put_same fREL_LOG_IDX_HEAD 0 0 h (by decide)).trans (Nat.mod_eq_of_lt hh)

theorem trayConfWord_fields (val : Word64) :
    fieldOf (trayConfWord val) 0 48 = fieldOf val 0 48 ∧ fieldOf (trayConfWord val) 63 1 = if fieldOf val 0 48 = 2 ^ 48 - 1 then 1 else 0 := by
  unfold trayConfWord
  constructor
  · rw [fieldOf_put_ne _ _ _ _ _ _ (by decide), fieldOf_put_same _ _ _ _ (by decide), Nat.mod_eq_of_lt (fieldOf_lt val 0 48)]
  · rw [fieldOf_put_same _ _ _ _ (by decide)]
    split <;> rfl

/-- R422: a write of the log's indexes moves HEAD alone. -/
theorem registerWrite_logIdx (s : State) (val : Word64) (hl : s.live = true)
    (hw : WellFormed (.registerWrite (fldAddr fREL_LOG_IDX_HEAD 0 0) 8 val) = true) :
    exec (.registerWrite (fldAddr fREL_LOG_IDX_HEAD 0 0) 8 val) s = .next (s.logHead (fieldOf val 32 32)) := by
  rw [exec_registerWrite s _ val hl hw (findReg_aligned findReg_logIdx), s.writeReg_logIdx val findReg_logIdx rfl]
  rfl

/-- A write of a plate's counter of bank conflicts. -/
theorem registerWrite_trayConf (s : State) {p b : Nat} (hp : p < 128) (hb : b < 64) (val : Word64) (hl : s.live = true) :
    exec (.registerWrite (fldAddr fTRAY_CONF_WAITS p b) 8 val) s = .next (s.setReg (fldAddr fTRAY_CONF_WAITS p b) (trayConfWord val)) := by
  have e : fldAddr fTRAY_CONF_WAITS p b = 0x0F0010000000 + p * 0x10000 + 0x400 + 8 * b := rfl
  have hw : WellFormed (.registerWrite (fldAddr fTRAY_CONF_WAITS p b) 8 val) = true := by
    show decide (0x0F0000000000 ≤ fldAddr fTRAY_CONF_WAITS p b ∧ fldAddr fTRAY_CONF_WAITS p b < 2 ^ 48) = true
    exact decide_eq_true (by omega)
  rw [exec_registerWrite s _ val hl hw (findReg_aligned (findReg_trayConf hp hb)), s.writeReg_trayConf val (findReg_trayConf hp hb) rfl]

/-- Settles O10: HEAD of the log, TRAY_CONF, and every register that a write does no more to than set its fields. -/
theorem registerWriteFollowsAccessCodes : Obligations.RegisterWriteFollowsAccessCodes := by
  unfold Obligations.RegisterWriteFollowsAccessCodes
  refine ⟨fun s val hl hw => ?_, fun s p b val hl hp hb => ?_, fun s addr r val hl hw hr hb ha => ?_⟩
  · exact ⟨_, registerWrite_logIdx s val hl hw, logHead_sets s _ (fieldOf_lt val 32 32)⟩
  · refine ⟨_, registerWrite_trayConf s hp hb val hl, onlyRegs_setReg s _ _, ?_⟩
    obtain ⟨hval, hovf⟩ := trayConfWord_fields val
    have hsame : fldAddr fTRAY_CONF_OVF p b = fldAddr fTRAY_CONF_WAITS p b := rfl
    rw [State.get, State.get, hsame, State.reg_setReg_same]
    exact ⟨hval, hovf⟩
  · have ha' : r.spec.name ∉ actionRegs := fun hm => by simpa using List.all_eq_true.mp ha _ hm
    refine ⟨_, exec_registerWrite s addr val hl hw (findReg_aligned hr), ?_⟩
    rw [s.writeReg_plain val hr hb ha']
    refine ⟨onlyRegs_setReg s _ _, fun f hf => ?_⟩
    rw [State.reg_setReg_same]
    exact s.fieldOf_writeFields hb val _ (blockRegs_fieldsApart r.blk r.spec (findReg_some hr).1) (s.reg addr) f hf

end Sys2Proof.Machine
end

section
/-! Messages that arrive and are answered, and register accesses that are ignored: O9. -/

namespace Sys2Proof.Machine

/-! ### Lanes, and a message that leaves at once (R28, R29) -/

@[simp] theorem State.lane_setLane_same (s : State) (link k : Nat) (up : Bool) (l : UcieLane) : (s.setLane link k up l).lane link k up = l :=
  smapGet_set_same _ _ _ _

theorem State.lane_setLane_ne (s : State) {link k link' k' : Nat} {up up' : Bool} (h : laneKey link k up ≠ laneKey link' k' up') (l : UcieLane) :
    (s.setLane link k up l).lane link' k' up' = s.lane link' k' up' := smapGet_set_ne _ h _ _

/-- The module for a message is an active one of its link. -/
theorem State.moduleFor_active {s : State} {link cls addr k : Nat} (h : s.moduleFor link cls addr = some k) : k ∈ s.activeModules link := by
  unfold State.moduleFor at h
  dsimp only at h
  split at h
  · exact List.mem_of_mem_head? h
  · exact List.mem_of_getElem? h

/-- An active module has its bit in GLOBAL_UCIE_STAT.ACTIVE, and its number is below 24. -/
theorem State.mem_activeModules {s : State} {link k : Nat} (h : k ∈ s.activeModules link) :
    k < 24 ∧ (s.get fGLOBAL_UCIE_STAT_ACTIVE 0 link).testBit k = true := by
  obtain ⟨hr, hb⟩ := List.mem_filter.mp h
  have := List.mem_range.mp hr
  refine ⟨?_, hb⟩
  split at this <;> omega

/-- The only message of a lane is the next one, where its class has credit for its cells. -/
theorem UcieLane.next_single (l : UcieLane) (m : UcieMsg) (ho : l.outbox = [m]) (hd : m.delivered = false) (hc : m.hdr.cls < 3)
    (hcr : cellsOf m.hdr ≤ l.credit m.hdr.cls) : l.next = some 0 := by
  have hcls : m.hdr.cls = 0 ∨ m.hdr.cls = 1 ∨ m.hdr.cls = 2 := by omega
  unfold UcieLane.next UcieLane.classes
  rw [ho]
  rcases hcls with h | h | h <;> rw [h] at hcr <;> split <;>
    simp [List.findSome?, List.findIdx?_cons, hd, h, hcr]

/-- R28, R29: a message that its module takes at once leaves on it; nothing but the lanes and what was sent has changed. -/
theorem State.ucieSend_of_sendsOn {s : State} {link : Nat} {up : Bool} {h : UcieHdr} {k : Nat} (data : List Byte) (hs : s.sendsOn link up h k)
    (hc : h.cls < 3) : ∃ u, s.ucieSend link up h data = { s with ucie := u, out := s.out ++ [.ucie link k up h data] } := by
  obtain ⟨hm, ho, hr, -, hcr⟩ := hs
  let m : UcieMsg := { hdr := h, data := data, resends := 0, delivered := false }
  let l : UcieLane := { s.lane link k up with outbox := [m] }
  have hput : s.ucieSend link up h data = (s.setLane link k up l).pumpUcie link k up := by
    simp only [State.ucieSend, hm, ho, List.nil_append, l, m]
  have hbit : ((s.setLane link k up l).get fGLOBAL_UCIE_STAT_ACTIVE 0 link).testBit k = true := (mem_activeModules (moduleFor_active hm)).2
  have hret : l.retraining = false := hr
  have hnext : l.next = some 0 := l.next_single m rfl rfl hc hcr
  have hfirst : l.outbox[0]? = some m := rfl
  have hlen : l.outbox.length = 1 := rfl
  refine ⟨((s.setLane link k up l).setLane link k up (l.start 0 m)).ucie, ?_⟩
  rw [hput, State.pumpUcie, State.lane_setLane_same, hlen]
  simp only [State.pumpLane, State.lane_setLane_same, hbit, hret, hnext, hfirst, Bool.not_true, Bool.or_self, Bool.false_eq_true, if_false]
  rfl

/-! ### Messages that arrive and are answered (R27, R29, R31) -/

/-- A header that is acted on puts a message into its lane's buffer and returns its cells. -/
theorem State.arrive_of_accepts {s : State} {p : UciePort} {h : UcieHdr} (ha : s.accepts p h) :
    ∃ l o, s.arrive p h = ((s.setLane p.link p.module p.up l).emit o, true) := by
  obtain ⟨hal, hlost, hrep⟩ := ha
  unfold State.arrive
  simp only [hal, hlost, hrep, Bool.not_true, Bool.false_eq_true, if_false]
  exact ⟨_, _, rfl⟩

/-- The two directions of the modules of a link have lanes of their own. -/
theorem laneKey_back {link k module : Nat} (hk : k < 24) (hm : module < 24) (up : Bool) : laneKey link module up ≠ laneKey link k (!up) := by
  cases up <;> simp only [laneKey, Bool.not_true, Bool.not_false, Bool.false_eq_true, if_true, if_false] <;> omega

/-- A port that the engine has names a module below 24. -/
theorem module_lt_of_wfPort {p : UciePort} (h : wfPort p = true) : p.module < 24 := by
  obtain ⟨-, hm⟩ := of_decide_eq_true h
  split at hm <;> omega

/-- A header that keeps alignment has one of the three classes. -/
theorem cls_lt_of_hdrLost {h : UcieHdr} (hl : hdrLost h = false) : h.cls < 3 := by
  have := of_decide_eq_false hl
  omega

/-- What sending on the lanes that lead away from port `p` depends on: the active modules of the port's link, and those lanes. -/
def sameBack (s t : State) (p : UciePort) : Prop :=
  t.get fGLOBAL_UCIE_STAT_ACTIVE 0 p.link = s.get fGLOBAL_UCIE_STAT_ACTIVE 0 p.link ∧
  ∀ k, k < 24 → t.lane p.link k (!p.up) = s.lane p.link k (!p.up)

theorem sameBack.activeModules {s t : State} {p : UciePort} (e : sameBack s t p) : t.activeModules p.link = s.activeModules p.link := by
  simp only [State.activeModules, e.1]

theorem sameBack.sendsOn {s t : State} {p : UciePort} (e : sameBack s t p) {h : UcieHdr} {k : Nat} (hs : s.sendsOn p.link (!p.up) h k) :
    t.sendsOn p.link (!p.up) h k := by
  have hk := (State.mem_activeModules (State.moduleFor_active hs.1)).1
  have hm : t.moduleFor p.link h.cls h.addr = s.moduleFor p.link h.cls h.addr := by simp only [State.moduleFor, e.activeModules]
  unfold State.sendsOn
  rw [hm, e.2 k hk]
  exact hs

/-- An arrival leaves the lanes that lead away from its port as they are. -/
theorem State.sameBack_arrive {s : State} {p : UciePort} {h : UcieHdr} (hp : wfPort p = true) (ha : s.accepts p h) : sameBack s (s.arrive p h).1 p := by
  obtain ⟨l, o, e⟩ := arrive_of_accepts ha
  rw [e]
  exact ⟨rfl, fun k hk => s.lane_setLane_ne (laneKey_back hk (module_lt_of_wfPort hp) p.up) l⟩

/-- What an arrival leaves alone: everything but the lanes and what was sent. -/
theorem State.arrive_frame {s : State} {p : UciePort} {h : UcieHdr} (ha : s.accepts p h) :
    (s.arrive p h).2 = true ∧ (s.arrive p h).1 = { s with ucie := (s.arrive p h).1.ucie, out := (s.arrive p h).1.out } := by
  obtain ⟨l, o, e⟩ := arrive_of_accepts ha
  rw [e]
  exact ⟨rfl, rfl⟩

/-- The answer to a message leaves on the module that takes it at once. -/
theorem State.replyOn_back {s : State} {p : UciePort} {h : UcieHdr} {k : Nat} (data : List Byte) (hs : s.sendsOn p.link (!p.up) h k)
    (hc : h.cls < 3) : ∃ u, s.replyOn (backPort p) h data = { s with ucie := u, out := s.out ++ [.ucie p.link k (!p.up) h data] } :=
  ucieSend_of_sendsOn data hs hc

/-- A message that is answered at once, and does nothing else, changes the lanes and what was sent. -/
theorem State.reply_to_arrival {s : State} {p : UciePort} {h a : UcieHdr} {k : Nat} (data : List Byte) (hp : wfPort p = true) (ha : s.accepts p h)
    (hs : s.sendsOn p.link (!p.up) a k) (hc : a.cls = h.cls) :
    let t := (s.arrive p h).1.replyOn (backPort p) a data
    t.out.getLast? = some (.ucie p.link k (!p.up) a data) ∧ t = { s with ucie := t.ucie, out := t.out } := by
  obtain ⟨u, e⟩ := replyOn_back data ((sameBack_arrive hp ha).sendsOn hs) (hc ▸ cls_lt_of_hdrLost ha.2.1)
  obtain ⟨-, hframe⟩ := arrive_frame ha
  rw [e]
  refine ⟨List.getLast?_concat .., ?_⟩
  rw [hframe]

/-! ### Accesses of registers by message (R6) -/

/-- No register address lies in memory or in a doorbell page. -/
theorem not_isMemory_of_regs {a : Nat} (ha : regionRegs ≤ a) (n : Nat) : isMemory a n = false ∧ isDoorbell a = false := by
  have h : isHbm a = false ∧ isDrawer a = false ∧ isTray a = false ∧ isDoorbell a = false := by
    unfold regionRegs at ha
    unfold isHbm isDrawer isTray isDoorbell drawerBase trayBase doorbellBase
    refine ⟨decide_eq_false ?_, decide_eq_false ?_, decide_eq_false ?_, decide_eq_false ?_⟩ <;> omega
  obtain ⟨hh, hd, ht, hb⟩ := h
  exact ⟨by simp only [isMemory, hh, hd, ht, Bool.false_and, Bool.or_self], hb⟩

/-- R6: a read of registers by a message is answered with zeros. -/
theorem State.recvRead_regs {s : State} {p : UciePort} {h : UcieHdr} (ha : s.accepts p h) (hr : regionRegs ≤ h.addr)
    (hg : s.msgGranted h (16 * (h.word % 65536)) true = true) :
    s.recvRead p h = some ((s.arrive p h).1.sendCpl p h false (List.replicate (16 * (h.word % 65536)) 0)) := by
  obtain ⟨hmem, hdb⟩ := not_isMemory_of_regs hr (16 * (h.word % 65536))
  unfold State.recvRead
  simp only [(arrive_frame ha).1, hg, hmem, hdb, hr, Bool.not_true, Bool.false_eq_true, if_false, if_true]

/-- A well-formed read in a module that runs does what its receiver does. -/
theorem exec_rdReq {s u : State} {p : UciePort} {h : UcieHdr} (hl : s.live = true) (hw : WellFormed (.rdReq p h) = true)
    (hr : s.recvRead p h = some u) : exec (.rdReq p h) s = .next u := by
  show s.answerAt "RD_REQ" (WellFormed (.rdReq p h)) h.addr (s.recvRead p h) = _
  rw [hw, hr]
  simp only [State.answerAt, hl, if_true]

theorem wfPort_of_rdReq {p : UciePort} {h : UcieHdr} (hw : WellFormed (.rdReq p h) = true) : wfPort p = true := by
  have hw' : (wfPort p && wfHdr h 1 && decide (h.len = 0 ∧ 1 ≤ h.word % 65536 ∧ h.word % 65536 ≤ 256)) = true := hw
  rw [Bool.and_eq_true, Bool.and_eq_true] at hw'
  exact hw'.1.1

/-- R6: a register write of another size, at another alignment or where no register stands is ignored. -/
theorem exec_registerWrite_ignored {s : State} {addr size : Nat} {val : Word64} (hl : s.live = true)
    (hw : WellFormed (.registerWrite addr size val) = true) (h : size ≠ 8 ∨ addr % 8 ≠ 0 ∨ findReg addr = none) :
    exec (.registerWrite addr size val) s = .next s := by
  have e : s.registerWrite addr size val = s := by
    unfold State.registerWrite
    split
    · next hok =>
      have hn := (h.resolve_left (not_not.mpr hok.1)).resolve_left (not_not.mpr hok.2)
      simp only [State.writeReg, hn]
    · rfl
  have hn : exec (.registerWrite addr size val) s = .next (s.registerWrite addr size val) := s.answer_live _ _ _ hl hw
  rw [hn, e]

/-- Settles O9: registers stand at aligned offsets, other writes are ignored, and other reads, by messages too, give 0. -/
theorem registerAccessOfAnotherSizeOrPlaceIsIgnored : Obligations.RegisterAccessOfAnotherSizeOrPlaceIsIgnored := by
  unfold Obligations.RegisterAccessOfAnotherSizeOrPlaceIsIgnored
  refine ⟨fun _ _ hr => findReg_aligned hr, fun s addr size val hl hw h => exec_registerWrite_ignored hl hw h, fun s addr hn => ?_,
    fun s p h k hl hw ha hr hg hs => ?_⟩
  · have hne : addr ≠ fldAddr fSEC_NONCE_NONCE 0 0 := by
      rintro rfl
      exact absurd hn (by decide)
    simp only [State.readReg, hne, if_false, State.readWord, hn]
  · refine ⟨_, exec_rdReq hl hw (State.recvRead_regs ha hr hg), ?_⟩
    have hlen : (List.replicate (16 * (h.word % 65536)) 0).length / 16 = h.word % 65536 := by
      rw [List.length_replicate, Nat.mul_div_cancel_left _ (by decide)]
    unfold State.sendCpl
    rw [hlen]
    exact State.reply_to_arrival _ (wfPort_of_rdReq hw) ha hs rfl

end Sys2Proof.Machine
end

section
/-! Reads of memory by message, and the tags of blocks: O7. -/

namespace Sys2Proof.Machine

/-! ### CRC-32C tells apart two blocks that differ in a leading part alone (R26, R169) -/

/-- One bit of CRC-32C. -/
def crcBit (x : Nat) : Nat := if x % 2 = 1 then (x / 2) ^^^ 0x82F63B78 else x / 2

theorem crcByte_eq (c b : Nat) : crcByte c b = (List.range 8).foldl (fun x _ => crcBit x) (c ^^^ (b % 256)) := rfl

theorem crcBit_lt {x : Nat} (h : x < 2 ^ 32) : crcBit x < 2 ^ 32 := by
  unfold crcBit
  split
  · exact Nat.xor_lt_two_pow (by omega) (by decide)
  · omega

/-- The highest bit of the result says whether the lowest bit was set, so nothing is lost. -/
theorem crcBit_inj {x y : Nat} (hx : x < 2 ^ 32) (hy : y < 2 ^ 32) (h : crcBit x = crcBit y) : x = y := by
  have top : ∀ z, z < 2 ^ 32 → (crcBit z).testBit 31 = decide (z % 2 = 1) := fun z hz => by
    have hz31 : (z / 2).testBit 31 = false := Nat.testBit_lt_two_pow (by omega)
    unfold crcBit
    split
    · next h1 => rw [Nat.testBit_xor, hz31, decide_eq_true h1]; decide
    · next h1 => rw [hz31, decide_eq_false h1]
  have hpar : (x % 2 = 1) ↔ (y % 2 = 1) := by
    rw [← decide_eq_decide, ← top x hx, ← top y hy, h]
  unfold crcBit at h
  by_cases h1 : x % 2 = 1
  · rw [if_pos h1, if_pos (hpar.mp h1), Nat.xor_left_inj] at h
    omega
  · rw [if_neg h1, if_neg (fun e => h1 (hpar.mpr e))] at h
    omega

theorem crcBits_lt_inj (l : List Nat) : ∀ {x y : Nat}, x < 2 ^ 32 → y < 2 ^ 32 →
    l.foldl (fun z _ => crcBit z) x < 2 ^ 32 ∧ (l.foldl (fun z _ => crcBit z) x = l.foldl (fun z _ => crcBit z) y → x = y) := by
  induction l with
  | nil => exact fun hx _ => ⟨hx, id⟩
  | cons _ l ih => exact fun hx hy => ⟨(ih (crcBit_lt hx) (crcBit_lt hy)).1, fun h => crcBit_inj hx hy ((ih (crcBit_lt hx) (crcBit_lt hy)).2 h)⟩

theorem crcByte_lt {c : Nat} (b : Nat) (h : c < 2 ^ 32) : crcByte c b < 2 ^ 32 := by
  have hx : c ^^^ (b % 256) < 2 ^ 32 := Nat.xor_lt_two_pow h (by omega)
  exact (crcBits_lt_inj _ hx hx).1

theorem crcByte_inj {c d b : Nat} (hc : c < 2 ^ 32) (hd : d < 2 ^ 32) (h : crcByte c b = crcByte d b) : c = d :=
  Nat.xor_left_inj.mp ((crcBits_lt_inj _ (Nat.xor_lt_two_pow hc (by omega)) (Nat.xor_lt_two_pow hd (by omega))).2 h)

theorem crcBytes_lt (bs : List Nat) {c : Nat} (h : c < 2 ^ 32) : bs.foldl crcByte c < 2 ^ 32 := by
  induction bs generalizing c with
  | nil => exact h
  | cons b bs ih => exact ih (crcByte_lt b h)

theorem crcBytes_inj (bs : List Nat) {c d : Nat} (hc : c < 2 ^ 32) (hd : d < 2 ^ 32) (h : bs.foldl crcByte c = bs.foldl crcByte d) : c = d := by
  induction bs generalizing c d with
  | nil => exact h
  | cons b bs ih => exact crcByte_inj hc hd (ih (crcByte_lt b hc) (crcByte_lt b hd) h)

/-- Where the running values after two leading parts differ, so do the CRCs of the whole. -/
theorem crc32c_append_ne {as bs : List Nat} (h : as.foldl crcByte 0xFFFFFFFF ≠ bs.foldl crcByte 0xFFFFFFFF) (cs : List Nat) :
    crc32c (as ++ cs) ≠ crc32c (bs ++ cs) := by
  unfold crc32c
  rw [List.foldl_append, List.foldl_append, Ne, Nat.xor_left_inj]
  exact fun e => h (crcBytes_inj cs (crcBytes_lt as (by decide)) (crcBytes_lt bs (by decide)) e)

/-! ### Reads of memory by message (R27, R321) -/

theorem State.bytes_append (s : State) (a m n : Nat) : s.bytes a (m + n) = s.bytes a m ++ s.bytes (a + m) n := by
  simp only [State.bytes, List.range_add, List.map_append, List.map_map]
  congr 2
  funext i
  simp only [Function.comp, Nat.add_assoc]

/-- Bytes that each read 0. -/
theorem State.bytes_zero {s : State} {a n : Nat} (h : ∀ i, i < n → s.mem.get (a + i) = 0) : s.bytes a n = List.replicate n 0 := by
  refine List.eq_replicate_iff.mpr ⟨by simp [State.bytes], fun b hb => ?_⟩
  obtain ⟨i, hi, rfl⟩ := List.mem_map.mp hb
  rw [State.byte, h i (List.mem_range.mp hi)]
  rfl

/-- Sending leaves every register as it is. -/
theorem State.pumpLane_regs (s : State) (link module : Nat) (up : Bool) (fuel : Nat) : (s.pumpLane link module up fuel).regs = s.regs := by
  induction fuel generalizing s with
  | zero => rfl
  | succ fuel ih =>
    unfold State.pumpLane
    dsimp only
    split
    · rfl
    · split
      · rfl
      · split
        · rfl
        · exact ih _

theorem State.ucieSend_regs (s : State) (link : Nat) (up : Bool) (h : UcieHdr) (data : List Byte) : (s.ucieSend link up h data).regs = s.regs := by
  unfold State.ucieSend
  split
  · rfl
  · exact State.pumpLane_regs ..

@[simp] theorem State.get_sendCpl (s : State) (p : UciePort) (h : UcieHdr) (poison : Bool) (bs : List Nat) (f : Fld) (i j : Nat) :
    (s.sendCpl p h poison bs).get f i j = s.get f i j := by
  simp only [State.get, State.reg, State.sendCpl, State.replyOn, State.ucieSend_regs]

/-- A read of memory whose banks are AWAKE is counted, its lines are noted, and its data sent. -/
theorem State.serveRead_awake {s : State} {p : UciePort} {h : UcieHdr} {n : Nat} (hn : 16 * (h.word % 65536) = n) (hs : s.sleepAt h.addr n = none) :
    let r := (s.countRead p h.addr n).noteMsgRead (if h.flags.testBit 3 then 16 else h.part) h.addr n
    s.serveRead p h = r.2.sendCpl p h r.1 (s.bytes h.addr n) := by
  subst hn
  simp only [State.serveRead, hs]

/-- A read of the Drawer is counted there. -/
theorem State.countRead_drawer (s : State) (p : UciePort) {a : Nat} (n : Nat) (hh : isHbm a = false) (hd : isDrawer a = true) :
    s.countRead p a n = s.dens 186 1 n := by
  simp only [State.countRead, hh, hd, Bool.false_eq_true, if_false, if_true]

/-- R321: a read of lines without error is good, unless it is of a whole block that differs from its tag. -/
theorem State.noteMsgRead_good {s : State} {n a len : Nat} (h : ∀ l ∈ linesOf a len, s.lineErrOf l = .good ∧ s.stackOffline l = false) :
    s.noteMsgRead n a len = if len = 4096 ∧ a % 4096 = 0 ∧ s.tagBroken a = true then (true, s.noteUe n a) else (false, s) := by
  have hbad : (linesOf a len).filter (fun l => decide (s.lineErrOf l = .bad) || s.stackOffline l) = [] :=
    List.filter_eq_nil_iff.mpr fun l hl => by simp [h l hl]
  have hce : (linesOf a len).filter (fun l => decide (s.lineErrOf l = .corrected)) = [] :=
    List.filter_eq_nil_iff.mpr fun l hl => by simp [h l hl]
  unfold State.noteMsgRead
  simp only [hbad, hce, List.foldl_nil, List.isEmpty_nil, Bool.and_true, Bool.not_true, Bool.and_eq_true, decide_eq_true_eq, and_assoc]

/-- R319: an uncorrectable line of the Drawer is recorded in DRW_ECC_ADDR. -/
theorem State.noteUe_drawer (s : State) {n a : Nat} (ht : isTray (lineOf a) = false) (hh : isHbm (lineOf a) = false) :
    (s.noteUe n a).get fDRW_ECC_ADDR_VALID 0 0 = 1 := by
  unfold State.noteUe State.noteUeAs
  simp only [ht, hh, Bool.false_eq_true, if_false]
  rw [beside_get (beside_log _ _) _ _ _ (by decide) (by simp), State.get_put_same _ _ _ _ _ (by decide)]
  rfl

/-- A read of memory that its sender may make is served, where no STOPPED stack holds it. -/
theorem State.recvRead_memory {s : State} {p : UciePort} {h : UcieHdr} (ha : s.accepts p h)
    (hg : s.msgGranted h (16 * (h.word % 65536)) true = true) (hm : isMemory h.addr (16 * (h.word % 65536)) = true)
    (hh : s.held h.addr (16 * (h.word % 65536)) = false) : s.recvRead p h = some ((s.arrive p h).1.serveRead p h) := by
  unfold State.recvRead
  simp only [(arrive_frame ha).1, hg, hm, hh, Bool.not_true, Bool.false_eq_true, if_false, if_true]

/-! ### Logging and counting leave block tags alone (R320, R393)

The log's ring lies in the Drawer's reserved range, and no block there has a tag that a write could make STALE. -/

theorem foldl_tags {β : Type} (f : State → β → State) (hf : ∀ t b, (f t b).tags = t.tags) (bs : List β) (s : State) :
    (bs.foldl f s).tags = s.tags := by
  induction bs generalizing s with
  | nil => rfl
  | cons b bs ih => exact (ih _).trans (hf s b)

theorem State.healLines_tags (s : State) (a n : Nat) : (s.healLines a n).tags = s.tags :=
  foldl_tags _ (fun t l => by split <;> rfl) _ s

/-- A block that a range touches begins below the end of the range. -/
theorem blocksOf_lt {a n b : Nat} (h : b ∈ blocksOf a n) : b < a + n := by
  unfold blocksOf at h
  split at h
  · cases h
  · obtain ⟨i, hi, rfl⟩ := List.mem_map.mp h
    have := List.mem_range.mp hi
    have := Nat.div_mul_le_self (a + n - 1) 4096
    omega

/-- A block of the reserved range has no tag. -/
theorem State.not_tagged_of_reserved {s : State} {b : Nat} (h : b < drawerBase + s.reserved) : s.tagged b = false := by
  have hr : s.reserved < 2 ^ 38 := by
    have : s.g fGLOBAL_ZD_RSV_RSV_GIB < 2 ^ 8 := fieldOf_lt _ _ _
    unfold State.reserved
    omega
  have ht : isTray b = false := decide_eq_false (by unfold drawerBase at h; unfold trayBase; omega)
  have hd : decide (drawerBase + s.reserved ≤ b) = false := decide_eq_false (by omega)
  rw [State.tagged, ht, hd, Bool.and_false, Bool.or_false]

theorem State.staleTags_of_reserved {s : State} {a n : Nat} (h : s.inReserved a n = true) : s.staleTags a n = s := by
  obtain ⟨-, hend⟩ := of_decide_eq_true h
  unfold State.tagStore at hend
  have hnone : (blocksOf a n).filter s.tagged = [] := List.filter_eq_nil_iff.mpr fun b hb => by
    have := blocksOf_lt hb
    rw [s.not_tagged_of_reserved (by omega)]
    exact Bool.false_ne_true
  unfold State.staleTags
  rw [hnone]
  exact ite_self s

/-- The reserved range stays where it is while events are logged and counted. -/
theorem State.inReserved_of_beside {s t : State} (h : Beside s t []) (a n : Nat) : t.inReserved a n = s.inReserved a n := by
  have hrsv : t.reserved = s.reserved := congrArg (· * 2 ^ 30) (beside_get h fGLOBAL_ZD_RSV_RSV_GIB 0 0 (by decide) (by simp))
  unfold State.inReserved State.tagStore
  rw [hrsv]

theorem State.densQuiet_tags (s : State) (b ev v : Nat) : (s.densQuiet b ev v).tags = s.tags :=
  foldl_tags _ (fun t n => by dsimp only; split <;> rfl) _ s

theorem State.logWrite_tags (s : State) (e : LogEntry) : (s.logWrite e).tags = s.tags := by
  unfold State.logWrite
  extract_lets tail head size a s0 s1 s2 s3
  have h0 : s0.tags = s.tags := s.densQuiet_tags 186 6 1
  have h1 : s1.tags = s.tags := by
    show (if s.inReserved a 64 then _ else s0).tags = _
    split
    · next hin =>
      have hb : Beside s (s0.healLines a 64) [] := beside_trans (beside_densQuiet s 186 6 1 (by decide)) (beside_healLines s0 a 64) (by simp)
      have hres := State.inReserved_of_beside hb a 64
      unfold State.write
      rw [logBytes_length, State.staleTags_of_reserved (hres.trans hin)]
      exact (s0.healLines_tags a 64).trans h0
    · exact h0
  have h3 : s3.tags = s1.tags := by
    show (if _ then _ else s2).tags = _
    split <;> rfl
  exact h3.trans h1

theorem State.log_tags (s : State) (e : Ev) : (s.log e).tags = s.tags := by
  unfold State.log
  extract_lets k q t ent s1
  split
  · split <;> rfl
  · exact s1.logWrite_tags ent

theorem State.dens_tags (s : State) (b ev v : Nat) : (s.dens b ev v).tags = s.tags := by
  unfold State.dens
  split
  · rfl
  · refine foldl_tags _ (fun t n => ?_) _ s
    extract_lets sel w w' t1
    split
    · split
      · exact State.log_tags t1 _
      · rfl
    · rfl

/-! ### A read whose own count breaks the block that it reads

R11 and R30 have a good read answered with its data. Counting the read (R325) may overflow a counter, which logs an entry (R477), and the
log's ring may lie in the block being read: the entry then differs from what the block's tag was made for, and the block counts as damaged. (The ring lies in the reserved range, whose blocks get
no tag; one has a tag if the range was enlarged over it.) -/

/-- The CRC of a block of zeros. -/
def zeroCrc : Nat := crc32c (List.replicate 4096 0)

/-- The first block of the Drawer, all zeros, with a tag to match. At its start lies a log ring of one entry, and the counter of bytes read
from the Drawer stands at its maximum, with OVF_LOG. -/
def wBlock : State :=
  let s := (State.reset.put fREL_LOG_BASE 0 0 drawerBase).put fREL_LOG_LOG2 0 0 0
  ((s.setReg (densSelAddr 186 0) (BitVec.ofNat 64 1025)).setReg (densCtrAddr 186 0) (BitVec.ofNat 64 (2 ^ 48 - 1))).setTag drawerBase (.valid zeroCrc)

/-- Module 0 of link 1, toward ZD. -/
def wPort : UciePort := { link := 1, module := 0, up := true }

/-- A SYS read of the whole block. -/
def wRead : UcieHdr := { typ := 1, flags := 8, len := 0, cls := 0, part := 0, tag := 0, addr := drawerBase, word := 256 }

/-- The state once the read has arrived. -/
def wArrived : State := (wBlock.arrive wPort wRead).1

/-- The state once its bytes are counted. -/
def wCounted : State := wArrived.dens 186 1 4096

theorem wArrived_bytes (a n : Nat) : wArrived.bytes a n = List.replicate n 0 := State.bytes_zero fun _ _ => rfl

theorem wBlock_bytes (a n : Nat) : wBlock.bytes a n = List.replicate n 0 := State.bytes_zero fun _ _ => rfl

/-- Lines of the block, which are not lines of HBM or of a tray. -/
theorem wLines {l : Nat} (h : l ∈ linesOf drawerBase 4096) : isHbm l = false := by
  obtain ⟨i, -, rfl⟩ := List.mem_map.mp h
  exact decide_eq_false (by unfold drawerBase; omega)

theorem wBlock_good : ∀ l ∈ linesOf drawerBase 4096, wBlock.lineErrOf l = .good ∧ wBlock.stackOffline l = false := fun l hl =>
  ⟨rfl, by rw [State.stackOffline, wLines hl, Bool.false_and]⟩

theorem wBlock_notBroken : wBlock.tagBroken drawerBase = false := by
  have htag : wBlock.tagOf drawerBase = .valid zeroCrc := State.tagOf_set_same _ _ _
  rw [State.tagBroken, htag, wBlock_bytes]
  exact decide_eq_false (not_not.mpr rfl)

set_option maxRecDepth 10000 in
/-- The entry logged stands in the block, and changes the CRC's running value. -/
theorem wCounted_entry : (wCounted.bytes drawerBase 64).foldl crcByte 0xFFFFFFFF ≠ (List.replicate 64 0).foldl crcByte 0xFFFFFFFF := by decide

theorem wCounted_beside : Beside wArrived wCounted [] := beside_dens _ _ _ _ (by decide)

theorem wCounted_rest : wCounted.bytes (drawerBase + 64) 4032 = List.replicate 4032 0 := by
  have hbase : wArrived.g fREL_LOG_BASE = drawerBase ∧ wArrived.g fREL_LOG_LOG2 = 0 := by decide
  refine State.bytes_zero fun i _ => (wCounted_beside.2.2.1 _ ?_).trans rfl
  rw [State.inLogRing, hbase.1, hbase.2]
  exact decide_eq_false (by omega)

theorem wCounted_broken : wCounted.tagBroken drawerBase = true := by
  have htags : wCounted.tags = wBlock.tags := State.dens_tags ..
  have htag : wCounted.tagOf drawerBase = .valid zeroCrc := by
    rw [State.tagOf, htags]
    exact State.tagOf_set_same _ _ _
  have hzero : zeroCrc = crc32c (List.replicate 64 0 ++ List.replicate 4032 0) := by
    rw [List.replicate_append_replicate]
    rfl
  rw [State.tagBroken, htag]
  refine decide_eq_true ?_
  rw [hzero, show (4096 : Nat) = 64 + 4032 from rfl, State.bytes_append, wCounted_rest]
  exact crc32c_append_ne wCounted_entry _

/-- The read is served as one of uncorrectable data, which DRW_ECC_ADDR records. -/
theorem wArrived_serveRead : (wArrived.serveRead wPort wRead).get fDRW_ECC_ADDR_VALID 0 0 = 1 := by
  have hgood : ∀ l ∈ linesOf drawerBase 4096, wCounted.lineErrOf l = .good ∧ wCounted.stackOffline l = false := fun l hl =>
    ⟨beside_good wCounted_beside l rfl, by rw [State.stackOffline, wLines hl, Bool.false_and]⟩
  have hnote : wCounted.noteMsgRead 16 drawerBase 4096 = (true, wCounted.noteUe 16 drawerBase) := by
    rw [State.noteMsgRead_good hgood, if_pos ⟨rfl, by decide, wCounted_broken⟩]
  rw [State.serveRead_awake (n := 4096) rfl (by decide), State.get_sendCpl]
  show ((wArrived.countRead wPort drawerBase 4096).noteMsgRead 16 drawerBase 4096).2.get _ _ _ = 1
  rw [wArrived.countRead_drawer wPort 4096 (by decide) (by decide)]
  show (wCounted.noteMsgRead 16 drawerBase 4096).2.get _ _ _ = 1
  rw [hnote]
  exact wCounted.noteUe_drawer (n := 16) (a := drawerBase) (by decide) (by decide)

/-- Refutes O7: a read of a whole block of the Drawer, whole by its tag, whose own count overflows a counter that logs into that block: the
block no longer has its tag's CRC, and the read records an uncorrectable line in DRW_ECC_ADDR. -/
theorem not_messagesReadAndWriteMemory : ¬ Obligations.MessagesReadAndWriteMemory := by
  unfold Obligations.MessagesReadAndWriteMemory
  rintro ⟨hread, -⟩
  have ha : wBlock.accepts wPort wRead := by decide
  have hg : wBlock.msgGranted wRead 4096 true = true := by decide
  have hw : WellFormed (.rdReq wPort wRead) = true := by decide
  have hl : wBlock.live = true := by decide
  have hs : ∀ word, wBlock.sendsOn 1 false { wRead with typ := 2, flags := 0, len := 256, word := word } 0 := fun _ =>
    ⟨show wBlock.moduleFor 1 0 drawerBase = some 0 by decide, by decide, by decide, by decide,
      show 257 ≤ (wBlock.lane 1 0 false).credit 0 by decide⟩
  obtain ⟨t, ht, -, hbeside⟩ := hread wBlock wPort wRead 0 hl hw ha hg (by decide) (by decide) (by decide) wBlock_good
    (.inr wBlock_notBroken) (hs _)
  have hexec := exec_rdReq hl hw (State.recvRead_memory ha hg (by decide) (by decide))
  have hone : t.get fDRW_ECC_ADDR_VALID 0 0 = 1 := by
    rw [← Host.Outcome.next.inj (hexec.symm.trans ht)]
    exact wArrived_serveRead
  have hzero : t.get fDRW_ECC_ADDR_VALID 0 0 = 0 := (beside_get hbeside fDRW_ECC_ADDR_VALID 0 0 (by decide) (by simp)).trans
    (show wBlock.get fDRW_ECC_ADDR_VALID 0 0 = 0 by decide)
  exact absurd (hzero.symm.trans hone) (by decide)

end Sys2Proof.Machine
end

section
/-! The lock of the RWL fields, measured as it is set: O13. -/

namespace Sys2Proof.Machine

/-- R452: a change of the module's state changes PWR_STATE and logs. -/
theorem beside_setModule (s : State) (st : Nat) : Beside s (s.setModule st) [fldAddr fPWR_STATE_STATE 0 0] := by
  unfold State.setModule
  extract_lets old
  split
  · exact beside_refl s _
  · exact beside_trans (beside_put s _ _ _ _ _ (.inr (List.mem_singleton_self _))) (beside_mono (beside_log _ _) (by simp)) (by decide)

/-- R428, R429, R452: as BOOT ends, the vault takes another preferred bank and security version, and beside that SEC_STAT and PWR_STATE change. -/
theorem State.tryReady_beside (s : State) : ∃ v, v.slots = s.vault.slots ∧
    Beside { s with vault := v } s.tryReady [fldAddr fSEC_STAT_SVN 0 0, fldAddr fPWR_STATE_STATE 0 0] := by
  unfold State.tryReady
  split
  · refine ⟨{ s.vault with preferred := s.g fSEC_STAT_BOOT_BANK, svn := max s.vault.svn s.vault.fwSvn }, rfl, ?_⟩
    exact beside_trans (beside_put _ fSEC_STAT_SVN 0 0 _ _ (.inr (List.mem_cons_self ..)))
      (beside_mono (beside_setModule _ modReady) (List.subset_cons_self _ _)) (by decide)
  · exact ⟨s.vault, rfl, beside_refl s _⟩

/-- GLOBAL_LOCK lies below the SEC block. -/
theorem globalLock_lt_sec {r : RegSpec} {a : Nat} (ha : a ∈ regAddrs .sec 0 r) : fldAddr fGLOBAL_LOCK_SETUP 0 0 < a := by
  obtain ⟨j, -, rfl⟩ := List.mem_map.mp ha
  have hlt : fldAddr fGLOBAL_LOCK_SETUP 0 0 < blockBase .sec 0 := by decide
  show _ < blockBase .sec 0 + r.off + r.stride * j
  omega

/-- The SEC block's RWL fields are the same before and after GLOBAL_LOCK.SETUP is set. -/
theorem State.secRwl_put_lock (s : State) (v : Nat) : (s.put fGLOBAL_LOCK_SETUP 0 0 v).secRwl = s.secRwl := by
  unfold State.secRwl
  refine List.flatMap_congr fun r _ => List.flatMap_congr fun a ha => ?_
  rw [State.put, State.reg_setReg_ne _ (globalLock_lt_sec ha).ne]

/-- R430: extending a slot that the vault has replaces its value, and leaves every other slot. -/
theorem State.extendSlot_slots (s : State) {i : Nat} (hi : i < s.vault.slots.length) (bs : List Nat) :
    (s.extendSlot i bs).vault.slots.getD i 0 = sha512 (leBytes 64 (s.vault.slots.getD i 0) ++ leBytes 64 (sha512 bs)) ∧
    ∀ j, j ≠ i → (s.extendSlot i bs).vault.slots.getD j 0 = s.vault.slots.getD j 0 := by
  unfold State.extendSlot
  simp only [List.getD_eq_getElem?_getD]
  exact ⟨by rw [List.getElem?_set_self hi]; rfl, fun j hj => by rw [List.getElem?_set_ne (Ne.symm hj)]⟩

/-- Settles O13: the slot that the lock extends, and BOOT's end after it, which leaves the slots. -/
theorem globalLockSetsOnceAndMeasures : Obligations.GlobalLockSetsOnceAndMeasures := by
  unfold Obligations.GlobalLockSetsOnceAndMeasures
  intro s hl
  have hexec : exec .globalLockSetup s = .next s.lockSetup := s.answer_live "GLOBAL_LOCK_SETUP" _ _ hl rfl
  refine ⟨fun h0 hlen => ⟨_, hexec, ?_⟩, fun h1 => by rw [hexec, State.lockSetup, if_pos h1]⟩
  let u := (s.put fGLOBAL_LOCK_SETUP 0 0 1).extendSlot 3 s.secRwl
  have hlock : s.lockSetup = u.tryReady := by rw [State.lockSetup, if_neg (by rw [h0]; decide)]
  obtain ⟨v, hslots, hbeside⟩ := u.tryReady_beside
  obtain ⟨hsame, hothers⟩ := (s.put fGLOBAL_LOCK_SETUP 0 0 1).extendSlot_slots (i := 3) (by rw [State.put_vault, hlen]; decide) s.secRwl
  have hlocked : u.tryReady.g fGLOBAL_LOCK_SETUP = 1 :=
    (beside_get hbeside fGLOBAL_LOCK_SETUP 0 0 (by decide) (by decide)).trans (s.get_put_same fGLOBAL_LOCK_SETUP 0 0 1 (by decide))
  obtain ⟨hframe, -, hmem, -⟩ := hbeside
  have hv : u.tryReady.vault.slots = u.vault.slots := (congrArg (fun t => t.vault.slots) hframe).trans hslots
  have hring : ∀ a, (s.put fGLOBAL_LOCK_SETUP 0 0 1).inLogRing a = s.inLogRing a :=
    beside_ring (beside_put s _ _ _ _ [fldAddr fGLOBAL_LOCK_SETUP 0 0] (.inr (List.mem_singleton_self _))) (by decide)
  dsimp only
  rw [hlock, hv, State.secRwl_put_lock]
  exact ⟨hlocked, hsame, hothers, fun a ha => hmem a ((hring a).trans ha)⟩

end Sys2Proof.Machine
end

section
/-! Link events, and what a sent message costs its module: O6. -/

namespace Sys2Proof.Machine

/-! ### Both directions of a module (R24, R31) -/

theorem laneKey_ne (link module : Nat) {up up' : Bool} (h : up ≠ up') : laneKey link module up ≠ laneKey link module up' := by
  cases up <;> cases up' <;> simp_all [laneKey]

@[simp] theorem State.lane_put (s : State) (f : Fld) (i j v link k : Nat) (up : Bool) : (s.put f i j v).lane link k up = s.lane link k up := rfl
@[simp] theorem State.lane_bump (s : State) (f : Fld) (i j d link k : Nat) (up : Bool) : (s.bump f i j d).lane link k up = s.lane link k up := rfl
@[simp] theorem State.get_setLane (s : State) (link k : Nat) (up : Bool) (l : UcieLane) (f : Fld) (i j : Nat) :
    (s.setLane link k up l).get f i j = s.get f i j := rfl

/-- Both directions of a module changed alike. -/
def State.mapLanes (s : State) (link module : Nat) (f : UcieLane → UcieLane) : State :=
  [true, false].foldl (fun t up => t.setLane link module up (f (t.lane link module up))) s

@[simp] theorem State.lane_mapLanes (s : State) (link module : Nat) (f : UcieLane → UcieLane) (up : Bool) :
    (s.mapLanes link module f).lane link module up = f (s.lane link module up) := by
  unfold State.mapLanes
  rw [List.foldl_cons, List.foldl_cons, List.foldl_nil]
  cases up with
  | false => rw [lane_setLane_same, lane_setLane_ne _ (laneKey_ne link module (by decide))]
  | true => rw [lane_setLane_ne _ (laneKey_ne link module (by decide)), lane_setLane_same]

/-- Changing the lanes of a module changes no other part of the state. -/
theorem State.mapLanes_frame (s : State) (link module : Nat) (f : UcieLane → UcieLane) :
    s.mapLanes link module f = { s with ucie := (s.mapLanes link module f).ucie } := rfl

/-- R24: an active module begins a retrain in both directions. -/
theorem State.startRetrain_active {s : State} {link module : Nat} (h : (s.get fGLOBAL_UCIE_STAT_ACTIVE 0 link).testBit module = true) :
    s.startRetrain link module = s.mapLanes link module (fun l => { l with retraining := true }) := by
  rw [State.startRetrain, h]
  rfl

/-- R31: lost alignment puts both directions of an active module into retraining, and discards the receiver's stream. -/
theorem State.alignmentLost_active {s : State} {p : UciePort} (h : (s.get fGLOBAL_UCIE_STAT_ACTIVE 0 p.link).testBit p.module = true) :
    (∀ up, ((s.alignmentLost p).lane p.link p.module up).retraining = true) ∧ ((s.alignmentLost p).lane p.link p.module p.up).aligned = false := by
  unfold State.alignmentLost
  rw [startRetrain_active h]
  refine ⟨fun up => ?_, by rw [lane_setLane_same]⟩
  by_cases hu : p.up = up
  · subst hu
    rw [lane_setLane_same, lane_mapLanes]
  · rw [lane_setLane_ne _ (laneKey_ne p.link p.module hu), lane_mapLanes]

theorem State.alignmentLost_frame (s : State) (p : UciePort) : s.alignmentLost p = { s with ucie := (s.alignmentLost p).ucie } := by
  unfold State.alignmentLost State.startRetrain
  split <;> rfl

/-! ### What a lane sends (R28, R29) -/

/-- R29, R34: where no work of the ring units waits for a link, none is made. -/
theorem State.linkServe_of_linksServed {s : State} (h : s.linksServed) : s.linkServe = s := by
  obtain ⟨hctl, hfetch⟩ := h
  have he : ({ s with ctlHeld := [], fetchHeld := [] } : State) = s := by rw [← hctl, ← hfetch]
  simp only [State.linkServe, State.flushCtl, hctl, hfetch, List.foldl_nil, he]

/-- A lane that keeps no message sends none. -/
theorem State.pumpUcie_empty {s : State} {link k : Nat} {up : Bool} (h : (s.lane link k up).outbox = []) : s.pumpUcie link k up = s := by
  rw [State.pumpUcie, h]
  rfl

/-- The only message of a lane is sent where its module and its class's credit take it. -/
theorem State.pumpUcie_ready {s : State} {link k : Nat} {up : Bool} {m : UcieMsg} (ho : (s.lane link k up).outbox = [m]) (hd : m.delivered = false)
    (hc : m.hdr.cls < 3) (hb : (s.get fGLOBAL_UCIE_STAT_ACTIVE 0 link).testBit k = true) (hr : (s.lane link k up).retraining = false)
    (hcr : cellsOf m.hdr ≤ (s.lane link k up).credit m.hdr.cls) :
    s.pumpUcie link k up = (s.setLane link k up ((s.lane link k up).start 0 m)).emit (.ucie link k up m.hdr m.data) := by
  have hnext := (s.lane link k up).next_single m ho hd hc hcr
  have hfirst : (s.lane link k up).outbox[0]? = some m := by rw [ho]; rfl
  have hlen : (s.lane link k up).outbox.length = 1 := by rw [ho]; rfl
  rw [State.pumpUcie, hlen]
  simp only [State.pumpLane, hb, hr, hnext, hfirst, Bool.not_true, Bool.or_self, Bool.false_eq_true, if_false]

/-- The only message of a lane does not start without credit for all its cells. -/
theorem UcieLane.next_short {l : UcieLane} {m : UcieMsg} (ho : l.outbox = [m]) (hcr : l.credit m.hdr.cls < cellsOf m.hdr) : l.next = none := by
  refine List.findSome?_eq_none_iff.mpr fun cls _ => ?_
  rw [ho, List.findIdx?_cons]
  by_cases hm : (!m.delivered && decide (m.hdr.cls = cls)) = true
  · have hcls := of_decide_eq_true (Bool.and_eq_true_iff.mp hm).2
    rw [if_pos hm]
    exact if_neg (Nat.not_le.mpr (hcls ▸ hcr))
  · rw [if_neg hm]
    rfl

/-- R29: without credit the only message of a lane waits. -/
theorem State.pumpUcie_short {s : State} {link k : Nat} {up : Bool} {m : UcieMsg} (ho : (s.lane link k up).outbox = [m])
    (hcr : (s.lane link k up).credit m.hdr.cls < cellsOf m.hdr) : s.pumpUcie link k up = s := by
  rw [State.pumpUcie, ho]
  simp only [List.length_singleton, State.pumpLane, UcieLane.next_short ho hcr, ite_self]

/-- R28: a message is put on the module that module selection names, where none waits, and the lane then sends what it may. -/
theorem State.ucieSend_empty {s : State} {link : Nat} {up : Bool} {h : UcieHdr} {k : Nat} (data : List Byte)
    (hm : s.moduleFor link h.cls h.addr = some k) (ho : (s.lane link k up).outbox = []) :
    s.ucieSend link up h data = (s.setLane link k up
      { s.lane link k up with outbox := [{ hdr := h, data := data, resends := 0, delivered := false }] }).pumpUcie link k up := by
  simp only [State.ucieSend, hm, ho, List.nil_append]

/-- A message that starts takes its cells from its class's credit. -/
theorem UcieLane.start_credit {l : UcieLane} {m : UcieMsg} (i : Nat) (hlen : m.hdr.cls < l.credits.length) :
    (l.start i m).credit m.hdr.cls = l.credit m.hdr.cls - cellsOf m.hdr := by
  simp only [UcieLane.start, UcieLane.credit, List.getD_eq_getElem?_getD, List.getElem?_set_self hlen, Option.getD_some]

/-- R30: the only message of a lane, once it has started, is kept where it has an answer. -/
theorem UcieLane.start_outbox {l : UcieLane} {m : UcieMsg} (ho : l.outbox = [m]) :
    (l.start 0 m).outbox = if m.hdr.typ = 3 ∨ m.hdr.typ = 1 then [{ m with delivered := true }] else [] := by
  simp only [UcieLane.start, ho, keepsSent, decide_eq_true_eq, List.set_cons_zero, List.eraseIdx_zero, List.tail_cons]

/-- R25–R29: a message that its module takes at once. -/
theorem State.ucieSend_sendsOn {s : State} {link : Nat} {up : Bool} {h : UcieHdr} {k : Nat} (data : List Byte) (hs : s.sendsOn link up h k)
    (hc : h.cls < 3) :
    let m : UcieMsg := { hdr := h, data := data, resends := 0, delivered := false }
    let l : UcieLane := { s.lane link k up with outbox := [m] }
    s.ucieSend link up h data = ((s.setLane link k up l).setLane link k up (l.start 0 m)).emit (.ucie link k up h data) := by
  obtain ⟨hm, ho, hr, -, hcr⟩ := hs
  have hbit := (mem_activeModules (moduleFor_active hm)).2
  intro m l
  rw [ucieSend_empty data hm ho]
  refine (pumpUcie_ready (s := s.setLane link k up l) (m := m) ?_ rfl hc hbit ?_ ?_).trans ?_ <;> rw [lane_setLane_same]
  · exact hr
  · exact hcr

/-! ### Retrains (R31, R393) -/

/-- Where the dies hold no entry, none is sent to the log. -/
theorem State.linkBack_of_dieLog_nil {s : State} (h : s.dieLog = []) (link : Nat) : s.linkBack link = s := by
  have he : ({ s with dieLog := [] } : State) = s := by rw [← h]
  simp only [State.linkBack, State.flushDieLog, h, List.filter_nil, List.foldl_nil, he, ite_self]

/-- R31: where all that a direction has sent has been delivered, nothing is sent again. -/
theorem State.resendFlight_delivered {s : State} {link module : Nat} {up : Bool} (h : ∀ m ∈ (s.lane link module up).flight, m.delivered = true) :
    s.resendFlight link module up = s := by
  have hnone : (s.lane link module up).flight.filter (fun m => !m.delivered) = [] := List.filter_eq_nil_iff.mpr fun m hm => by simp [h m hm]
  rw [State.resendFlight, hnone]
  rfl

/-- R31: the retrain of a quiet module brings both directions back and is counted. -/
theorem State.retrained_quiet {s : State} {link module : Nat} (hr : (s.lane link module true).retraining = true) (hq : s.quietModule link module)
    (hd : s.dieLog = []) (repaired : Nat) : s.retrained link module repaired =
      ((s.mapLanes link module UcieLane.restart).bump fGLOBAL_UCIE_STAT_RETRAINS 0 link 1).bump fGLOBAL_UCIE_STAT_REPAIRED 0 link repaired := by
  unfold State.retrained
  rw [if_neg (by rw [hr]; decide)]
  extract_lets s1 s2 s3
  have hlane : ∀ up, s2.lane link module up = (s.lane link module up).restart := s.lane_mapLanes link module UcieLane.restart
  have hflight : ∀ up, s2.resendFlight link module up = s2 := fun up => resendFlight_delivered (by rw [hlane]; exact (hq up).2)
  have hpump : ∀ up, s2.pumpUcie link module up = s2 := fun up => pumpUcie_empty (by rw [hlane]; exact (hq up).1)
  have h3 : s3 = s2 := by
    show ((s2.linkBack link).resendFlight link module true).resendFlight link module false = s2
    rw [linkBack_of_dieLog_nil (s := s2) hd, hflight, hflight]
  rw [h3, hpump, hpump]
  rfl

/-- A count that saturates at a field's maximum fits the field. -/
theorem State.get_bump_same (s : State) (f : Fld) (i j d : Nat) (hf : f.lo + f.w ≤ 64) (h : s.get f i j < 2 ^ f.w) :
    (s.bump f i j d).get f i j = satAdd (s.get f i j) d (2 ^ f.w - 1) := by
  rw [State.bump, s.get_put_same f i j _ hf]
  refine Nat.mod_eq_of_lt ?_
  unfold satAdd
  split <;> omega

/-! ### Streams that are discarded (R31) -/

theorem State.arrive_astray {s : State} {p : UciePort} (h : (s.lane p.link p.module p.up).aligned = false) (m : UcieHdr) :
    s.arrive p m = (s, false) := by
  simp only [State.arrive, h, Bool.not_false, if_true]

theorem State.arrive_lost {s : State} {p : UciePort} {h : UcieHdr} (ha : (s.lane p.link p.module p.up).aligned = true) (hl : hdrLost h = true) :
    s.arrive p h = (s.alignmentLost p, false) := by
  simp only [State.arrive, ha, hl, Bool.not_true, Bool.false_eq_true, if_false, if_true]

/-- A read that its receiver does not act on. -/
theorem State.recvRead_dropped {s t : State} {p : UciePort} {h : UcieHdr} (ha : s.arrive p h = (t, false)) : s.recvRead p h = some t := by
  simp only [State.recvRead, ha, Bool.not_false, if_true]

/-- A write that its receiver does not act on. -/
theorem State.recvWrite_dropped {s t : State} {p : UciePort} {h : UcieHdr} (ha : s.arrive p h = (t, false)) (data : List Byte) :
    s.recvWrite p h data = some t := by
  simp only [State.recvWrite, ha, Bool.not_false, if_true]

/-- A well-formed write in a module that runs does what its receiver does. -/
theorem exec_wr {s u : State} {p : UciePort} {h : UcieHdr} {data : List Byte} (hl : s.live = true) (hw : WellFormed (.wr p h data) = true)
    (hr : s.recvWrite p h data = some u) : exec (.wr p h data) s = .next u := by
  show s.answerAt "WR" (WellFormed (.wr p h data)) h.addr (s.recvWrite p h data) = _
  rw [hw, hr]
  simp only [State.answerAt, hl, if_true]

theorem wfPort_of_wr {p : UciePort} {h : UcieHdr} {data : List Byte} (hw : WellFormed (.wr p h data) = true) : wfPort p = true := by
  have hw' : (wfPort p && wfHdr h 3 && wfData h data && decide (1 ≤ h.len)) = true := hw
  simp only [Bool.and_eq_true] at hw'
  obtain ⟨⟨⟨hp, -⟩, -⟩, -⟩ := hw'
  exact hp

theorem exec_cellAlignmentLost {s : State} {p : UciePort} (hl : s.live = true) (hp : wfPort p = true) :
    exec (.cellAlignmentLost p) s = .next (s.alignmentLost p) := s.answer_live "CELL_ALIGNMENT_LOST" _ _ hl hp

/-- R31: a header of a reserved TYPE or CLASS, or with a LEN above 256, is lost alignment. -/
theorem lostHeader_is_cellAlignmentLost {s : State} {p : UciePort} {h : UcieHdr} (data : List Byte) (hl : s.live = true)
    (ha : (s.lane p.link p.module p.up).aligned = true) (hh : hdrLost h = true) :
    (WellFormed (.rdReq p h) = true → exec (.rdReq p h) s = exec (.cellAlignmentLost p) s) ∧
    (WellFormed (.wr p h data) = true → exec (.wr p h data) s = exec (.cellAlignmentLost p) s) := by
  have hd := State.arrive_lost ha hh
  refine ⟨fun hw => ?_, fun hw => ?_⟩
  · rw [exec_cellAlignmentLost hl (wfPort_of_rdReq hw), exec_rdReq hl hw (State.recvRead_dropped hd)]
  · rw [exec_cellAlignmentLost hl (wfPort_of_wr hw), exec_wr hl hw (State.recvWrite_dropped hd data)]

/-- R31: in a discarded stream no message is acted on. -/
theorem discardedStream_acts_on_nothing {s : State} {p : UciePort} (h : UcieHdr) (data : List Byte) (hl : s.live = true)
    (ha : (s.lane p.link p.module p.up).aligned = false) :
    (WellFormed (.rdReq p h) = true → exec (.rdReq p h) s = .next s) ∧ (WellFormed (.wr p h data) = true → exec (.wr p h data) s = .next s) ∧
    (WellFormed (.event p h data) = true → exec (.event p h data) s = .next s) ∧
    (WellFormed (.doorbell p h data) = true → exec (.doorbell p h data) s = .next s) := by
  have hd := State.arrive_astray ha h
  refine ⟨fun hw => exec_rdReq hl hw (State.recvRead_dropped hd), fun hw => exec_wr hl hw (State.recvWrite_dropped hd data), fun hw => ?_, fun hw => ?_⟩
  · have e : s.recvEvent p h data = s := by simp only [State.recvEvent, hd, Bool.not_false, if_true]
    exact (s.answer_live "EVENT" _ _ hl hw).trans (congrArg _ e)
  · have e : s.recvDoorbell p h data = s := by simp only [State.recvDoorbell, hd, Bool.false_eq_true, if_false]
    exact (s.answer_live "DOORBELL" _ _ hl hw).trans (congrArg _ e)

/-! ### The obligation's events and sends -/

/-- R29: CREDIT to a lane that keeps no message. -/
theorem exec_credit_empty {s : State} {p : UciePort} {c0 c1 c2 : Nat} (hl : s.live = true) (hw : WellFormed (.credit p c0 c1 c2) = true)
    (ho : (s.lane p.link p.module (!p.up)).outbox = []) (hs : s.linksServed) :
    exec (.credit p c0 c1 c2) s = .next (s.setLane p.link p.module (!p.up)
      { s.lane p.link p.module (!p.up) with
        credits := [(s.lane p.link p.module (!p.up)).credit 0 + c0, (s.lane p.link p.module (!p.up)).credit 1 + c1,
                    (s.lane p.link p.module (!p.up)).credit 2 + c2],
        flight := retireCells (fun m => (m.hdr.cls, cellsOf m.hdr)) [c0, c1, c2] (s.lane p.link p.module (!p.up)).flight,
        got := retireCells (fun g => (g.cls, g.cells)) [c0, c1, c2] (s.lane p.link p.module (!p.up)).got }) := by
  have e : exec (.credit p c0 c1 c2) s = .next (s.recvCredit p c0 c1 c2).linkServe := s.answer_live "CREDIT" _ _ hl hw
  rw [e, State.recvCredit, State.pumpUcie_empty (by rw [State.lane_setLane_same]; exact ho)]
  exact congrArg _ (State.linkServe_of_linksServed hs)

/-- R31: a retrain of a quiet module that completes. -/
theorem exec_retrainComplete_quiet {s : State} {link module repaired : Nat} (hl : s.live = true)
    (hw : WellFormed (.ucieRetrainComplete link module repaired) = true) (hr : (s.lane link module true).retraining = true)
    (hq : s.quietModule link module) (hd : s.dieLog = []) (hs : s.linksServed) :
    Completes (.ucieRetrainComplete link module repaired) s (fun t =>
      (∀ up, t.lane link module up = (s.lane link module up).restart) ∧
      t.get fGLOBAL_UCIE_STAT_RETRAINS 0 link = satAdd (s.get fGLOBAL_UCIE_STAT_RETRAINS 0 link) 1 255 ∧
      t.get fGLOBAL_UCIE_STAT_REPAIRED 0 link = satAdd (s.get fGLOBAL_UCIE_STAT_REPAIRED 0 link) repaired 65535 ∧
      t = { s with ucie := t.ucie, regs := t.regs, dieLog := [] }) := by
  let u := s.mapLanes link module UcieLane.restart
  let t := (u.bump fGLOBAL_UCIE_STAT_RETRAINS 0 link 1).bump fGLOBAL_UCIE_STAT_REPAIRED 0 link repaired
  have hexec : exec (.ucieRetrainComplete link module repaired) s = .next t := by
    have e : exec (.ucieRetrainComplete link module repaired) s = .next (s.retrained link module repaired).linkServe :=
      s.answer_live "UCIE_RETRAIN_COMPLETE" _ _ hl hw
    rw [e, State.retrained_quiet hr hq hd]
    exact congrArg _ (State.linkServe_of_linksServed hs)
  refine ⟨t, hexec, s.lane_mapLanes link module UcieLane.restart, ?_, ?_, by rw [← hd]; rfl⟩
  · exact ((u.bump fGLOBAL_UCIE_STAT_RETRAINS 0 link 1).get_put_ne fGLOBAL_UCIE_STAT_REPAIRED _ _ _ _ _ _ (.inr (.inr (by decide)))).trans
      (u.get_bump_same fGLOBAL_UCIE_STAT_RETRAINS 0 link 1 (by decide) (fieldOf_lt _ _ _))
  · refine (State.get_bump_same _ fGLOBAL_UCIE_STAT_REPAIRED 0 link repaired (by decide) (fieldOf_lt _ _ _)).trans ?_
    rw [State.bump, State.get_put_ne _ _ _ _ _ _ _ _ (.inr (.inl (by decide)))]
    rfl

theorem cls_lt_of_send {link : Nat} {up : Bool} {h : UcieHdr} {data : List Byte} (hw : WellFormed (.ucieMessageSend link up h data) = true) :
    h.cls < 3 := by
  have hw' : (decide (link < 3) && wfHdr h h.typ && wfData h data && decide (h.typ ≤ 8 ∧ h.cls < 3 ∧ h.len ≤ 256)) = true := hw
  obtain ⟨-, hc, -⟩ := of_decide_eq_true (Bool.and_eq_true_iff.mp hw').2
  exact hc

/-- R25–R29, R31: a message leaves at once, or waits for credit. -/
theorem exec_ucieMessageSend {s : State} {link : Nat} {up : Bool} {h : UcieHdr} {data : List Byte} (k : Nat) (hl : s.live = true)
    (hw : WellFormed (.ucieMessageSend link up h data) = true) :
    (s.sendsOn link up h k →
     Completes (.ucieMessageSend link up h data) s (fun t =>
      t.out = s.out ++ [.ucie link k up h data] ∧
      (t.lane link k up).credit h.cls = (s.lane link k up).credit h.cls - cellsOf h ∧
      (t.lane link k up).flight = (s.lane link k up).flight ++ [{ hdr := h, data := data, resends := 0, delivered := false }] ∧
      (t.lane link k up).outbox = (if h.typ = 3 ∨ h.typ = 1 then [{ hdr := h, data := data, resends := 0, delivered := true }] else []) ∧
      (∀ link' k' up', laneKey link' k' up' ≠ laneKey link k up → t.lane link' k' up' = s.lane link' k' up') ∧
      t = { s with ucie := t.ucie, out := t.out })) ∧
    (s.moduleFor link h.cls h.addr = some k → (s.lane link k up).outbox = [] → (s.lane link k up).credit h.cls < cellsOf h →
     exec (.ucieMessageSend link up h data) s = .next (s.setLane link k up
       { s.lane link k up with outbox := [{ hdr := h, data := data, resends := 0, delivered := false }] })) := by
  have hexec : exec (.ucieMessageSend link up h data) s = .next (s.ucieSend link up h data) := s.answer_live "UCIE_MESSAGE_SEND" _ _ hl hw
  have hc := cls_lt_of_send hw
  let m : UcieMsg := { hdr := h, data := data, resends := 0, delivered := false }
  let l : UcieLane := { s.lane link k up with outbox := [m] }
  refine ⟨fun hs => ⟨_, hexec, ?_⟩, fun hm ho hcr => ?_⟩
  · have hlen : h.cls < l.credits.length := by
      obtain ⟨-, -, -, h3, -⟩ := hs
      exact h3 ▸ hc
    have hlane : (((s.setLane link k up l).setLane link k up (l.start 0 m)).emit (.ucie link k up h data)).lane link k up = l.start 0 m :=
      State.lane_setLane_same ..
    dsimp only
    rw [State.ucieSend_sendsOn data hs hc, hlane]
    refine ⟨rfl, l.start_credit (m := m) 0 hlen, rfl, l.start_outbox (m := m) rfl, fun link' k' up' hne => ?_, rfl⟩
    exact (State.lane_setLane_ne _ hne.symm _).trans (s.lane_setLane_ne hne.symm l)
  · rw [hexec, State.ucieSend_empty data hm ho, State.pumpUcie_short (by rw [State.lane_setLane_same]) (by rw [State.lane_setLane_same]; exact hcr)]

/-- Settles O6: what each message or event does to its module, and a send with and without credit. -/
theorem linkEventsAndSends : Obligations.LinkEventsAndSends := by
  unfold Obligations.LinkEventsAndSends
  refine ⟨fun s hl => ⟨fun p hw => s.answer_live "NOP" _ _ hl hw, fun p c0 c1 c2 hw ho hs => exec_credit_empty hl hw ho hs, fun p hw hb => ?_,
    fun p h data ha hh => lostHeader_is_cellAlignmentLost data hl ha hh, fun p h data ha => discardedStream_acts_on_nothing h data hl ha,
    fun link module hw hb => ?_, fun link module repaired hw hr hq hd hs => exec_retrainComplete_quiet hl hw hr hq hd hs⟩,
    fun s link up h data k hl hw => exec_ucieMessageSend k hl hw⟩
  · obtain ⟨hretrain, haligned⟩ := State.alignmentLost_active hb
    exact ⟨_, exec_cellAlignmentLost hl hw, hretrain true, hretrain false, haligned, s.alignmentLost_frame p⟩
  · refine ⟨_, s.answer_live "UCIE_ERROR_THRESHOLD" _ _ hl hw, ?_⟩
    dsimp only
    rw [State.startRetrain_active hb, State.lane_mapLanes, State.lane_mapLanes]
    exact ⟨rfl, rfl, s.mapLanes_frame link module _⟩

end Sys2Proof.Machine
end

section
/-! Answers that end or repeat a kept message, EVENT messages, and modules that leave their link: O8. -/

namespace Sys2Proof.Machine

/-! ### Kept messages (R30) -/

theorem findSome?_congr {α β : Type} {f g : α → Option β} {l : List α} (h : ∀ a ∈ l, f a = g a) : l.findSome? f = l.findSome? g := by
  induction l with
  | nil => rfl
  | cons a l ih => rw [List.findSome?_cons, List.findSome?_cons, h a (List.mem_cons_self ..), ih fun b hb => h b (List.mem_cons_of_mem _ hb)]

/-- A search for a kept message sees only the lanes that lead away from the port. -/
theorem sameBack.findMsg {s t : State} {p : UciePort} (e : sameBack s t p) (typ tag : Nat) :
    t.findMsg p.link (!p.up) typ tag = s.findMsg p.link (!p.up) typ tag := by
  refine findSome?_congr fun k hk => ?_
  have hk' := List.mem_range.mp hk
  rw [e.2 k (by split at hk' <;> omega)]

/-- A message that is found stands in the outbox of a module below 24, and has the TYPE sought. -/
theorem State.findMsg_some {s : State} {link : Nat} {up : Bool} {typ tag k i : Nat} {m : UcieMsg}
    (h : s.findMsg link up typ tag = some (k, i, m)) : k < 24 ∧ (s.lane link k up).outbox[i]? = some m ∧ m.hdr.typ = typ := by
  obtain ⟨j, hj, hf⟩ := List.exists_of_findSome?_eq_some h
  have hj' := List.mem_range.mp hj
  split at hf
  · next i' hi' =>
    obtain ⟨x, hx, e⟩ := Option.map_eq_some_iff.mp hf
    obtain ⟨rfl, rfl, rfl⟩ : j = k ∧ i' = i ∧ x = m := by simpa using e
    obtain ⟨hlt, hp, -⟩ := List.findIdx?_eq_some_iff_getElem.mp hi'
    rw [List.getElem?_eq_getElem hlt, Option.some_inj] at hx
    rw [hx, Bool.and_eq_true, decide_eq_true_eq] at hp
    exact ⟨by split at hj' <;> omega, by rw [List.getElem?_eq_getElem hlt, hx], hp.2.1⟩
  · cases hf

/-- R405, R406: where no weight repair has failed, nothing is taken offline; lanes and sends do not bear on it. -/
theorem State.settle_of_frame {s t : State} (hs : s.settled) (ht : t = { s with ucie := t.ucie, out := t.out }) : t.settle = t := by
  have hnone : (List.range 16).filter (fun n => (t.prt n).repairFailed) = [] := List.filter_eq_nil_iff.mpr fun n hn => by
    rw [ht]
    exact Bool.eq_false_iff.mp (hs n (List.mem_range.mp hn))
  rw [State.settle, hnone]
  rfl

/-- A kept message of another lane than the arrival's is done with. -/
theorem State.dropMsg_after_arrival {s : State} {p : UciePort} {h : UcieHdr} {k : Nat} (hp : wfPort p = true) (ha : s.accepts p h) (hk : k < 24)
    (i : Nat) :
    let t := (s.arrive p h).1.dropMsg p.link k (!p.up) i
    (t.lane p.link k (!p.up)).outbox = (s.lane p.link k (!p.up)).outbox.eraseIdx i ∧ t = { s with ucie := t.ucie, out := t.out } := by
  intro t
  obtain ⟨-, hframe⟩ := arrive_frame ha
  constructor
  · rw [← (sameBack_arrive hp ha).2 k hk]
    exact congrArg UcieLane.outbox (State.lane_setLane_same ..)
  · show ({ (s.arrive p h).1 with ucie := t.ucie } : State) = { s with ucie := t.ucie, out := (s.arrive p h).1.out }
    rw [hframe]

/-- A kept message that may be sent again: fewer re-sends than three, alone on an active module that has credit for it. -/
structure Repeatable (s : State) (link k : Nat) (up : Bool) (m : UcieMsg) : Prop where
  fewer : m.resends < 3
  notHbm : isHbm m.hdr.addr = false
  alone : (s.lane link k up).outbox = [m]
  cls : m.hdr.cls < 3
  active : (s.get fGLOBAL_UCIE_STAT_ACTIVE 0 link).testBit k = true
  running : (s.lane link k up).retraining = false
  credit : cellsOf m.hdr ≤ (s.lane link k up).credit m.hdr.cls

/-- R30: a repeatable message is sent again, and kept with one re-send more. -/
theorem State.resendMsg_repeatable {s : State} {link k : Nat} {up : Bool} {m : UcieMsg} (hr : Repeatable s link k up m)
    (ht : m.hdr.typ = 3 ∨ m.hdr.typ = 1) :
    let t := s.resendMsg link k up 0 m
    (t.lane link k up).outbox = [{ m with resends := m.resends + 1, delivered := true }] ∧
    t = { s with ucie := t.ucie, out := s.out ++ [.ucie link k up m.hdr m.data] } := by
  let m' : UcieMsg := { m with resends := m.resends + 1, delivered := false }
  let l : UcieLane := { s.lane link k up with outbox := [m'] }
  have hlane : (s.setLane link k up l).lane link k up = l := lane_setLane_same ..
  have hsend : s.resendMsg link k up 0 m = (s.setLane link k up l).pumpUcie link k up := by
    simp only [State.resendMsg, hr.notHbm, Nat.not_le.mpr hr.fewer, hr.alone, Bool.false_eq_true, if_false, List.set_cons_zero, l, m']
  have hpump := pumpUcie_ready (s := s.setLane link k up l) (m := m') (by rw [hlane]) rfl hr.cls hr.active (by rw [hlane]; exact hr.running)
    (by rw [hlane]; exact hr.credit)
  intro t
  have ht' : t = ((s.setLane link k up l).setLane link k up (l.start 0 m')).emit (.ucie link k up m.hdr m.data) := by
    rw [hlane] at hpump
    exact hsend.trans hpump
  rw [ht']
  refine ⟨?_, rfl⟩
  exact (congrArg UcieLane.outbox (lane_setLane_same ..)).trans ((UcieLane.start_outbox (l := l) (m := m') rfl).trans (if_pos ht))

/-- Arrivals on the other direction of a port's module leave a message repeatable. -/
theorem sameBack.repeatable {s t : State} {p : UciePort} (e : sameBack s t p) {k : Nat} (hk : k < 24) {m : UcieMsg}
    (h : Repeatable s p.link k (!p.up) m) : Repeatable t p.link k (!p.up) m := by
  have hlane := e.2 k hk
  exact ⟨h.fewer, h.notHbm, hlane ▸ h.alone, h.cls, e.1 ▸ h.active, hlane ▸ h.running, hlane ▸ h.credit⟩

/-- R30: an arrival that has a kept message sent again. -/
theorem State.resendMsg_after_arrival {s : State} {p : UciePort} {h : UcieHdr} {typ k i : Nat} {m : UcieMsg} (hp : wfPort p = true)
    (ha : s.accepts p h) (hf : s.findMsg p.link (!p.up) typ h.tag = some (k, i, m)) (ht : typ = 3 ∨ typ = 1)
    (hr : Repeatable s p.link k (!p.up) m) :
    let t := (s.arrive p h).1.resendMsg p.link k (!p.up) i m
    (t.lane p.link k (!p.up)).outbox = [{ m with resends := m.resends + 1, delivered := true }] ∧
    t.out.getLast? = some (.ucie p.link k (!p.up) m.hdr m.data) ∧ t = { s with ucie := t.ucie, out := t.out } := by
  obtain ⟨hk, hi, htyp⟩ := findMsg_some hf
  have hi0 : i = 0 := by
    rw [hr.alone] at hi
    obtain ⟨hlt, -⟩ := List.getElem?_eq_some_iff.mp hi
    simpa using hlt
  subst hi0
  obtain ⟨hout, hframe⟩ := resendMsg_repeatable ((sameBack_arrive hp ha).repeatable hk hr) (htyp ▸ ht)
  obtain ⟨-, harrive⟩ := arrive_frame ha
  refine ⟨hout, ?_, ?_⟩
  · rw [hframe]
    exact List.getLast?_concat ..
  · rw [hframe, harrive]

/-! ### RD_CPL and WR_ACK (R30) -/

/-- An RD_CPL that answers a kept request. -/
theorem State.recvCpl_found {s : State} {p : UciePort} {h : UcieHdr} {k i : Nat} {m : UcieMsg} (hp : wfPort p = true) (ha : s.accepts p h)
    (hf : s.findMsg p.link (!p.up) 1 h.tag = some (k, i, m)) (data : List Byte) :
    s.recvCpl p h data =
      if h.flags.testBit 0 then (s.arrive p h).1.dropMsg p.link k (!p.up) i
      else if crc32c (ofBytes data) ≠ h.word then (s.arrive p h).1.resendMsg p.link k (!p.up) i m
      else if h.flags.testBit 2 then ((s.arrive p h).1.dropMsg p.link k (!p.up) i).transferLost m.hdr false
      else (s.arrive p h).1.dropMsg p.link k (!p.up) i := by
  have hf' := ((sameBack_arrive hp ha).findMsg 1 h.tag).trans hf
  simp only [State.recvCpl, (arrive_frame ha).1, if_true, hf']

/-- A WR_ACK that answers a kept write: RETRY, or its end without ERR. -/
theorem State.recvAck_found {s : State} {p : UciePort} {h : UcieHdr} {k i : Nat} {m : UcieMsg} (hp : wfPort p = true) (ha : s.accepts p h)
    (hf : s.findMsg p.link (!p.up) 3 h.tag = some (k, i, m)) :
    (h.flags.testBit 1 = true → s.recvAck p h = (s.arrive p h).1.resendMsg p.link k (!p.up) i m) ∧
    (h.flags.testBit 0 = false → h.flags.testBit 1 = false → s.recvAck p h = (s.arrive p h).1.dropMsg p.link k (!p.up) i) := by
  have hf' := ((sameBack_arrive hp ha).findMsg 3 h.tag).trans hf
  constructor
  · intro h1
    simp only [State.recvAck, (arrive_frame ha).1, if_true, hf', h1]
  · intro h0 h1
    simp only [State.recvAck, (arrive_frame ha).1, if_true, hf', h0, h1, Bool.false_and, Bool.false_eq_true, if_false]

theorem wfPort_of_rdCpl {p : UciePort} {h : UcieHdr} {data : List Byte} (hw : WellFormed (.rdCpl p h data) = true) : wfPort p = true := by
  have hw' : (wfPort p && wfHdr h 2 && wfData h data && decide (h.flags.testBit 0 = decide (h.len = 0))) = true := hw
  simp only [Bool.and_eq_true] at hw'
  obtain ⟨⟨⟨hp, -⟩, -⟩, -⟩ := hw'
  exact hp

theorem wfPort_of_wrAck {p : UciePort} {h : UcieHdr} (hw : WellFormed (.wrAck p h) = true) : wfPort p = true := by
  have hw' : (wfPort p && wfHdr h 4 && decide (h.len = 0)) = true := hw
  simp only [Bool.and_eq_true] at hw'
  obtain ⟨⟨hp, -⟩, -⟩ := hw'
  exact hp

/-- An RD_CPL that changes lanes and sends alone completes with that. -/
theorem completes_rdCpl {s t : State} {p : UciePort} {h : UcieHdr} {data : List Byte} {Q : State → Prop} (hl : s.live = true) (hs : s.settled)
    (hw : WellFormed (.rdCpl p h data) = true) (ht : s.recvCpl p h data = t) (hframe : t = { s with ucie := t.ucie, out := t.out }) (hq : Q t) :
    Completes (.rdCpl p h data) s Q := by
  refine ⟨t, ?_, hq⟩
  have e : exec (.rdCpl p h data) s = .next (s.recvCpl p h data).settle := s.answer_live "RD_CPL" _ _ hl hw
  rw [e, ht, State.settle_of_frame hs hframe]

/-- A WR_ACK that changes lanes and sends alone completes with that. -/
theorem completes_wrAck {s t : State} {p : UciePort} {h : UcieHdr} {Q : State → Prop} (hl : s.live = true) (hs : s.settled)
    (hw : WellFormed (.wrAck p h) = true) (ht : s.recvAck p h = t) (hframe : t = { s with ucie := t.ucie, out := t.out }) (hq : Q t) :
    Completes (.wrAck p h) s Q := by
  refine ⟨t, ?_, hq⟩
  have e : exec (.wrAck p h) s = .next (s.recvAck p h).settle := s.answer_live "WR_ACK" _ _ hl hw
  rw [e, ht, State.settle_of_frame hs hframe]

/-! ### EVENT messages (R393, R394) -/

theorem ofLe_lt (bs : List Nat) : ofLe bs < 256 ^ bs.length := by
  induction bs with
  | nil => exact Nat.one_pos
  | cons b bs ih =>
    rw [ofLe, List.length_cons, Nat.pow_succ]
    omega

/-- Two bytes of memory that spell a 16-bit number. -/
theorem State.le_two {s : State} {a v : Nat} (hv : v < 65536) (h0 : s.mem.get a = BitVec.ofNat 8 v) (h1 : s.mem.get (a + 1) = BitVec.ofNat 8 (v / 256)) :
    s.le a 2 = v := by
  have e : s.le a 2 = (s.mem.get a).toNat % 256 + 256 * ((s.mem.get (a + 1)).toNat % 256 + 256 * 0) := rfl
  rw [e, h0, h1, BitVec.toNat_ofNat, BitVec.toNat_ofNat]
  omega

/-- R393: place of the next entry in the ring of the error log. -/
def State.logPlace (s : State) : Nat := s.g fREL_LOG_BASE + s.g fREL_LOG_IDX_TAIL % 2 ^ s.g fREL_LOG_LOG2 * 64

/-- R393: an entry moves TAIL on. -/
theorem State.logWrite_tail (s : State) (e : LogEntry) : (s.logWrite e).g fREL_LOG_IDX_TAIL = (s.g fREL_LOG_IDX_TAIL + 1) % 2 ^ 32 := by
  unfold State.logWrite
  extract_lets tail head size a s0 s1 s2 s3
  have h2 : s2.g fREL_LOG_IDX_TAIL = (tail + 1) % 2 ^ 32 := s1.get_put_same fREL_LOG_IDX_TAIL 0 0 (tail + 1) (by decide)
  have h3 : s3.g fREL_LOG_IDX_TAIL = s2.g fREL_LOG_IDX_TAIL := by
    show (if _ then _ else s2).g fREL_LOG_IDX_TAIL = _
    split
    · exact (State.get_put_ne _ _ _ _ _ _ _ _ (.inl (by decide))).trans (State.get_put_ne _ _ _ _ _ _ _ _ (.inr (.inr (by decide))))
    · rfl
  exact h3.trans h2

/-- Bytes written by a unit of the engine stand where they were written. -/
theorem State.mem_write_in (s : State) (a : Nat) (bs : List Nat) {i : Nat} (hi : i < bs.length) :
    (s.write a bs).mem.get (a + i) = BitVec.ofNat 8 (bs.getD i 0) :=
  Memory.get_write_in bs ((s.healLines a bs.length).staleTags a bs.length).mem a i hi

/-- R393: an entry whose place lies in the reserved range stands there. -/
theorem State.logWrite_bytes {s : State} (e : LogEntry) (hin : s.inReserved s.logPlace 64 = true) {i : Nat} (hi : i < 64) :
    (s.logWrite e).mem.get (s.logPlace + i) = BitVec.ofNat 8 ((logBytes (s.g fGLOBAL_ENGINE_ID_ENGINE_ID) e).getD i 0) := by
  unfold State.logWrite
  extract_lets tail head size a s0 s1 s2 s3
  have h1 : s1 = s0.write s.logPlace (logBytes (s.g fGLOBAL_ENGINE_ID_ENGINE_ID) e) := if_pos hin
  have h3 : s3.mem = s1.mem := by
    show (if _ then _ else s2).mem = _
    split <;> rfl
  show s3.mem.get _ = _
  rw [h3, h1]
  exact s0.mem_write_in _ _ (by rw [logBytes_length]; exact hi)

/-- R394: its first two bytes are its code. -/
theorem State.logWrite_code {s : State} {e : LogEntry} (hin : s.inReserved s.logPlace 64 = true) (hcode : e.code < 65536) :
    (s.logWrite e).le s.logPlace 2 = e.code := by
  have h0 : (logBytes (s.g fGLOBAL_ENGINE_ID_ENGINE_ID) e).getD 0 0 = e.code % 256 := rfl
  have h1 : (logBytes (s.g fGLOBAL_ENGINE_ID_ENGINE_ID) e).getD 1 0 = e.code / 256 % 256 := rfl
  refine State.le_two hcode ((State.logWrite_bytes e hin (i := 0) (by decide)).trans ?_) ((State.logWrite_bytes e hin (i := 1) (by decide)).trans ?_)
  · rw [h0]
    exact BitVec.eq_of_toNat_eq (by simp)
  · rw [h1]
    exact BitVec.eq_of_toNat_eq (by simp)

theorem State.logWrite_last (s : State) (e : LogEntry) : (s.logWrite e).out.getLast? = some (.event e) := List.getLast?_concat ..

/-- R394: the code that an EVENT message carries. -/
theorem event_code {data : List Byte} (h : 2 ≤ data.length) :
    ofLe (((((ofBytes data ++ List.replicate 64 0).take 64).drop 0).take 2)) = ofLe ((ofBytes data).take 2) := by
  rw [List.drop_zero, List.take_take, Nat.min_eq_left (by decide), List.take_append_of_le_length (by rw [ofBytes, List.length_map]; exact h)]

theorem length_of_event {p : UciePort} {h : UcieHdr} {data : List Byte} (hw : WellFormed (.event p h data) = true) : 2 ≤ data.length := by
  have hw' : (wfPort p && wfHdr h 6 && wfData h data && decide (1 ≤ h.len ∧ (h.len ≤ 4 ∨ 256 < h.len))) = true := hw
  simp only [Bool.and_eq_true] at hw'
  obtain ⟨⟨-, hdata⟩, hlen⟩ := hw'
  have := of_decide_eq_true hdata
  have := (of_decide_eq_true hlen).1
  omega

/-- R393, R394: an EVENT message that is acted on is logged by its own code. -/
theorem State.recvEvent_accepted {s : State} {p : UciePort} {h : UcieHdr} {data : List Byte} (ha : s.accepts p h) (hd : 2 ≤ data.length) :
    ∃ e, e.code = ofLe ((ofBytes data).take 2) ∧ s.recvEvent p h data = (s.arrive p h).1.logWrite e := by
  unfold State.recvEvent
  rw [(arrive_frame ha).1]
  exact ⟨_, event_code hd, rfl⟩

/-- R393, R394: an EVENT message in a module that runs. -/
theorem completes_event {s : State} {p : UciePort} {h : UcieHdr} {data : List Byte} (hl : s.live = true)
    (hw : WellFormed (.event p h data) = true) (ha : s.accepts p h) : Completes (.event p h data) s (fun t =>
      t.g fREL_LOG_IDX_TAIL = (s.g fREL_LOG_IDX_TAIL + 1) % 2 ^ 32 ∧
      (∃ e, t.out.getLast? = some (.event e) ∧ e.code = ofLe ((ofBytes data).take 2)) ∧
      (s.inReserved s.logPlace 64 = true → t.le s.logPlace 2 = ofLe ((ofBytes data).take 2)) ∧
      Beside { s with ucie := t.ucie } t []) := by
  obtain ⟨e, hcode, hrecv⟩ := State.recvEvent_accepted ha (length_of_event hw)
  have hexec : exec (.event p h data) s = .next ((s.arrive p h).1.logWrite e) := (s.answer_live "EVENT" _ _ hl hw).trans (congrArg _ hrecv)
  have hlt : e.code < 65536 := by
    have hlen : ((ofBytes data).take 2).length ≤ 2 := by rw [List.length_take]; exact Nat.min_le_left ..
    rw [hcode]
    exact Nat.lt_of_lt_of_le (ofLe_lt _) (Nat.pow_le_pow_right (by decide) hlen)
  obtain ⟨l, o, harrive⟩ := State.arrive_of_accepts ha
  refine ⟨_, hexec, ?_⟩
  dsimp only
  rw [harrive]
  let u := s.setLane p.link p.module p.up l
  have hb : Beside u ((u.emit o).logWrite e) [] := beside_trans (beside_emit u o []) (beside_logWrite _ e) (by simp)
  have hu : ((u.emit o).logWrite e).ucie = u.ucie := (congrArg State.ucie hb.1).trans rfl
  exact ⟨(u.emit o).logWrite_tail e, ⟨e, (u.emit o).logWrite_last e, hcode⟩,
    fun hin => (State.logWrite_code (s := u.emit o) hin hlt).trans hcode, by rw [hu]; exact hb⟩

end Sys2Proof.Machine
end

section
/-! Modules that leave their link, and the settlement of O8. -/

namespace Sys2Proof.Machine

/-! ### Bits of ACTIVE (R32) -/

/-- A number without bit `k`. -/
def clearBit (m k : Nat) : Nat := if m.testBit k then m - 2 ^ k else m

theorem clearBit_le (m k : Nat) : clearBit m k ≤ m := by
  unfold clearBit
  split
  · exact Nat.sub_le ..
  · exact Nat.le_refl _

/-- Halving a number from which a higher bit is taken. -/
theorem clearBit_succ (m k : Nat) : clearBit m (k + 1) / 2 = clearBit (m / 2) k ∧ clearBit m (k + 1) % 2 = m % 2 := by
  unfold clearBit
  rw [Nat.testBit_succ, Nat.pow_succ]
  by_cases h : (m / 2).testBit k = true
  · have := Nat.ge_two_pow_of_testBit h
    rw [if_pos h, if_pos h]
    omega
  · rw [if_neg h, if_neg h]
    exact ⟨rfl, rfl⟩

theorem testBit_clearBit (m k j : Nat) : (clearBit m k).testBit j = (m.testBit j && decide (j ≠ k)) := by
  induction k generalizing m j with
  | zero =>
    unfold clearBit
    rw [Nat.testBit_zero]
    cases j with
    | zero =>
      rw [Nat.testBit_zero, Nat.testBit_zero]
      by_cases h : m % 2 = 1
      · have hm : (m - 1) % 2 = 0 := by omega
        simp [h, hm]
      · simp [h]
    | succ j =>
      have hdiv : (if decide (m % 2 = 1) = true then m - 2 ^ 0 else m) / 2 = m / 2 := by
        split
        · next h => have := of_decide_eq_true h; omega
        · rfl
      rw [Nat.testBit_succ, hdiv, Nat.testBit_succ]
      simp
  | succ k ih =>
    obtain ⟨hdiv, hmod⟩ := clearBit_succ m k
    cases j with
    | zero => rw [Nat.testBit_zero, Nat.testBit_zero, hmod]; simp
    | succ j => rw [Nat.testBit_succ, hdiv, ih, Nat.testBit_succ]; simp

/-! ### A quiet module leaves (R32, R393) -/

/-- The registers of a link once a module has left it, and the link is DEGRADED. -/
def State.withoutModule (s : State) (link module : Nat) : State :=
  (s.put fGLOBAL_UCIE_STAT_ACTIVE 0 link (clearBit (s.get fGLOBAL_UCIE_STAT_ACTIVE 0 link) module)).put fGLOBAL_UCIE_STAT_DEGRADED 0 link 1

/-- Both fields stand in the register of the link's state. -/
theorem beside_withoutModule (s : State) (link module : Nat) : Beside s (s.withoutModule link module) [fldAddr fGLOBAL_UCIE_STAT_ACTIVE 0 link] := by
  refine ⟨rfl, fun a _ ha => ?_, fun _ _ => rfl, fun _ => .inl rfl, List.prefix_refl _⟩
  have hne : fldAddr fGLOBAL_UCIE_STAT_ACTIVE 0 link ≠ a := fun e => ha (List.mem_singleton.mpr e.symm)
  exact (State.reg_setReg_ne _ hne _).trans (s.reg_setReg_ne hne _)

/-- What the link's registers hold without the module. -/
theorem State.get_withoutModule (s : State) (link module : Nat) :
    (s.withoutModule link module).get fGLOBAL_UCIE_STAT_ACTIVE 0 link = clearBit (s.get fGLOBAL_UCIE_STAT_ACTIVE 0 link) module ∧
    (s.withoutModule link module).get fGLOBAL_UCIE_STAT_DEGRADED 0 link = 1 := by
  refine ⟨?_, State.get_put_same _ fGLOBAL_UCIE_STAT_DEGRADED 0 link 1 (by decide)⟩
  have hlt : clearBit (s.get fGLOBAL_UCIE_STAT_ACTIVE 0 link) module < 2 ^ fGLOBAL_UCIE_STAT_ACTIVE.w :=
    Nat.lt_of_le_of_lt (clearBit_le ..) (fieldOf_lt _ _ _)
  refine (State.get_put_ne _ _ _ _ _ _ _ _ (.inr (.inr (by decide)))).trans ?_
  exact (s.get_put_same fGLOBAL_UCIE_STAT_ACTIVE 0 link _ (by decide)).trans (Nat.mod_eq_of_lt hlt)

/-- Logging and counting go on in the same way beside any lanes. -/
theorem beside_ucie {s t : State} {A : List Nat} (h : Beside s t A) (u : SMap UcieLane) : Beside { s with ucie := u } { t with ucie := u } A := by
  obtain ⟨hf, hreg, hmem, hline, hout⟩ := h
  exact ⟨(congrArg (fun x : State => { x with ucie := u }) hf).trans rfl, hreg, hmem, hline, hout⟩

theorem beside_lane {s t : State} {A : List Nat} (h : Beside s t A) (link k : Nat) (up : Bool) : t.lane link k up = s.lane link k up := by
  rw [State.lane, (congrArg State.ucie h.1).trans rfl]
  rfl

theorem beside_linksServed {s t : State} {A : List Nat} (h : Beside s t A) (hs : s.linksServed) : t.linksServed :=
  ⟨((congrArg State.ctlHeld h.1).trans rfl).trans hs.1, ((congrArg State.fetchHeld h.1).trans rfl).trans hs.2⟩

/-- R393: entries that a die held are logged. -/
theorem beside_linkBack (s : State) (link : Nat) : Beside s (s.linkBack link) [] := by
  unfold State.linkBack State.flushDieLog
  split
  · exact beside_refl s []
  · exact beside_trans (beside_logSeq s s.logSeq s.corrected _ []) (beside_foldl _ [] (by simp) (fun t e => beside_logWrite t e) _ _) (by simp)

/-- A direction that has nothing undelivered leaves nothing to be sent elsewhere. -/
theorem UcieLane.left_nil {l : UcieLane} (ho : l.outbox = []) (hf : ∀ m ∈ l.flight, m.delivered = true) : l.left = [] := by
  have hnone : l.flight.filter (fun m => !m.delivered) = [] := List.filter_eq_nil_iff.mpr fun m hm => by simp [hf m hm]
  simp only [UcieLane.left, ho, hnone, List.filter_nil, List.append_nil]

/-- R32: the removal of a quiet module that retrains: its registers, an entry of the log, its lanes as at link start, and what the dies held. -/
theorem State.removeModule_quiet {s : State} {link module : Nat} (hr : (s.lane link module true).retraining = true)
    (hq : s.quietModule link module) : ∃ t, Beside { s.withoutModule link module with ucie := t.ucie } t [] ∧
      (∀ up, t.lane link module up = UcieLane.init) ∧
      s.removeModule link module = if (t.activeModules link).length < leastModules link then t.enterFault 1 else t := by
  generalize hx : s.removeModule link module = x
  unfold State.removeModule at hx
  rw [if_neg (by rw [hr]; decide)] at hx
  extract_lets m s1 s2 s3 at hx
  have h1 : Beside (s.withoutModule link module) s1 [] := beside_log _ _
  have hleft : ∀ up, (s1.lane link module up).left = [] := fun up => by
    rw [beside_lane h1]
    exact UcieLane.left_nil (hq up).1 (hq up).2
  have h2 : s2 = s1.mapLanes link module (fun _ => UcieLane.init) := by
    have hother : ((s1.setLane link module true UcieLane.init).lane link module false).left = [] := by
      rw [State.lane_setLane_ne _ (laneKey_ne link module (by decide)), hleft]
    show [true, false].foldl _ s1 = [true, false].foldl _ s1
    simp only [List.foldl_cons, List.foldl_nil, hleft, hother]
  have h3 : Beside s2 s3 [] := beside_linkBack s2 link
  have hu : s3.ucie = s2.ucie := (congrArg State.ucie h3.1).trans rfl
  have h12 : Beside { s.withoutModule link module with ucie := s2.ucie } s2 [] := by
    have := beside_ucie h1 s2.ucie
    rw [h2] at this ⊢
    exact this
  refine ⟨s3, by rw [hu]; exact beside_trans h12 h3 (by simp), fun up => ?_, hx.symm⟩
  rw [beside_lane h3, h2, State.lane_mapLanes]

/-- The modules that are left are the active ones but the one removed. -/
theorem State.activeModules_erase {s t : State} {link module : Nat}
    (h : t.get fGLOBAL_UCIE_STAT_ACTIVE 0 link = clearBit (s.get fGLOBAL_UCIE_STAT_ACTIVE 0 link) module) :
    t.activeModules link = (s.activeModules link).erase module := by
  have hnodup : (s.activeModules link).Nodup := List.nodup_range.filter _
  rw [hnodup.erase_eq_filter]
  unfold State.activeModules
  rw [List.filter_filter, h]
  refine List.filter_congr fun k _ => ?_
  rw [testBit_clearBit, Bool.and_comm]
  congr 1
  rw [Bool.eq_iff_iff]
  simp

/-! ### FAULT (R407) -/

theorem State.setModule_state (s : State) {st : Nat} (h : st < 8) : (s.setModule st).g fPWR_STATE_STATE = st := by
  unfold State.setModule
  extract_lets old
  split
  · next he => exact he
  · refine (beside_get (beside_log _ _) fPWR_STATE_STATE 0 0 (by decide) (by simp)).trans ?_
    exact (s.get_put_same fPWR_STATE_STATE 0 0 st (by decide)).trans (Nat.mod_eq_of_lt h)

/-- R407: an engine without partitions enters FAULT: its registers, and the log. -/
theorem State.enterFault_bare {s : State} (hb : s.bare) (hf : s.inFault = false) {cause : Nat} (hc : cause < 256) :
    Beside s (s.enterFault cause) [fldAddr fREL_FAULT_FAULT 0 0, fldAddr fPWR_STATE_STATE 0 0] ∧
    (s.enterFault cause).g fREL_FAULT_FAULT = 1 ∧ (s.enterFault cause).g fREL_FAULT_CAUSE = cause ∧
    (s.enterFault cause).g fPWR_STATE_STATE = 6 := by
  have hns : (List.range 16).filter (fun n => s.exists_ n) = [] := List.filter_eq_nil_iff.mpr fun n hn => by
    rw [hb n (List.mem_range.mp hn)]
    exact Bool.false_ne_true
  let s1 := (s.put fREL_FAULT_CAUSE 0 0 cause).put fREL_FAULT_FAULT 0 0 1
  let s5 := (s1.log { code := 0x8A06, kind := 4, unit := 20, detail := [cause] }).setModule modFault
  have he : s.enterFault cause = if s.draining then s5.put fPWR_STATE_DRAINED 0 0 1 else s5 := by
    unfold State.enterFault
    rw [if_neg (by rw [hf]; decide), hns]
    rfl
  have h1 : Beside s s1 [fldAddr fREL_FAULT_FAULT 0 0, fldAddr fPWR_STATE_STATE 0 0] :=
    beside_trans (beside_put s fREL_FAULT_CAUSE 0 0 cause _ (.inr (by decide))) (beside_put _ fREL_FAULT_FAULT 0 0 1 _ (.inr (by decide))) (by decide)
  have h15 : Beside s1 s5 [fldAddr fPWR_STATE_STATE 0 0] :=
    beside_trans (beside_mono (beside_log _ _) (by simp)) (beside_setModule _ _) (by decide)
  have h5 : Beside s1 (s.enterFault cause) [fldAddr fPWR_STATE_STATE 0 0] := by
    rw [he]
    split
    · exact beside_trans h15 (beside_put s5 fPWR_STATE_DRAINED 0 0 1 _ (.inr (by decide))) (by decide)
    · exact h15
  have hstate : (s.enterFault cause).g fPWR_STATE_STATE = s5.g fPWR_STATE_STATE := by
    rw [he]
    split
    · exact State.get_put_ne _ _ _ _ _ _ _ _ (.inr (.inr (by decide)))
    · rfl
  refine ⟨beside_trans h1 (beside_mono h5 (List.subset_cons_self _ _)) (by decide), ?_, ?_, hstate.trans (State.setModule_state _ (by decide))⟩
  · exact (beside_get h5 fREL_FAULT_FAULT 0 0 (by decide) (by decide)).trans (State.get_put_same _ fREL_FAULT_FAULT 0 0 1 (by decide))
  · refine (beside_get h5 fREL_FAULT_CAUSE 0 0 (by decide) (by decide)).trans ((State.get_put_ne _ _ _ _ _ _ _ _ (.inr (.inr (by decide)))).trans ?_)
    exact (s.get_put_same fREL_FAULT_CAUSE 0 0 cause (by decide)).trans (Nat.mod_eq_of_lt hc)

/-! ### UCIE_RETRAIN_TIMEOUT (R32) -/

/-- The registers of a link's state are no bookkeeping, and neither place the log nor belong to FAULT or a partition. -/
theorem ucieStat_apart {link : Nat} (h : link < 3) : bookkeeping (fldAddr fGLOBAL_UCIE_STAT_ACTIVE 0 link) = false ∧
    fldAddr fREL_LOG_BASE 0 0 ∉ [fldAddr fGLOBAL_UCIE_STAT_ACTIVE 0 link] ∧
    fldAddr fREL_FAULT_FAULT 0 0 ∉ [fldAddr fGLOBAL_UCIE_STAT_ACTIVE 0 link] ∧
    fldAddr fGLOBAL_UCIE_STAT_ACTIVE 0 link ∉ [fldAddr fREL_FAULT_FAULT 0 0, fldAddr fPWR_STATE_STATE 0 0] ∧
    ∀ n, n < 16 → bookkeeping (fldAddr fPART_STAT_STATE n 0) = false ∧ fldAddr fPART_STAT_STATE n 0 ∉ [fldAddr fGLOBAL_UCIE_STAT_ACTIVE 0 link] := by
  revert link
  decide

/-- R32: what a module that leaves its link leaves behind. -/
theorem completes_retrainTimeout {s : State} {link module : Nat} (hl : s.live = true) (hw : WellFormed (.ucieRetrainTimeout link module) = true)
    (hs : s.linksServed) (hr : (s.lane link module true).retraining = true) (hq : s.quietModule link module) :
    (leastModules link < (s.activeModules link).length → Completes (.ucieRetrainTimeout link module) s (fun t =>
       (t.get fGLOBAL_UCIE_STAT_ACTIVE 0 link).testBit module = false ∧
       (∀ k, k ≠ module → (t.get fGLOBAL_UCIE_STAT_ACTIVE 0 link).testBit k = (s.get fGLOBAL_UCIE_STAT_ACTIVE 0 link).testBit k) ∧
       t.get fGLOBAL_UCIE_STAT_DEGRADED 0 link = 1 ∧ (∀ up, t.lane link module up = UcieLane.init) ∧
       Beside { s with ucie := t.ucie } t [fldAddr fGLOBAL_UCIE_STAT_ACTIVE 0 link])) ∧
    (s.bare → s.inFault = false → module ∈ s.activeModules link → (s.activeModules link).length ≤ leastModules link →
       Completes (.ucieRetrainTimeout link module) s (fun t =>
         (t.get fGLOBAL_UCIE_STAT_ACTIVE 0 link).testBit module = false ∧ t.g fREL_FAULT_FAULT = 1 ∧ t.g fREL_FAULT_CAUSE = 1 ∧
         t.g fPWR_STATE_STATE = 6)) := by
  obtain ⟨t, hwithout, hlanes, hremove⟩ := State.removeModule_quiet hr hq
  obtain ⟨hlink, -⟩ := of_decide_eq_true hw
  obtain ⟨hbook, hbase, hfault, hact, hpart⟩ := ucieStat_apart hlink
  have hexec : exec (.ucieRetrainTimeout link module) s = .next (s.removeModule link module).linkServe :=
    s.answer_live "UCIE_RETRAIN_TIMEOUT" _ _ hl hw
  have hbeside : Beside { s with ucie := t.ucie } t [fldAddr fGLOBAL_UCIE_STAT_ACTIVE 0 link] :=
    beside_trans (beside_ucie (beside_withoutModule s link module) t.ucie) (beside_mono hwithout (by simp)) hbase
  have hserved : t.linksServed := beside_linksServed hbeside hs
  obtain ⟨hgetActive, hgetDegraded⟩ := s.get_withoutModule link module
  have hactive : t.get fGLOBAL_UCIE_STAT_ACTIVE 0 link = clearBit (s.get fGLOBAL_UCIE_STAT_ACTIVE 0 link) module :=
    (beside_get hwithout fGLOBAL_UCIE_STAT_ACTIVE 0 link hbook (by simp)).trans hgetActive
  have hdegraded : t.get fGLOBAL_UCIE_STAT_DEGRADED 0 link = 1 :=
    (beside_get hwithout fGLOBAL_UCIE_STAT_DEGRADED 0 link hbook (by simp)).trans hgetDegraded
  have hlen : (t.activeModules link).length = if module ∈ s.activeModules link then (s.activeModules link).length - 1 else (s.activeModules link).length := by
    rw [State.activeModules_erase hactive, List.length_erase]
  have hgone : (t.get fGLOBAL_UCIE_STAT_ACTIVE 0 link).testBit module = false := by
    rw [hactive, testBit_clearBit]
    simp
  constructor
  · intro hmany
    refine ⟨t, ?_, hgone, fun k hk => ?_, hdegraded, hlanes, hbeside⟩
    · rw [hexec, hremove, if_neg (by rw [hlen]; split <;> omega), State.linkServe_of_linksServed hserved]
    · rw [hactive, testBit_clearBit, decide_eq_true hk, Bool.and_true]
  · intro hbare hf hmem hfew
    have htbare : t.bare := fun n hn => by
      obtain ⟨hb, hne⟩ := hpart n hn
      have hst : t.get fPART_STAT_STATE n 0 = s.get fPART_STAT_STATE n 0 := beside_get hbeside fPART_STAT_STATE n 0 hb hne
      rw [State.exists_, hst]
      exact hbare n hn
    have htf : t.inFault = false := by
      have hst : t.g fREL_FAULT_FAULT = s.g fREL_FAULT_FAULT := beside_get hbeside fREL_FAULT_FAULT 0 0 (by decide) hfault
      rw [State.inFault, hst]
      exact hf
    obtain ⟨hbf, hfault1, hcause, hstate⟩ := State.enterFault_bare htbare htf (cause := 1) (by decide)
    have hsame := beside_get hbf fGLOBAL_UCIE_STAT_ACTIVE 0 link hbook hact
    refine ⟨t.enterFault 1, ?_, (congrArg (Nat.testBit · module) hsame).trans hgone, hfault1, hcause, hstate⟩
    have hpos : 0 < (s.activeModules link).length := List.length_pos_of_mem hmem
    rw [hexec, hremove, if_pos (by rw [hlen, if_pos hmem]; omega), State.linkServe_of_linksServed (beside_linksServed hbf hserved)]

/-- Settles O8: each answer by what it does to the kept message, the entry that an EVENT becomes, and a module's removal. -/
theorem answersRepeatsEventsAndLostModules : Obligations.AnswersRepeatsEventsAndLostModules := by
  unfold Obligations.AnswersRepeatsEventsAndLostModules
  refine ⟨fun s p h k i m hl hs ha => ⟨fun data hw hf => ?_, fun hw hf => ?_⟩, fun s p h data hl hw ha => completes_event hl hw ha,
    fun s link module hl hw hs hr hq => completes_retrainTimeout hl hw hs hr hq⟩
  · have hp := wfPort_of_rdCpl hw
    have hrecv := State.recvCpl_found hp ha hf data
    obtain ⟨hk, -, -⟩ := State.findMsg_some hf
    obtain ⟨hdrop, hframe⟩ := State.dropMsg_after_arrival hp ha hk i
    refine ⟨fun hgood => completes_rdCpl hl hs hw (hrecv.trans ?_) hframe ⟨hdrop, hframe⟩, fun h0 hcrc h3 hh ho hc hb hrt hcr => ?_⟩
    · rcases hgood with h0 | ⟨hcrc, h2⟩
      · rw [if_pos h0]
      · rw [if_neg (not_not.mpr hcrc), if_neg (Bool.eq_false_iff.mp h2), ite_self]
    · obtain ⟨hout, hlast, hagain⟩ := State.resendMsg_after_arrival hp ha hf (.inr rfl) ⟨h3, hh, ho, hc, hb, hrt, hcr⟩
      refine completes_rdCpl hl hs hw (hrecv.trans ?_) hagain ⟨hout, hlast, hagain⟩
      rw [if_neg (Bool.eq_false_iff.mp h0), if_pos hcrc]
  · have hp := wfPort_of_wrAck hw
    obtain ⟨hretry, hdone⟩ := State.recvAck_found hp ha hf
    obtain ⟨hk, -, -⟩ := State.findMsg_some hf
    obtain ⟨hdrop, hframe⟩ := State.dropMsg_after_arrival hp ha hk i
    refine ⟨fun h0 h1 => completes_wrAck hl hs hw (hdone h0 h1) hframe ⟨hdrop, hframe⟩, fun h1 h3 hh ho hc hb hrt hcr => ?_⟩
    obtain ⟨hout, hlast, hagain⟩ := State.resendMsg_after_arrival hp ha hf (.inl rfl) ⟨h3, hh, ho, hc, hb, hrt, hcr⟩
    exact completes_wrAck hl hs hw (hretry h1) hagain ⟨hout, hlast, hagain⟩

end Sys2Proof.Machine
end

section
/-! How a ready plate command is issued, and the state in which its unit begins: O49. -/

namespace Sys2Proof.Machine

/-! ### Registers that the work of a plate's unit leaves alone -/

/-- Registers read the same, but those that count and log by themselves: a unit works under the same settings in both states. -/
def SameSetup (s t : State) : Prop :=
  ∀ a, bookkeeping a = false → (∀ q, q < 128 → a ≠ fldAddr fTRAY_ECC_STAT_CE q 0) → a ≠ fldAddr fDENS_STAT_SAMPLES_DROPPED 0 0 → t.reg a = s.reg a

theorem sameSetup_of_beside {s t : State} {A : List Nat} (h : Beside s t A)
    (hA : ∀ a ∈ A, (∃ q, q < 128 ∧ a = fldAddr fTRAY_ECC_STAT_CE q 0) ∨ a = fldAddr fDENS_STAT_SAMPLES_DROPPED 0 0) : SameSetup s t := by
  intro a hb hce hdrop
  refine h.2.1 a hb (fun ha => ?_)
  rcases hA a ha with ⟨q, hq, e⟩ | e
  · exact hce q hq e
  · exact hdrop e

/-- The settings of plates and partitions stand at the bottom of their blocks. -/
theorem SameSetup.reg_of_place {s t : State} (h : SameSetup s t) {b i o : Nat} (ho : o < 0x8000)
    (hb : b = 0x0F0010000000 ∧ i < 128 ∧ o ≠ 0x228 ∨ b = 0x0F0090000000 ∧ i < 16) : t.reg (b + i * 0x10000 + o) = s.reg (b + i * 0x10000 + o) := by
  refine h _ ?_ (fun q hq => ?_) ?_
  · rw [bookkeeping, decide_eq_false_iff_not]
    simp only [fldAddr, fREL_LOG_IDX_TAIL, fREL_LOG_STAT_OVERWRITTEN, blockBase]
    omega
  · simp only [fldAddr, fTRAY_ECC_STAT_CE, blockBase]
    omega
  · simp only [fldAddr, fDENS_STAT_SAMPLES_DROPPED, blockBase]
    omega

/-- A setting of a plate reads the same. -/
theorem SameSetup.plateGet {s t : State} (h : SameSetup s t) {f : Fld} (hf : f.blk = .plate ∧ f.off < 0x8000 ∧ f.stride = 0 ∧ f.off ≠ 0x228) {p : Nat}
    (hp : p < 128) : t.get f p 0 = s.get f p 0 := by
  obtain ⟨hb, ho, hs, hce⟩ := hf
  have e : fldAddr f p 0 = 0x0F0010000000 + p * 0x10000 + f.off := by simp [fldAddr, hb, hs, blockBase]
  rw [State.get, State.get, e, h.reg_of_place ho (.inl ⟨rfl, hp, hce⟩)]

/-- A setting of a partition reads the same. -/
theorem SameSetup.partGet {s t : State} (h : SameSetup s t) {f : Fld} (hf : f.blk = .part ∧ f.off < 0x8000 ∧ f.stride = 0) {n : Nat}
    (hn : n < 16) : t.get f n 0 = s.get f n 0 := by
  obtain ⟨hb, ho, hs⟩ := hf
  have e : fldAddr f n 0 = 0x0F0090000000 + n * 0x10000 + f.off := by simp [fldAddr, hb, hs, blockBase]
  rw [State.get, State.get, e, h.reg_of_place ho (.inr ⟨rfl, hn⟩)]

/-- What `partOfPlate` finds is a partition. -/
theorem State.partOfPlate_lt {s : State} {p n : Nat} (h : s.partOfPlate p = some n) : n < 16 := by
  rw [State.partOfPlate, State.partOfCluster] at h
  exact List.mem_range.mp (List.mem_of_find?_eq_some h)

theorem SameSetup.partOfPlate {s t : State} (h : SameSetup s t) (p : Nat) : t.partOfPlate p = s.partOfPlate p := by
  unfold State.partOfPlate State.partOfCluster
  refine List.find?_congr (fun n hn => ?_)
  have hn := List.mem_range.mp hn
  simp only [State.exists_, State.ownsCluster, h.partGet (f := fPART_STAT_STATE) (by decide) hn,
    h.partGet (f := fPART_LAYOUT_CLUSTERS) (by decide) hn]

theorem SameSetup.ownerOf {s t : State} (h : SameSetup s t) (p : Nat) : t.ownerOf p = s.ownerOf p := by
  rw [State.ownerOf, State.ownerOf, h.partOfPlate]

theorem SameSetup.staticMode {s t : State} (h : SameSetup s t) (p : Nat) : t.staticMode p = s.staticMode p := by
  rw [State.staticMode, State.staticMode, h.partOfPlate]
  cases e : s.partOfPlate p with
  | none => rfl
  | some n => exact congrArg (decide <| · = 1) (h.partGet (f := fPART_TRAY_CFG_SYNC) (by decide) (State.partOfPlate_lt e))

/-! ### The command queued, tagged and let through (R149, R261, R482) -/

/-- A step on plate `p` alone: its plate keeps everything but what `tagged`, `fetched`, `waiting` and `sems` say, and beside the plates nothing has
changed but counts. -/
def Begins (s t : State) (p : Nat) : Prop :=
  Beside { s with plates := t.plates } t [fldAddr fDENS_STAT_SAMPLES_DROPPED 0 0] ∧ (∀ q, q ≠ p → t.plate q = s.plate q) ∧
  { t.plate p with fetched := [], waiting := [], tagged := [], sems := [] } = { s.plate p with fetched := [], waiting := [], tagged := [], sems := [] }

theorem beside_plates {s t : State} {A : List Nat} (h : Beside s t A) : t.plates = s.plates := by rw [h.1]

/-- Plates may be replaced on both sides. -/
theorem beside_withPlates {s t : State} {A : List Nat} (h : Beside s t A) (ps : SMap Plate) : Beside { s with plates := ps } { t with plates := ps } A := by
  obtain ⟨hframe, hregs, hmem, hlines, hout⟩ := h
  exact ⟨by rw [hframe], hregs, hmem, hlines, hout⟩

theorem begins_setPlate (s : State) (p : Nat) (x : Plate) (hx : { x with fetched := [], waiting := [], tagged := [], sems := [] } =
    { s.plate p with fetched := [], waiting := [], tagged := [], sems := [] }) : Begins s (s.setPlate p x) p :=
  ⟨beside_refl _ _, fun _ hq => State.plate_setPlate_ne s (Ne.symm hq) x, by rw [State.plate_setPlate_same]; exact hx⟩

theorem begins_of_beside {s t : State} {p : Nat} (h : Beside s t [fldAddr fDENS_STAT_SAMPLES_DROPPED 0 0]) : Begins s t p := by
  have e := beside_plates h
  have hs : { s with plates := t.plates } = s := by rw [e]
  exact ⟨by rw [hs]; exact h, fun q _ => congrArg (smapGet _ q) e, by rw [State.plate, e]; rfl⟩

theorem begins_trans {s t u : State} {p : Nat} (h : Begins s t p) (h' : Begins t u p) : Begins s u p := by
  obtain ⟨hb, ho, hp⟩ := h
  obtain ⟨hb', ho', hp'⟩ := h'
  have hb1 : Beside { s with plates := u.plates } { t with plates := u.plates } [fldAddr fDENS_STAT_SAMPLES_DROPPED 0 0]  :=
    beside_withPlates (s := { s with plates := t.plates }) hb u.plates
  exact ⟨beside_trans hb1 hb' (by decide), fun q hq => (ho' q hq).trans (ho q hq), hp'.trans hp⟩

/-- R482: a tag changes its plate's list of tagged commands, and counts. -/
theorem begins_tagCmd (s : State) {p : Nat} (hp : p < 128) (index opc : Nat) (forced : Bool) : Begins s (s.tagCmd p index opc forced) p := by
  unfold State.tagCmd
  extract_lets x
  split
  · exact begins_of_beside (beside_refl s _)
  · split
    · generalize x.tagged ++ _ = g
      have h1 : Begins s (s.setPlate p { x with tagged := g }) p := begins_setPlate s p _ rfl
      exact begins_trans h1 (begins_of_beside (beside_mono (beside_dens _ p 28 1 (by omega)) (by simp)))
    · exact begins_of_beside (beside_bump _ _ _ _ _ _ (.inr (by simp)))

theorem Begins.sameSetup {s t : State} {p : Nat} (h : Begins s t p) : SameSetup s t :=
  sameSetup_of_beside (s := { s with plates := t.plates }) h.1 (fun _ ha => .inr (List.mem_singleton.mp ha))

/-- The command as it waits for its unit. -/
def waiterOf (c : PlateCmd) : Waiter := { cmd := c, why := .unit, begun := false, mask := 0 }

/-- A plate on which command `c` has been issued, and waits alone. -/
def Plate.issued (x : Plate) (c : PlateCmd) : Plate :=
  { x with fetched := x.fetched.filter (fun f => decide (f.1 ≠ c.index)), waiting := [waiterOf c] }

/-- R149, R482: a ready command stands alone among those that wait, tagged if it asks for it. -/
def State.queued (s : State) (c : PlateCmd) : State :=
  let s1 := s.setPlate c.plate ((s.plate c.plate).issued c)
  if c.tag then s1.tagCmd c.plate c.index c.opc true else s1

theorem State.begun_eq (s : State) (c : PlateCmd) : s.begun c =
    if c.waitSem && !s.staticMode c.plate then
      (s.queued c).setSem c.plate c.waitIdx ((s.queued c).sem c.plate c.waitIdx - c.waitCnt) else s.queued c := rfl

theorem begins_queued (s : State) {c : PlateCmd} (hp : c.plate < 128) : Begins s (s.queued c) c.plate := by
  unfold State.queued
  extract_lets s1
  have h1 : Begins s s1 c.plate := begins_setPlate _ _ _ rfl
  split
  · exact begins_trans h1 (begins_tagCmd _ hp ..)
  · exact h1

/-- R149, R261: what the state in which a unit begins keeps of the state of the issue. -/
theorem begins_begun (s : State) {c : PlateCmd} (hp : c.plate < 128) : Begins s (s.begun c) c.plate := by
  rw [State.begun_eq]
  split
  · exact begins_trans (begins_queued s hp) (begins_setPlate _ _ _ rfl)
  · exact begins_queued s hp

/-- A tag leaves what waits, and the semaphores. -/
theorem State.tagCmd_plate (s : State) {p : Nat} (hp : p < 128) (index opc : Nat) (forced : Bool) :
    ∃ g, (s.tagCmd p index opc forced).plate p = { s.plate p with tagged := g } := by
  unfold State.tagCmd
  extract_lets x
  split
  · exact ⟨x.tagged, rfl⟩
  · split
    · refine ⟨_, (congrArg (smapGet _ p) (beside_plates (beside_dens _ p 28 1 (by omega)))).trans (State.plate_setPlate_same ..)⟩
    · exact ⟨x.tagged, rfl⟩

theorem State.queued_plate (s : State) {c : PlateCmd} (hp : c.plate < 128) :
    ∃ g, (s.queued c).plate c.plate = { (s.plate c.plate).issued c with tagged := g } := by
  have h1 : (s.setPlate c.plate ((s.plate c.plate).issued c)).plate c.plate = (s.plate c.plate).issued c := State.plate_setPlate_same ..
  unfold State.queued
  extract_lets s1
  split
  · obtain ⟨g, e⟩ := s1.tagCmd_plate hp c.index c.opc true
    exact ⟨g, by rw [e, h1]⟩
  · exact ⟨((s.plate c.plate).issued c).tagged, h1⟩

theorem Begins.ctxs {s t : State} {p : Nat} (h : Begins s t p) : t.ctxs = s.ctxs := by rw [h.1.1]

theorem Begins.prt {s t : State} {p : Nat} (h : Begins s t p) (n : Nat) : t.prt n = s.prt n := by
  have e : t.parts = s.parts := by rw [h.1.1]
  rw [State.prt, e]; rfl

/-- May a plate go on issuing: the plate's context and boundary decide, and the contexts. -/
theorem Begins.mayIssue {s t : State} {p : Nat} (h : Begins s t p) : t.mayIssue p = s.mayIssue p := by
  have hc : ∀ id, t.ctx id = s.ctx id := fun id => congrArg (smapGet _ id) h.ctxs
  have hy : ∀ x, t.mustYield x = s.mustYield x := fun x => by rw [State.mustYield, State.rivals, h.ctxs]; rfl
  obtain ⟨-, -, hx⟩ := h
  injection hx with _ _ hboundary _ _ _ hctx hended
  simp only [State.mayIssue, hboundary, hctx, hended, hc, hy]

/-- R149, R155: a command that no earlier one delays, and whose semaphore count is there, passes its gate. -/
theorem State.gate_ready {s : State} {c : PlateCmd} (h : s.ready c) : (s.queued c).gate c [] = .ok (s.begun c) := by
  obtain ⟨-, hp, -, -, -, -, -, -, hsem⟩ := h
  have hstatic := (begins_queued s hp).sameSetup.staticMode c.plate
  have hsems : (s.queued c).sem c.plate c.waitIdx = s.sem c.plate c.waitIdx := by
    obtain ⟨g, e⟩ := s.queued_plate hp
    rw [State.sem, e]
    rfl
  have hgroup : (s.queued c).groupGate c [] = .ok (s.queued c) := by simp [State.groupGate, waitsOnGroups]
  have hsemGate : (s.queued c).semGate c [] = .ok (s.begun c) := by
    rw [State.semGate, hstatic, State.begun_eq]
    by_cases hw : c.waitSem = true ∧ s.staticMode c.plate = false
    · obtain ⟨hw, hs⟩ := hw
      obtain ⟨hpos, hle⟩ := (hsem hw).resolve_left (by rw [hs]; decide)
      simp [hw, hs, hsems, Nat.pos_iff_ne_zero.mp hpos, Nat.not_lt.mpr hle]
    · have hpass : (!c.waitSem || s.staticMode c.plate) = true := by
        rcases hq : c.waitSem <;> rcases hs : s.staticMode c.plate <;> simp_all
      have hkeep : (c.waitSem && !s.staticMode c.plate) = false := by
        rw [← Bool.not_inj_iff]; simpa using hpass
      rw [if_pos hpass, if_neg (by rw [hkeep]; decide)]
  simp only [State.gate, issueHeld, unitBusy, List.any_nil, List.filter_nil, List.isEmpty_nil, List.length_nil, hgroup, Bool.or_self,
    Bool.not_true, Bool.and_false, Bool.false_eq_true, if_false, show ¬ 4 ≤ 0 by decide, decide_false, ite_self]
  exact hsemGate

/-- R149: what a ready command's try comes to. -/
theorem State.tryWaiter_ready {s : State} {c : PlateCmd} (h : s.ready c) (body : PlateCmd → State → Except Stop State) :
    (s.queued c).tryWaiter c.plate 0 body = (s.queued c).tried c.plate 0 (waiterOf c) (heldWhole (s.begun c) (body c (s.begun c))) := by
  have hgate := State.gate_ready h
  obtain ⟨-, hp, -, -, -, -, -, hissue, -⟩ := h
  have hmay : (s.queued c).mayIssue c.plate = true := (begins_queued s hp).mayIssue.trans hissue
  obtain ⟨g, e⟩ := s.queued_plate hp
  have hw : ((s.queued c).plate c.plate).waiting = [waiterOf c] := by rw [e]; rfl
  rw [State.tryWaiter, hw]
  simp only [List.getElem?_cons_zero, List.take_zero, hmay, waiterOf, atGate, hgate]
  rfl

/-- R149, R261: a ready command is issued at once. -/
theorem State.issue_ready {s : State} {c : PlateCmd} (h : s.ready c) (body : PlateCmd → State → Except Stop State) :
    s.issue c body = (((s.queued c).tried c.plate 0 (waiterOf c) (heldWhole (s.begun c) (body c (s.begun c)))).getD (s.queued c)).wake (s.ownerOf c.plate) := by
  rw [← State.tryWaiter_ready h]
  obtain ⟨-, -, hn, hv, hended, hw, hskip, -, -⟩ := h
  have hrun : (decide (16 ≤ s.ownerOf c.plate) || (s.plate c.plate).ended || (s.prt (s.ownerOf c.plate)).voided) = false := by
    simp [hv, hended, hn]
  simp only [State.issue, hrun, Nat.not_lt.mpr hskip, hw, if_false, Bool.false_eq_true]
  rfl

/-- Whether a program still runs after a command's work is the same question before the gate and behind it. -/
theorem stillRuns_queued {s : State} {c : PlateCmd} (hp : c.plate < 128) (t : State) :
    stillRuns (s.queued c) t c.plate = stillRuns (s.begun c) t c.plate := by
  have hq := begins_queued s hp
  have hb := begins_begun s hp
  have hx := hq.2.2.trans hb.2.2.symm
  injection hx with _ _ _ _ _ _ hctx
  have hprt : ∀ n, (s.queued c).prt n = (s.begun c).prt n := fun n => (hq.prt n).trans (hb.prt n).symm
  simp only [stillRuns, hctx, hprt, hq.sameSetup.ownerOf, hb.sameSetup.ownerOf]

/-! ### The rows of the plate commands (R95, R113, R135, R156, R180, R194, R221, R270, R388) -/

/-- The instructions that carry a plate command, each with its opcode. -/
def plateRows (c : PlateCmd) : List (Instr × Nat) :=
  [(Instr.seqNop c, 0x00), (.seqEnd c, 0x01), (.seqAt c, 0x02), (.seqWindow c, 0x03), (.seqFence c, 0x04), (.seqBarrier c, 0x05),
      (.seqSkipif c, 0x06), (.ctxPost c, 0x07), (.ctxWait c, 0x08), (.seqFlip c, 0x09), (.grainLoad c, 0x20), (.grainPass c, 0x21),
      (.grainLoadKeys c, 0x22), (.accOpen c, 0x23), (.accPromote c, 0x24), (.accDrain c, 0x25), (.accQuant c, 0x26), (.accClose c, 0x27),
      (.accDebugRead c, 0x28), (.safeGemm c, 0x40), (.safeRowop c, 0x41), (.safeLowrank c, 0x42), (.burnScan c, 0x43), (.burnDecide c, 0x44),
      (.burnApply c, 0x45), (.burnProduct c, 0x46), (.burnBranch c, 0x47), (.agitRotate c, 0x50), (.trayCopy c, 0x58), (.trayGather c, 0x59),
      (.trayBcast c, 0x5A), (.trayFill c, 0x5B), (.trayPower c, 0x5C), (.dodgeSpmm c, 0x60), (.dodgeCheck c, 0x61), (.enlFetch c, 0x70),
      (.enlDevelop c, 0x71), (.enlMerge c, 0x72), (.latPlist c, 0x80), (.latWrite c, 0x81), (.loupeSample c, 0x88), (.carrDispatch c, 0x90),
      (.carrWait c, 0x91), (.carrReturn c, 0x92), (.carrCombine c, 0x93), (.carrReduce c, 0x94), (.halLoad c, 0x95)]

theorem plateRows_known (c : PlateCmd) : ∀ r ∈ plateRows c, r.2 ∈ knownOpcodes := by
  simp [plateRows, knownOpcodes]

/-- Each row issues its command with the body that its opcode has. -/
theorem exec_plateRow {c : PlateCmd} {r : Instr × Nat} (h : r ∈ plateRows c) (s : State) : ∃ m body,
    exec r.1 s = s.answer m (wfPlateCmd r.2 c) ((s.issue c (rowBody r.2 body)).settle) ∧ (c.opc = r.2 → ∀ t, body c t = bodyOf c t) := by
  fin_cases h
  all_goals exact ⟨_, _, rfl, fun e t => by rw [bodyOf, e]; rfl⟩

/-- An opcode that no command has faults. -/
theorem bodyOf_unknown {c : PlateCmd} (h : c.opc ∉ knownOpcodes) (s : State) : bodyOf c s = faultWith s stCmdInvalid := by
  unfold bodyOf
  split
  case h_48 => rfl
  all_goals
    rename_i e
    exact absurd (by rw [e]; decide) h

/-- What becomes of any ready command: its try, and what it lets happen. -/
theorem State.exec_row {s : State} {c : PlateCmd} (h : s.ready c) {r : Instr × Nat} (hr : r ∈ plateRows c) (hc : c.opc = r.2 ∨ c.opc ∉ knownOpcodes) :
    exec r.1 s = .next ((((s.queued c).tried c.plate 0 (waiterOf c) (heldWhole (s.begun c) (bodyOf c (s.begun c)))).getD (s.queued c)).wake
      (s.ownerOf c.plate)).settle := by
  obtain ⟨m, body, he, hbody⟩ := exec_plateRow hr s
  have hwf : wfPlateCmd r.2 c = true := by
    have hopc : c.word.toNat % 256 = c.opc := by simp [PlateCmd.opc, PlateCmd.le, bitsOf]
    obtain ⟨-, hp, -⟩ := h
    rw [wfPlateCmd, hopc]
    rcases hc with e | hn
    · simp [hp, e]
    · have hne : knownOpcodes.any (fun o => decide (o = c.opc)) = false := by
        simp only [List.any_eq_false, decide_eq_true_eq]
        exact fun o ho e => hn (e ▸ ho)
      simp [hp, hne]
  have hrow : rowBody r.2 body c (s.begun c) = bodyOf c (s.begun c) := by
    rw [rowBody]
    rcases hc with e | hn
    · rw [if_pos e, hbody e]
    · rw [if_neg (fun (e : c.opc = r.2) => hn (e ▸ plateRows_known c r hr)), bodyOf_unknown hn]
  rw [he, State.answer_live _ _ _ _ h.1 hwf, State.issue_ready h, hrow]

/-- R316: only a command that waits for a stack has its work undone. -/
theorem heldWhole_of_ne {s : State} {r : Except Stop State} (h : ∀ t, r ≠ .error (.wait t .stack)) : heldWhole s r = r := by
  unfold heldWhole
  split
  · exact absurd rfl (h _)
  · rfl

/-- A ready command's work done: it completes. -/
theorem State.runs_of_body {s t : State} {c : PlateCmd} (h : s.ready c) {r : Instr × Nat} (hr : r ∈ plateRows c) (hc : c.opc = r.2)
    (ht : bodyOf c (s.begun c) = .ok t) (hst : stillRuns (s.begun c) t c.plate = true) :
    exec r.1 s = .next (((t.succeed c 0).wake (s.ownerOf c.plate)).settle) := by
  rw [State.exec_row h hr (.inl hc), ht, heldWhole_of_ne (by simp), State.tried, stillRuns_queued h.2.1, hst]
  rfl

/-- A ready command waits, its work not done. -/
theorem State.waits_of_body {s t : State} {c : PlateCmd} {why : WaitWhy} (h : s.ready c) {r : Instr × Nat} (hr : r ∈ plateRows c) (hc : c.opc = r.2)
    (ht : heldWhole (s.begun c) (bodyOf c (s.begun c)) = .error (.wait t why)) (hunit : why ≠ .unit) (hst : stillRuns (s.begun c) t c.plate = true) :
    exec r.1 s = .next (((t.setWaiter c.plate 0 { waiterOf c with why := why }).wake (s.ownerOf c.plate)).settle) := by
  rw [State.exec_row h hr (.inl hc), ht, State.tried, stillRuns_queued h.2.1, hst, if_neg (by exact hunit)]
  rfl

theorem stillRuns_begun {s : State} {c : PlateCmd} (h : s.ready c) : stillRuns (s.begun c) (s.begun c) c.plate = true := by
  obtain ⟨-, hp, -, -, hended, -, -, -, -⟩ := h
  obtain ⟨-, -, hx⟩ := begins_begun s hp
  injection hx with _ _ _ _ _ _ _ hend
  simp [stillRuns, hend, hended]

/-- Settles O49: the command passes its gate at once, so that the outcome of its body decides. -/
theorem plateCommandsRunWaitOrFault : Obligations.PlateCommandsRunWaitOrFault := by
  unfold Obligations.PlateCommandsRunWaitOrFault
  intro s c h r hr
  refine ⟨fun hn => ?_, fun hc => ⟨fun t ht hst => State.runs_of_body h hr hc ht hst, fun t why ht hunit hstack hst => ?_, fun t ht => ?_,
    fun t code status extra off addr ht => ?_, fun t ls code ht => ?_,
    fun t ls code ht => ?_⟩⟩
  · rw [State.exec_row h hr (.inr hn), bodyOf_unknown hn]
    rfl
  · refine State.waits_of_body h hr hc (why := why) ?_ hunit hst
    rw [ht]
    exact heldWhole_of_ne fun u e => hstack (Stop.wait.inj (Except.error.inj e)).2
  · exact State.waits_of_body h hr hc (t := s.begun c) (by rw [ht]; rfl) (by decide) (stillRuns_begun h)
  · rw [State.exec_row h hr (.inl hc), ht]
    rfl
  · rw [State.exec_row h hr (.inl hc), ht]
    rfl
  · rw [State.exec_row h hr (.inl hc), ht]
    rfl

end Sys2Proof.Machine
end

section
/-! What ends a context's program, and what it leaves of registers, plates and contexts (R40, R97, R151, R261, R501). -/

namespace Sys2Proof.Machine

/-! ### Work beside plates and contexts: errors noted, samples taken, records of contexts kept -/

/-- An address of the registers in which errors of memory and the places of samples are recorded (R168, R313, R317, R319, R482). -/
def errorReg (a : Nat) : Bool :=
  decide ((0x0F0010000000 ≤ a ∧ a < 0x0F0010800000 ∧ 0x228 ≤ a % 0x10000 ∧ a % 0x10000 ≤ 0x230) ∨
    (0x0F0030000000 ≤ a ∧ a < 0x0F0030800000 ∧ 0x10 ≤ a % 0x100000 ∧ a % 0x100000 ≤ 0x20) ∨
    (0x0F0000000208 ≤ a ∧ a ≤ 0x0F0000000210) ∨ (0x0F0080000018 ≤ a ∧ a ≤ 0x0F0080000020))

/-- Work that leaves plates and contexts as they are, and of the registers sets only counts and records of errors. -/
def SideWork (s t : State) : Prop :=
  t.plates = s.plates ∧ t.ctxs = s.ctxs ∧ ∀ a, bookkeeping a = false → errorReg a = false → t.reg a = s.reg a

theorem SideWork.reg {s t : State} (h : SideWork s t) {a : Nat} (hb : bookkeeping a = false) (he : errorReg a = false) : t.reg a = s.reg a :=
  h.2.2 a hb he

theorem sideWork_refl (s : State) : SideWork s s := ⟨rfl, rfl, fun _ _ _ => rfl⟩

theorem sideWork_trans {s t u : State} (h : SideWork s t) (h' : SideWork t u) : SideWork s u :=
  ⟨h'.1.trans h.1, h'.2.1.trans h.2.1, fun _ hb he => (h'.reg hb he).trans (h.reg hb he)⟩

theorem sideWork_of_beside {s t : State} (h : Beside s t []) : SideWork s t :=
  ⟨beside_plates h, by rw [h.1], fun a hb _ => h.2.1 a hb (by simp)⟩

theorem sideWork_put (s : State) (f : Fld) (i j v : Nat) (h : errorReg (fldAddr f i j) = true) : SideWork s (s.put f i j v) :=
  ⟨rfl, rfl, fun a _ he => State.reg_setReg_ne s (fun e => by rw [e, he] at h; cases h) _⟩

theorem sideWork_bump (s : State) (f : Fld) (i j d : Nat) (h : errorReg (fldAddr f i j) = true) : SideWork s (s.bump f i j d) :=
  sideWork_put s f i j _ h

theorem sideWork_foldl {β : Type} (f : State → β → State) (bs : List β) (hf : ∀ t, ∀ b ∈ bs, SideWork t (f t b)) (s : State) :
    SideWork s (bs.foldl f s) := by
  induction bs generalizing s with
  | nil => exact sideWork_refl s
  | cons b bs ih => exact sideWork_trans (hf s b (List.mem_cons_self ..)) (ih (fun t c hc => hf t c (List.mem_cons_of_mem _ hc)) _)

theorem sideWork_write (s : State) (a : Nat) (bs : List Nat) : SideWork s (s.write a bs) :=
  sideWork_trans (sideWork_of_beside (beside_trans (beside_healLines s a bs.length) (beside_staleTags _ a bs.length) (by simp)))
    ⟨rfl, rfl, fun _ _ _ => rfl⟩

theorem sideWork_log (s : State) (e : Ev) : SideWork s (s.log e) := sideWork_of_beside (beside_log s e)

theorem sideWork_dens (s : State) {b : Nat} (hb : b < 187) (ev v : Nat) : SideWork s (s.dens b ev v) := sideWork_of_beside (beside_dens s b ev v hb)

theorem State.stackOf_lt (s : State) (a : Nat) : s.stackOf a < 8 := by
  simp only [State.stackOf]
  split
  · split <;> omega
  · omega

theorem trayErrorReg {f : Fld} (hf : f.blk = .plate ∧ 0x228 ≤ f.off ∧ f.off ≤ 0x230 ∧ f.stride = 0) {p : Nat} (hp : p < 128) :
    errorReg (fldAddr f p 0) = true := by
  obtain ⟨hb, hlo, hhi, hs⟩ := hf
  have e : fldAddr f p 0 = 0x0F0010000000 + p * 0x10000 + f.off := by simp [fldAddr, hb, hs, blockBase]
  rw [e, errorReg, decide_eq_true_eq]
  omega

theorem stackErrorReg {f : Fld} (hf : f.blk = .hbm ∧ 0x10 ≤ f.off ∧ f.off ≤ 0x20 ∧ f.stride = 0) {h : Nat} (hh : h < 8) :
    errorReg (fldAddr f h 0) = true := by
  obtain ⟨hb, hlo, hhi, hs⟩ := hf
  have e : fldAddr f h 0 = 0x0F0030000000 + h * 0x100000 + f.off := by simp [fldAddr, hb, hs, blockBase]
  rw [e, errorReg, decide_eq_true_eq]
  omega

theorem trayPlate_lt {a : Nat} (h : isTray a = true) : trayPlate a < 128 := by
  simp only [isTray, decide_eq_true_eq] at h
  simp only [trayPlate, trayWin]
  omega

/-- R397: an uncorrectable line is counted and logged. -/
theorem sideWork_noteUeAs (s : State) (n addr kind : Nat) : SideWork s (s.noteUeAs n addr kind) := by
  unfold State.noteUeAs
  refine sideWork_trans ?_ (sideWork_log _ _)
  dsimp only
  split
  · rename_i ht
    have hp := trayPlate_lt ht
    exact sideWork_trans (sideWork_trans (sideWork_trans (sideWork_bump _ _ _ _ _ (trayErrorReg (by decide) hp))
      (sideWork_put _ _ _ _ _ (trayErrorReg (by decide) hp))) (sideWork_put _ _ _ _ _ (trayErrorReg (by decide) hp)))
      (sideWork_put _ _ _ _ _ (trayErrorReg (by decide) hp))
  · split
    · have hh := s.stackOf_lt (lineOf addr)
      exact sideWork_trans (sideWork_trans (sideWork_bump _ _ _ _ _ (stackErrorReg (by decide) hh))
        (sideWork_put _ _ _ _ _ (stackErrorReg (by decide) hh))) (sideWork_put _ _ _ _ _ (stackErrorReg (by decide) hh))
    · refine sideWork_trans (sideWork_trans (sideWork_bump _ _ _ _ _ ?_) (sideWork_put _ _ _ _ _ (by decide)))
        (sideWork_put _ _ _ _ _ (by decide))
      split <;> decide

theorem State.pumpLane_frame (s : State) (link module : Nat) (up : Bool) (fuel : Nat) :
    s.pumpLane link module up fuel = { s with ucie := (s.pumpLane link module up fuel).ucie, out := (s.pumpLane link module up fuel).out } := by
  induction fuel generalizing s with
  | zero => rfl
  | succ fuel ih =>
    unfold State.pumpLane
    dsimp only
    split
    · rfl
    · split
      · rfl
      · split
        · rfl
        · rw [ih]
          rfl

/-- R28: sending changes links and outputs. -/
theorem State.ucieSend_frame (s : State) (link : Nat) (up : Bool) (h : UcieHdr) (data : List Byte) :
    s.ucieSend link up h data = { s with ucie := (s.ucieSend link up h data).ucie, out := (s.ucieSend link up h data).out } := by
  unfold State.ucieSend
  split
  · rfl
  · dsimp only
    rw [State.pumpUcie, State.pumpLane_frame]
    rfl

theorem sideWork_replyOn (s : State) (p : UciePort) (h : UcieHdr) (data : List Byte) : SideWork s (s.replyOn p h data) := by
  rw [State.replyOn, State.ucieSend_frame]
  exact ⟨rfl, rfl, fun _ _ _ => rfl⟩

theorem sideWork_setWcb (s : State) {h : Nat} (hh : h < 8) (es : List WcbEntry) : SideWork s (s.setWcb h es) :=
  sideWork_trans (t := { s with wcb := smapSet (fun _ => []) h es s.wcb }) ⟨rfl, rfl, fun _ _ _ => rfl⟩
    (sideWork_put _ _ _ _ _ (stackErrorReg (by decide) hh))

theorem sideWork_dropAck (s : State) (a : UcieHdr × UciePort) : SideWork s (s.dropAck a) := by
  refine sideWork_foldl _ _ (fun t h hh => ?_) s
  split
  · exact sideWork_setWcb t (List.mem_range.mp hh) _
  · exact sideWork_refl t

theorem sideWork_ackEntry (s : State) (e : WcbEntry) (fail : Bool) : SideWork s (s.ackEntry e fail) := by
  refine sideWork_foldl _ _ (fun t a _ => ?_) s
  split
  · exact sideWork_trans (sideWork_dropAck t a) (sideWork_replyOn ..)
  · split
    · exact sideWork_refl t
    · exact sideWork_replyOn ..

theorem sideWork_noteCorrected (s : State) (die unit inst n : Nat) : SideWork s (s.noteCorrected die unit inst n) :=
  sideWork_of_beside (beside_noteCorrected s die unit inst n)

/-- R313, R314: an entry of a write-combining buffer read-filled. -/
theorem sideWork_fillEntry (s : State) {h : Nat} (hh : h < 8) (e : WcbEntry) : SideWork s (s.fillEntry h e) := by
  unfold State.fillEntry
  extract_lets s1 s2
  have h1 : SideWork s s1 := sideWork_trans (sideWork_setWcb s hh _) (sideWork_dens _ (by omega) ..)
  split
  · exact sideWork_trans (sideWork_trans h1 (sideWork_noteUeAs ..)) (sideWork_ackEntry ..)
  · have h2 : SideWork s1 s2 := by
      show SideWork s1 (if _ then _ else _)
      split
      · exact sideWork_trans (sideWork_bump _ _ _ _ _ (stackErrorReg (by decide) hh)) (sideWork_noteCorrected ..)
      · exact sideWork_refl s1
    exact sideWork_trans (sideWork_trans (sideWork_trans h1 h2) ⟨rfl, rfl, fun _ _ _ => rfl⟩) (sideWork_ackEntry ..)

theorem sideWork_settleLines (s : State) (a n : Nat) : SideWork s (s.settleLines a n) := by
  unfold State.settleLines
  split
  · exact sideWork_refl s
  · refine sideWork_foldl _ _ (fun t l _ => ?_) s
    have hh := t.stackOf_lt l
    split
    · unfold State.overwriteEntry
      dsimp only
      split
      · exact sideWork_trans (sideWork_setWcb t hh _) (sideWork_ackEntry ..)
      · exact sideWork_refl t
    · dsimp only
      split
      · exact sideWork_fillEntry t hh _
      · exact sideWork_refl t

theorem sideWork_keep (s : State) (a : Nat) (bs : List Nat) : SideWork s (s.keep a bs) :=
  sideWork_trans (sideWork_settleLines s a bs.length) (sideWork_write ..)

/-- R261, R499: a context's record written. -/
theorem sideWork_writeCtxRec (s : State) (id : Nat) (expo : Option Nat) : SideWork s (s.writeCtxRec id expo) := by
  unfold State.writeCtxRec
  extract_lets x a fs
  split
  · refine sideWork_trans (sideWork_foldl _ _ (fun t l _ => sideWork_noteUeAs t _ _ _) s) (sideWork_foldl _ _ (fun t f _ => ?_) _)
    split
    · exact sideWork_refl t
    · exact sideWork_keep t _ _
  · exact sideWork_refl s

/-- R482: a sample record. -/
theorem sideWork_sample (s : State) (p : Nat) (t : Tagged) (part ctx expo : Nat) (done voided : Bool) :
    SideWork s (s.sample p t part ctx expo done voided) := by
  unfold State.sample
  extract_lets base log2 tail seq a early stages rec_ s1 s2 s3
  have h1 : SideWork s s1 := by
    show SideWork s (if _ then _ else _)
    split
    · exact sideWork_write ..
    · exact sideWork_refl s
  have h2 : SideWork s1 s2 := by
    show SideWork s1 (if _ then _ else _)
    split
    · exact sideWork_bump _ _ _ _ _ (by decide)
    · exact sideWork_refl s1
  have h3 : SideWork s2 s3 := sideWork_put _ _ _ _ _ (by decide)
  exact sideWork_trans (sideWork_trans (sideWork_trans h1 h2) h3) ⟨rfl, rfl, fun _ _ _ => rfl⟩

theorem sideWork_sampleAll (s : State) (n id p : Nat) (tagged : List Tagged) (voided : Bool) : SideWork s (s.sampleAll n id p tagged voided) :=
  sideWork_foldl _ _ (fun t _ _ => sideWork_sample t ..) s

theorem sideWork_logSems (s : State) (p : Nat) (sems : SMap Nat) : SideWork s (s.logSems p sems) :=
  sideWork_foldl _ _ (fun t _ _ => sideWork_log t _) s

/-! ### Plates and contexts that end -/

theorem SideWork.plate {s t : State} (h : SideWork s t) (p : Nat) : t.plate p = s.plate p := congrArg (smapGet _ p) h.1

theorem SideWork.ctx {s t : State} (h : SideWork s t) (id : Nat) : t.ctx id = s.ctx id := congrArg (smapGet _ id) h.2.1

/-- A context changed, with its record, is all that differs among plates and contexts. -/
theorem sideWork_putCtx (s : State) (id : Nat) (x : Ctx) : SideWork (s.setCtx id x) (s.putCtx id x) := sideWork_writeCtxRec ..

/-- Work that changes plates, and beside them what `SideWork` may. -/
def PlateWork (s t : State) : Prop := SideWork { s with plates := t.plates } t

theorem plateWork_of_sideWork {s t : State} (h : SideWork s t) : PlateWork s t := ⟨rfl, h.2⟩

theorem PlateWork.reg {s t : State} (h : PlateWork s t) {a : Nat} (hb : bookkeeping a = false) (he : errorReg a = false) : t.reg a = s.reg a :=
  SideWork.reg h hb he

theorem plateWork_trans {s t u : State} (h : PlateWork s t) (h' : PlateWork t u) : PlateWork s u :=
  ⟨rfl, h'.2.1.trans h.2.1, fun _ hb he => (h'.reg hb he).trans (h.reg hb he)⟩

/-- A plate whose context's program has ended there. -/
def Plate.over (x : Plate) : Prop := x.waiting = [] ∧ x.ended = true ∧ x.ctx = none

/-- R97, R151: a program ends on plate `p`, and nothing of the other plates changes. -/
theorem State.endPlate_frame (s : State) (p : Nat) :
    PlateWork s (s.endPlate p) ∧ (∀ q, q ≠ p → (s.endPlate p).plate q = s.plate q) ∧ ((s.endPlate p).plate p).over := by
  unfold State.endPlate
  extract_lets s1
  have hset : ∀ (t : State) (x : Plate), PlateWork t (t.setPlate p x) := fun t x => ⟨rfl, rfl, fun _ _ _ => rfl⟩
  have hflush : PlateWork s (s.flushTagged p false) ∧ ∀ q, q ≠ p → (s.flushTagged p false).plate q = s.plate q := by
    have h := sideWork_sampleAll s (s.ownerOf p) ((s.plate p).ctx.getD 0xFFFF) p (s.plate p).tagged false
    exact ⟨plateWork_trans (plateWork_of_sideWork h) (hset ..), fun q hq => (State.plate_setPlate_ne _ (Ne.symm hq) _).trans (h.plate q)⟩
  have hclear : ∀ t : State, PlateWork t (t.clearSems p) ∧ ∀ q, q ≠ p → (t.clearSems p).plate q = t.plate q := fun t => by
    have h := sideWork_logSems t p (t.plate p).sems
    exact ⟨plateWork_trans (plateWork_of_sideWork h) (hset ..), fun q hq => (State.plate_setPlate_ne _ (Ne.symm hq) _).trans (h.plate q)⟩
  refine ⟨plateWork_trans (plateWork_trans hflush.1 (hclear _).1) (hset ..), fun q hq => ?_, ?_⟩
  · exact (State.plate_setPlate_ne _ (Ne.symm hq) _).trans (((hclear _).2 q hq).trans (hflush.2 q hq))
  · rw [State.plate_setPlate_same]
    exact ⟨rfl, rfl, rfl⟩

/-- The lane plates on which a context runs end, each once; the others stay. -/
theorem State.endLane_frame (id : Nat) (ps : List Nat) (s : State) :
    let t := ps.foldl (fun t p => if (t.plate p).ctx = some id then t.endPlate p else t) s
    PlateWork s t ∧ ∀ p, (p ∈ ps → (s.plate p).ctx = some id → (t.plate p).over) ∧ ((s.plate p).ctx ≠ some id → t.plate p = s.plate p) ∧
      ((s.plate p).over → (t.plate p).over) := by
  induction ps generalizing s with
  | nil => exact ⟨plateWork_of_sideWork (sideWork_refl s), fun p => ⟨fun h => absurd h List.not_mem_nil, fun _ => rfl, fun h => h⟩⟩
  | cons q ps ih =>
    rw [List.foldl_cons]
    by_cases hq : (s.plate q).ctx = some id
    · rw [if_pos hq]
      obtain ⟨hw, hother, hover⟩ := s.endPlate_frame q
      obtain ⟨hw', hps⟩ := ih (s.endPlate q)
      refine ⟨plateWork_trans hw hw', fun p => ?_⟩
      obtain ⟨hin, hkeep, hdone⟩ := hps p
      by_cases hp : p = q
      · subst hp
        exact ⟨fun _ _ => hdone hover, fun h => absurd hq h, fun _ => hdone hover⟩
      · rw [hother p hp] at hin hkeep hdone
        exact ⟨fun hmem => hin ((List.mem_cons.mp hmem).resolve_left hp), hkeep, hdone⟩
    · rw [if_neg hq]
      obtain ⟨hw, hps⟩ := ih s
      refine ⟨hw, fun p => ?_⟩
      obtain ⟨hin, hkeep, hdone⟩ := hps p
      exact ⟨fun hmem hc => hin ((List.mem_cons.mp hmem).resolve_left (fun e => hq (e ▸ hc))) hc, hkeep, hdone⟩

theorem sideWork_endSlot (s : State) (q code : Nat) : SideWork s (s.endSlot q code) := ⟨rfl, rfl, fun _ _ _ => rfl⟩

/-- R40, R97: a context's program ends: it is DONE with the code, and its lane's plates are over. -/
theorem State.endContext_frame (s : State) (id code : Nat) :
    ((s.endContext id code).ctx id).run = .done ∧ ((s.endContext id code).ctx id).endCode = statusMax (s.ctx id).endCode code ∧
    (∀ p, (p ∈ lanePlates (s.ctx id) → (s.plate p).ctx = some id → ((s.endContext id code).plate p).over) ∧
      ((s.plate p).ctx ≠ some id → (s.endContext id code).plate p = s.plate p)) ∧
    ∀ a, bookkeeping a = false → errorReg a = false → (s.endContext id code).reg a = s.reg a := by
  unfold State.endContext
  extract_lets x s1 s2 s3 y
  obtain ⟨hlane, hplates⟩ := State.endLane_frame id (lanePlates x) s
  have h2 : SideWork s1 s2 := sideWork_foldl _ _ (fun t _ _ => sideWork_trans (sideWork_sampleAll t ..) (sideWork_logSems _ ..)) s1
  have h3 : SideWork s2 s3 := sideWork_foldl _ _ (fun t q _ => sideWork_endSlot t q code) s2
  have hput : SideWork (s3.setCtx id y) (s3.putCtx id y) := sideWork_putCtx ..
  have hctx : (s3.putCtx id y).ctx id = y := (hput.ctx id).trans (State.ctx_setCtx_same ..)
  have hplate : ∀ p, (s3.putCtx id y).plate p = s1.plate p := fun p => (hput.plate p).trans ((sideWork_trans h2 h3).plate p)
  refine ⟨by rw [hctx], by rw [hctx], fun p => ?_, fun a hb he => ?_⟩
  · obtain ⟨hin, hkeep, -⟩ := hplates p
    rw [hplate p]
    exact ⟨hin, hkeep⟩
  · calc (s3.putCtx id y).reg a = s3.reg a := hput.reg hb he
      _ = s1.reg a := (sideWork_trans h2 h3).reg hb he
      _ = s.reg a := hlane.reg hb he

/-! ### Fault registers (R501) -/

/-- Address of the fault register of an opcode. -/
def faultAddr (opc p : Nat) : Nat := fldAddr (faultReg opc p).1 (faultReg opc p).2 0

/-- Registers of a plate below its counters, and outside the record of tray errors, are no bookkeeping. -/
theorem plateOffset_apart {b p o : Nat} (hb : b = 0x0F0010000000) (hp : p < 128) (ho : o < 0x8000) (he : o < 0x228 ∨ 0x230 < o) :
    bookkeeping (b + p * 0x10000 + o) = false ∧ errorReg (b + p * 0x10000 + o) = false ∧
      b + p * 0x10000 + o ≠ fldAddr fDODGE_FAULT_OFF_OFFSET (p / 8) 0 := by
  refine ⟨?_, ?_, ?_⟩
  · rw [bookkeeping, decide_eq_false_iff_not]
    simp only [fldAddr, fREL_LOG_IDX_TAIL, fREL_LOG_STAT_OVERWRITTEN, blockBase]
    omega
  · rw [errorReg, decide_eq_false_iff_not]
    omega
  · simp only [fldAddr, fDODGE_FAULT_OFF_OFFSET, blockBase]
    omega

/-- Registers of a cluster below its counters are no bookkeeping. -/
theorem clusterOffset_apart {b g o : Nat} (hb : b = 0x0F0020000000) (hg : g < 16) (ho : o < 0x8000) (he : o ≠ 0x2008) :
    bookkeeping (b + g * 0x100000 + o) = false ∧ errorReg (b + g * 0x100000 + o) = false ∧
      b + g * 0x100000 + o ≠ fldAddr fDODGE_FAULT_OFF_OFFSET g 0 := by
  refine ⟨?_, ?_, ?_⟩
  · rw [bookkeeping, decide_eq_false_iff_not]
    simp only [fldAddr, fREL_LOG_IDX_TAIL, fREL_LOG_STAT_OVERWRITTEN, blockBase]
    omega
  · rw [errorReg, decide_eq_false_iff_not]
    omega
  · simp only [fldAddr, fDODGE_FAULT_OFF_OFFSET, blockBase]
    omega

theorem fldAddr_plate {f : Fld} (hf : f.blk = .plate ∧ f.stride = 0) (p : Nat) : fldAddr f p 0 = 0x0F0010000000 + p * 0x10000 + f.off := by
  simp [fldAddr, hf.1, hf.2, blockBase]

theorem fldAddr_cluster {f : Fld} (hf : f.blk = .cluster ∧ f.stride = 0) (g : Nat) : fldAddr f g 0 = 0x0F0020000000 + g * 0x100000 + f.off := by
  simp [fldAddr, hf.1, hf.2, blockBase]

/-- Fault registers are set by faults alone. -/
theorem faultAddr_apart (opc : Nat) {p : Nat} (hp : p < 128) : bookkeeping (faultAddr opc p) = false ∧ errorReg (faultAddr opc p) = false ∧
    faultAddr opc p ≠ fldAddr fDODGE_FAULT_OFF_OFFSET (p / 8) 0 := by
  have hplate : ∀ f : Fld, (f.blk = .plate ∧ f.stride = 0) → f.off < 0x8000 → (f.off < 0x228 ∨ 0x230 < f.off) → faultReg opc p = (f, p) →
      bookkeeping (faultAddr opc p) = false ∧ errorReg (faultAddr opc p) = false ∧
      faultAddr opc p ≠ fldAddr fDODGE_FAULT_OFF_OFFSET (p / 8) 0 := by
    intro f hf ho he hr
    rw [faultAddr, hr, fldAddr_plate hf]
    exact plateOffset_apart rfl hp ho he
  have hcluster : ∀ f : Fld, (f.blk = .cluster ∧ f.stride = 0) → f.off < 0x8000 → f.off ≠ 0x2008 → faultReg opc p = (f, p / 8) →
      bookkeeping (faultAddr opc p) = false ∧ errorReg (faultAddr opc p) = false ∧
      faultAddr opc p ≠ fldAddr fDODGE_FAULT_OFF_OFFSET (p / 8) 0 := by
    intro f hf ho he hr
    rw [faultAddr, hr, fldAddr_cluster hf]
    exact clusterOffset_apart rfl (by omega) ho he
  by_cases h1 : opc < 0x20 ∨ opc = 0x47 ∨ 0x82 ≤ opc
  · exact hplate fPLATE_SEQ_FAULT_OPC (by decide) (by decide) (by decide) (by rw [faultReg, if_pos h1])
  by_cases h2 : opc < 0x40 ∨ (0x50 ≤ opc ∧ opc < 0x58)
  · exact hplate fPLATE_GRAIN_FAULT_OPC (by decide) (by decide) (by decide) (by rw [faultReg, if_neg h1, if_pos h2])
  by_cases h3 : opc < 0x50
  · exact hcluster fSAFE_FAULT_OPC (by decide) (by decide) (by decide) (by rw [faultReg, if_neg h1, if_neg h2, if_pos h3])
  by_cases h4 : opc < 0x60
  · exact hplate fTRAY_DMA_FAULT_OPC (by decide) (by decide) (by decide) (by rw [faultReg, if_neg h1, if_neg h2, if_neg h3, if_pos h4])
  by_cases h5 : opc < 0x70
  · exact hcluster fDODGE_FAULT_OPC (by decide) (by decide) (by decide)
      (by rw [faultReg, if_neg h1, if_neg h2, if_neg h3, if_neg h4, if_pos h5])
  · exact hcluster fENL_FAULT_OPC (by decide) (by decide) (by decide)
      (by rw [faultReg, if_neg h1, if_neg h2, if_neg h3, if_neg h4, if_neg h5])

/-- R501: recording a fault leaves plates and contexts. -/
theorem State.recordFault_places (s : State) (c : PlateCmd) (opc status extra off : Nat) :
    (s.recordFault c opc status extra off).plates = s.plates ∧ (s.recordFault c opc status extra off).ctxs = s.ctxs := by
  have hset : ∀ (t : State) a v, (t.setReg a v).plates = t.plates ∧ (t.setReg a v).ctxs = t.ctxs := fun _ _ _ => ⟨rfl, rfl⟩
  have hput : ∀ (t : State) f i v, (t.put f i 0 v).plates = t.plates ∧ (t.put f i 0 v).ctxs = t.ctxs := fun _ _ _ _ => ⟨rfl, rfl⟩
  unfold State.recordFault
  extract_lets r a s1
  obtain ⟨hp, hc⟩ : s1.plates = s.plates ∧ s1.ctxs = s.ctxs := hset s a (faultImage opc status (faultExtra opc c.plate extra) c.index)
  clear_value s1
  split
  · exact ⟨rfl, rfl⟩
  · split
    · obtain ⟨hp', hc'⟩ := hput s1 fDODGE_FAULT_OFF_OFFSET (c.plate / 8) off
      exact ⟨hp'.trans hp, hc'.trans hc⟩
    · exact ⟨hp, hc⟩

/-- R501: a fault register takes the first fault; no register changes but those of the fault. -/
theorem State.recordFault_frame (s : State) (c : PlateCmd) (opc status extra off : Nat) :
    (∀ a, a ≠ faultAddr opc c.plate → a ≠ fldAddr fDODGE_FAULT_OFF_OFFSET (c.plate / 8) 0 → (s.recordFault c opc status extra off).reg a = s.reg a) ∧
    (c.plate < 128 → fieldOf (s.reg (faultAddr opc c.plate)) 63 1 = 0 →
      (s.recordFault c opc status extra off).reg (faultAddr opc c.plate) = faultImage opc status (faultExtra opc c.plate extra) c.index) := by
  have ha : ∀ r a, r = faultReg opc c.plate → a = fldAddr r.1 r.2 0 → a = faultAddr opc c.plate := by rintro _ _ rfl rfl; rfl
  unfold State.recordFault
  extract_lets r a s1
  have ha := ha r a rfl rfl
  split
  · rename_i hv
    exact ⟨fun _ _ _ => rfl, fun _ h0 => by rw [← ha, hv] at h0; cases h0⟩
  · have hsame : s1.reg a = faultImage opc status (faultExtra opc c.plate extra) c.index := State.reg_setReg_same ..
    have hother : ∀ b, b ≠ faultAddr opc c.plate → s1.reg b = s.reg b := fun b hb => State.reg_setReg_ne s (fun e => hb (e.symm.trans ha)) _
    rw [ha] at hsame
    clear_value s1
    split
    · refine ⟨fun b hb hd => (State.reg_setReg_ne s1 (Ne.symm hd) _).trans (hother b hb), fun hp _ => ?_⟩
      obtain ⟨-, -, hdodge⟩ := faultAddr_apart opc hp
      exact (State.reg_setReg_ne s1 hdodge.symm _).trans hsame
    · exact ⟨fun b hb _ => hother b hb, fun _ _ => hsame⟩

/-- R97, R437, R501: a fault is recorded and logged, and then its context's program, or its plate's, ends. -/
theorem State.faultOf_ends (s : State) (who : Option Nat) (c : PlateCmd) (opc code status extra off addr : Nat)
    (hp : c.plate < 128 ∨ opc < 0x60) : ∃ u, SideWork (s.recordFault c opc status extra off) u ∧
    s.faultOf who c opc code status extra off addr = (match who with | some id => u.endContext id code | none => u.endPlate c.plate) := by
  unfold State.faultOf
  extract_lets n img inst s1 s2 s3
  have h1 : SideWork (s.recordFault c opc status extra off) s1 := sideWork_log _ _
  have h2 : SideWork s1 s2 := by
    show SideWork s1 (if _ then _ else _)
    split
    · exact sideWork_log _ _
    · exact sideWork_refl s1
  have h3 : SideWork s2 s3 := by
    show SideWork s2 (if _ then _ else _)
    split
    · rename_i hdodge
      exact sideWork_dens _ (by omega) ..
    · exact sideWork_refl s2
  exact ⟨s3, sideWork_trans h1 (sideWork_trans h2 h3), rfl⟩

end Sys2Proof.Machine
end

section
/-! Promotion, the time-out of a wait, and the fetch of commands (R82, R149, R261). -/

namespace Sys2Proof.Machine

/-! ### Promotion of a strip (R82) -/

/-- Columns of a strip, slot by slot. -/
def stripKeys (st : Nat) : List Nat := (List.range 512).map (fun i => i / 32 * 256 + 32 * st + i % 32)

theorem mem_stripKeys {st slot col : Nat} (hst : st < 8) (hslot : slot < 16) (hcol : col < 256) : slot * 256 + col ∈ stripKeys st ↔ col / 32 = st := by
  simp only [stripKeys, List.mem_map, List.mem_range]
  constructor
  · rintro ⟨i, hi, he⟩
    omega
  · intro h
    exact ⟨slot * 32 + col % 32, by omega, by omega⟩

theorem smapGet_foldl_erase {α : Type} (d : Nat → α) (keys : List Nat) (m : SMap α) (k : Nat) :
    smapGet d k (keys.foldl (fun m k => smapErase k m) m) = if k ∈ keys then d k else smapGet d k m := by
  induction keys generalizing m with
  | nil => rfl
  | cons j keys ih =>
    rw [List.foldl_cons, ih]
    by_cases hk : k ∈ keys
    · rw [if_pos hk, if_pos (List.mem_cons_of_mem _ hk)]
    · rw [if_neg hk]
      by_cases hj : j = k
      · subst hj
        rw [if_pos (List.mem_cons_self ..), smapGet_erase_same]
      · rw [if_neg (fun h => hk ((List.mem_cons.mp h).resolve_left (Ne.symm hj))), smapGet_erase_ne d hj]

/-- One narrow entry promoted into the wide ones. -/
def promoteKey (g : Group) (tag : Nat) (a : SMap Nat × Nat) (k : Nat) : SMap Nat × Nat :=
  let e := smapGet (fun _ => Narrow.zero) k g.narrow
  if e = Narrow.zero then a
  else
    let q := promoteEntry g.width tag e (smapGet (fun _ => 0) k a.1)
    (smapSet (fun _ => 0) k q.1 a.1, if q.2 then a.2 + 1 else a.2)

theorem promoteKeys_other (g : Group) (tag : Nat) (keys : List Nat) (a : SMap Nat × Nat) {k : Nat} (hk : k ∉ keys) :
    smapGet (fun _ => 0) k (keys.foldl (promoteKey g tag) a).1 = smapGet (fun _ => 0) k a.1 := by
  induction keys generalizing a with
  | nil => rfl
  | cons j keys ih =>
    obtain ⟨hj, hks⟩ := not_or.mp (fun h => hk (List.mem_cons.mpr h))
    rw [List.foldl_cons, ih _ hks]
    simp only [promoteKey]
    split
    · rfl
    · exact smapGet_set_ne _ (Ne.symm hj) ..

/-- R82: a strip with contributions, promoted. -/
theorem promoteStrip_eq (g : Group) {st : Nat} (h : (smapGet (fun _ => StripAcc.zero) st g.strips).count ≠ 0) : (promoteStrip g st).1 =
    { g with wide := ((stripKeys st).foldl (promoteKey g (smapGet (fun _ => StripAcc.zero) st g.strips).tag) (g.wide, 0)).1,
             narrow := (stripKeys st).foldl (fun m k => smapErase k m) g.narrow,
             strips := smapSet (fun _ => StripAcc.zero) st StripAcc.zero g.strips } := by
  unfold promoteStrip
  dsimp only
  rw [if_neg h]
  rfl

/-- R82: promotion empties the strip and leaves the others. -/
theorem promoteStrip_frame (g : Group) {st : Nat} (hst : st < 8) (h : (smapGet (fun _ => StripAcc.zero) st g.strips).count ≠ 0) :
    let h := (promoteStrip g st).1
    smapGet (fun _ => StripAcc.zero) st h.strips = StripAcc.zero ∧
    (∀ u, u ≠ st → smapGet (fun _ => StripAcc.zero) u h.strips = smapGet (fun _ => StripAcc.zero) u g.strips) ∧
    ∀ slot col, slot < 16 → col < 256 →
      (col / 32 = st → smapGet (fun _ => Narrow.zero) (slot * 256 + col) h.narrow = Narrow.zero) ∧
      (col / 32 ≠ st → smapGet (fun _ => Narrow.zero) (slot * 256 + col) h.narrow = smapGet (fun _ => Narrow.zero) (slot * 256 + col) g.narrow ∧
        smapGet (fun _ => 0) (slot * 256 + col) h.wide = smapGet (fun _ => 0) (slot * 256 + col) g.wide) := by
  rw [promoteStrip_eq g h]
  dsimp only
  refine ⟨smapGet_set_same .., fun u hu => smapGet_set_ne _ (Ne.symm hu) .., fun slot col hslot hcol => ?_⟩
  rw [smapGet_foldl_erase]
  refine ⟨fun hc => if_pos ((mem_stripKeys hst hslot hcol).mpr hc), fun hc => ?_⟩
  have hk := fun hm => hc ((mem_stripKeys hst hslot hcol).mp hm)
  exact ⟨if_neg hk, promoteKeys_other g _ _ _ hk⟩

theorem Plate.group_setGroup_same (x : Plate) (key : Nat) (g : Option Group) : (x.setGroup key g).group key = g := smapGet_set_same ..

theorem Plate.group_setGroup_ne (x : Plate) {key k : Nat} (h : k ≠ key) (g : Option Group) : (x.setGroup key g).group k = x.group k :=
  smapGet_set_ne _ (Ne.symm h) ..

theorem beside_notePromotion (s : State) {p : Nat} (hp : p < 128) (slots poison : Nat) : Beside s (s.notePromotion p slots poison) [] :=
  beside_trans (beside_dens s p 6 slots (by omega)) (beside_dens _ p 7 poison (by omega)) (by simp)

/-- What `promotionAt` does where the interval is reached, beside counting it. -/
theorem State.promotionAt_frame (s : State) {p key strip : Nat} {g : Group} (hp : p < 128) (hg : (s.plate p).group key = some g)
    (hn : g.n ≤ (smapGet (fun _ => StripAcc.zero) strip g.strips).count) :
    Beside { s with plates := (s.promotionAt p key strip).plates } (s.promotionAt p key strip) [] ∧
    (∀ q, q ≠ p → (s.promotionAt p key strip).plate q = s.plate q) ∧
    (s.promotionAt p key strip).plate p = (s.plate p).setGroup key (some (promoteStrip g strip).1) := by
  let x := (s.plate p).setGroup key (some (promoteStrip g strip).1)
  have e : s.promotionAt p key strip = (s.setPlate p x).notePromotion p stripSlots (promoteStrip g strip).2 := by
    unfold State.promotionAt
    rw [hg]
    exact if_pos hn
  have hb := beside_notePromotion (s.setPlate p x) hp stripSlots (promoteStrip g strip).2
  have hpl := beside_plates hb
  rw [e]
  refine ⟨?_, fun q hq => ?_, ?_⟩
  · rw [hpl]
    exact hb
  · exact (congrArg (smapGet _ q) hpl).trans (State.plate_setPlate_ne s (Ne.symm hq) _)
  · exact (congrArg (smapGet _ p) hpl).trans (State.plate_setPlate_same ..)

/-! ### A wait that times out (R149, R501) -/

/-- R97, R501: a plate command that faults ends the program that runs on its plate and, where its fault register is free, stands in it. -/
theorem State.plateFault_ends (s : State) (c : PlateCmd) (opc code status extra off addr : Nat) (hp : c.plate < 128)
    (hlane : ∀ id, (s.plate c.plate).ctx = some id → c.plate ∈ lanePlates (s.ctx id)) :
    let t := s.plateFault c opc code status extra off addr
    (t.plate c.plate).over ∧
    (∀ id, (s.plate c.plate).ctx = some id → (t.ctx id).run = .done ∧ (t.ctx id).endCode = statusMax (s.ctx id).endCode code) ∧
    (fieldOf (s.reg (faultAddr opc c.plate)) 63 1 = 0 →
      t.reg (faultAddr opc c.plate) = faultImage opc status (faultExtra opc c.plate extra) c.index) := by
  obtain ⟨u, hu, he⟩ := s.faultOf_ends (s.plate c.plate).ctx c opc code status extra off addr (.inl hp)
  obtain ⟨-, hrec⟩ := s.recordFault_frame c opc status extra off
  obtain ⟨hpl, hctx⟩ := s.recordFault_places c opc status extra off
  obtain ⟨hbook, herr, -⟩ := faultAddr_apart opc hp
  have hplate : u.plate c.plate = s.plate c.plate := (hu.plate _).trans (congrArg (smapGet _ c.plate) hpl)
  have hctx : ∀ id, u.ctx id = s.ctx id := fun id => (hu.ctx id).trans (congrArg (smapGet _ id) hctx)
  have hreg := fun h0 => (hu.reg hbook herr).trans (hrec hp h0)
  dsimp only
  rw [State.plateFault, he]
  cases hc : (s.plate c.plate).ctx with
  | none =>
    obtain ⟨hw, -, hover⟩ := u.endPlate_frame c.plate
    exact ⟨hover, nofun, fun h0 => (hw.reg hbook herr).trans (hreg h0)⟩
  | some id =>
    obtain ⟨hrun, hcode, hplates, hregs⟩ := u.endContext_frame id code
    refine ⟨(hplates _).1 ?_ ?_, ?_, fun h0 => (hregs _ hbook herr).trans (hreg h0)⟩
    · rw [hctx]
      exact hlane id hc
    · rw [hplate, hc]
    · rintro _ ⟨⟩
      rw [← hctx]
      exact ⟨hrun, hcode⟩

/-! ### Fetch of commands (R261) -/

theorem parts_of_beside {s t : State} {A : List Nat} (h : Beside s t A) : t.parts = s.parts := by rw [h.1]

theorem State.parts_dens (s : State) {b : Nat} (hb : b < 187) (ev v : Nat) : (s.dens b ev v).parts = s.parts := parts_of_beside (beside_dens s b ev v hb)

theorem State.parts_noteCorrected (s : State) (die unit inst n : Nat) : (s.noteCorrected die unit inst n).parts = s.parts :=
  parts_of_beside (beside_noteCorrected s die unit inst n)

theorem State.parts_bump (s : State) (f : Fld) (i j d : Nat) : (s.bump f i j d).parts = s.parts := rfl

theorem State.parts_noteStack (s : State) (die a n : Nat) : (s.noteStack die a n).parts = s.parts := by
  unfold State.noteStack
  generalize linesOf a n = ls
  induction ls generalizing s with
  | nil => rfl
  | cons l ls ih =>
    have hh := s.stackOf_lt l
    have hdens : ∀ (t : State) ev v, (t.dens (162 + s.stackOf l) ev v).parts = t.parts :=
      fun t ev v => t.parts_dens (by omega) ev v
    have hline : ∀ t : State, (if t.lineErrOf l = .corrected then
        (t.bump fHBM_ECC_STAT_CE (s.stackOf l) 0 1).noteCorrected (s.stackOf l / 4) 11 (s.stackOf l) 1 else t).parts = t.parts := by
      intro t
      split
      · rw [State.parts_noteCorrected, State.parts_bump]
      · rfl
    rw [List.foldl_cons, ih]
    exact (hline _).trans ((hdens _ _ _).trans (hdens _ _ _))

theorem State.parts_noteRead (s : State) {p : Nat} (hp : p < 128) (o n : Nat) : (s.noteRead p o n).parts = s.parts := by
  unfold State.noteRead
  dsimp only
  split
  · rfl
  · rw [State.parts_noteCorrected, State.parts_dens _ (by omega), State.parts_bump]

/-- What a read counts changes no partition. -/
theorem State.parts_noteRemote (s : State) (p a n : Nat) : (s.noteRemote p a n).parts = s.parts := by
  unfold State.noteRemote
  split
  · rename_i ht
    exact s.parts_noteRead (trayPlate_lt ht) ..
  · split
    · exact s.parts_noteStack ..
    · have hd : (s.dens 186 1 n).parts = s.parts := s.parts_dens (by omega) 1 n
      rw [← hd]
      generalize s.dens 186 1 n = u
      generalize linesOf a n = ls
      induction ls generalizing u with
      | nil => rfl
      | cons l ls ih =>
        rw [List.foldl_cons, ih]
        split
        · rw [State.parts_noteCorrected, State.parts_bump]
        · rfl

theorem State.prt_noteRemote (s : State) (p a n m : Nat) : (s.noteRemote p a n).prt m = s.prt m := congrArg (smapGet _ m) (s.parts_noteRemote p a n)

/-- R482: without random tags a command is tagged by itself alone. -/
theorem State.drawTag_off (s : State) {n : Nat} (h : fieldOf (s.prt n).dens 1 5 < 8 ∨ 20 < fieldOf (s.prt n).dens 1 5) : s.drawTag n = (false, s) := by
  unfold State.drawTag
  exact if_neg (by omega)

end Sys2Proof.Machine
end

section
/-! The passage of time up to an event (R266, R270, R326), and what promotions, time-outs, fetches and waits come to. -/

namespace Sys2Proof.Machine

/-! ### Plates listed in a sparse map -/

theorem smapGet_of_mem {α : Type} [DecidableEq α] (d : Nat → α) {m : SMap α} (hm : smapWf d m = true) {k : Nat} {v : α} (h : (k, v) ∈ m) :
    smapGet d k m = v := by
  induction m with
  | nil => cases h
  | cons e m ih =>
    obtain ⟨j, w⟩ := e
    obtain ⟨hlt, -, hwf⟩ := (smapWf_cons d j w m).mp hm
    rcases List.mem_cons.mp h with he | ht
    · cases he
      exact if_pos rfl
    · exact (if_neg (Nat.ne_of_lt (hlt _ ht))).trans (ih hwf ht)

theorem mem_of_smapGet_ne {α : Type} (d : Nat → α) {m : SMap α} {k : Nat} (h : smapGet d k m ≠ d k) : (k, smapGet d k m) ∈ m := by
  induction m with
  | nil => exact absurd rfl h
  | cons e m ih =>
    obtain ⟨j, w⟩ := e
    by_cases hj : j = k
    · subst hj
      rw [smapGet, if_pos rfl]
      exact List.mem_cons_self ..
    · rw [smapGet, if_neg hj] at h ⊢
      exact List.mem_cons_of_mem _ (ih h)

/-- Plates replaced one after the other, each by what the same function makes of it. -/
theorem State.plate_foldl_setPlate (f : Nat × Plate → Plate) (es : List (Nat × Plate)) (s : State) {p : Nat} {x : Plate}
    (hsame : ∀ e ∈ es, e.1 = p → e.2 = x) (h : s.plate p = f (p, x) ∨ (p, x) ∈ es) :
    (es.foldl (fun u e => u.setPlate e.1 (f e)) s).plate p = f (p, x) := by
  induction es generalizing s with
  | nil => exact h.resolve_right List.not_mem_nil
  | cons e es ih =>
    refine ih _ (fun e' he' => hsame e' (List.mem_cons_of_mem _ he')) ?_
    by_cases he : e.1 = p
    · have hx : e = (p, x) := Prod.ext he (hsame e (List.mem_cons_self ..) he)
      subst hx
      exact .inl (State.plate_setPlate_same ..)
    · rw [State.plate_setPlate_ne s he]
      exact h.imp id (fun hm => (List.mem_cons.mp hm).resolve_left (fun e' => he (congrArg Prod.fst e').symm))

theorem State.foldl_setPlate_frame (f : Nat × Plate → Plate) (es : List (Nat × Plate)) (s : State) :
    es.foldl (fun u e => u.setPlate e.1 (f e)) s = { s with plates := (es.foldl (fun u e => u.setPlate e.1 (f e)) s).plates } := by
  induction es generalizing s with
  | nil => rfl
  | cons e es ih => exact ih (s.setPlate e.1 (f e))

/-! ### Edges of the timebase (R326) -/

theorem le_ceilDiv_mul {b : Nat} (hb : 0 < b) (a : Nat) : a ≤ ceilDiv a b * b := by
  have h := Nat.div_add_mod (a + b - 1) b
  have hm := Nat.mod_lt (a + b - 1) hb
  rw [ceilDiv, Nat.mul_comm]
  omega

/-- A plate's program clock after `k` edges. -/
def State.ticked (s : State) (k : Nat) (e : Nat × Plate) : Plate := { e.2 with clock := e.2.clock + s.cycleRate e.1 * k }

/-- The timer after `k` edges. -/
def State.timerAfter (s : State) (k : Nat) : Timer :=
  { s.timer with master := s.timer.master.run k, replicas := s.timer.replicas.map (fun c => c.run k) }

/-- `k` edges move the timer's clocks and those of the plates whose program clock counts. -/
def State.clocksMoved (s : State) (k : Nat) : State :=
  (s.plates.filter (fun e => s.clocked e.2)).foldl (fun (u : State) (e : Nat × Plate) => u.setPlate e.1 (s.ticked k e)) { s with timer := s.timerAfter k }

theorem State.elapse_eq (s : State) (k : Nat) : s.elapse k = (((s.clocksMoved k).countFull s.nowDie).countLevels s.nowDie).noteWashLate := rfl

theorem State.clocksMoved_frame (s : State) (k : Nat) : s.clocksMoved k = { s with timer := s.timerAfter k, plates := (s.clocksMoved k).plates } :=
  State.foldl_setPlate_frame (s.ticked k) _ _

/-- R266: the program clock of a plate that counts has moved. -/
theorem State.clocksMoved_plate (s : State) (k : Nat) {p : Nat} (hwf : smapWf (fun _ => Plate.init) s.plates = true)
    (hc : s.clocked (s.plate p) = true) : (s.clocksMoved k).plate p = s.ticked k (p, s.plate p) := by
  have hlisted : s.plate p ≠ Plate.init := fun h => by rw [h] at hc; cases hc
  refine State.plate_foldl_setPlate (s.ticked k) _ _ (fun e he hp => ?_) (.inr ?_)
  · subst hp
    exact (smapGet_of_mem _ hwf (List.mem_filter.mp he).1).symm
  · exact List.mem_filter.mpr ⟨mem_of_smapGet_ne _ hlisted, hc⟩

theorem State.homeDie_lt (s : State) (n : Nat) : s.homeDie n < 2 := by
  unfold State.homeDie
  split
  · decide
  · decide

theorem beside_countFull (s : State) (t0 : Nat → Nat) : Beside s (s.countFull t0) [] := by
  have hd := s.homeDie_lt
  exact beside_foldl _ [] (by simp) (fun t n => beside_dens t _ _ _ (by have := hd n; omega)) _ s

theorem beside_countLevels (s : State) (t0 : Nat → Nat) : Beside s (s.countLevels t0) [] := by
  unfold State.countLevels
  generalize hl : (List.range 8).filter (fun h => decide (s.get fHBM_STAT_LEVEL h 0 ≠ 0)) = hs
  have hlt : ∀ h ∈ hs, h < 8 := fun h hh => by
    rw [← hl] at hh
    exact List.mem_range.mp (List.mem_filter.mp hh).1
  clear hl
  suffices ∀ t : State, Beside t (hs.foldl (fun t h =>
      t.dens (162 + h) (if s.get fHBM_STAT_LEVEL h 0 = 5 then 7 else 6) (s.nowDie (h / 4) / 1000 - t0 (h / 4) / 1000)) t) [] from this s
  induction hs with
  | nil => exact fun t => beside_refl t []
  | cons h hs ih =>
    intro t
    have hh := hlt h (List.mem_cons_self ..)
    exact beside_trans (beside_dens t (162 + h) _ _ (by omega)) (ih (fun g hg => hlt g (List.mem_cons_of_mem _ hg)) _) (by simp)

/-- R419: late trays leave the list of deferred lines; beside that they are logged. -/
theorem beside_noteWashLate (s : State) : Beside { s with washHeld := s.noteWashLate.washHeld } s.noteWashLate [] := by
  let u : State := { s with washHeld := s.washHeld.filter (fun e => !decide (e.2.2 < s.now)) }
  have h : Beside u s.noteWashLate [] := beside_foldl _ [] (by simp) (fun t p => beside_log t _) _ u
  have e : s.noteWashLate.washHeld = u.washHeld := by rw [h.1]
  rw [e]
  exact h

/-- What elapsing time counts and logs stands beside the clocks it moves. -/
theorem beside_elapse (s : State) (k : Nat) : Beside { s.clocksMoved k with washHeld := (s.elapse k).washHeld } (s.elapse k) [] := by
  rw [State.elapse_eq]
  have h := beside_trans (beside_countFull (s.clocksMoved k) s.nowDie) (beside_countLevels _ s.nowDie) (by simp)
  generalize ((s.clocksMoved k).countFull s.nowDie).countLevels s.nowDie = u at h ⊢
  have hw : ∀ w, Beside { s.clocksMoved k with washHeld := w } { u with washHeld := w } [] :=
    fun w => by
      obtain ⟨hframe, hregs, hmem, hlines, hout⟩ := h
      exact ⟨by rw [hframe], hregs, hmem, hlines, hout⟩
  exact beside_trans (hw _) (beside_noteWashLate u) (by simp)

theorem State.elapse_frame (s : State) (k : Nat) : (s.elapse k).plates = (s.clocksMoved k).plates ∧ (s.elapse k).timer = s.timerAfter k ∧
    Beside { s with plates := (s.elapse k).plates, timer := (s.elapse k).timer, washHeld := (s.elapse k).washHeld } (s.elapse k) [] := by
  have h := beside_elapse s k
  have hp : (s.elapse k).plates = (s.clocksMoved k).plates := by rw [h.1]
  have ht : (s.elapse k).timer = s.timerAfter k := by rw [h.1, s.clocksMoved_frame]
  refine ⟨hp, ht, ?_⟩
  have e : { s with plates := (s.elapse k).plates, timer := (s.elapse k).timer, washHeld := (s.elapse k).washHeld } =
      { s.clocksMoved k with washHeld := (s.elapse k).washHeld } := by
    rw [hp, ht, s.clocksMoved_frame]
  rw [e]
  exact h

theorem State.cycleRate_pos (s : State) (p : Nat) : 0 < s.cycleRate p := by
  unfold State.cycleRate
  split
  · decide
  · decide

/-- R270: a program clock that counts reaches AT. -/
theorem State.clock_reached (s : State) {p : Nat} (hwf : smapWf (fun _ => Plate.init) s.plates = true) (hc : s.clocked (s.plate p) = true) (at_ : Nat) :
    at_ ≤ ((s.elapse (ceilDiv (at_ - (s.plate p).clock) (s.cycleRate p))).plate p).clock ∧
    ∀ k, { (s.elapse k).plate p with clock := 0 } = { s.plate p with clock := 0 } := by
  have hplate : ∀ k, (s.elapse k).plate p = s.ticked k (p, s.plate p) := fun k =>
    (congrArg (smapGet _ p) (s.elapse_frame k).1).trans (s.clocksMoved_plate k hwf hc)
  refine ⟨?_, fun k => by rw [hplate]; rfl⟩
  rw [hplate]
  have h := le_ceilDiv_mul (s.cycleRate_pos p) (at_ - (s.plate p).clock)
  show _ ≤ (s.plate p).clock + s.cycleRate p * _
  rw [Nat.mul_comm]
  omega

/-- The clusters of a partition are no bookkeeping. -/
theorem clusters_apart (n : Nat) : bookkeeping (fldAddr fPART_LAYOUT_CLUSTERS n 0) = false := by
  have e : fldAddr fPART_LAYOUT_CLUSTERS n 0 = 0x0F0090000000 + n * 0x10000 + 0x10 := by simp [fldAddr, fPART_LAYOUT_CLUSTERS, blockBase]
  rw [e]
  generalize hb : 0x0F0090000000 = b
  rw [bookkeeping, decide_eq_false_iff_not]
  simp only [fldAddr, fREL_LOG_IDX_TAIL, fREL_LOG_STAT_OVERWRITTEN, blockBase]
  omega

theorem State.homeDie_elapse (s : State) (k n : Nat) : (s.elapse k).homeDie n = s.homeDie n := by
  obtain ⟨-, -, -, hregs, -⟩ := s.elapse_frame k
  have h : (s.elapse k).get fPART_LAYOUT_CLUSTERS n 0 = s.get fPART_LAYOUT_CLUSTERS n 0 :=
    congrArg (fieldOf · _ _) (hregs _ (clusters_apart n) (by simp))
  have hc : (s.elapse k).clusters n = s.clusters n := by simp only [State.clusters, State.ownsCluster, h]
  rw [State.homeDie, State.homeDie, hc]

/-- R326: a clock that does not wrap shows the time it has been run up to. -/
theorem clockT64_run_edgesTo (c : Clock) (t : Nat) (hr : -(2 ^ 40 : Int) < c.rate)
    (hw : c.time + edgesTo c t * (2 * ((2 ^ 40 : Int) + c.rate)).toNat < 2 ^ 104) : t ≤ clockT64 (c.run (edgesTo c t)) := by
  have hpos : 0 < (2 * ((2 ^ 40 : Int) + c.rate)).toNat := by omega
  have h := le_ceilDiv_mul hpos (t * 2 ^ 40 - c.time)
  simp only [clockT64, Clock.run]
  rw [Nat.mod_eq_of_lt hw, Nat.mod_eq_of_lt (by omega)]
  refine le_max_of_le_right ((Nat.le_div_iff_mul_le (by decide)).mpr ?_)
  rw [edgesTo]
  omega

theorem State.partNow_elapse (s : State) (k n : Nat) :
    (s.elapse k).partNow n = clockT64 ((s.timer.replicas.getD (s.homeDie n) s.timer.master).run k) := by
  rw [State.partNow, State.nowDie, s.homeDie_elapse, (s.elapse_frame k).2.1]
  exact congrArg clockT64 (List.getD_map ..)

/-! ### The statement, part by part -/

theorem State.promotion_exec (s : State) {p key strip : Nat} (hl : s.live = true) (hp : p < 128) (hkey : key < 32) (hstrip : strip < 8) :
    exec (.promotion p key strip) s = .next (s.promotionAt p key strip) :=
  s.answer_live _ _ _ hl (by rw [WellFormed, decide_eq_true_eq]; exact ⟨hp, hkey, hstrip⟩)

theorem State.semTimeout_exec (s : State) {p : Nat} (hl : s.live = true) (hp : p < 128) (index : Nat) :
    exec (.semTimeout p index) s = .next (s.semTimeout p index) := s.answer_live _ _ _ hl (decide_eq_true hp)

theorem State.fetch_exec (s : State) {p : Nat} (hl : s.live = true) (hp : p < 128) (k : Nat) :
    exec (.plateCommandFetch p k) s = .next (s.fetchCmds p k) := s.answer_live _ _ _ hl (decide_eq_true hp)

theorem State.seqAt_exec (s : State) {p : Nat} (hl : s.live = true) (hp : p < 128) : exec (.seqAtReached p) s = .next (s.seqAtReached p) :=
  s.answer_live _ _ _ hl (decide_eq_true hp)

theorem State.seqWindow_exec (s : State) {p : Nat} (hl : s.live = true) (hp : p < 128) :
    exec (.seqWindowReached p) s = .next (s.seqWindowReached p) := s.answer_live _ _ _ hl (decide_eq_true hp)

theorem State.fetchOne_idle (s : State) {p : Nat} (h : (s.plate p).ctx = none) : s.fetchOne p = s := by
  unfold State.fetchOne
  simp only [h]

theorem State.fetchCmds_idle (s : State) {p : Nat} (h : (s.plate p).ctx = none) (k : Nat) : s.fetchCmds p k = s := by
  induction k with
  | zero => rfl
  | succ k ih => rw [State.fetchCmds, s.fetchOne_idle h, ih]

/-- R261: the next command of the program, fetched. -/
theorem State.fetchOne_next (s : State) {p id a count : Nat} (hctx : (s.plate p).ctx = some id)
    (hprog : (s.ctx id).progs.getD (p - (s.ctx id).laneFirst) (0, 0) = (a, count)) (hend : (s.plate p).ended = false)
    (hrun : s.runsCtxs (s.ownerOf p) = true) (hpos : (s.plate p).fetchPos < count)
    (hgrant : s.granted (s.ownerOf p) (a + 32 * (s.plate p).fetchPos) 32 true = true)
    (hheld : s.held (a + 32 * (s.plate p).fetchPos) 32 = false) (hbad : s.badLine (a + 32 * (s.plate p).fetchPos) 32 = none)
    (htag : fieldOf (s.prt (s.ownerOf p)).dens 1 5 < 8 ∨ 20 < fieldOf (s.prt (s.ownerOf p)).dens 1 5) {c : PlateCmd} {t : State}
    (hc : c = { plate := p, index := (s.plate p).fetchPos, word := s.cmdWord (a + 32 * (s.plate p).fetchPos) })
    (ht : t = (s.noteRemote p (a + 32 * (s.plate p).fetchPos) 32).setPlate p { s.plate p with
      fetched := (s.plate p).fetched ++ [((s.plate p).fetchPos, c.word)], fetchPos := (s.plate p).fetchPos + 1 }) :
    s.fetchOne p = if c.tag then t.tagCmd p c.index c.opc true else t := by
  have hdraw := (s.noteRemote p (a + 32 * (s.plate p).fetchPos) 32).drawTag_off (n := s.ownerOf p) (by rw [State.prt_noteRemote]; exact htag)
  subst hc
  rw [ht]
  unfold State.fetchOne
  simp only [hctx, hprog, hend, hrun, hgrant, hheld, hbad, hdraw, if_neg (Nat.not_le.mpr hpos)]
  cases htg : PlateCmd.tag _ with
  | false => rfl
  | true => rfl

/-- R261: past the program's last command, with nothing left to issue. -/
theorem State.fetchOne_past (s : State) {p id a count : Nat} (hctx : (s.plate p).ctx = some id)
    (hprog : (s.ctx id).progs.getD (p - (s.ctx id).laneFirst) (0, 0) = (a, count)) (hend : (s.plate p).ended = false)
    (hrun : s.runsCtxs (s.ownerOf p) = true) (hpos : count ≤ (s.plate p).fetchPos) (hnone : (s.plate p).fetched = [])
    (hwait : ∀ w ∈ (s.plate p).waiting, w.cmd.opc ≠ 0x01) :
    s.fetchOne p = s.plateFault { plate := p, index := (s.plate p).fetchPos, word := 0 } 0 stCmdInvalid stCmdInvalid 0 0 0 := by
  have hany : (s.plate p).waiting.any (fun w => decide (w.cmd.opc = 0x01)) = false :=
    List.any_eq_false.mpr (fun w hw => by rw [decide_eq_false (hwait w hw)]; exact Bool.false_ne_true)
  unfold State.fetchOne
  simp only [hctx, hprog, hend, hrun, if_pos hpos, hnone, hany]
  rfl

/-- Settles O44: each of the five commands by the lemma that says what it comes to. -/
theorem platesPromoteFetchAndWait : Obligations.PlatesPromoteFetchAndWait := by
  unfold Obligations.PlatesPromoteFetchAndWait
  intro s p hl hp
  refine ⟨fun key strip hkey hstrip => ⟨fun hg => ?_, fun g hg => ⟨fun hn => ?_, fun hn hpos => ?_⟩⟩,
    fun index => ⟨fun hw => ?_, fun w hw hcp hlane => ?_⟩, fun hctx k => ?_, s.fetch_exec hl hp 0, fun k t ht htl => ?_,
    fun id a count hctx hprog hend hrun => ⟨fun hpos hgrant hheld hbad htag c t hc ht => ?_, fun hpos hnone hwait => ?_⟩,
    fun hno => ?_, fun w hw hclk hwf => ?_, fun hw => ?_, fun w hw => ?_⟩
  · rw [s.promotion_exec hl hp hkey hstrip, State.promotionAt, hg]
  · rw [s.promotion_exec hl hp hkey hstrip, State.promotionAt, hg]
    exact congrArg _ (if_neg (Nat.not_le.mpr hn))
  · obtain ⟨hbeside, hother, hplate⟩ := s.promotionAt_frame (strip := strip) hp hg hn
    obtain ⟨hdone, hstrips, hentries⟩ := promoteStrip_frame g hstrip (Nat.ne_of_gt hpos)
    refine ⟨_, s.promotion_exec hl hp hkey hstrip, hbeside, hother, fun k hk => ?_, _, ?_, hdone, hstrips, hentries⟩
    · rw [hplate, Plate.group_setGroup_ne _ hk]
    · rw [hplate, Plate.group_setGroup_same]
  · rw [s.semTimeout_exec hl hp, State.semTimeout, hw]
  · subst hcp
    obtain ⟨hover, hctx, hreg⟩ := s.plateFault_ends w.cmd w.cmd.opc 0x0303 0x0303 0 0 0 hp (fun id hid =>
      (hlane.resolve_left (by rw [hid]; exact nofun)).elim (fun id' h => by rw [hid] at h; cases h.1; exact h.2))
    exact ⟨_, by rw [s.semTimeout_exec hl hp, State.semTimeout, hw], hover.1, hover.2.1, hctx, hreg⟩
  · rw [s.fetch_exec hl hp, s.fetchCmds_idle hctx]
  · rw [s.fetch_exec hl hp] at ht
    cases ht
    rw [s.fetch_exec hl hp, State.fetch_exec _ htl hp]
    rfl
  · rw [s.fetch_exec hl hp]
    exact congrArg _ (s.fetchOne_next hctx hprog hend hrun hpos hgrant hheld hbad htag hc ht)
  · rw [s.fetch_exec hl hp]
    exact congrArg _ (s.fetchOne_past hctx hprog hend hrun hpos hnone hwait)
  · rw [s.seqAt_exec hl hp, State.seqAtReached]
    rcases hno with h | h
    · rw [h]
    · split
      · rfl
      · rw [h]
        rfl
  · obtain ⟨hclock, hsame⟩ := s.clock_reached hwf hclk (5 * w.cmd.le 16 8)
    obtain ⟨-, -, hbeside⟩ := s.elapse_frame (ceilDiv (5 * w.cmd.le 16 8 - (s.plate p).clock) (s.cycleRate p))
    refine ⟨_, ?_, hclock, hbeside, hsame _⟩
    rw [s.seqAt_exec hl hp, State.seqAtReached, hw, hclk]
    rfl
  · rw [s.seqWindow_exec hl hp, State.seqWindowReached, hw]
  · refine ⟨_, by rw [s.seqWindow_exec hl hp, State.seqWindowReached, hw]; rfl, ?_⟩
    rintro c rfl hrate hwrap
    rw [State.partNow_elapse]
    exact clockT64_run_edgesTo _ _ hrate hwrap

end Sys2Proof.Machine
end

section
/-! What a plate's unit finds where it begins: its tray, its banks and its groups (R97, R139–R145, R168). -/

namespace Sys2Proof.Machine

/-! ### Memory behind the log (R393) -/

theorem State.healLines_mem (s : State) (a n : Nat) : (s.healLines a n).mem = s.mem := by
  unfold State.healLines
  generalize linesOf a n = ls
  induction ls generalizing s with
  | nil => rfl
  | cons l ls ih =>
    rw [List.foldl_cons, ih]
    split
    · rfl
    · rfl

theorem State.staleTags_mem (s : State) (a n : Nat) : (s.staleTags a n).mem = s.mem := by
  unfold State.staleTags
  split
  · generalize (blocksOf a n).filter s.tagged = bs
    induction bs generalizing s with
    | nil => rfl
    | cons b bs ih => rw [List.foldl_cons, ih, State.setTag_mem]
  · rfl

theorem State.write_mem (s : State) (a : Nat) (bs : List Nat) : (s.write a bs).mem = s.mem.write a bs := by
  unfold State.write
  dsimp only
  rw [State.staleTags_mem, State.healLines_mem]

/-- No byte above the Drawer has changed. -/
def AboveKept (s t : State) : Prop := ∀ a, 0x014000000000 ≤ a → t.mem.get a = s.mem.get a

theorem aboveKept_of_mem {s t : State} (h : t.mem = s.mem) : AboveKept s t := fun _ _ => by rw [h]

theorem aboveKept_trans {s t u : State} (h : AboveKept s t) (h' : AboveKept t u) : AboveKept s u := fun a ha => (h' a ha).trans (h a ha)

theorem aboveKept_foldl {β : Type} (f : State → β → State) (hf : ∀ t b, AboveKept t (f t b)) (bs : List β) (s : State) :
    AboveKept s (bs.foldl f s) := by
  induction bs generalizing s with
  | nil => exact fun _ _ => rfl
  | cons b bs ih => exact aboveKept_trans (hf s b) (ih _)

theorem aboveKept_densQuiet (s : State) (b ev v : Nat) : AboveKept s (s.densQuiet b ev v) := by
  refine aboveKept_foldl _ (fun t n => ?_) _ s
  dsimp only
  split
  · exact fun _ _ => rfl
  · exact fun _ _ => rfl

theorem State.inReserved_iff {s : State} {a n : Nat} : s.inReserved a n = true ↔ drawerBase ≤ a ∧ a + n ≤ s.tagStore := by
  rw [State.inReserved, decide_eq_true_eq]

theorem State.rsvGib_lt (s : State) : s.g fGLOBAL_ZD_RSV_RSV_GIB < 256 := by
  rw [State.g, State.get]
  exact fieldOf_lt _ _ 8

theorem reservedEnd_le {r b d : Nat} (h : b ≤ d + r * 2 ^ 30 - 2 ^ 29) (hr : r < 256) (hd : d = 0x010000000000) : b ≤ 0x014000000000 := by
  omega

/-- The reserved range lies in the Drawer. -/
theorem State.inReserved_le {s : State} {a n : Nat} (h : s.inReserved a n = true) : a + n ≤ 0x014000000000 :=
  reservedEnd_le (State.inReserved_iff.mp h).2 s.rsvGib_lt rfl

/-- R393: the log is written in the reserved range of the Drawer only. -/
theorem aboveKept_logWrite (s : State) (e : LogEntry) : AboveKept s (s.logWrite e) := by
  unfold State.logWrite
  extract_lets tail head size a s0 s1 s2 s3
  have h0 : AboveKept s s0 := aboveKept_densQuiet s _ _ _
  have h1 : AboveKept s s1 := by
    show AboveKept s (if _ then _ else _)
    split
    · rename_i hr
      refine aboveKept_trans h0 (fun b hb => ?_)
      have hend := State.inReserved_le hr
      rw [State.write_mem]
      exact Memory.get_write_out _ _ _ _ (.inr (by rw [logBytes_length]; omega))
    · exact h0
  refine aboveKept_trans h1 (aboveKept_of_mem ?_)
  show s3.mem = s1.mem
  show (if _ then _ else _ : State).mem = s1.mem
  split
  · rfl
  · rfl

theorem aboveKept_log (s : State) (e : Ev) : AboveKept s (s.log e) := by
  unfold State.log
  extract_lets k q t ent s1
  have h1 : s1.mem = s.mem := rfl
  split
  · split
    · exact aboveKept_of_mem h1
    · exact aboveKept_of_mem ((State.bump_mem s1 _ _ _ _).trans h1)
  · exact aboveKept_trans (aboveKept_of_mem h1) (aboveKept_logWrite s1 ent)

theorem aboveKept_dens (s : State) (b ev v : Nat) : AboveKept s (s.dens b ev v) := by
  unfold State.dens
  split
  · exact fun _ _ => rfl
  · refine aboveKept_foldl _ (fun t n => ?_) _ s
    extract_lets sel w w' t1
    have h1 : AboveKept t t1 := aboveKept_of_mem (State.setReg_mem t _ _)
    by_cases he : fieldOf sel 0 8 = ev
    · rw [if_pos he]
      split
      · exact aboveKept_trans h1 (aboveKept_log t1 _)
      · exact h1
    · rw [if_neg he]
      exact fun _ _ => rfl

/-- R482: a tag changes no byte of a tray. -/
theorem aboveKept_tagCmd (s : State) (p index opc : Nat) (forced : Bool) : AboveKept s (s.tagCmd p index opc forced) := by
  unfold State.tagCmd
  extract_lets x
  split
  · exact fun _ _ => rfl
  · split
    · generalize hy : ({ x with tagged := _ } : Plate) = y
      exact aboveKept_trans (aboveKept_of_mem (State.setPlate_mem s p y)) (aboveKept_dens _ _ _ _)
    · exact aboveKept_of_mem (State.bump_mem s _ _ _ _)

theorem aboveKept_queued (s : State) (c : PlateCmd) : AboveKept s (s.queued c) := by
  unfold State.queued
  extract_lets s1
  have h1 : AboveKept s s1 := aboveKept_of_mem (State.setPlate_mem ..)
  split
  · exact aboveKept_trans h1 (aboveKept_tagCmd s1 _ _ _ _)
  · exact h1

theorem aboveKept_begun (s : State) (c : PlateCmd) : AboveKept s (s.begun c) := by
  rw [State.begun_eq]
  split
  · exact aboveKept_trans (aboveKept_queued s c) (aboveKept_of_mem (State.setSem_mem ..))
  · exact aboveKept_queued s c

theorem State.begun_tray (s : State) (c : PlateCmd) (p o n : Nat) : (s.begun c).tray p o n = s.tray p o n := by
  refine List.map_congr_left (fun i _ => ?_)
  rw [State.byte, State.byte, aboveKept_begun s c _ (by simp only [trayAddr, trayBase]; omega)]

/-! ### Tray reads of the grain side (R139–R145, R168) -/

theorem bankOf_lt (hash : Bool) (o : Nat) : bankOf hash o < 64 := by
  have h3 : ∀ x lo, bitsOf x lo 3 < 8 := fun x lo => Nat.mod_lt _ (by decide)
  have hx : ∀ a b, a < 8 → b < 8 → xorNat a b < 8 := fun a b ha hb => Nat.xor_lt_two_pow (n := 3) ha hb
  have hhigh := h3 o 20
  unfold bankOf
  dsimp only
  split
  · have := hx _ _ (hx _ _ (hx _ _ (h3 o 6) (h3 o 9)) (h3 o 12)) (h3 o 15)
    omega
  · have := h3 o 6
    omega

theorem State.grainTop_le (s : State) (p : Nat) : s.grainTop p ≤ trayWin := by
  unfold State.grainTop
  split
  · decide
  · exact Nat.le_refl _

/-- The lines of a range of one window lie in its tray. -/
theorem linesOf_tray {p o n l : Nat} (hp : p < 128) (h : o + n ≤ trayWin) (hl : l ∈ linesOf (trayAddr p o) n) : isTray l = true ∧ trayPlate l = p := by
  unfold linesOf at hl
  split at hl
  · cases hl
  · obtain ⟨i, hi, rfl⟩ := List.mem_map.mp hl
    have hi := List.mem_range.mp hi
    simp only [trayAddr, trayBase, trayWin] at *
    constructor
    · rw [isTray, decide_eq_true_eq, trayBase]
      omega
    · rw [trayPlate, trayBase, trayWin]
      omega

/-- R97, R145: with its banks awake, no range of its side of a tray is barred to the grain side. -/
theorem State.trayBar_none {s : State} {p o n : Nat} (hawake : ∀ b, b < 64 → s.bankAwake p b = true) (h : o + n ≤ s.grainTop p) :
    s.trayBar .grain p o n = none := by
  have hsplit : splitShut (s.splitMode p) .grain o n = false := by
    unfold State.grainTop at h
    cases hm : s.splitMode p with
    | false => rfl
    | true =>
      rw [if_pos hm] at h
      simp only [splitShut, Bool.true_and, decide_true, decide_eq_false_iff_not]
      omega
  have hsleep : s.sleepingLine p o n = none :=
    List.find?_eq_none.mpr (fun l _ => by rw [hawake _ (bankOf_lt ..)]; exact Bool.false_ne_true)
  rw [State.trayBar, if_neg (Nat.not_lt.mpr (Nat.le_trans h (s.grainTop_le p))), hsplit, hsleep]
  rfl

/-- R97, R145, R168: with its banks awake and its lines whole, the grain side reads any range of its side of a tray. -/
theorem State.trayRead_whole {s : State} {p o n : Nat} (hw : s.wholeTray p) (hp : p < 128) (h : o + n ≤ s.grainTop p) :
    s.trayRead .grain p o n = .ok (s.tray p o n) := by
  obtain ⟨hawake, hlines⟩ := hw
  have hbad : s.firstBad (trayAddr p o) n = none := List.find?_eq_none.mpr (fun l hl => by
    obtain ⟨ht, hq⟩ := linesOf_tray hp (Nat.le_trans h (s.grainTop_le p)) hl
    rw [decide_eq_true_eq]
    exact hlines l ht hq)
  rw [State.trayRead, State.trayBar_none hawake h, hbad]

/-- Reads that all succeed. -/
theorem mapM_ok {α β ε : Type} {f : α → Except ε β} {g : α → β} {l : List α} (h : ∀ a ∈ l, f a = .ok (g a)) : l.mapM f = .ok (l.map g) := by
  induction l with
  | nil => rfl
  | cons a l ih =>
    rw [List.mapM_cons, h a (List.mem_cons_self ..), ih (fun b hb => h b (List.mem_cons_of_mem _ hb))]
    rfl

/-! ### Settings where a unit begins -/

theorem sameSetup_begun (s : State) {c : PlateCmd} (hp : c.plate < 128) : SameSetup s (s.begun c) := (begins_begun s hp).sameSetup

theorem SameSetup.splitMode {s t : State} (h : SameSetup s t) (p : Nat) : t.splitMode p = s.splitMode p := by
  rw [State.splitMode, State.splitMode, h.partOfPlate]
  cases e : s.partOfPlate p with
  | none => rfl
  | some n => exact congrArg (decide <| · = 1) (h.partGet (f := fPART_TRAY_CFG_MODE) (by decide) (State.partOfPlate_lt e))

theorem SameSetup.grainTop {s t : State} (h : SameSetup s t) (p : Nat) : t.grainTop p = s.grainTop p := by
  rw [State.grainTop, State.grainTop, h.splitMode]

theorem SameSetup.saveGroups {s t : State} (h : SameSetup s t) (p : Nat) : t.saveGroups p = s.saveGroups p := by
  rw [State.saveGroups, State.saveGroups, h.partOfPlate]
  cases e : s.partOfPlate p with
  | none => rfl
  | some n => exact h.partGet (f := fPART_SCHED_SAVE_GROUPS) (by decide) (State.partOfPlate_lt e)

theorem State.wholeTray_begun {s : State} {c : PlateCmd} {p : Nat} (hc : c.plate < 128) (hp : p < 128) (h : s.wholeTray p) : (s.begun c).wholeTray p := by
  obtain ⟨hawake, hlines⟩ := h
  refine ⟨fun b hb => ?_, fun l ht hq => ?_⟩
  · rw [State.bankAwake, (sameSetup_begun s hc).plateGet (f := fTRAY_PWR_AWAKE_AWAKE) (by decide) hp]
    exact hawake b hb
  · obtain ⟨⟨-, -, -, hbegun, -⟩, -⟩ := begins_begun s hc
    rcases hbegun l with he | he
    · rw [he]
      exact hlines l ht hq
    · rw [he]
      exact nofun

/-- A range of the tray, read where the unit begins. -/
theorem State.begun_trayRead {s : State} {c : PlateCmd} {p o n : Nat} (hc : c.plate < 128) (hp : p < 128) (hw : s.wholeTray p)
    (h : o + n ≤ s.grainTop p) : (s.begun c).trayRead .grain p o n = .ok (s.tray p o n) := by
  rw [State.trayRead_whole (State.wholeTray_begun hc hp hw) hp (by rw [(sameSetup_begun s hc).grainTop]; exact h), State.begun_tray]

/-- The groups and tiles of a plate where a unit begins are those of the issue. -/
theorem State.begun_plate (s : State) {c : PlateCmd} (hc : c.plate < 128) :
    ((s.begun c).plate c.plate).shadow = (s.plate c.plate).shadow ∧ ((s.begun c).plate c.plate).active = (s.plate c.plate).active ∧
    ((s.begun c).plate c.plate).boundary = (s.plate c.plate).boundary ∧ ((s.begun c).plate c.plate).groups = (s.plate c.plate).groups := by
  obtain ⟨-, -, hx⟩ := begins_begun s hc
  injection hx with hshadow hactive hboundary hgroups
  exact ⟨hshadow, hactive, hboundary, hgroups⟩

/-! ### The counts of reads -/

theorem beside_noteRead (s : State) {p : Nat} (hp : p < 128) (o n : Nat) : Beside s (s.noteRead p o n) [fldAddr fTRAY_ECC_STAT_CE p 0] := by
  unfold State.noteRead
  dsimp only
  have hA : fldAddr fREL_LOG_BASE 0 0 ∉ [fldAddr fTRAY_ECC_STAT_CE p 0] := by
    simp only [List.mem_singleton, fldAddr, fREL_LOG_BASE, fTRAY_ECC_STAT_CE, blockBase]
    omega
  split
  · exact beside_refl s _
  · generalize (List.length _) = k
    have h1 := beside_bump s fTRAY_ECC_STAT_CE p 0 k [fldAddr fTRAY_ECC_STAT_CE p 0] (.inr (List.mem_singleton.mpr rfl))
    have h2 := beside_mono (beside_dens (s.bump fTRAY_ECC_STAT_CE p 0 k) p 18 k (by omega)) (List.nil_subset [fldAddr fTRAY_ECC_STAT_CE p 0])
    exact beside_trans (beside_trans h1 h2 hA) (beside_mono (beside_noteCorrected ..) (List.nil_subset _)) hA

theorem beside_noteReads (s : State) {p : Nat} (hp : p < 128) (rs : List (Nat × Nat)) : Beside s (s.noteReads p rs) [fldAddr fTRAY_ECC_STAT_CE p 0] := by
  have hA : fldAddr fREL_LOG_BASE 0 0 ∉ [fldAddr fTRAY_ECC_STAT_CE p 0] := by
    simp only [List.mem_singleton, fldAddr, fREL_LOG_BASE, fTRAY_ECC_STAT_CE, blockBase]
    omega
  exact beside_foldl _ _ hA (fun t r => beside_noteRead t hp _ _) rs s

/-- What stands beside the counts of a plate's corrected errors is the work of its unit. -/
theorem unitWork_of_beside {s t : State} {p : Nat} (hp : p < 128) (h : Beside s t [fldAddr fTRAY_ECC_STAT_CE p 0]) : UnitWork s t (fun _ => False) := by
  obtain ⟨hframe, hregs, hmem, -, -⟩ := h
  have hfree : t.free = s.free := by rw [hframe]
  have hstreams : t.streams = s.streams := by rw [hframe]
  refine ⟨?_, fun a hb ha => hregs a hb (fun hm => ha p hp (List.mem_singleton.mp hm)), fun a ha _ => hmem a ha⟩
  rw [hfree, hstreams]
  exact hframe

end Sys2Proof.Machine
end

section
/-! The grain array's groups and tiles under its commands (R69, R75, R82, R88, R98–R101): O52. -/

namespace Sys2Proof.Machine

/-! ### Groups set one after the other (R86, R88) -/

theorem groupKeys_nodup (packed : Bool) (first rows : Nat) : (groupKeys packed first rows).Nodup := by
  refine List.Nodup.map (fun i j h => ?_) List.nodup_range
  simp only [groupKey] at h
  split at h
  · omega
  · omega

theorem Plate.foldl_setGroup_eq (keys : List Nat) (g : Option Group) (x : Plate) :
    keys.foldl (fun y k => y.setGroup k g) x = { x with groups := (keys.foldl (fun y k => y.setGroup k g) x).groups } := by
  induction keys generalizing x with
  | nil => rfl
  | cons k keys ih => exact ih (x.setGroup k g)

theorem Plate.group_foldl_setGroup (keys : List Nat) (g : Option Group) (x : Plate) (k : Nat) :
    (keys.foldl (fun y k => y.setGroup k g) x).group k = if k ∈ keys then g else x.group k := by
  induction keys generalizing x with
  | nil => rfl
  | cons j keys ih =>
    rw [List.foldl_cons, ih]
    by_cases hk : k ∈ keys
    · rw [if_pos hk, if_pos (List.mem_cons_of_mem _ hk)]
    · rw [if_neg hk]
      by_cases hj : k = j
      · subst hj
        rw [if_pos (List.mem_cons_self ..), Plate.group_setGroup_same]
      · rw [if_neg (fun h => hk ((List.mem_cons.mp h).resolve_left hj)), Plate.group_setGroup_ne _ hj]

/-- Every group a command names is there. -/
theorem groupsOpen_group {x : Plate} {c : PlateCmd} (h : groupsOpen x c = true) {k : Nat} (hk : k ∈ groupKeys c.packed c.first c.rows) :
    ∃ g, x.group k = some g := by
  have h := List.all_eq_true.mp h k hk
  split at h
  · exact ⟨_, ‹_›⟩
  · cases h

/-- Plates with the same groups have the same groups open. -/
theorem groupsOpen_congr {x y : Plate} (h : y.groups = x.groups) (c : PlateCmd) : groupsOpen y c = groupsOpen x c := by
  have hg : y.group = x.group := funext fun k => congrArg (smapGet _ k) h
  rw [groupsOpen, groupsOpen, hg]

/-! ### Promotion of whole groups (R82) -/

theorem promoteStrip_strips (g : Group) (st u : Nat) : smapGet (fun _ => StripAcc.zero) u (promoteStrip g st).1.strips =
    if u = st ∧ (smapGet (fun _ => StripAcc.zero) u g.strips).count ≠ 0 then StripAcc.zero else smapGet (fun _ => StripAcc.zero) u g.strips := by
  by_cases h0 : (smapGet (fun _ => StripAcc.zero) st g.strips).count = 0
  · have e : promoteStrip g st = (g, 0) := if_pos h0
    rw [e, if_neg]
    rintro ⟨rfl, h⟩
    exact h h0
  · rw [promoteStrip_eq g h0]
    dsimp only
    by_cases hu : u = st
    · subst hu
      rw [if_pos ⟨rfl, h0⟩, smapGet_set_same]
    · rw [if_neg (fun h => hu h.1), smapGet_set_ne _ (Ne.symm hu)]

/-- One strip more promoted, with the codes that its promotion makes special. -/
def promoteNext (a : Group × Nat) (st : Nat) : Group × Nat := ((promoteStrip a.1 st).1, a.2 + (promoteStrip a.1 st).2)

theorem promoteGroup_eq (g : Group) : promoteGroup g = (List.range 8).foldl promoteNext (g, 0) := rfl

theorem promoteStrips_strips (sts : List Nat) (a : Group × Nat) (u : Nat) : smapGet (fun _ => StripAcc.zero) u (sts.foldl promoteNext a).1.strips =
    if u ∈ sts ∧ (smapGet (fun _ => StripAcc.zero) u a.1.strips).count ≠ 0 then StripAcc.zero else smapGet (fun _ => StripAcc.zero) u a.1.strips := by
  induction sts generalizing a with
  | nil => exact (if_neg (fun h => List.not_mem_nil h.1)).symm
  | cons st sts ih =>
    rw [List.foldl_cons, ih, promoteNext, promoteStrip_strips]
    by_cases hu : u = st
    · subst hu
      by_cases hz : (smapGet (fun _ => StripAcc.zero) u a.1.strips).count = 0
      · simp [hz]
      · simp [hz, show StripAcc.zero.count = 0 from rfl]
    · simp [hu]

/-- R82: every strip of a promoted group that had contributions is empty. -/
theorem promoteGroup_strips (g : Group) {st : Nat} (h : st < 8) : smapGet (fun _ => StripAcc.zero) st (promoteGroup g).1.strips =
    if (smapGet (fun _ => StripAcc.zero) st g.strips).count = 0 then smapGet (fun _ => StripAcc.zero) st g.strips else StripAcc.zero := by
  rw [promoteGroup_eq, promoteStrips_strips]
  by_cases hz : (smapGet (fun _ => StripAcc.zero) st g.strips).count = 0
  · rw [if_neg (fun h => h.2 hz), if_pos hz]
  · rw [if_pos ⟨List.mem_range.mpr h, hz⟩, if_neg hz]

/-- The promotion of a group at a packed number, if one is open there. -/
def promoteAt (a : Plate × Nat) (k : Nat) : Plate × Nat :=
  match a.1.group k with
  | some g => (a.1.setGroup k (some (promoteGroup g).1), a.2 + (promoteGroup g).2)
  | none => a

theorem promoteNamed_eq (x : Plate) (keys : List Nat) : promoteNamed x keys = keys.foldl promoteAt (x, 0) := rfl

theorem promoteAt_group (a : Plate × Nat) (j k : Nat) :
    (promoteAt a j).1.group k = if k = j then (a.1.group k).map (fun g => (promoteGroup g).1) else a.1.group k := by
  unfold promoteAt
  cases hg : a.1.group j with
  | none =>
    by_cases hk : k = j
    · subst hk
      rw [if_pos rfl, hg]
      rfl
    · rw [if_neg hk]
  | some g =>
    by_cases hk : k = j
    · subst hk
      rw [if_pos rfl, hg]
      exact Plate.group_setGroup_same ..
    · rw [if_neg hk]
      exact Plate.group_setGroup_ne _ hk _

theorem promoteKeys_group {keys : List Nat} (hn : keys.Nodup) (a : Plate × Nat) (k : Nat) :
    (keys.foldl promoteAt a).1.group k = if k ∈ keys then (a.1.group k).map (fun g => (promoteGroup g).1) else a.1.group k := by
  induction keys generalizing a with
  | nil => rfl
  | cons j keys ih =>
    obtain ⟨hj, hn⟩ := List.nodup_cons.mp hn
    rw [List.foldl_cons, ih hn, promoteAt_group]
    by_cases hk : k = j
    · subst hk
      rw [if_neg hj, if_pos rfl, if_pos (List.mem_cons_self ..)]
    · rw [if_neg hk]
      exact if_congr ⟨List.mem_cons_of_mem _, fun h => (List.mem_cons.mp h).resolve_left hk⟩ rfl rfl

/-! ### What follows the groups alone -/

/-- Two plates with a number have the same groups, and the same number. -/
def SameGroups {γ : Type} (a b : Plate × γ) : Prop := a.1.groups = b.1.groups ∧ a.2 = b.2

theorem SameGroups.group {γ : Type} {a b : Plate × γ} (h : SameGroups a b) (k : Nat) : a.1.group k = b.1.group k := congrArg (smapGet _ k) h.1

theorem setGroup_groups {x y : Plate} (h : x.groups = y.groups) (k : Nat) (g : Option Group) : (x.setGroup k g).groups = (y.setGroup k g).groups := by
  rw [Plate.setGroup, Plate.setGroup, h]

theorem sameGroups_promoteKeys (keys : List Nat) {a b : Plate × Nat} (h : SameGroups a b) :
    SameGroups (keys.foldl promoteAt a) (keys.foldl promoteAt b) := by
  induction keys generalizing a b with
  | nil => exact h
  | cons k keys ih =>
    refine ih ?_
    unfold promoteAt
    rw [h.group k]
    cases b.1.group k with
    | none => exact h
    | some g => exact ⟨setGroup_groups h.1 k _, congrArg (· + _) h.2⟩

theorem promoteKeys_frame (keys : List Nat) (a : Plate × Nat) : (keys.foldl promoteAt a).1 = { a.1 with groups := (keys.foldl promoteAt a).1.groups } := by
  induction keys generalizing a with
  | nil => rfl
  | cons k keys ih =>
    rw [List.foldl_cons, ih]
    unfold promoteAt
    cases a.1.group k with
    | none => rfl
    | some g => rfl

/-- A pass into one of its groups, if that is open. -/
def passInto (t : Tile) (packed : Bool) (first : Nat) (rows : List (List Int)) (a : Plate × Nat × Nat) (i : Nat) : Plate × Nat × Nat :=
  let k := groupKey packed (first + i)
  match a.1.group k with
  | none => a
  | some g =>
    let part := (rows.drop (16 * i)).take 16
    let r := passGroup t g ((List.range part.length).map (fun j => (j, part.getD j [])))
    (a.1.setGroup k (some r.1), a.2.1 + r.2.1, a.2.2 + r.2.2)

theorem passRows_eq (t : Tile) (x : Plate) (packed : Bool) (first : Nat) (rows : List (List Int)) :
    passRows t x packed first rows = (List.range (ceilDiv rows.length 16)).foldl (passInto t packed first rows) (x, 0, 0) := rfl

theorem sameGroups_passInto (t : Tile) (packed : Bool) (first : Nat) (rows : List (List Int)) (is : List Nat) {a b : Plate × Nat × Nat}
    (h : SameGroups a b) : SameGroups (is.foldl (passInto t packed first rows) a) (is.foldl (passInto t packed first rows) b) := by
  induction is generalizing a b with
  | nil => exact h
  | cons i is ih =>
    refine ih ?_
    unfold passInto
    dsimp only
    rw [h.group]
    cases b.1.group (groupKey packed (first + i)) with
    | none => exact h
    | some g => exact ⟨setGroup_groups h.1 _ _, by rw [h.2]⟩

theorem passInto_frame (t : Tile) (packed : Bool) (first : Nat) (rows : List (List Int)) (is : List Nat) (a : Plate × Nat × Nat) :
    (is.foldl (passInto t packed first rows) a).1 = { a.1 with groups := (is.foldl (passInto t packed first rows) a).1.groups } ∧
    ∀ k, (∀ i ∈ is, k ≠ groupKey packed (first + i)) → (is.foldl (passInto t packed first rows) a).1.group k = a.1.group k := by
  induction is generalizing a with
  | nil => exact ⟨rfl, fun _ _ => rfl⟩
  | cons i is ih =>
    obtain ⟨hframe, hother⟩ := ih (passInto t packed first rows a i)
    have hstep : (passInto t packed first rows a i).1 = { a.1 with groups := (passInto t packed first rows a i).1.groups } ∧
        ∀ k, k ≠ groupKey packed (first + i) → (passInto t packed first rows a i).1.group k = a.1.group k := by
      unfold passInto
      dsimp only
      cases a.1.group (groupKey packed (first + i)) with
      | none => exact ⟨rfl, fun _ _ => rfl⟩
      | some g => exact ⟨rfl, fun k hk => Plate.group_setGroup_ne _ hk _⟩
    rw [List.foldl_cons]
    refine ⟨?_, fun k hk => ?_⟩
    · rw [hframe, hstep.1]
    · rw [hother k (fun j hj => hk j (List.mem_cons_of_mem _ hj)), hstep.2 k (hk i (List.mem_cons_self ..))]

/-- R69, R76: a pass changes the groups it names, and nothing else of the plate. -/
theorem passRows_frame (t : Tile) (x : Plate) (packed : Bool) (first : Nat) (rows : List (List Int)) :
    (passRows t x packed first rows).1 = { x with groups := (passRows t x packed first rows).1.groups } ∧
    ∀ k, k ∉ groupKeys packed first rows.length → (passRows t x packed first rows).1.group k = x.group k := by
  rw [passRows_eq]
  obtain ⟨hframe, hother⟩ := passInto_frame t packed first rows (List.range (ceilDiv rows.length 16)) (x, 0, 0)
  exact ⟨hframe, fun k hk => hother k (fun i hi e => hk (List.mem_map.mpr ⟨i, hi, e.symm⟩))⟩

theorem passRows_groups {x y : Plate} (h : x.groups = y.groups) (t : Tile) (packed : Bool) (first : Nat) (rows : List (List Int)) :
    (passRows t x packed first rows).1.groups = (passRows t y packed first rows).1.groups :=
  (sameGroups_passInto t packed first rows _ (a := (x, 0, 0)) (b := (y, 0, 0)) ⟨h, rfl⟩).1

theorem promoteNamed_groups {x y : Plate} (h : x.groups = y.groups) (keys : List Nat) : (promoteNamed x keys).1.groups = (promoteNamed y keys).1.groups :=
  (sameGroups_promoteKeys keys (a := (x, 0)) (b := (y, 0)) ⟨h, rfl⟩).1

end Sys2Proof.Machine
end

section
/-! The commands of the grain array run (R69, R75, R88, R98–R101): O52. -/

namespace Sys2Proof.Machine

/-! ### A body's checks and reads -/

theorem need_true {s : State} {b : Bool} (h : b = true) : need s b = .ok () := if_pos h

theorem ok_bind {ε α β : Type} (a : α) (f : α → Except ε β) : ((Except.ok a : Except ε α) >>= f) = f a := rfl

/-- A unit's work that keeps its program running makes its command run. -/
theorem State.runs_intro {s t : State} {c : PlateCmd} {Q : State → State → Prop} (i : Instr) {opc : Nat} (h : s.ready c)
    (hr : (i, opc) ∈ plateRows c) (hc : c.opc = opc) (ht : bodyOf c (s.begun c) = .ok t)
    (hctx : (t.plate c.plate).ctx = ((s.begun c).plate c.plate).ctx) (hend : (t.plate c.plate).ended = ((s.begun c).plate c.plate).ended)
    (hparts : t.parts = (s.begun c).parts) (hQ : Q (s.begun c) t) : Runs i c s Q := by
  have hprt : ∀ n, t.prt n = (s.begun c).prt n := fun n => congrArg (smapGet _ n) hparts
  have hst : stillRuns (s.begun c) t c.plate = true := by
    have hb := stillRuns_begun h
    rw [stillRuns] at hb ⊢
    rw [hctx, hend, hprt]
    exact hb
  exact ⟨t, State.runs_of_body h hr hc ht hst, hQ⟩

/-! ### Tiles (R98, R100) -/

theorem colBytesRead_pos (fmt : Nat) (plane : Bool) {k : Nat} (hk : 1 ≤ k) : 1 ≤ colBytesRead fmt plane k := by
  unfold colBytesRead ceilDiv
  split
  · omega
  · split
    · omega
    · split
      · omega
      · have : 1 ≤ k * fmt := Nat.mul_pos hk (by omega)
        omega

/-- R481: a load that is wasted changes the working slots of its plate, and counts. -/
theorem State.wasteLoad_frame (s : State) {p : Nat} (hp : p < 128) : Beside { s with work := (s.wasteLoad p).work } (s.wasteLoad p) [] ∧
    ∀ q, q ≠ p → (s.wasteLoad p).workOf q = s.workOf q := by
  let v := s.setWork p ((s.workOf p).1 - (s.workOf p).2, 0)
  have hv : Beside v (s.wasteLoad p) [] := beside_dens v p 24 _ (by omega)
  have hwork : (s.wasteLoad p).work = v.work := by rw [hv.1]
  refine ⟨?_, fun q hq => ?_⟩
  · rw [hwork]
    exact hv
  · rw [State.workOf, hwork]
    exact smapGet_set_ne _ (Ne.symm hq) _ _

/-- R105: what putting a tile into SHADOW does before it. -/
def State.makeRoom (s : State) (c : PlateCmd) : State :=
  if (s.plate c.plate).reload.isSome && (s.plate c.plate).shadow.isSome then (s.dens c.plate 8 1).wasteLoad c.plate else s

theorem State.putShadow_eq (s : State) (c : PlateCmd) (w : Tile) : s.putShadow c w =
    (s.makeRoom c).setPlate c.plate { (s.makeRoom c).plate c.plate with shadow := some w, reload := some c } := rfl

theorem State.makeRoom_frame (s : State) (c : PlateCmd) (hp : c.plate < 128) : Beside { s with work := (s.makeRoom c).work } (s.makeRoom c) [] ∧
    ∀ q, q ≠ c.plate → (s.makeRoom c).workOf q = s.workOf q := by
  unfold State.makeRoom
  split
  · have hu : Beside s (s.dens c.plate 8 1) [] := beside_dens s c.plate 8 1 (by omega)
    generalize s.dens c.plate 8 1 = u at hu ⊢
    obtain ⟨hw, hother⟩ := u.wasteLoad_frame hp
    have huw : Beside { s with work := (u.wasteLoad c.plate).work } { u with work := (u.wasteLoad c.plate).work } [] := by
        obtain ⟨hframe, hregs, hmem, hlines, hout⟩ := hu
        exact ⟨by rw [hframe], hregs, hmem, hlines, hout⟩
    have hsame : u.work = s.work := by rw [hu.1]
    exact ⟨beside_trans huw hw (by simp), fun q hq => (hother q hq).trans (congrArg (smapGet _ q) hsame)⟩
  · exact ⟨beside_refl s [], fun _ _ => rfl⟩

/-- R105: a tile put into SHADOW changes its plate's SHADOW and, where it discards another, the working slots and the counts. -/
theorem State.putShadow_frame (s : State) (c : PlateCmd) (w : Tile) (hp : c.plate < 128) :
    Beside { s with plates := (s.putShadow c w).plates, work := (s.putShadow c w).work } (s.putShadow c w) [] ∧
    (∀ q, q ≠ c.plate → (s.putShadow c w).plate q = s.plate q ∧ (s.putShadow c w).workOf q = s.workOf q) ∧
    (s.putShadow c w).plate c.plate = { s.plate c.plate with shadow := some w, reload := some c } := by
  obtain ⟨hroom, hwork⟩ := s.makeRoom_frame c hp
  rw [State.putShadow_eq]
  generalize s.makeRoom c = u at hroom hwork ⊢
  have hplates : u.plates = s.plates := beside_plates (s := { s with work := u.work }) hroom
  have hplate : ∀ q, u.plate q = s.plate q := fun q => congrArg (smapGet _ q) hplates
  generalize hy : ({ u.plate c.plate with shadow := some w, reload := some c } : Plate) = y
  refine ⟨beside_withPlates (s := { s with work := u.work }) hroom (u.setPlate c.plate y).plates, fun q hq => ⟨?_, hwork q hq⟩, ?_⟩
  · rw [State.plate_setPlate_ne u (Ne.symm hq), hplate]
  · rw [State.plate_setPlate_same, ← hy, hplate]

/-- A tile loaded after its reads have been counted. -/
theorem State.loaded_frame (s : State) (c : PlateCmd) (w : Tile) (rs : List (Nat × Nat)) (hp : c.plate < 128) :
    let t := (s.noteReads c.plate rs).putShadow c w
    UnitWork { s with plates := t.plates, work := t.work } t (fun _ => False) ∧
    (∀ q, q ≠ c.plate → t.plate q = s.plate q ∧ t.workOf q = s.workOf q) ∧
    t.plate c.plate = { s.plate c.plate with shadow := some w, reload := some c } ∧ t.parts = s.parts := by
  have hr := beside_noteReads s hp rs
  generalize s.noteReads c.plate rs = u at hr ⊢
  obtain ⟨hput, hother, hplate⟩ := u.putShadow_frame c w hp
  generalize u.putShadow c w = t at hput hother hplate ⊢
  have hplates : ∀ q, u.plate q = s.plate q := fun q => congrArg (smapGet _ q) (beside_plates hr)
  have hwork : u.work = s.work := by rw [hr.1]
  have hparts : t.parts = u.parts := by rw [hput.1]
  have hbeside : Beside { s with plates := t.plates, work := t.work } { u with plates := t.plates, work := t.work } [fldAddr fTRAY_ECC_STAT_CE c.plate 0] := by
    obtain ⟨hframe, hregs, hmem, hlines, hout⟩ := hr
    exact ⟨by rw [hframe], hregs, hmem, hlines, hout⟩
  have hA : fldAddr fREL_LOG_BASE 0 0 ∉ [fldAddr fTRAY_ECC_STAT_CE c.plate 0] := by
    simp only [List.mem_singleton, fldAddr, fREL_LOG_BASE, fTRAY_ECC_STAT_CE, blockBase]
    omega
  refine ⟨unitWork_of_beside hp (beside_trans hbeside (beside_mono hput (List.nil_subset _)) hA), fun q hq => ?_, ?_, hparts.trans (parts_of_beside hr)⟩
  · exact ⟨(hother q hq).1.trans (hplates q), (hother q hq).2.trans (congrArg (smapGet _ q) hwork)⟩
  · rw [hplate, hplates]

end Sys2Proof.Machine
end

section
/-! O52: what each command of the grain array's tiles and groups comes to. -/

namespace Sys2Proof.Machine

/-- Columns without an invalid trit. -/
theorem firstBadTrit_none {cols : List (Nat × List Nat)} (h : ∀ col ∈ cols, ∀ b ∈ col.2, t5Invalid b = false) : firstBadTrit cols = none := by
  refine List.findSome?_eq_none_iff.mpr (fun col hcol => ?_)
  rw [Option.map_eq_none_iff]
  refine List.find?_eq_none.mpr (fun i hi => ?_)
  have hi := List.mem_range.mp hi
  rw [List.getD_eq_getElem _ _ hi, h col hcol _ (List.getElem_mem hi)]
  exact Bool.false_ne_true

/-- Row or column `j` of `n` ends no later than the last. -/
theorem stride_le {a j n st len top : Nat} (hj : j < n) (h : a + (n - 1) * st + len ≤ top) : a + j * st + len ≤ top := by
  have : j * st ≤ (n - 1) * st := Nat.mul_le_mul_right st (by omega)
  omega

section
variable {s : State} {c : PlateCmd}

/-- The plate's settings for the planes of a tile. -/
theorem State.begun_plans (hp : c.plate < 128) (kind : WKind) (ws : List (List Int)) :
    stripPlans kind (decide ((s.begun c).get fPLATE_GRAIN_CFG_ZERO_SKIP c.plate 0 = 1)) (decide ((s.begun c).get fPLATE_GRAIN_CFG_SIGNX_SKIP c.plate 0 = 1)) ws =
    stripPlans kind (decide (s.get fPLATE_GRAIN_CFG_ZERO_SKIP c.plate 0 = 1)) (decide (s.get fPLATE_GRAIN_CFG_SIGNX_SKIP c.plate 0 = 1)) ws := by
  have h := sameSetup_begun s hp
  rw [h.plateGet (f := fPLATE_GRAIN_CFG_ZERO_SKIP) (by decide) hp, h.plateGet (f := fPLATE_GRAIN_CFG_SIGNX_SKIP) (by decide) hp]

/-- The column stride of a GRAIN_LOAD (R98). -/
def loadStride (c : PlateCmd) : Nat :=
  if c.le 18 2 = 0 then (if c.bits 16 0 5 = 0 then 32 else if c.bits 16 0 5 = 1 then 20 else 20 * c.bits 16 0 5) else c.le 18 2

/-- The bytes of a column record that a GRAIN_LOAD reads (R98). -/
def loadBytes (c : PlateCmd) : Nat := colBytesRead (c.bits 16 0 5) (decide (c.bits 16 5 1 = 1)) c.kRows

/-- The tile that the column records of a GRAIN_LOAD spell (R69, R75, R98). -/
def State.loadTile (s : State) (c : PlateCmd) : Tile :=
  let ws := (List.range c.cols).map (fun j => (List.range c.kRows).map (colWeight (c.bits 16 0 5) (decide (c.bits 16 5 1 = 1))
    (s.tray c.plate (c.trayAddr + j * loadStride c) (loadBytes c))))
  { kind := kindOfFmt (c.bits 16 0 5), kRows := c.kRows, cols := c.cols, weights := ws,
    gsize := if c.bits 16 6 1 = 1 then 16 * 2 ^ c.le 17 1 else 0,
    gmult := if c.bits 16 6 1 = 1 then
      (List.range c.cols).map (fun j => s.tray c.plate (c.le 20 4 + j * c.le 24 2) (128 / (16 * 2 ^ c.le 17 1))) else [],
    strips := stripPlans (kindOfFmt (c.bits 16 0 5)) (decide (s.get fPLATE_GRAIN_CFG_ZERO_SKIP c.plate 0 = 1))
      (decide (s.get fPLATE_GRAIN_CFG_SIGNX_SKIP c.plate 0 = 1)) ws }

/-- R98: a GRAIN_LOAD of a readable tile with valid trits loads it. -/
theorem grainLoadBody_ok (hp : c.plate < 128) (hw : s.wholeTray c.plate) (hk : 1 ≤ c.kRows) (hk160 : c.kRows ≤ 160) (hn : 1 ≤ c.cols)
    (hn256 : c.cols ≤ 256) (hfmt : c.bits 16 0 5 ≤ 16) (halign : c.trayAddr % 16 = 0) (hplane : c.bits 16 5 1 = 1 → 2 ≤ c.bits 16 0 5)
    (hgrp : c.bits 16 6 1 = 1 → 2 ≤ c.bits 16 0 5 ∧ c.bits 16 0 5 ≤ 8 ∧ 1 ≤ c.le 17 1 ∧ c.le 17 1 ≤ 3 ∧
      c.kRows ≤ 128 ∧ c.le 20 4 + (c.cols - 1) * c.le 24 2 + 128 / (16 * 2 ^ c.le 17 1) ≤ s.grainTop c.plate)
    (hend : c.trayAddr + (c.cols - 1) * loadStride c + loadBytes c ≤ s.grainTop c.plate)
    (htrits : c.bits 16 0 5 = 0 → ∀ j, j < c.cols → ∀ b ∈ s.tray c.plate (c.trayAddr + j * loadStride c) (ceilDiv c.kRows 5), t5Invalid b = false) :
    ∃ rs, grainLoadBody c (s.begun c) = .ok (((s.begun c).noteReads c.plate rs).putShadow c (s.loadTile c)) := by
  have hpos := colBytesRead_pos (c.bits 16 0 5) (decide (c.bits 16 5 1 = 1)) hk
  have hwin : c.trayAddr < trayWin := by
    have := s.grainTop_le c.plate
    rw [loadBytes] at hend
    omega
  have hcols := mapM_ok (l := List.range c.cols) (g := fun j => (c.trayAddr + j * loadStride c, s.tray c.plate (c.trayAddr + j * loadStride c) (loadBytes c)))
    (f := fun j => (s.begun c).trayRead .grain c.plate (c.trayAddr + j * loadStride c) (loadBytes c) >>= fun bs =>
      Except.ok (c.trayAddr + j * loadStride c, bs)) (fun j hj => by
      rw [State.begun_trayRead hp hp hw (stride_le (List.mem_range.mp hj) hend), ok_bind])
  have hbad : (if c.bits 16 0 5 = 0 then firstBadTrit ((List.range c.cols).map (fun j =>
      (c.trayAddr + j * loadStride c, s.tray c.plate (c.trayAddr + j * loadStride c) (loadBytes c)))) else none) = none := by
    split
    · rename_i h0
      refine firstBadTrit_none (fun col hcol b hb => ?_)
      obtain ⟨j, hj, rfl⟩ := List.mem_map.mp hcol
      have hlen : loadBytes c = ceilDiv c.kRows 5 := if_pos h0
      rw [hlen] at hb
      exact htrits h0 j (List.mem_range.mp hj) b hb
    · rfl
  have hplane' : (!decide (c.bits 16 5 1 = 1) || decide (2 ≤ c.bits 16 0 5)) = true := by
    by_cases h : c.bits 16 5 1 = 1
    · simp [hplane h]
    · simp [h]
  unfold grainLoadBody
  dsimp only
  rw [need_true (decide_eq_true ⟨hk, hk160, hn, hn256, hfmt, halign, hwin⟩), ok_bind, need_true hplane', ok_bind]
  simp only [loadStride, loadBytes] at hcols hbad
  by_cases hg : c.bits 16 6 1 = 1
  · obtain ⟨h2, h8, hs1, hs3, hk128, htop⟩ := hgrp hg
    have hmult := mapM_ok (l := List.range c.cols) (g := fun j => s.tray c.plate (c.le 20 4 + j * c.le 24 2) (128 / (16 * 2 ^ c.le 17 1)))
      (f := fun j => (s.begun c).trayRead .grain c.plate (c.le 20 4 + j * c.le 24 2) (128 / (16 * 2 ^ c.le 17 1)))
      (fun j hj => State.begun_trayRead hp hp hw (stride_le (List.mem_range.mp hj) htop))
    have hok : ¬ (c.bits 16 0 5 < 2 ∨ 8 < c.bits 16 0 5 ∨ c.le 17 1 = 0 ∨ 3 < c.le 17 1 ∨ 128 < c.kRows) := by omega
    simp only [hg, hok, decide_true, decide_false, Bool.and_false, Bool.false_eq_true, if_false, if_true]
    rw [hcols, ok_bind, hbad]
    dsimp only
    rw [hmult, ok_bind, State.begun_plans hp]
    refine ⟨_, congrArg (fun w => Except.ok (State.putShadow _ c w)) ?_⟩
    simp only [State.loadTile, hg, if_true, List.map_map, loadStride, loadBytes]
    rfl
  · simp only [hg, decide_false, Bool.false_and, Bool.false_eq_true, if_false]
    rw [hcols, ok_bind, hbad]
    dsimp only
    rw [ok_bind, State.begun_plans hp]
    refine ⟨_, congrArg (fun w => Except.ok (State.putShadow _ c w)) ?_⟩
    simp only [State.loadTile, hg, if_false, List.map_map, loadStride, loadBytes]
    rfl

/-- The bytes of a key that a GRAIN_LOAD_KEYS reads (R100). -/
def keyBytes (c : PlateCmd) : Nat := if c.le 16 1 = 0 then c.kRows else ceilDiv c.kRows 2

/-- The tile that the keys of a GRAIN_LOAD_KEYS spell (R80, R100). -/
def State.keyTile (s : State) (c : PlateCmd) : Tile :=
  let ws := (List.range c.cols).map (fun j => (List.range c.kRows).map (fun d =>
    if c.le 16 1 = 0 then a8Code ((s.tray c.plate (c.trayAddr + j * c.le 18 2) (keyBytes c)).getD d 0)
    else a4Code (s.tray c.plate (c.trayAddr + j * c.le 18 2) (keyBytes c)) d))
  let kind : WKind := .wide (if c.le 16 1 = 0 then 8 else 4)
  { kind := kind, kRows := c.kRows, cols := c.cols, weights := ws, gsize := 0, gmult := [],
    strips := stripPlans kind (decide (s.get fPLATE_GRAIN_CFG_ZERO_SKIP c.plate 0 = 1))
      (decide (s.get fPLATE_GRAIN_CFG_SIGNX_SKIP c.plate 0 = 1)) ws }

theorem half_pos {k : Nat} (hk : 1 ≤ k) : 1 ≤ ceilDiv k 2 := by
  rw [ceilDiv]
  omega

theorem keyBytes_pos (hk : 1 ≤ c.kRows) : 1 ≤ keyBytes c := by
  unfold keyBytes
  split
  · exact hk
  · exact half_pos hk

/-- R100: a GRAIN_LOAD_KEYS of readable keys loads them. -/
theorem grainLoadKeysBody_ok (hp : c.plate < 128) (hw : s.wholeTray c.plate) (hk : 1 ≤ c.kRows) (hk160 : c.kRows ≤ 160) (hn : 1 ≤ c.cols)
    (hn256 : c.cols ≤ 256) (hfmt : c.le 16 1 ≤ 1) (halign : c.trayAddr % 16 = 0) (hstride : c.le 18 2 % 16 = 0)
    (hend : c.trayAddr + (c.cols - 1) * c.le 18 2 + keyBytes c ≤ s.grainTop c.plate) :
    ∃ rs, grainLoadKeysBody c (s.begun c) = .ok (((s.begun c).noteReads c.plate rs).putShadow c (s.keyTile c)) := by
  have hwin : c.trayAddr < trayWin := by
    have := s.grainTop_le c.plate
    have := keyBytes_pos hk
    omega
  have hcols := mapM_ok (l := List.range c.cols) (g := fun j => s.tray c.plate (c.trayAddr + j * c.le 18 2) (keyBytes c))
    (f := fun j => (s.begun c).trayRead .grain c.plate (c.trayAddr + j * c.le 18 2) (keyBytes c))
    (fun j hj => State.begun_trayRead hp hp hw (stride_le (List.mem_range.mp hj) hend))
  unfold grainLoadKeysBody
  dsimp only
  simp only [keyBytes] at hcols
  rw [need_true (decide_eq_true ⟨hk, hk160, hn, hn256, hfmt, halign, hwin, hstride⟩), ok_bind, hcols, ok_bind, State.begun_plans hp]
  refine ⟨_, congrArg (fun w => Except.ok (State.putShadow _ c w)) ?_⟩
  simp only [State.keyTile, List.map_map, keyBytes]
  rfl

/-! ### Passes (R69–R77, R99) -/

/-- The bytes of an activation row that a GRAIN_PASS reads (R99). -/
def rowBytes (c : PlateCmd) : Nat := if c.bits 16 0 2 = 0 then c.kRows else ceilDiv c.kRows 2

/-- The decode table of a GRAIN_PASS (R45, R106). -/
def State.passTable (s : State) (c : PlateCmd) : List Int :=
  if c.bits 16 0 2 ≠ 2 then [] else if c.bits 16 2 4 = 0 then g16Table else a4gTableOf (s.tray c.plate (s.a4gAt c.plate (c.bits 16 2 4)) 16)

/-- The codes of the rows of a GRAIN_PASS. -/
def State.passCodes (s : State) (c : PlateCmd) : List (List Int) :=
  ((List.range c.rows).map (fun i => s.tray c.plate (c.trayAddr + i * c.le 18 2) (rowBytes c))).map (rowCodes (c.bits 16 0 2) c.kRows (s.passTable c))

/-- What a GRAIN_PASS of tile `w` makes of its plate and counts (R69, R82, R105). -/
def passedGroups (c : PlateCmd) (w : Tile) (x : Plate) (rows : List (List Int)) : Plate × Nat :=
  if c.bits 17 1 1 = 1 then promoteNamed (passRows w x c.packed c.first rows).1 (groupKeys c.packed c.first c.rows)
  else ((passRows w x c.packed c.first rows).1, 0)

/-- The plate after a GRAIN_PASS of tile `w`. -/
def passedPlate (c : PlateCmd) (w : Tile) (x : Plate) (rows : List (List Int)) : Plate :=
  { (passedGroups c w x rows).1 with
    active := some w, reload := if c.bits 17 0 1 = 1 then none else x.reload, boundary := c.lastInTile }

theorem State.a4gTable_ok (hp : c.plate < 128) (hw : s.wholeTray c.plate) {tbl : Nat}
    (h : tbl ≠ 0 → s.a4gAt c.plate tbl + 16 ≤ s.grainTop c.plate) : (s.begun c).a4gTable c.plate tbl =
      .ok (if tbl = 0 then g16Table else a4gTableOf (s.tray c.plate (s.a4gAt c.plate tbl) 16)) := by
  have hat : (s.begun c).a4gAt c.plate tbl = s.a4gAt c.plate tbl := by
    rw [State.a4gAt, State.a4gAt, (sameSetup_begun s hp).plateGet (f := fPLATE_GRAIN_CFG_A4G_BASE) (by decide) hp]
  unfold State.a4gTable
  by_cases h0 : tbl = 0
  · rw [if_pos h0, if_pos h0]
  · have htop := h h0
    rw [if_neg h0, if_neg h0, hat]
    dsimp only
    rw [if_neg (Nat.not_lt.mpr (Nat.le_trans htop (s.grainTop_le _))), State.begun_trayRead hp hp hw htop]
    rfl

/-- R99: a GRAIN_PASS of readable rows through a tile of its row count passes. -/
theorem grainPassBody_ok {w : Tile} (hp : c.plate < 128) (hw : s.wholeTray c.plate) (hin : groupsInRange c = true)
    (hopen : groupsOpen (s.plate c.plate) c = true) (hk : 1 ≤ c.kRows) (hk160 : c.kRows ≤ 160) (hfmt : c.bits 16 0 2 ≤ 2)
    (hpacked : c.packed = true ↔ c.bits 16 0 2 = 1) (halign : c.trayAddr % 16 = 0) (hstride : c.le 18 2 % 16 = 0)
    (hbound : c.bits 17 0 1 = 1 ∨ (s.plate c.plate).boundary = false)
    (hend : c.trayAddr + (c.rows - 1) * c.le 18 2 + rowBytes c ≤ s.grainTop c.plate)
    (htbl : c.bits 16 0 2 = 2 → c.bits 16 2 4 ≠ 0 → s.a4gAt c.plate (c.bits 16 2 4) + 16 ≤ s.grainTop c.plate)
    (htile : (if c.bits 17 0 1 = 1 then (s.plate c.plate).shadow else (s.plate c.plate).active) = some w) (hrows : w.kRows = c.kRows) :
    ∃ rs n1 n2 n3, grainPassBody c (s.begun c) = .ok (((((s.begun c).noteReads c.plate rs).setPlate c.plate
      (passedPlate c w ((s.begun c).plate c.plate) (s.passCodes c))).dens c.plate 5 n1).notePromotion c.plate n2 n3) := by
  obtain ⟨hshadow, hactive, hboundary, hgroups⟩ := s.begun_plate hp
  have hwin : c.trayAddr < trayWin := by
    have := s.grainTop_le c.plate
    have : 1 ≤ rowBytes c := by
      unfold rowBytes
      split
      · exact hk
      · exact half_pos hk
    omega
  have hreads := mapM_ok (l := List.range c.rows) (g := fun i => s.tray c.plate (c.trayAddr + i * c.le 18 2) (rowBytes c))
    (f := fun i => (s.begun c).trayRead .grain c.plate (c.trayAddr + i * c.le 18 2) (rowBytes c))
    (fun i hi => State.begun_trayRead hp hp hw (stride_le (List.mem_range.mp hi) hend))
  have htable : (if c.bits 16 0 2 = 2 then (s.begun c).a4gTable c.plate (c.bits 16 2 4) else .ok []) = .ok (s.passTable c) := by
    unfold State.passTable
    by_cases h2 : c.bits 16 0 2 = 2
    · rw [if_pos h2, if_neg (not_not_intro h2), State.a4gTable_ok hp hw (htbl h2)]
    · rw [if_neg h2, if_pos h2]
  have hmode : (c.packed == decide (c.bits 16 0 2 = 1)) = true := by
    rw [beq_iff_eq, Bool.eq_iff_iff, decide_eq_true_eq]
    exact hpacked
  have hswap : (decide (c.bits 17 0 1 = 1) || !((s.begun c).plate c.plate).boundary) = true := by
    rw [hboundary]
    rcases hbound with h | h
    · simp [h]
    · simp [h]
  have hactive : (if c.bits 17 0 1 = 1 then ((s.begun c).plate c.plate).shadow else ((s.begun c).plate c.plate).active) = some w := by
    rw [hshadow, hactive, htile]
  unfold grainPassBody
  simp only [decide_eq_true_eq]
  rw [need_true hin, ok_bind, need_true (decide_eq_true ⟨hk, hk160, hfmt, halign, hwin, hstride⟩), ok_bind, need_true hmode, ok_bind,
    need_true ((groupsOpen_congr hgroups c).trans hopen), ok_bind, need_true hswap, ok_bind, hactive]
  dsimp only
  rw [need_true (decide_eq_true hrows), ok_bind]
  simp only [rowBytes] at hreads
  by_cases h2 : c.bits 16 0 2 = 2
  · rw [if_pos h2] at htable ⊢
    rw [htable, ok_bind, hreads, ok_bind]
    exact ⟨_, _, _, _, rfl⟩
  · rw [if_neg h2] at htable ⊢
    rw [htable, ok_bind, hreads, ok_bind]
    exact ⟨_, _, _, _, rfl⟩

/-- What a GRAIN_PASS leaves beside its plate (R107, R168). -/
theorem State.passed_frame (b : State) (hp : c.plate < 128) (rs : List (Nat × Nat)) (y : Plate) (n1 n2 n3 : Nat) :
    let t := (((b.noteReads c.plate rs).setPlate c.plate y).dens c.plate 5 n1).notePromotion c.plate n2 n3
    UnitWork { b with plates := t.plates } t (fun _ => False) ∧ (∀ q, q ≠ c.plate → t.plate q = b.plate q) ∧ t.plate c.plate = y ∧
    t.parts = b.parts := by
  have hr := beside_noteReads b hp rs
  generalize b.noteReads c.plate rs = u at hr ⊢
  have hd := beside_trans (beside_dens (u.setPlate c.plate y) c.plate 5 n1 (by omega)) (beside_notePromotion _ hp n2 n3) (by simp)
  generalize State.notePromotion _ c.plate n2 n3 = t at hd ⊢
  have hplates : t.plates = (u.setPlate c.plate y).plates := beside_plates hd
  have hplate : ∀ q, t.plate q = (u.setPlate c.plate y).plate q := fun q => congrArg (smapGet _ q) hplates
  have hA : fldAddr fREL_LOG_BASE 0 0 ∉ [fldAddr fTRAY_ECC_STAT_CE c.plate 0] := by
    simp only [List.mem_singleton, fldAddr, fREL_LOG_BASE, fTRAY_ECC_STAT_CE, blockBase]
    omega
  have hparts : t.parts = (u.setPlate c.plate y).parts := parts_of_beside hd
  have hu : u.parts = b.parts := parts_of_beside hr
  refine ⟨?_, fun q hq => ?_, ?_, hparts.trans hu⟩
  · rw [hplates]
    exact unitWork_of_beside hp (beside_trans (beside_withPlates hr (u.setPlate c.plate y).plates) (beside_mono hd (List.nil_subset _)) hA)
  · rw [hplate, State.plate_setPlate_ne u (Ne.symm hq)]
    exact congrArg (smapGet _ q) (beside_plates hr)
  · rw [hplate, State.plate_setPlate_same]

/-- R69, R76, R82: a pass leaves everything of its plate but groups, tiles and the boundary mark; its groups follow those before it. -/
theorem passedPlate_frame (w : Tile) {x y : Plate} (hxy : x.groups = y.groups) {rows : List (List Int)} (hlen : rows.length = c.rows) :
    (passedPlate c w x rows).shadow = x.shadow ∧ (passedPlate c w x rows).ctx = x.ctx ∧ (passedPlate c w x rows).ended = x.ended ∧
    (∀ k, k ∉ groupKeys c.packed c.first c.rows → (passedPlate c w x rows).group k = y.group k) ∧
    (c.bits 17 1 1 = 0 → (passedPlate c w x rows).groups = (passRows w y c.packed c.first rows).1.groups) ∧
    (c.bits 17 1 1 = 1 → (passedPlate c w x rows).groups =
      (promoteNamed (passRows w y c.packed c.first rows).1 (groupKeys c.packed c.first c.rows)).1.groups) := by
  obtain ⟨hframe, hother⟩ := passRows_frame w x c.packed c.first rows
  rw [hlen] at hother
  have hsame := passRows_groups hxy w c.packed c.first rows
  have hkept : ∀ k, x.group k = y.group k := fun k => congrArg (smapGet _ k) hxy
  have hgroup : ∀ k, (passedPlate c w x rows).group k = (passedGroups c w x rows).1.group k := fun _ => rfl
  have hgroups : (passedPlate c w x rows).groups = (passedGroups c w x rows).1.groups := rfl
  have hall : (passedGroups c w x rows).1 = { x with groups := (passedGroups c w x rows).1.groups } := by
    unfold passedGroups
    split
    · rw [promoteNamed_eq, promoteKeys_frame]
      dsimp only
      rw [hframe]
    · exact hframe
  refine ⟨?_, ?_, ?_, fun k hk => ?_, fun h0 => ?_, fun h1 => ?_⟩
  · rw [passedPlate, hall]
  · rw [passedPlate, hall]
  · rw [passedPlate, hall]
  · rw [hgroup, ← hkept, ← hother k hk]
    unfold passedGroups
    split
    · rw [promoteNamed_eq, promoteKeys_group (groupKeys_nodup ..), if_neg hk]
    · rfl
  · rw [hgroups, passedGroups, if_neg (by rw [h0]; decide)]
    exact hsame
  · rw [hgroups, passedGroups, if_pos h1]
    exact promoteNamed_groups hsame _

/-! ### Groups opened, promoted and released (R88, R101) -/

theorem accOpenBody_ok (hp : c.plate < 128) (hin : groupsInRange c = true) (hfree : openMask (s.plate c.plate).groups &&& groupsMask c = 0)
    (hroom : storage40 (openMask (s.plate c.plate).groups ||| groupsMask c) ≤ s.saveGroups c.plate) :
    accOpenBody c (s.begun c) = .ok ((s.begun c).setPlate c.plate ((groupKeys c.packed c.first c.rows).foldl (fun y k => y.setGroup k
      (some { packed := c.packed, n := 32 * 2 ^ c.bits 16 0 2, narrow := [], wide := [], strips := [] })) ((s.begun c).plate c.plate))) := by
  obtain ⟨-, -, -, hgroups⟩ := s.begun_plate hp
  unfold accOpenBody
  dsimp only
  rw [need_true hin, ok_bind, hgroups, need_true (decide_eq_true hfree), ok_bind, (sameSetup_begun s hp).saveGroups, need_true (decide_eq_true hroom), ok_bind]

theorem accCloseBody_ok (hp : c.plate < 128) (hin : groupsInRange c = true) (hopen : groupsOpen (s.plate c.plate) c = true) :
    accCloseBody c (s.begun c) = .ok ((s.begun c).setPlate c.plate (releaseGroups ((s.begun c).plate c.plate) c)) := by
  obtain ⟨-, -, -, hgroups⟩ := s.begun_plate hp
  unfold accCloseBody
  rw [need_true hin, ok_bind, need_true ((groupsOpen_congr hgroups c).trans hopen), ok_bind]

theorem accPromoteBody_ok (hp : c.plate < 128) (hin : groupsInRange c = true) (hopen : groupsOpen (s.plate c.plate) c = true) :
    accPromoteBody c (s.begun c) = .ok (((s.begun c).setPlate c.plate
      (promoteNamed ((s.begun c).plate c.plate) (groupKeys c.packed c.first c.rows)).1).notePromotion c.plate c.rows
      (promoteNamed ((s.begun c).plate c.plate) (groupKeys c.packed c.first c.rows)).2) := by
  obtain ⟨-, -, -, hgroups⟩ := s.begun_plate hp
  unfold accPromoteBody
  rw [need_true hin, ok_bind, need_true ((groupsOpen_congr hgroups c).trans hopen), ok_bind]

/-- R88: the same written into every group that a command names. -/
theorem State.runs_setGroups {i : Instr} {opc : Nat} {Q : State → State → Prop} (h : s.ready c) (hr : (i, opc) ∈ plateRows c) (hc : c.opc = opc)
    (g : Option Group) (ht : bodyOf c (s.begun c) = .ok ((s.begun c).setPlate c.plate
      ((groupKeys c.packed c.first c.rows).foldl (fun y k => y.setGroup k g) ((s.begun c).plate c.plate))))
    (hQ : ∀ t : State, t = { s.begun c with plates := t.plates } → (∀ q, q ≠ c.plate → t.plate q = (s.begun c).plate q) →
      (∀ k ∈ groupKeys c.packed c.first c.rows, (t.plate c.plate).group k = g) →
      (∀ k, k ∉ groupKeys c.packed c.first c.rows → (t.plate c.plate).group k = (s.plate c.plate).group k) →
      (t.plate c.plate).active = (s.plate c.plate).active → (t.plate c.plate).shadow = (s.plate c.plate).shadow → Q (s.begun c) t) : Runs i c s Q := by
  obtain ⟨-, hp, -⟩ := id h
  obtain ⟨hshadow, hactive, -, hgroups⟩ := s.begun_plate hp
  have hframe := Plate.foldl_setGroup_eq (groupKeys c.packed c.first c.rows) g ((s.begun c).plate c.plate)
  have hgroup := Plate.group_foldl_setGroup (groupKeys c.packed c.first c.rows) g ((s.begun c).plate c.plate)
  have hkept : ∀ k, ((s.begun c).plate c.plate).group k = (s.plate c.plate).group k := fun k => congrArg (smapGet _ k) hgroups
  generalize List.foldl _ ((s.begun c).plate c.plate) (groupKeys c.packed c.first c.rows) = y at ht hframe hgroup
  refine State.runs_intro i h hr hc ht ?_ ?_ rfl (hQ _ rfl (fun q hq => State.plate_setPlate_ne _ (Ne.symm hq) _) (fun k hk => ?_) (fun k hk => ?_) ?_ ?_)
  all_goals rw [State.plate_setPlate_same]
  · rw [hframe]
  · rw [hframe]
  · rw [hgroup, if_pos hk]
  · rw [hgroup, if_neg hk, hkept]
  · rw [hframe, hactive]
  · rw [hframe, hshadow]

end

end Sys2Proof.Machine
end

section
/-! O52 settled. -/

namespace Sys2Proof.Machine

/-- A clause of O52: GRAIN_LOAD and GRAIN_LOAD_KEYS, whose body loads tile `w`. -/
theorem State.runs_loaded {s : State} {c : PlateCmd} {i : Instr} {opc : Nat} {Q : State → State → Prop} (h : s.ready c)
    (hr : (i, opc) ∈ plateRows c) (hc : c.opc = opc) {w : Tile} {rs : List (Nat × Nat)}
    (ht : bodyOf c (s.begun c) = .ok (((s.begun c).noteReads c.plate rs).putShadow c w))
    (hQ : ∀ t : State, UnitWork { s.begun c with plates := t.plates, work := t.work } t (fun _ => False) →
      (∀ q, q ≠ c.plate → t.plate q = (s.begun c).plate q ∧ t.workOf q = (s.begun c).workOf q) →
      t.plate c.plate = { (s.begun c).plate c.plate with shadow := some w, reload := some c } → Q (s.begun c) t) : Runs i c s Q := by
  obtain ⟨hunit, hother, hplate, hparts⟩ := (s.begun c).loaded_frame c w rs h.2.1
  refine State.runs_intro i h hr hc ht ?_ ?_ hparts (hQ _ hunit hother hplate)
  · rw [hplate]
  · rw [hplate]

/-- A clause of O52: ACC_PROMOTE. -/
theorem State.runs_promoted {s : State} {c : PlateCmd} {Q : State → State → Prop} (h : s.ready c) (hc : c.opc = 0x24) (hin : groupsInRange c = true)
    (hopen : groupsOpen (s.plate c.plate) c = true)
    (hQ : ∀ t : State, Beside { s.begun c with plates := t.plates } t [] → (∀ q, q ≠ c.plate → t.plate q = (s.begun c).plate q) →
      (∀ k, (t.plate c.plate).group k = if k ∈ groupKeys c.packed c.first c.rows then ((s.plate c.plate).group k).map (fun g => (promoteGroup g).1)
        else (s.plate c.plate).group k) → Q (s.begun c) t) : Runs (.accPromote c) c s Q := by
  obtain ⟨-, hp, -⟩ := id h
  obtain ⟨-, -, -, hgroups⟩ := s.begun_plate hp
  have hkept : ∀ k, ((s.begun c).plate c.plate).group k = (s.plate c.plate).group k := fun k => congrArg (smapGet _ k) hgroups
  have hbody := accPromoteBody_ok hp hin hopen
  have hframe := promoteKeys_frame (groupKeys c.packed c.first c.rows) ((s.begun c).plate c.plate, 0)
  have hgroup := promoteKeys_group (groupKeys_nodup c.packed c.first c.rows) ((s.begun c).plate c.plate, 0)
  rw [promoteNamed_eq] at hbody
  generalize List.foldl promoteAt ((s.begun c).plate c.plate, 0) (groupKeys c.packed c.first c.rows) = y at hbody hframe hgroup
  have hn := beside_notePromotion ((s.begun c).setPlate c.plate y.1) hp c.rows y.2
  generalize State.notePromotion _ c.plate c.rows y.2 = t at hbody hn
  have hplates : t.plates = ((s.begun c).setPlate c.plate y.1).plates := beside_plates hn
  have hplate : ∀ q, t.plate q = ((s.begun c).setPlate c.plate y.1).plate q := fun q => congrArg (smapGet _ q) hplates
  have hparts : t.parts = ((s.begun c).setPlate c.plate y.1).parts := parts_of_beside hn
  refine State.runs_intro (.accPromote c) h (by simp [plateRows]) hc (by rw [bodyOf, hc]; exact hbody) ?_ ?_ hparts
    (hQ t ?_ (fun q hq => (hplate q).trans (State.plate_setPlate_ne _ (Ne.symm hq) _)) (fun k => ?_))
  · rw [hplate, State.plate_setPlate_same, hframe]
  · rw [hplate, State.plate_setPlate_same, hframe]
  · rw [hplates]
    exact hn
  · rw [hplate, State.plate_setPlate_same, hgroup]
    dsimp only
    rw [hkept]

/-- Settles O52: each command's body succeeds where its unit begins, and the frames of what it changes are those of the statement. -/
theorem grainTilesAndGroups : Obligations.GrainTilesAndGroups := by
  unfold Obligations.GrainTilesAndGroups
  intro s c h
  obtain ⟨-, hp, -⟩ := id h
  refine ⟨fun hc hw hk hk160 hn hn256 hfmt halign hplane hgrp st hst hend htrits => ?_,
    fun hc hw hk hk160 hn hn256 hfmt halign hstride hend => ?_, fun hc hin hfree hroom => ?_, fun hc hin hopen => ?_, fun hc hin hopen => ?_,
    fun hc hw hin hopen hk hk160 hfmt hpacked halign hstride hbound hend htbl w htile hrows tbl htable r hr => ?_⟩
  · subst hst
    obtain ⟨rs, hbody⟩ := grainLoadBody_ok hp hw hk hk160 hn hn256 hfmt halign hplane hgrp hend htrits
    refine State.runs_loaded h (by simp [plateRows]) hc (by rw [bodyOf, hc]; exact hbody) (fun t hunit hother hplate => ?_)
    exact ⟨hunit, hother, s.loadTile c, hplate, rfl, rfl, rfl, rfl, rfl, rfl, rfl⟩
  · obtain ⟨rs, hbody⟩ := grainLoadKeysBody_ok hp hw hk hk160 hn hn256 hfmt halign hstride hend
    refine State.runs_loaded h (by simp [plateRows]) hc (by rw [bodyOf, hc]; exact hbody) (fun t hunit hother hplate => ?_)
    refine ⟨hunit, hother, s.keyTile c, hplate, rfl, rfl, rfl, rfl, ?_, rfl, rfl⟩
    by_cases h0 : c.le 16 1 = 0
    · simp only [State.keyTile, keyBytes, h0, if_true]
    · simp only [State.keyTile, keyBytes, h0, if_false]
  · refine State.runs_setGroups h (by simp [plateRows]) hc _ (by rw [bodyOf, hc]; exact accOpenBody_ok hp hin hfree hroom) ?_
    exact fun t hframe hother hin hout hactive hshadow => ⟨hframe, hother, hin, hout, hactive, hshadow⟩
  · refine State.runs_setGroups h (by simp [plateRows]) hc _ (by rw [bodyOf, hc]; exact accCloseBody_ok hp hin hopen) ?_
    exact fun t hframe hother hin hout hactive hshadow => ⟨hframe, hother, hin, hout, hactive, hshadow⟩
  · refine State.runs_promoted h hc hin hopen (fun t hbeside hother hgroups => ?_)
    refine ⟨hbeside, hother, fun k hk => ?_, fun k hk => ?_⟩
    · obtain ⟨g, hg⟩ := groupsOpen_group hopen hk
      refine ⟨g, hg, ?_, fun st hst => promoteGroup_strips g hst⟩
      rw [hgroups, if_pos hk, hg]
      rfl
    · rw [hgroups, if_neg hk]
  · have hcodes : (List.range c.rows).map (fun i => rowCodes (c.bits 16 0 2) c.kRows tbl (s.tray c.plate (c.trayAddr + i * c.le 18 2) (rowBytes c))) =
        s.passCodes c := by
      rw [htable, State.passCodes, List.map_map]
      rfl
    have hlen : (s.passCodes c).length = c.rows := by simp [State.passCodes]
    obtain ⟨hshadow, -, -, hgroups⟩ := s.begun_plate hp
    obtain ⟨rs, n1, n2, n3, hbody⟩ := grainPassBody_ok hp hw hin hopen hk hk160 hfmt hpacked halign hstride hbound hend htbl htile hrows
    obtain ⟨hunit, hother, hplate, hparts⟩ := State.passed_frame (c := c) (s.begun c) hp rs (passedPlate c w ((s.begun c).plate c.plate) (s.passCodes c)) n1 n2 n3
    obtain ⟨hshadow', hctx, hend', hout, hkeep, hpromoted⟩ := passedPlate_frame (c := c) w hgroups hlen
    replace hr : r = (passRows w (s.plate c.plate) c.packed c.first (s.passCodes c)).1 := by rw [hr, ← hcodes]; rfl
    refine State.runs_intro (.grainPass c) h (by simp [plateRows]) hc (by rw [bodyOf, hc]; exact hbody) ?_ ?_ hparts
      ⟨hunit, hother, ?_, ?_, ?_, fun k hk => ?_, fun h0 => ?_, fun h1 => ?_⟩
    all_goals rw [hplate]
    · exact hctx
    · exact hend'
    · rfl
    · rw [hshadow', hshadow]
    · rfl
    · exact hout k hk
    · rw [hkeep h0, hr]
    · rw [hpromoted h1, hr]

end Sys2Proof.Machine
end

section
/-! What follows a command's completion on a partition without contexts on its plates (R263–R269, R405): the end of O53. -/

namespace Sys2Proof.Machine

/-! ### Partitions that are OFFLINE and plates without contexts -/

/-- No plate runs a context, and every partition is OFFLINE. -/
def Idle (s : State) : Prop := (∀ p, (s.plate p).ctx = none) ∧ ∀ n, n < 16 → s.get fPART_REL_STAT_OFFLINE n 0 = 1

theorem offlineAddr (n : Nat) : fldAddr fPART_REL_STAT_OFFLINE n 0 = 0x0F0090000000 + n * 0x10000 + 0xa28 := by
  simp [fldAddr, fPART_REL_STAT_OFFLINE, blockBase]

theorem offlineAddr_apart (n : Nat) : bookkeeping (fldAddr fPART_REL_STAT_OFFLINE n 0) = false ∧
    errorReg (fldAddr fPART_REL_STAT_OFFLINE n 0) = false := by
  rw [offlineAddr]
  generalize hb : 0x0F0090000000 = b
  constructor
  · rw [bookkeeping, decide_eq_false_iff_not]
    simp only [fldAddr, fREL_LOG_IDX_TAIL, fREL_LOG_STAT_OVERWRITTEN, blockBase]
    omega
  · rw [errorReg, decide_eq_false_iff_not]
    omega

theorem Idle.of_kept {s t : State} (h : Idle s) (hp : ∀ p, (t.plate p).ctx = (s.plate p).ctx)
    (hr : ∀ a, bookkeeping a = false → errorReg a = false → t.reg a = s.reg a) : Idle t := by
  refine ⟨fun p => (hp p).trans (h.1 p), fun n hn => ?_⟩
  obtain ⟨hb, he⟩ := offlineAddr_apart n
  rw [← h.2 n hn, State.get, State.get, hr _ hb he]

/-- A step that leaves an idle state idle, and does not lose its last context. -/
def KeepsCtxs (s t : State) : Prop := Idle s → Idle t ∧ (s.ctxs ≠ [] → t.ctxs ≠ [])

theorem keepsCtxs_refl (s : State) : KeepsCtxs s s := fun h => ⟨h, id⟩

theorem keepsCtxs_trans {s t u : State} (h : KeepsCtxs s t) (h' : KeepsCtxs t u) : KeepsCtxs s u := fun hi =>
  ⟨(h' (h hi).1).1, fun hc => (h' (h hi).1).2 ((h hi).2 hc)⟩

theorem keepsCtxs_foldl {β : Type} (f : State → β → State) (hf : ∀ t b, KeepsCtxs t (f t b)) (bs : List β) (s : State) :
    KeepsCtxs s (bs.foldl f s) := by
  induction bs generalizing s with
  | nil => exact keepsCtxs_refl s
  | cons b bs ih => exact keepsCtxs_trans (hf s b) (ih _)

theorem keepsCtxs_setPrt (s : State) (n : Nat) (x : Part) : KeepsCtxs s (s.setPrt n x) := fun h => ⟨h, id⟩

theorem ctxs_ne_nil {s : State} {id : Nat} (h : (s.ctx id).run ≠ .disabled ∨ (s.ctx id).residency ≠ 0) : s.ctxs ≠ [] := by
  intro e
  have hc : s.ctx id = Ctx.init := by rw [State.ctx, e]; rfl
  rw [hc] at h
  rcases h with h | h
  · exact h rfl
  · exact h rfl

/-- A context written back is there. -/
theorem keepsCtxs_putCtx (s : State) (id : Nat) (x : Ctx) (hx : x.run ≠ .disabled ∨ x.residency ≠ 0) : KeepsCtxs s (s.putCtx id x) := by
  intro h
  have hw := sideWork_putCtx s id x
  have hctx : (s.putCtx id x).ctx id = x := (hw.ctx id).trans (State.ctx_setCtx_same ..)
  exact ⟨h.of_kept (fun p => congrArg Plate.ctx (hw.plate p)) (fun _ => hw.reg), fun _ => ctxs_ne_nil (id := id) (by rw [hctx]; exact hx)⟩

theorem keepsCtxs_unblock (s : State) (id : Nat) : KeepsCtxs s (s.unblock id) := keepsCtxs_putCtx s id _ (.inl nofun)

/-- R268: a context that ends for a deadlock stays, DONE. -/
theorem keepsCtxs_deadlock (s : State) (id : Nat) : KeepsCtxs s (s.deadlock id) := by
  unfold State.deadlock
  split
  · rename_i c _ _
    intro h
    obtain ⟨u, hu, he⟩ := s.faultOf_ends (some id) c 0x08 stCtxDeadlock stCtxDeadlock 0 0 0 (.inr (by decide))
    obtain ⟨hrec, -⟩ := s.recordFault_frame c 0x08 stCtxDeadlock 0 0
    obtain ⟨hplates, -⟩ := s.recordFault_places c 0x08 stCtxDeadlock 0 0
    have hplate : ∀ p, (u.plate p).ctx = none := fun p => by
      rw [hu.plate, State.plate, hplates]
      exact h.1 p
    obtain ⟨hrun, -, hends, hregs⟩ := u.endContext_frame id stCtxDeadlock
    rw [he]
    refine ⟨⟨fun p => ?_, fun n hn => ?_⟩, fun _ => ctxs_ne_nil (id := id) (.inl (by rw [hrun]; exact nofun))⟩
    · rw [(hends p).2 (by rw [hplate]; exact nofun)]
      exact hplate p
    · obtain ⟨hb, he⟩ := offlineAddr_apart n
      have hfault : fldAddr fPART_REL_STAT_OFFLINE n 0 ≠ faultAddr 0x08 c.plate := by
        rw [offlineAddr, faultAddr, show faultReg 0x08 c.plate = (fPLATE_SEQ_FAULT_OPC, c.plate) from rfl,
          fldAddr_plate (f := fPLATE_SEQ_FAULT_OPC) (by decide), show fPLATE_SEQ_FAULT_OPC.off = 0x120 from rfl]
        omega
      have hdodge : fldAddr fPART_REL_STAT_OFFLINE n 0 ≠ fldAddr fDODGE_FAULT_OFF_OFFSET (c.plate / 8) 0 := by
        rw [offlineAddr, fldAddr_cluster (by decide), show fDODGE_FAULT_OFF_OFFSET.off = 0x2008 from rfl]
        omega
      rw [← h.2 n hn, State.get, State.get, hregs _ hb he, hu.reg hb he, hrec _ hfault hdodge]
  · exact keepsCtxs_refl s

theorem keepsCtxs_settleWaits (s : State) (n fuel : Nat) : KeepsCtxs s (s.settleWaits n fuel) := by
  induction fuel generalizing s with
  | zero => exact keepsCtxs_refl s
  | succ fuel ih =>
    unfold State.settleWaits
    dsimp only
    split
    · exact keepsCtxs_trans (keepsCtxs_deadlock s _) (ih _)
    · refine keepsCtxs_foldl _ (fun t id => ?_) _ s
      split
      · exact keepsCtxs_unblock t id
      · exact keepsCtxs_refl t

theorem keepsCtxs_settleCarrier (s : State) (n : Nat) : KeepsCtxs s (s.settleCarrier n) := by
  refine keepsCtxs_foldl _ (fun t id => ?_) _ s
  dsimp only
  split
  · exact keepsCtxs_unblock t id
  · exact keepsCtxs_refl t

/-- R264: with no context on a lane the scheduler has nothing to do. -/
theorem Idle.schedule {s : State} (h : Idle s) (n : Nat) : s.schedule n = s := by
  have hnone : s.laneCtxs n = [] := List.filter_eq_nil_iff.mpr (fun id _ => by
    rw [State.onLane, List.any_eq_true]
    rintro ⟨p, -, hp⟩
    rw [h.1 p] at hp
    cases hp)
  rw [State.schedule, hnone]
  rfl

theorem keepsCtxs_schedule (s : State) (n : Nat) : KeepsCtxs s (s.schedule n) := fun h => by
  rw [h.schedule]
  exact ⟨h, id⟩

theorem keepsCtxs_startSwap (s : State) (n : Nat) (v : Option Nat) (c : Nat) : KeepsCtxs s (s.startSwap n v c) := by
  have hput : ∀ id (x : Ctx), KeepsCtxs s (s.putCtx id { x with residency := 2 }) := fun id x => keepsCtxs_putCtx s id _ (.inr (Nat.succ_ne_zero 1))
  unfold State.startSwap
  split
  · exact keepsCtxs_trans (hput c { s.ctx c with resSlot := s.freeSlot n }) (keepsCtxs_setPrt _ _ _)
  · exact keepsCtxs_trans (hput _ (s.ctx _)) (keepsCtxs_setPrt _ _ _)

theorem keepsCtxs_exchangeFor {s t : State} {n w : Nat} (h : s.exchangeFor n w = some t) : KeepsCtxs s t := by
  unfold State.exchangeFor at h
  dsimp only at h
  split at h
  · cases h
    exact keepsCtxs_refl s
  · split at h
    · cases h
      exact keepsCtxs_startSwap _ _ _ _
    · split at h
      · cases h
        exact keepsCtxs_startSwap _ _ _ _
      · split at h
        · cases h
          exact keepsCtxs_startSwap _ _ _ _
        · cases h

theorem keepsCtxs_swapDecide (s : State) (n : Nat) : KeepsCtxs s (s.swapDecide n) := by
  unfold State.swapDecide
  dsimp only
  split
  · exact keepsCtxs_refl s
  · split
    · rename_i w t hx
      obtain ⟨w', -, hw⟩ := List.exists_of_findSome?_eq_some hx
      obtain ⟨t', ht', he⟩ := Option.map_eq_some_iff.mp hw
      cases he
      exact keepsCtxs_trans (keepsCtxs_exchangeFor ht') (keepsCtxs_setPrt _ _ _)
    · have h0 := fun x => keepsCtxs_setPrt s n x
      have hs := fun x v c => keepsCtxs_trans (h0 x) (keepsCtxs_startSwap (s.setPrt n x) n v c)
      split
      · exact h0 _
      · split
        · exact hs _ _ _
        · split
          · exact hs _ _ _
          · split
            · exact h0 _
            · split
              · exact h0 _
              · split
                · exact hs _ _ _
                · exact h0 _

/-- R405: a partition that is OFFLINE already does not go OFFLINE again. -/
theorem Idle.settle {s : State} (h : Idle s) : Idle s.settle ∧ s.settle.ctxs = s.ctxs ∧ s.settle.mem = s.mem := by
  unfold State.settle
  generalize hl : (List.range 16).filter (fun n => (s.prt n).repairFailed) = ns
  have hlt : ∀ n ∈ ns, n < 16 := fun n hn => by
    rw [← hl] at hn
    exact List.mem_range.mp (List.mem_filter.mp hn).1
  clear hl
  suffices ∀ t : State, Idle t → Idle (ns.foldl (fun t n => (t.setPrt n { t.prt n with repairFailed := false }).goOffline n) t) ∧
      (ns.foldl (fun t n => (t.setPrt n { t.prt n with repairFailed := false }).goOffline n) t).ctxs = t.ctxs ∧
      (ns.foldl (fun t n => (t.setPrt n { t.prt n with repairFailed := false }).goOffline n) t).mem = t.mem from this s h
  induction ns with
  | nil => exact fun t ht => ⟨ht, rfl, rfl⟩
  | cons n ns ih =>
    intro t ht
    have ht' : Idle (t.setPrt n { t.prt n with repairFailed := false }) := ht
    have hoff : (t.setPrt n { t.prt n with repairFailed := false }).goOffline n = t.setPrt n { t.prt n with repairFailed := false } :=
      if_pos (ht'.2 n (hlt n (List.mem_cons_self ..)))
    rw [List.foldl_cons, hoff]
    exact ih (fun m hm => hlt m (List.mem_cons_of_mem _ hm)) _ ht'

/-! ### Waking a partition (R149, R268) -/

/-- Nothing waits on any plate. -/
def Still (s : State) : Prop := ∀ p, (s.plate p).waiting = [] ∧ (s.plate p).unsent = []

theorem Still.cascade {s : State} (h : Still s) (ps : List Nat) (fuel : Nat) : s.cascade ps fuel = s := by
  have hsend : ps.findSome? s.sendHeld = none := List.findSome?_eq_none_iff.mpr (fun p _ => by rw [State.sendHeld, (h p).2])
  have htry : ∀ k qs, List.findSome? (s.tryFor k) qs = none := fun k qs => List.findSome?_eq_none_iff.mpr (fun p _ => by
    rw [State.tryFor, (h p).1]
    rfl)
  have hshared : (ps.map (fun p => (s.plate p).waiting.filterMap (fun w => s.serverOf w.cmd))).flatten = [] := by
    rw [List.flatten_eq_nil_iff]
    intro l hl
    obtain ⟨p, -, rfl⟩ := List.mem_map.mp hl
    rw [(h p).1]
    rfl
  have hnext : s.nextTry ps = none := by
    rw [State.nextTry, hsend, htry, hshared]
    rfl
  cases fuel with
  | zero => rfl
  | succ fuel => rw [State.cascade, hnext]

theorem keepsCtxs_wake {s : State} (h : Still s) (n : Nat) : KeepsCtxs s (s.wake n) := by
  unfold State.wake
  split
  · exact keepsCtxs_refl s
  · dsimp only
    rw [h.cascade, State.ctxEvent]
    exact keepsCtxs_trans (keepsCtxs_settleCarrier s n) (keepsCtxs_trans (keepsCtxs_settleWaits _ n _)
      (keepsCtxs_trans (keepsCtxs_schedule _ n) (keepsCtxs_swapDecide _ n)))

/-- R263–R269: without contexts, waking changes partitions at most. -/
theorem Still.wake_noCtxs {s : State} (h : Still s) (hi : Idle s) (hc : s.ctxs = []) (n : Nat) :
    (s.wake n).ctxs = [] ∧ (s.wake n).mem = s.mem := by
  have hpart : s.partCtxs n = [] := by rw [State.partCtxs, hc]; rfl
  have hcarrier : s.settleCarrier n = s := by rw [State.settleCarrier, hpart]; rfl
  have hwaits : ∀ fuel, s.settleWaits n fuel = s := by
    intro fuel
    cases fuel with
    | zero => rfl
    | succ fuel => rw [State.settleWaits, hpart]; rfl
  have hswap : (s.swapDecide n).ctxs = [] ∧ (s.swapDecide n).mem = s.mem := by
    have hctx : ∀ w, s.ctx w = Ctx.init := fun w => by rw [State.ctx, hc]; rfl
    have hdue : ∀ l : List Nat, l.filter (fun w => decide ((s.ctx w).run = .blocked)) = [] := fun l =>
      List.filter_eq_nil_iff.mpr (fun w _ => by rw [hctx]; exact Bool.false_ne_true)
    unfold State.swapDecide
    dsimp only
    rw [hdue, hc]
    split
    · exact ⟨hc, rfl⟩
    · exact ⟨hc, rfl⟩
  unfold State.wake
  split
  · exact ⟨hc, rfl⟩
  · dsimp only
    rw [h.cascade, hcarrier, State.ctxEvent, hwaits, hi.schedule]
    exact hswap

/-- What a completed command lets happen neither loses contexts nor, where there are none, writes memory. -/
theorem Still.wake_settle {s : State} (h : Still s) (hi : Idle s) (n : Nat) :
    (s.ctxs ≠ [] → (s.wake n).settle.ctxs ≠ []) ∧ (s.ctxs = [] → (s.wake n).settle.ctxs = [] ∧ (s.wake n).settle.mem = s.mem) := by
  obtain ⟨hidle, hkeep⟩ := keepsCtxs_wake h n hi
  obtain ⟨-, hctxs, hmem⟩ := hidle.settle
  refine ⟨fun hc => by rw [hctxs]; exact hkeep hc, fun hc => ?_⟩
  obtain ⟨hc', hm⟩ := h.wake_noCtxs hi hc n
  exact ⟨hctxs.trans hc', hmem.trans hm⟩

end Sys2Proof.Machine
end

section
/-! O53 refuted: ACC_DEBUG_READ of a tagged command whose count makes the log write an entry into memory (R393, R477, R482). -/

namespace Sys2Proof.Machine

/-! ### Rows written into a tray -/

theorem State.healLines_frame (s : State) (a n : Nat) : s.healLines a n = { s with lineErr := (s.healLines a n).lineErr } := by
  unfold State.healLines
  generalize linesOf a n = ls
  induction ls generalizing s with
  | nil => rfl
  | cons l ls ih =>
    rw [List.foldl_cons, ih]
    split
    · rfl
    · rfl

theorem State.staleTags_frame (s : State) (a n : Nat) : s.staleTags a n = { s with tags := (s.staleTags a n).tags } := by
  unfold State.staleTags
  split
  · generalize (blocksOf a n).filter s.tagged = bs
    induction bs generalizing s with
    | nil => rfl
    | cons b bs ih =>
      rw [List.foldl_cons, ih]
      rfl
  · rfl

/-- Work on memory alone: nothing else of the state has changed, and no byte below the trays. -/
def TrayWork (s t : State) : Prop :=
  t = { s with mem := t.mem, lineErr := t.lineErr, tags := t.tags } ∧ ∀ a, a < trayBase → t.mem.get a = s.mem.get a

theorem TrayWork.fields {s t : State} (h : TrayWork s t) : t.regs = s.regs ∧ t.plates = s.plates ∧ t.ctxs = s.ctxs ∧ t.parts = s.parts :=
  ⟨by rw [h.1], by rw [h.1], by rw [h.1], by rw [h.1]⟩

theorem trayWork_trans {s t u : State} (h : TrayWork s t) (h' : TrayWork t u) : TrayWork s u :=
  ⟨by rw [h'.1, h.1], fun a ha => (h'.2 a ha).trans (h.2 a ha)⟩

theorem trayWork_write (s : State) {a : Nat} (ha : trayBase ≤ a) (bs : List Nat) : TrayWork s (s.write a bs) := by
  have hheal : TrayWork s (s.healLines a bs.length) := ⟨by rw [s.healLines_frame], fun _ _ => by rw [State.healLines_mem]⟩
  have hstale : ∀ t : State, TrayWork t (t.staleTags a bs.length) := fun t => ⟨by rw [t.staleTags_frame], fun _ _ => by rw [State.staleTags_mem]⟩
  have hmem : ∀ t : State, TrayWork t { t with mem := t.mem.write a bs } := fun t =>
    ⟨rfl, fun b hb => Memory.get_write_out _ _ _ _ (.inl (Nat.lt_of_lt_of_le hb ha))⟩
  exact trayWork_trans hheal (trayWork_trans (hstale _) (hmem _))

theorem trayWork_writeTray (s : State) (p o : Nat) (bs : List Nat) : TrayWork s (s.writeTray p o bs) := by
  refine trayWork_write s ?_ bs
  rw [trayAddr, Nat.add_assoc]
  exact Nat.le_add_right _ _

/-- Rows written one after the other by the grain side, with its banks awake. -/
theorem State.foldlM_trayPut {s : State} {p : Nat} (o : Nat → Nat) (bs : Nat → List Nat) (is : List Nat)
    (hawake : ∀ b, b < 64 → s.bankAwake p b = true) (h : ∀ i ∈ is, o i + (bs i).length ≤ s.grainTop p) :
    ∃ t, is.foldlM (fun t i => t.trayPut .grain p (o i) (bs i)) s = .ok t ∧ TrayWork s t := by
  induction is generalizing s with
  | nil => exact ⟨s, rfl, rfl, fun _ _ => rfl⟩
  | cons i is ih =>
    have hput : s.trayPut .grain p (o i) (bs i) = .ok (s.writeTray p (o i) (bs i)) := by
      rw [State.trayPut, State.trayBar_none hawake (h i (List.mem_cons_self ..))]
    have hw := trayWork_writeTray s p (o i) (bs i)
    generalize s.writeTray p (o i) (bs i) = u at hput hw
    have hregs := hw.fields.1
    have hget : ∀ f i, u.get f i 0 = s.get f i 0 := fun f i => by rw [State.get, State.reg, hregs]; rfl
    have hsetup : SameSetup s u := fun a _ _ _ => by rw [State.reg, hregs]; rfl
    obtain ⟨t, ht, hwork⟩ := ih (s := u) (fun b hb => by rw [State.bankAwake, hget]; exact hawake b hb)
      (fun j hj => by rw [hsetup.grainTop]; exact h j (List.mem_cons_of_mem _ hj))
    refine ⟨t, ?_, trayWork_trans hw hwork⟩
    rw [List.foldlM_cons, hput, ok_bind]
    exact ht

/-! ### A completed read of the accumulators (R105, R482) -/

/-- A DENS_SAMPLE ring at address 0 lies outside the reserved range, so that samples stay out of memory. -/
theorem State.sample_mem {s : State} (h : s.g fDENS_SAMPLE_BASE = 0) (p : Nat) (t : Tagged) (part ctx expo : Nat) (done voided : Bool) :
    (s.sample p t part ctx expo done voided).mem = s.mem := by
  have hout : s.inReserved (s.g fDENS_SAMPLE_BASE + s.g fDENS_IDX_SAMPLE_TAIL % 2 ^ s.g fDENS_SAMPLE_LOG2 * 64) 64 = false := by
    have hlog2 : s.g fDENS_SAMPLE_LOG2 < 32 := by
      rw [State.g, State.get]
      exact fieldOf_lt _ _ 5
    have hpow : 2 ^ s.g fDENS_SAMPLE_LOG2 ≤ 2 ^ 31 := Nat.pow_le_pow_right (by decide) (by omega)
    have hmod := Nat.mod_lt (s.g fDENS_IDX_SAMPLE_TAIL) (Nat.two_pow_pos (s.g fDENS_SAMPLE_LOG2))
    rw [← Bool.not_eq_true, State.inReserved_iff, h]
    rintro ⟨hlo, -⟩
    rw [drawerBase] at hlo
    omega
  unfold State.sample
  extract_lets base log2 tail seq a early stages rec_ s1 s2 s3
  have h1 : s1 = s := if_neg (by rw [hout]; exact Bool.false_ne_true)
  have h2 : s2.mem = s1.mem := by
    show (if 2 ^ log2 ≤ tail then s1.bump fDENS_STAT_SAMPLES_LOST 0 0 1 else s1).mem = s1.mem
    split
    · exact State.bump_mem s1 _ _ _ _
    · rfl
  have h3 : s3.mem = s2.mem := State.put_mem s2 _ _ _ _
  exact h3.trans (h2.trans (congrArg State.mem h1))

/-- R482: a tagged command that has completed leaves its sample, and nothing but its tag changes on its plate. -/
theorem State.untag_frame {s : State} {c : PlateCmd} (h : s.g fDENS_SAMPLE_BASE = 0) : (s.untag c).mem = s.mem ∧ (s.untag c).ctxs = s.ctxs ∧
    (∀ q, ∃ g, (s.untag c).plate q = { s.plate q with tagged := g }) ∧
    ∀ a, bookkeeping a = false → errorReg a = false → (s.untag c).reg a = s.reg a := by
  have hkeep : ∀ q, ∃ g, s.plate q = { s.plate q with tagged := g } := fun q => ⟨_, rfl⟩
  unfold State.untag
  dsimp only
  split
  · rename_i g _
    have hmem := s.sample_mem h c.plate g (s.ownerOf c.plate) ((s.plate c.plate).ctx.getD 0xFFFF) (s.get fPART_EXPO_NOW_EXPO (s.ownerOf c.plate) 0) true false
    have hw := sideWork_sample s c.plate g (s.ownerOf c.plate) ((s.plate c.plate).ctx.getD 0xFFFF) (s.get fPART_EXPO_NOW_EXPO (s.ownerOf c.plate) 0) true false
    generalize s.sample c.plate g (s.ownerOf c.plate) ((s.plate c.plate).ctx.getD 0xFFFF) (s.get fPART_EXPO_NOW_EXPO (s.ownerOf c.plate) 0) true false = u
      at hmem hw ⊢
    obtain ⟨-, hctxs, hregs⟩ := id hw
    generalize List.filter _ (s.plate c.plate).tagged = gs
    refine ⟨hmem, hctxs, fun q => ?_, hregs⟩
    by_cases hq : q = c.plate
    · subst hq
      exact ⟨gs, State.plate_setPlate_same u _ _⟩
    · rw [State.plate_setPlate_ne u (Ne.symm hq), hw.plate]
      exact hkeep q
  · exact ⟨rfl, rfl, hkeep, fun _ _ _ => rfl⟩

/-- At most one command waits, on plate `p`, and no signal is held back. -/
def Alone (s : State) (p : Nat) : Prop :=
  (∀ q, (s.plate q).unsent = [] ∧ (q ≠ p → (s.plate q).waiting = [])) ∧ (s.plate p).waiting.length ≤ 1

/-- R105: what the completion of an ACC_DEBUG_READ without a signal comes to. -/
theorem succeed_debugRead (s : State) {c : PlateCmd} (hc : c.opc = 0x28) (hsig : c.signalSem = false) :
    s.succeed c 0 = ((s.dropWaiter c.plate 0).noteWork c false).untag c := by
  have hserver : ∀ t : State, t.serverOf c = none := fun t => by simp [State.serverOf, unitOf, hc]
  have hserved : ∀ t : State, t.noteServed c = t := fun t => by rw [State.noteServed, hserver]
  have hgive : ∀ t : State, t.giveSignal c = t := fun t => by simp [State.giveSignal, State.signalWaits, State.signalOf, hsig]
  simp [State.succeed, State.finishCmd, unitOf, hc, hserved, hgive]

theorem Still.of_succeed {s : State} {c : PlateCmd} (hc : c.opc = 0x28) (hsig : c.signalSem = false) (hbase : s.g fDENS_SAMPLE_BASE = 0)
    (hi : Idle s) (ha : Alone s c.plate) :
    Still (s.succeed c 0) ∧ Idle (s.succeed c 0) ∧ (s.succeed c 0).ctxs = s.ctxs ∧ (s.succeed c 0).mem = s.mem := by
  rw [succeed_debugRead s hc hsig]
  have hother : ∀ q, q ≠ c.plate → (s.dropWaiter c.plate 0).plate q = s.plate q := fun q hq => State.plate_setPlate_ne s (Ne.symm hq) _
  have hdrop : (s.dropWaiter c.plate 0).plate c.plate = { s.plate c.plate with waiting := (s.plate c.plate).waiting.eraseIdx 0 } :=
    State.plate_setPlate_same ..
  have hlast : (s.plate c.plate).waiting.eraseIdx 0 = [] := by
    rw [← List.length_eq_zero_iff, List.length_eraseIdx]
    have := ha.2
    split <;> omega
  obtain ⟨hmem, hctxs, hplates, hregs⟩ := ((s.dropWaiter c.plate 0).noteWork c false).untag_frame (c := c) hbase
  have hplate : ∀ q, ((s.dropWaiter c.plate 0).noteWork c false).plate q = (s.dropWaiter c.plate 0).plate q := fun _ => rfl
  refine ⟨fun q => ?_, hi.of_kept (fun q => ?_) hregs, hctxs, hmem⟩
  · obtain ⟨g, hg⟩ := hplates q
    rw [hg, hplate]
    by_cases hq : q = c.plate
    · subst hq
      rw [hdrop]
      exact ⟨hlast, (ha.1 c.plate).1⟩
    · rw [hother q hq]
      exact ⟨(ha.1 q).2 hq, (ha.1 q).1⟩
  · obtain ⟨g, hg⟩ := hplates q
    rw [hg, hplate]
    by_cases hq : q = c.plate
    · subst hq
      rw [hdrop]
    · rw [hother q hq]

end Sys2Proof.Machine
end

section
/-! The state that refutes O53. -/

namespace Sys2Proof.Machine

/-- Fields set one after the other. -/
def State.putAll (s : State) (fs : List (Fld × Nat × Nat)) : State := fs.foldl (fun t f => t.put f.1 f.2.1 0 f.2.2) s

/-- Partition 0 runs on cluster 0, packed group 31 of plate 0 is open and visible, the log ring is one entry at the start of the Drawer, and
counter 0 of plate 0, which counts tagged commands and logs when it saturates, stands at its maximum. All partitions are OFFLINE. -/
def wTagFull : State :=
  (((State.reset.putAll ([(fPART_STAT_STATE, 0, 2), (fPART_LAYOUT_CLUSTERS, 0, 1), (fPLATE_DEBUG_ACC_VISIBLE, 0, 1), (fGLOBAL_ZD_RSV_RSV_GIB, 0, 1),
    (fREL_LOG_BASE, 0, drawerBase)] ++ (List.range 16).map (fun n => (fPART_REL_STAT_OFFLINE, n, 1)))).setReg (densSelAddr 0 0) (28 + 1024)).setReg
    (densCtrAddr 0 0) (BitVec.ofNat 64 (2 ^ 48 - 1))).setPlate 0
    { Plate.init with groups := [(31, some { packed := true, n := 32, narrow := [], wide := [], strips := [] })] }

/-- A tagged ACC_DEBUG_READ of one row of packed group 31 to tray offset 0. -/
def wDebug : PlateCmd := { plate := 0, index := 0, word := BitVec.ofNat 256 (0x28 + 2 ^ 11 + 63 * 2 ^ 16 + 2 ^ 64) }

set_option maxRecDepth 10000 in
theorem wTagFull_ready : wTagFull.ready wDebug := by decide

set_option maxRecDepth 10000 in
theorem wTagFull_awake : ∀ b, b < 64 → wTagFull.bankAwake 0 b = true := by decide

theorem wTagFull_whole : wTagFull.wholeTray 0 := ⟨wTagFull_awake, fun _ _ _ => nofun⟩

set_option maxRecDepth 10000 in
theorem wTagFull_offline : ∀ n, n < 16 → wTagFull.get fPART_REL_STAT_OFFLINE n 0 = 1 := by decide

set_option maxRecDepth 10000 in
theorem wTagFull_visible : wTagFull.get fPLATE_DEBUG_ACC_VISIBLE 0 0 = 1 ∧ wTagFull.g fDENS_SAMPLE_BASE = 0 := by decide

theorem wTagFull_open : groupsInRange wDebug = true ∧ groupsOpen (wTagFull.plate 0) wDebug = true := by decide

theorem wDebug_fields : wDebug.opc = 0x28 ∧ wDebug.signalSem = false ∧ wDebug.waitSem = false ∧ wDebug.trayAddr = 0 ∧ ceilDiv wDebug.rows 16 = 1 := by
  decide

set_option maxRecDepth 10000 in
/-- The count of the tag has been logged where the unit begins. -/
theorem wTagFull_logged : (wTagFull.begun wDebug).mem.get drawerBase ≠ wTagFull.mem.get drawerBase := by decide

/-- A plate other than 0 is as at reset. -/
theorem wTagFull_plate {q : Nat} (h : q ≠ 0) : wTagFull.plate q = Plate.init := State.plate_setPlate_ne _ (Ne.symm h) _

/-- The state in which the unit begins: one command waits, no plate has a context, and every partition is OFFLINE. -/
theorem wTagFull_begun : Alone (wTagFull.begun wDebug) 0 ∧ Idle (wTagFull.begun wDebug) ∧ (wTagFull.begun wDebug).g fDENS_SAMPLE_BASE = 0 ∧
    (wTagFull.begun wDebug).ctxs = [] := by
  obtain ⟨-, -, hnowait, -⟩ := wDebug_fields
  have hb : Begins wTagFull (wTagFull.begun wDebug) 0 := begins_begun wTagFull (c := wDebug) (by decide)
  have hset : SameSetup wTagFull (wTagFull.begun wDebug) := hb.sameSetup
  obtain ⟨g, hg⟩ := wTagFull.queued_plate (c := wDebug) (by decide)
  have hplate : (wTagFull.begun wDebug).plate 0 = { (wTagFull.plate 0).issued wDebug with tagged := g } := by
    rw [State.begun_eq, hnowait]
    exact hg
  have hother : ∀ q, q ≠ 0 → (wTagFull.begun wDebug).plate q = Plate.init := fun q hq => (hb.2.1 q hq).trans (wTagFull_plate hq)
  refine ⟨⟨fun q => ?_, ?_⟩, ⟨fun q => ?_, fun n hn => ?_⟩, ?_, hb.ctxs⟩
  · by_cases hq : q = 0
    · subst hq
      rw [hplate]
      exact ⟨rfl, fun h => absurd rfl h⟩
    · rw [hother q hq]
      exact ⟨rfl, fun _ => rfl⟩
  · rw [hplate]
    exact Nat.le_refl 1
  · by_cases hq : q = 0
    · subst hq
      rw [hplate]
      rfl
    · rw [hother q hq]
      rfl
  · rw [hset.partGet (f := fPART_REL_STAT_OFFLINE) (by decide) hn]
    exact wTagFull_offline n hn
  · have hreg : (wTagFull.begun wDebug).reg (fldAddr fDENS_SAMPLE_BASE 0 0) = wTagFull.reg (fldAddr fDENS_SAMPLE_BASE 0 0) := by
      refine hset _ (by decide) (fun q hq => ?_) (by decide)
      simp only [fldAddr, fDENS_SAMPLE_BASE, fTRAY_ECC_STAT_CE, blockBase]
      omega
    rw [State.g, State.get, hreg]
    exact wTagFull_visible.2

theorem leBytes_length (n v : Nat) : (leBytes n v).length = n := by
  induction n generalizing v with
  | zero => rfl
  | succ n ih => rw [leBytes, List.length_cons, ih]

theorem wordBytes_length (f : Nat → Nat) (l : List Nat) : ((l.map (fun j => leBytes 8 (f j))).flatten).length = l.length * 8 := by
  induction l with
  | nil => rfl
  | cons j l ih => rw [List.map_cons, List.flatten_cons, List.length_append, ih, leBytes_length, List.length_cons, Nat.succ_mul, Nat.add_comm]

theorem State.grainTop_ge (s : State) (p : Nat) : 0x600000 ≤ s.grainTop p := by
  unfold State.grainTop
  split
  · exact Nat.le_refl _
  · decide

/-- The read of the groups writes trays alone. -/
theorem wTagFull_body : ∃ t, bodyOf wDebug (wTagFull.begun wDebug) = .ok t ∧ TrayWork (wTagFull.begun wDebug) t := by
  obtain ⟨hopc, -, -, haddr, hrows⟩ := wDebug_fields
  obtain ⟨hin, hopen⟩ := wTagFull_open
  have hvisible := wTagFull_visible.1
  obtain ⟨-, -, -, hgroups⟩ := wTagFull.begun_plate (c := wDebug) (by decide)
  have hset := sameSetup_begun wTagFull (c := wDebug) (by decide)
  have hseen : (wTagFull.begun wDebug).get fPLATE_DEBUG_ACC_VISIBLE 0 0 = 1 :=
    (hset.plateGet (f := fPLATE_DEBUG_ACC_VISIBLE) (by decide) (p := 0) (by decide)).trans hvisible
  have hawake := (State.wholeTray_begun (c := wDebug) (by decide) (by decide) wTagFull_whole).1
  generalize wTagFull.begun wDebug = b at *
  obtain ⟨t, ht, hwork⟩ := State.foldlM_trayPut (s := b) (p := 0) (fun i => wDebug.trayAddr + i * 2048)
    (fun i => ((List.range 256).map (fun j => leBytes 8 (debugWord (b.plate 0) wDebug.packed wDebug.first i j))).flatten)
    (List.range (16 * ceilDiv wDebug.rows 16)) hawake (fun i hi => by
      have hi := List.mem_range.mp hi
      have htop := b.grainTop_ge 0
      rw [hrows] at hi
      rw [haddr, wordBytes_length, List.length_range]
      omega)
  refine ⟨t, ?_, hwork⟩
  rw [bodyOf, hopc]
  show accDebugReadBody wDebug b = _
  unfold accDebugReadBody
  dsimp only
  rw [if_neg (show ¬ b.get fPLATE_DEBUG_ACC_VISIBLE wDebug.plate 0 = 0 by rw [show wDebug.plate = 0 from rfl, hseen]; decide), need_true hin, ok_bind,
    need_true (by rw [haddr]; decide), ok_bind, need_true ((groupsOpen_congr hgroups wDebug).trans hopen), ok_bind]
  exact ht

theorem drawer_below_tray (p o : Nat) : drawerBase < trayAddr p o := by
  have h : drawerBase < trayBase := by decide
  rw [trayAddr, Nat.add_assoc]
  exact Nat.lt_of_lt_of_le h (Nat.le_add_right _ _)

/-- What follows the completed read. -/
def afterDebug (t : State) : State := ((t.succeed wDebug 0).wake (wTagFull.ownerOf wDebug.plate)).settle

/-- Whatever else the work of the unit does, with the registers and plates that it began with its completion neither loses contexts nor, where
there are none, writes memory. -/
theorem afterDebug_frame {t : State} (hregs : t.regs = (wTagFull.begun wDebug).regs) (hplates : t.plates = (wTagFull.begun wDebug).plates) :
    (t.ctxs ≠ [] → (afterDebug t).ctxs ≠ []) ∧ (t.ctxs = [] → (afterDebug t).ctxs = [] ∧ (afterDebug t).mem = t.mem) := by
  obtain ⟨ha, hi, hbase, -⟩ := wTagFull_begun
  obtain ⟨hopc, hsig, -⟩ := wDebug_fields
  generalize wTagFull.begun wDebug = b at *
  have hreg : ∀ a, t.reg a = b.reg a := fun a => by rw [State.reg, hregs]; rfl
  have hplate : ∀ q, t.plate q = b.plate q := fun q => congrArg (smapGet _ q) hplates
  have hbase' : t.g fDENS_SAMPLE_BASE = 0 := by rw [← hbase, State.g, State.get, hreg]; rfl
  have ha' : Alone t wDebug.plate := ⟨fun q => by rw [hplate]; exact ha.1 q, by rw [hplate]; exact ha.2⟩
  obtain ⟨hstill, hidle, hctxs, hmem⟩ := Still.of_succeed hopc hsig hbase' (hi.of_kept (fun q => congrArg Plate.ctx (hplate q)) (fun a _ _ => hreg a)) ha'
  have h := hstill.wake_settle hidle (wTagFull.ownerOf wDebug.plate)
  rw [hctxs, hmem] at h
  exact h

/-- The state after the read holds no context, and shows what the log wrote. -/
theorem wTagFull_exec : ∃ u : State, exec (.accDebugRead wDebug) wTagFull = .next u ∧ u.ctxs = [] ∧
    u.mem.get drawerBase = (wTagFull.begun wDebug).mem.get drawerBase := by
  obtain ⟨-, -, -, hctxs⟩ := wTagFull_begun
  obtain ⟨t, hbody, hwork⟩ := wTagFull_body
  obtain ⟨hregs, hplates, hkept, hparts⟩ := hwork.fields
  have hplate : t.plate wDebug.plate = (wTagFull.begun wDebug).plate wDebug.plate := congrArg (smapGet _ wDebug.plate) hplates
  obtain ⟨t', hexec, rfl⟩ := State.runs_intro (Q := fun _ t' => t' = t) (.accDebugRead wDebug) wTagFull_ready (by simp [plateRows]) wDebug_fields.1 hbody
    (congrArg Plate.ctx hplate) (congrArg Plate.ended hplate) hparts rfl
  obtain ⟨hc, hm⟩ := (afterDebug_frame hregs hplates).2 (hkept.trans hctxs)
  exact ⟨afterDebug t', hexec, hc, (congrArg (fun m => m.get drawerBase) hm).trans (hwork.2 _ (by decide))⟩

/-- Refutes O53: the tag that an ACC_DEBUG_READ carries is counted before its unit begins, and a counter that saturates there logs DENS_OVF into the
log ring, so that a byte of memory outside the rows read out differs from the state at the command's issue. -/
theorem not_drainQuantiseAndRotate : ¬ Obligations.DrainQuantiseAndRotate := by
  unfold Obligations.DrainQuantiseAndRotate
  intro h
  obtain ⟨hopc, -, -, haddr, hrows⟩ := wDebug_fields
  obtain ⟨hin, hopen⟩ := wTagFull_open
  obtain ⟨u, hu, hnone, hlogged⟩ := wTagFull_exec
  obtain ⟨-, -, hdebug, -⟩ := h wTagFull wDebug wTagFull_ready
  obtain ⟨t, hexec, hregs, hplates, hmem, -⟩ := (hdebug hopc).2 wTagFull_visible.1 wTagFull_whole hin hopen (by rw [haddr]) (by
    rw [haddr, hrows]
    exact Nat.le_trans (by decide) (wTagFull.grainTop_ge 0))
  have hut : u = afterDebug t := Host.Outcome.next.inj (hu.symm.trans hexec)
  rw [hut] at hnone hlogged
  obtain ⟨hkeep, hsame⟩ := afterDebug_frame hregs hplates
  have hctxs : t.ctxs = [] := by
    by_contra hne
    exact hkeep hne hnone
  have houtside : ¬ inRows (trayAddr wDebug.plate wDebug.trayAddr) 2048 2048 (16 * ceilDiv wDebug.rows 16) drawerBase := by
    rintro ⟨i, -, hlo, -⟩
    exact absurd (Nat.le_trans (Nat.le_add_right _ _) hlo) (Nat.not_le.mpr (drawer_below_tray _ _))
  refine wTagFull_logged ?_
  rw [← hlogged, (hsame hctxs).2]
  exact hmem _ houtside

end Sys2Proof.Machine
end

section
/-! Work of a cluster's units on its trays: reads and writes at cluster tray addresses (R110, R112, R168): O54, O55. -/

namespace Sys2Proof.Machine

/-! ### Steps of a body that go on -/

/-- A step of a body goes on, and `Q` holds of its result. -/
def Succeeds {α : Type} (x : Except Stop α) (Q : α → Prop) : Prop := ∃ a, x = .ok a ∧ Q a

section
variable {α β γ : Type} {x y : Except Stop α} {P : α → Prop} {Q : β → Prop}

theorem succeeds_ok {a : α} (h : P a) : Succeeds (.ok a) P := ⟨a, rfl, h⟩

theorem succeeds_of_eq {a : α} (hx : x = .ok a) (h : P a) : Succeeds x P := ⟨a, hx, h⟩

theorem Succeeds.mono {P' : α → Prop} (h : Succeeds x P) (hP : ∀ a, P a → P' a) : Succeeds x P' := by
  obtain ⟨a, hx, ha⟩ := h
  exact ⟨a, hx, hP a ha⟩

theorem Succeeds.bind {f : α → Except Stop β} (h : Succeeds x P) (hf : ∀ a, P a → Succeeds (f a) Q) : Succeeds (x >>= f) Q := by
  obtain ⟨a, rfl, ha⟩ := h
  exact hf a ha

theorem Succeeds.map {f : α → β} (h : Succeeds x (fun a => Q (f a))) : Succeeds (x.map f) Q := by
  obtain ⟨a, rfl, ha⟩ := h
  exact ⟨f a, rfl, ha⟩

theorem succeeds_need {s : State} {b : Bool} {f : Unit → Except Stop β} (hb : b = true) (h : Succeeds (f ()) Q) : Succeeds (need s b >>= f) Q := by
  rw [need_true hb]
  exact h

/-- Two ways to a value that the rest of a body goes on with. -/
theorem succeeds_ite {c : Prop} [Decidable c] {f : α → Except Stop β} (hx : c → Succeeds x P) (hy : ¬ c → Succeeds y P)
    (hf : ∀ a, P a → Succeeds (f a) Q) : Succeeds (if c then x >>= f else y >>= f) Q := by
  split
  · rename_i hc
    exact (hx hc).bind hf
  · rename_i hc
    exact (hy hc).bind hf

theorem succeeds_mapM {f : γ → Except Stop α} {l : List γ} (h : ∀ c ∈ l, Succeeds (f c) (fun _ => True)) :
    Succeeds (l.mapM f) (fun _ => True) := by
  induction l with
  | nil => exact succeeds_ok trivial
  | cons c l ih =>
    rw [List.mapM_cons]
    exact (h c (List.mem_cons_self ..)).bind fun _ _ => (ih fun d hd => h d (List.mem_cons_of_mem _ hd)).bind fun _ _ => succeeds_ok trivial

end

/-! ### What a cluster unit leaves of the trays -/

theorem unitWork_ring {s t : State} {dest : Nat → Prop} (h : UnitWork s t dest) (a : Nat) : t.inLogRing a = s.inLogRing a := by
  have e : t.reg (fldAddr fREL_LOG_BASE 0 0) = s.reg (fldAddr fREL_LOG_BASE 0 0) := h.2.1 _ (by decide) (fun q hq => by
    simp only [fldAddr, fREL_LOG_BASE, fTRAY_ECC_STAT_CE, blockBase]
    omega)
  have e2 : fldAddr fREL_LOG_LOG2 0 0 = fldAddr fREL_LOG_BASE 0 0 := rfl
  simp only [State.inLogRing, State.g, State.get, e2, e]

/-- No byte of a tray has changed. -/
def TraysKept (s t : State) : Prop := ∀ a, trayBase ≤ a → t.mem.get a = s.mem.get a

/-- A unit's work on the trays of its cluster: no byte of a tray outside `dest` has changed, and no line is uncorrectable that was not. -/
def ClusterWork (s t : State) (dest : Nat → Prop) : Prop :=
  UnitWork s t dest ∧ (∀ l, t.lineErrOf l = s.lineErrOf l ∨ t.lineErrOf l = .good) ∧
  ∀ a, trayBase ≤ a → ¬ dest a → t.mem.get a = s.mem.get a

/-- Every tray of the cluster of plate `p` is whole. -/
def State.wholeCluster (s : State) (p : Nat) : Prop := ∀ q, q / 8 = p / 8 → s.wholeTray q

section
variable {s t u : State} {dest : Nat → Prop}

theorem clusterWork_refl (s : State) (dest : Nat → Prop) : ClusterWork s s dest :=
  ⟨⟨rfl, fun _ _ _ => rfl, fun _ _ _ => rfl⟩, fun _ => .inl rfl, fun _ _ _ => rfl⟩

theorem ClusterWork.trans (h : ClusterWork s t dest) (h' : ClusterWork t u dest) : ClusterWork s u dest := by
  obtain ⟨hw, hl, hm⟩ := h
  obtain ⟨hw', hl', hm'⟩ := h'
  have hring := unitWork_ring hw
  obtain ⟨hframe, hreg, hmem⟩ := hw
  obtain ⟨hframe', hreg', hmem'⟩ := hw'
  refine ⟨⟨by rw [hframe', hframe], fun a hb hc => (hreg' a hb hc).trans (hreg a hb hc), fun a ha hd => ?_⟩, fun l => ?_,
    fun a ha hd => (hm' a ha hd).trans (hm a ha hd)⟩
  · rw [hmem' a (by rw [hring]; exact ha) hd, hmem a ha hd]
  · rcases hl' l with e | e
    · rw [e]
      exact hl l
    · exact .inr e

theorem ClusterWork.mono {dest' : Nat → Prop} (h : ClusterWork s t dest) (hd : ∀ a, dest a → dest' a) : ClusterWork s t dest' :=
  ⟨⟨h.1.1, h.1.2.1, fun a ha hn => h.1.2.2 a ha (fun hx => hn (hd a hx))⟩, h.2.1, fun a ha hn => h.2.2 a ha (fun hx => hn (hd a hx))⟩

theorem ClusterWork.kept (h : ClusterWork s t (fun _ => False)) : TraysKept s t := fun a ha => h.2.2 a ha not_false

theorem ClusterWork.plates (h : ClusterWork s t dest) : t.plates = s.plates := by rw [h.1.1]

theorem ClusterWork.parts (h : ClusterWork s t dest) : t.parts = s.parts := by rw [h.1.1]

theorem ClusterWork.sameSetup (h : ClusterWork s t dest) : SameSetup s t := fun a hb hc _ => h.1.2.1 a hb hc

theorem ClusterWork.wholeCluster {p : Nat} (h : ClusterWork s t dest) (hp : p < 128) (hw : s.wholeCluster p) : t.wholeCluster p := by
  intro q hq
  obtain ⟨hawake, hlines⟩ := hw q hq
  refine ⟨fun b hb => ?_, fun l ht hl => ?_⟩
  · rw [State.bankAwake, h.sameSetup.plateGet (f := fTRAY_PWR_AWAKE_AWAKE) (by decide) (by omega)]
    exact hawake b hb
  · rcases h.2.1 l with e | e
    · rw [e]
      exact hlines l ht hl
    · rw [e]
      exact nofun

theorem clusterWork_nextDraw (s : State) (dest : Nat → Prop) : ClusterWork s s.nextDraw dest :=
  ⟨⟨rfl, fun _ _ _ => rfl, fun _ _ _ => rfl⟩, fun _ => .inl rfl, fun _ _ _ => rfl⟩

theorem trayBase_above {a : Nat} (h : trayBase ≤ a) : 0x014000000000 ≤ a := by
  rw [trayBase] at h
  omega

/-- What counts beside a plate's corrected errors, and keeps the memory above the Drawer, is a cluster unit's work. -/
theorem clusterWork_of_beside {p : Nat} (hp : p < 128) (h : Beside s t [fldAddr fTRAY_ECC_STAT_CE p 0]) (ha : AboveKept s t) (dest : Nat → Prop) :
    ClusterWork s t dest := by
  obtain ⟨hframe, hreg, hmem⟩ := unitWork_of_beside hp h
  exact ⟨⟨hframe, hreg, fun a hl _ => hmem a hl not_false⟩, h.2.2.2.1, fun a hb _ => ha a (trayBase_above hb)⟩

theorem aboveKept_noteCorrected (s : State) (die unit inst n : Nat) : AboveKept s (s.noteCorrected die unit inst n) := by
  unfold State.noteCorrected
  extract_lets k c t
  have h : ∀ cs, AboveKept s { s with corrected := cs } := fun _ => aboveKept_of_mem rfl
  split
  · exact aboveKept_trans (h _) (aboveKept_log _ _)
  · exact h _

/-- R168: counting corrected words changes no byte of a tray. -/
theorem clusterWork_noteRead (s : State) {p : Nat} (hp : p < 128) (o n : Nat) (dest : Nat → Prop) : ClusterWork s (s.noteRead p o n) dest := by
  refine clusterWork_of_beside hp (beside_noteRead s hp o n) ?_ dest
  unfold State.noteRead
  dsimp only
  split
  · exact fun _ _ => rfl
  · exact aboveKept_trans (aboveKept_trans (aboveKept_of_mem (State.bump_mem s _ _ _ _)) (aboveKept_dens _ _ _ _))
      (aboveKept_noteCorrected _ _ _ _ _)

theorem clusterWork_foldl {β : Type} (f : State → β → State) (bs : List β) (hf : ∀ t, ∀ b ∈ bs, ClusterWork t (f t b) dest) (s : State) :
    ClusterWork s (bs.foldl f s) dest := by
  induction bs generalizing s with
  | nil => exact clusterWork_refl s dest
  | cons b bs ih => exact (hf s b (List.mem_cons_self ..)).trans (ih (fun t c hc => hf t c (List.mem_cons_of_mem _ hc)) _)

/-- Each piece of a cluster tray range lies in one window of the cluster. -/
theorem clusterPieces_mem {p a n : Nat} {x : Nat × Nat × Nat} (h : x ∈ clusterPieces p a n) : x.1 / 8 = p / 8 ∧ x.2.1 + x.2.2 ≤ trayWin := by
  obtain ⟨q, hq, hx⟩ := List.mem_filterMap.mp h
  have hq := List.mem_range.mp hq
  dsimp only at hx
  split at hx
  · cases hx
    simp only [trayWin]
    omega
  · cases hx

theorem clusterWork_clNote (s : State) {p : Nat} (hp : p < 128) (a n : Nat) (dest : Nat → Prop) : ClusterWork s (s.clNote p a n) dest :=
  clusterWork_foldl _ _ (fun t x hx => clusterWork_noteRead t (by have := (clusterPieces_mem hx).1; omega) _ _ dest) s

theorem clusterWork_clNotes (s : State) {p : Nat} (hp : p < 128) (rs : List (Nat × Nat)) (dest : Nat → Prop) : ClusterWork s (s.clNotes p rs) dest :=
  clusterWork_foldl _ _ (fun t r _ => clusterWork_clNote t hp r.1 r.2 dest) s

/-- Bytes written change nothing but themselves, and the errors and tags of their lines and blocks. -/
theorem clusterWork_write (s : State) (a : Nat) (bs : List Nat) : ClusterWork s (s.write a bs) (fun b => a ≤ b ∧ b < a + bs.length) := by
  have h : Beside s ((s.healLines a bs.length).staleTags a bs.length) [] :=
    beside_trans (beside_healLines s a bs.length) (beside_staleTags _ a bs.length) (by simp)
  have hmem : ∀ b, ¬ (a ≤ b ∧ b < a + bs.length) → (s.write a bs).mem.get b = s.mem.get b := fun b hb => by
    rw [State.write_mem]
    exact Memory.get_write_out _ _ _ _ (by omega)
  have hw : s.write a bs = { (s.healLines a bs.length).staleTags a bs.length with mem := (s.write a bs).mem } := rfl
  obtain ⟨hframe, hreg, -, hlines, -⟩ := h
  refine ⟨⟨?_, fun b hb _ => hreg b hb (by simp), fun b _ hb => hmem b hb⟩, hlines, fun b _ hb => hmem b hb⟩
  rw [hw, State.staleTags_frame, State.healLines_frame]

end

/-! ### Bytes and numbers in memory -/

theorem State.bytes_drop_take (s : State) {a n i k : Nat} (h : i + k ≤ n) : ((s.bytes a n).drop i).take k = s.bytes (a + i) k := by
  refine List.ext_getElem (by simp [State.bytes]; omega) (fun j h1 h2 => ?_)
  simp [State.bytes, Nat.add_assoc]

theorem State.ofLe_drop_take (s : State) {a n i k : Nat} (h : i + k ≤ n) : ofLe (((s.bytes a n).drop i).take k) = s.le (a + i) k := by
  rw [s.bytes_drop_take h, State.le]

theorem State.write_nil (s : State) (a : Nat) : s.write a [] = s := by
  have hheal : s.healLines a 0 = s := rfl
  have hstale : s.staleTags a 0 = s := ite_self _
  rw [State.write]
  dsimp only [List.length_nil]
  rw [hheal, hstale]
  rfl

/-- What has been written reads back byte by byte. -/
theorem State.bytes_write (s : State) (a : Nat) {bs : List Nat} (h : ∀ b ∈ bs, b < 256) : (s.write a bs).bytes a bs.length = bs := by
  refine List.ext_getElem (by simp [State.bytes]) (fun i h1 h2 => ?_)
  simp only [State.bytes, List.getElem_map, List.getElem_range, State.byte]
  rw [State.write_mem, Memory.get_write_in _ _ _ _ h2, List.getD_eq_getElem _ _ h2, BitVec.toNat_ofNat]
  exact Nat.mod_eq_of_lt (h _ (List.getElem_mem h2))

theorem TraysKept.bytes {s t : State} (h : TraysKept s t) {a : Nat} (ha : trayBase ≤ a) (n : Nat) : t.bytes a n = s.bytes a n := by
  refine List.map_congr_left (fun i _ => ?_)
  rw [State.byte, State.byte, h _ (Nat.le_trans ha (Nat.le_add_right ..))]

theorem traysKept_begun (s : State) (c : PlateCmd) : TraysKept s (s.begun c) := fun a ha => aboveKept_begun s c a (trayBase_above ha)

theorem trayBase_le_clAt (p a : Nat) : trayBase ≤ clAt p a := by
  rw [clAt, trayAddr, Nat.add_assoc]
  exact Nat.le_add_right ..

theorem TraysKept.clBytes {s t : State} (h : TraysKept s t) (p a n : Nat) : t.bytes (clAt p a) n = s.bytes (clAt p a) n :=
  h.bytes (trayBase_le_clAt p a) n

theorem TraysKept.le {s t : State} (h : TraysKept s t) {a : Nat} (ha : trayBase ≤ a) (n : Nat) : t.le a n = s.le a n := by
  rw [State.le, State.le, h.bytes ha]

/-! ### Cluster tray addresses within one window (R110) -/

section
variable {p a n : Nat}

theorem clusterAddr_div (h : a < 2 ^ 26) : (clusterAddr p a).1 = p / 8 * 8 + a / 2 ^ 23 ∧ a / 2 ^ 23 < 8 := by
  have h8 : a / 2 ^ 23 < 8 := by omega
  rw [clusterAddr, bitsOf, Nat.shiftRight_eq_div_pow]
  exact ⟨congrArg _ (Nat.mod_eq_of_lt h8), h8⟩

theorem clusterAddr_plate (p a : Nat) : (clusterAddr p a).1 / 8 = p / 8 := by
  have h : bitsOf a 23 3 < 8 := Nat.mod_lt _ (by decide)
  rw [clusterAddr]
  omega

/-- A range of one window is one piece. -/
theorem clusterPieces_in (h : clIn a n) (hn : 1 ≤ n) : clusterPieces p a n = [((clusterAddr p a).1, (clusterAddr p a).2, n)] := by
  obtain ⟨ha, hwin⟩ := h
  obtain ⟨haddr, h8⟩ := clusterAddr_div (p := p) ha
  rw [trayWin] at hwin
  have hone : ∀ q : Nat, (if max a (q * 2 ^ 23) < min (a + n) ((q + 1) * 2 ^ 23) then
      some (p / 8 * 8 + q, max a (q * 2 ^ 23) - q * 2 ^ 23, min (a + n) ((q + 1) * 2 ^ 23) - max a (q * 2 ^ 23)) else none) =
      if q = a / 2 ^ 23 then some ((clusterAddr p a).1, (clusterAddr p a).2, n) else none := by
    intro q
    rw [haddr, show (clusterAddr p a).2 = a % 2 ^ 23 from rfl]
    by_cases hq : q = a / 2 ^ 23
    · rw [if_pos hq, if_pos (by omega), hq]
      refine congrArg some (Prod.ext rfl (Prod.ext ?_ ?_))
      · show max a _ - _ = a % 2 ^ 23
        omega
      · show min _ _ - max a _ = n
        omega
    · rw [if_neg hq, if_neg (by omega)]
  have hfm : clusterPieces p a n = (List.range 8).filterMap (fun q => if q = a / 2 ^ 23 then some ((clusterAddr p a).1, (clusterAddr p a).2, n) else none) :=
    List.filterMap_congr (fun q _ => hone q)
  rw [hfm]
  generalize a / 2 ^ 23 = q0 at h8
  interval_cases q0 <;> rfl

theorem clusterPieces_none (p a : Nat) : clusterPieces p a 0 = [] := by
  refine List.filterMap_eq_nil_iff.mpr (fun q _ => ?_)
  dsimp only
  rw [if_neg (by omega)]

/-- Part of a range of one window. -/
theorem clIn_sub {i k : Nat} (h : clIn a n) (hk : 1 ≤ k) (hi : i + k ≤ n) : clIn (a + i) k ∧ clAt p (a + i) = clAt p a + i := by
  obtain ⟨ha, hwin⟩ := h
  rw [trayWin] at hwin
  have hmod : (a + i) % 2 ^ 23 = a % 2 ^ 23 + i := by omega
  have hdiv : (a + i) / 2 ^ 23 = a / 2 ^ 23 := by omega
  have hlt : a + i < 2 ^ 26 := by omega
  refine ⟨⟨hlt, by rw [trayWin, hmod]; omega⟩, ?_⟩
  rw [clAt, clAt, (clusterAddr_div hlt).1, (clusterAddr_div ha).1, hdiv, show (clusterAddr p (a + i)).2 = (a + i) % 2 ^ 23 from rfl, hmod,
    show (clusterAddr p a).2 = a % 2 ^ 23 from rfl, trayAddr, trayAddr, Nat.add_assoc _ _ i]

theorem clIn_end (h : clIn a n) : a + n ≤ 2 ^ 26 := by
  obtain ⟨ha, hwin⟩ := h
  rw [trayWin] at hwin
  omega

end

/-! ### Reads and writes of whole trays by a cluster unit -/

section
variable {s : State} {p : Nat}

/-- R97, R145: with its banks awake, no range of a tray's window is barred to a cluster unit. -/
theorem State.trayBar_cluster {q o n : Nat} (hawake : ∀ b, b < 64 → s.bankAwake q b = true) (h : o + n ≤ trayWin) :
    s.trayBar .cluster q o n = none := by
  have hsplit : splitShut (s.splitMode q) .cluster o n = false := by simp [splitShut]
  have hsleep : s.sleepingLine q o n = none :=
    List.find?_eq_none.mpr (fun l _ => by rw [hawake _ (bankOf_lt ..)]; exact Bool.false_ne_true)
  rw [State.trayBar, if_neg (Nat.not_lt.mpr h), hsplit, hsleep]
  rfl

theorem State.trayRead_cluster {q o n : Nat} (hw : s.wholeTray q) (hq : q < 128) (h : o + n ≤ trayWin) :
    s.trayRead .cluster q o n = .ok (s.tray q o n) := by
  obtain ⟨hawake, hlines⟩ := hw
  have hbad : s.firstBad (trayAddr q o) n = none := List.find?_eq_none.mpr (fun l hl => by
    obtain ⟨ht, hp⟩ := linesOf_tray hq h hl
    rw [decide_eq_true_eq]
    exact hlines l ht hp)
  rw [State.trayRead, State.trayBar_cluster hawake h, hbad]

/-- R110: any range of a whole cluster reads, piece by piece. -/
theorem State.clRead_whole (hp : p < 128) (hw : s.wholeCluster p) {a n : Nat} (ha : a < 2 ^ 26) (hn : a + n ≤ 2 ^ 26) :
    s.clRead p a n = .ok (((clusterPieces p a n).map (fun x => s.tray x.1 x.2.1 x.2.2)).flatten) := by
  have hreads := mapM_ok (f := fun x : Nat × Nat × Nat => s.trayRead .cluster x.1 x.2.1 x.2.2) (l := clusterPieces p a n)
    (g := fun x => s.tray x.1 x.2.1 x.2.2) (fun x hx => by
      obtain ⟨hdiv, hend⟩ := clusterPieces_mem hx
      exact State.trayRead_cluster (hw _ hdiv) (by omega) hend)
  rw [State.clRead, State.clusterRead, if_neg (by omega), hreads]
  rfl

/-- A range of one whole window reads. -/
theorem State.clRead_in {a n : Nat} (hp : p < 128) (hw : s.wholeTray (clusterAddr p a).1) (h : clIn a n) :
    s.clRead p a n = .ok (s.bytes (clAt p a) n) := by
  have hend := clIn_end h
  have hlt : (clusterAddr p a).1 < 128 := by have := clusterAddr_plate p a; omega
  rw [State.clRead, State.clusterRead, if_neg (by omega)]
  by_cases hn : n = 0
  · subst hn
    rw [clusterPieces_none]
    rfl
  · have hread := State.trayRead_cluster hw hlt (o := (clusterAddr p a).2) (n := n) h.2
    rw [clusterPieces_in h (by omega), List.mapM_cons, hread]
    exact congrArg Except.ok (List.append_nil _)

theorem State.clLe_in {a n : Nat} (hp : p < 128) (hw : s.wholeCluster p) (h : clIn a n) : s.clLe p a n = .ok (s.le (clAt p a) n) := by
  rw [State.clLe, State.clRead_in hp (hw _ (clusterAddr_plate p a)) h]
  rfl

/-- The `n` values of format code `k` at a device address (R51, R115). -/
def State.valsAt (s : State) (a k n : Nat) : List FVal :=
  (List.range n).map (fun j => fdecode (fmtOfCode k) (s.le (a + fmtSize k * j) (fmtSize k)))

theorem State.clVals_in {a k n : Nat} (hp : p < 128) (hw : s.wholeCluster p) (h : clIn a (fmtSize k * n)) :
    s.clVals p a k n = .ok (s.valsAt (clAt p a) k n) := by
  rw [State.clVals, State.clRead_in hp (hw _ (clusterAddr_plate p a)) h]
  refine congrArg Except.ok (List.map_congr_left (fun j hj => ?_))
  have hj := List.mem_range.mp hj
  rw [State.ofLe_drop_take]
  have := Nat.mul_le_mul_left (fmtSize k) (Nat.succ_le_of_lt hj)
  rwa [Nat.mul_succ] at this

/-- A range of one whole window takes a write. -/
theorem State.clPut_in {a : Nat} {bs : List Nat} (hw : s.wholeCluster p) (h : clIn a bs.length) :
    s.clPut p a bs = .ok (s.write (clAt p a) bs) := by
  have hend := clIn_end h
  rw [State.clPut, State.clusterPut, if_neg (by omega)]
  by_cases hn : bs.length = 0
  · rw [List.length_eq_zero_iff.mp hn]
    rw [List.length_nil, clusterPieces_none, State.write_nil]
    rfl
  · have hput : s.trayPut .cluster (clusterAddr p a).1 (clusterAddr p a).2 bs = .ok (s.write (clAt p a) bs) := by
      rw [State.trayPut, State.trayBar_cluster (hw _ (clusterAddr_plate p a)).1 (o := (clusterAddr p a).2) h.2]
      rfl
    rw [clusterPieces_in h (by omega), List.foldlM_cons]
    dsimp only
    rw [List.take_length, hput]
    rfl

/-- A cluster unit's write within one window: only the bytes named have changed, and they read as written. -/
theorem State.succeeds_clPut {a n : Nat} {bs : List Nat} (hw : s.wholeCluster p) (hlen : bs.length = n) (h : clIn a n) :
    Succeeds (s.clPut p a bs) (fun t => ClusterWork s t (atCl p a n) ∧ ((∀ b ∈ bs, b < 256) → t.bytes (clAt p a) n = bs)) := by
  subst hlen
  exact ⟨_, State.clPut_in hw h, clusterWork_write s _ bs, fun hb => State.bytes_write s _ hb⟩

end

/-- Rows worked through one after the other; `V` is what the one row of a command of one row comes to. -/
theorem succeeds_rows {α : Type} (st : α → State) {f : α → Nat → Except Stop α} {b : State} {dest : Nat → Prop} {V : State → State → Prop} {a0 : α}
    (n : Nat) (h0 : ClusterWork b (st a0) dest) (hf : ∀ a i, i < n → ClusterWork b (st a) dest →
      Succeeds (f a i) (fun a' => ClusterWork (st a) (st a') dest ∧ (i = 0 → V (st a) (st a')))) :
    Succeeds ((List.range n).foldlM f a0) (fun a => ClusterWork b (st a) dest ∧ (n = 1 → V (st a0) (st a))) := by
  suffices ∀ m, m ≤ n → Succeeds ((List.range m).foldlM f a0)
      (fun a => ClusterWork b (st a) dest ∧ (m = 0 → a = a0) ∧ (m = 1 → V (st a0) (st a))) by
    exact (this n (Nat.le_refl n)).mono (fun a h => ⟨h.1, h.2.2⟩)
  intro m
  induction m with
  | zero => exact fun _ => ⟨a0, rfl, h0, fun _ => rfl, fun h => absurd h Nat.zero_ne_one⟩
  | succ m ih =>
    intro hm
    rw [List.range_succ, List.foldlM_append]
    refine (ih (by omega)).bind (fun a ⟨hwork, hsame, _⟩ => ?_)
    rw [List.foldlM_cons]
    refine (hf a m (by omega) hwork).bind (fun a' ⟨hwork', hV⟩ => ⟨a', rfl, hwork.trans hwork', fun h => absurd h (Nat.succ_ne_zero m), fun h1 => ?_⟩)
    have hm0 : m = 0 := by omega
    rw [hsame hm0] at hV
    exact hV hm0

end Sys2Proof.Machine
end

section
/-! The records that a cluster's units read: drain and weight records, and burn sheets (R91, R98, R116, R121, R122): O51, O54, O55. -/

namespace Sys2Proof.Machine

section
variable {s t : State} {p : Nat}

/-! ### Drain records (R91) -/

theorem TraysKept.drainAt (h : TraysKept s t) (p a : Nat) : t.drainAt p a = s.drainAt p a := by
  rw [State.drainAt, State.drainAt, h.clBytes]

theorem TraysKept.drainIn (h : TraysKept s t) {p a : Nat} (hd : s.drainIn p a) : t.drainIn p a := by
  unfold State.drainIn at *
  rw [h.drainAt]
  exact hd

theorem State.clDrainRec_in {a : Nat} (hp : p < 128) (hw : s.wholeCluster p) (h : s.drainIn p a) : s.clDrainRec p a = .ok (s.drainAt p a) := by
  obtain ⟨halign, hin, hok⟩ := h
  rw [State.clDrainRec, need_true (decide_eq_true halign), ok_bind, State.clRead_in hp (hw _ (clusterAddr_plate p a)) hin, ok_bind]
  change (need s (drainRecOk (s.drainAt p a)) >>= fun _ => _) = _
  rw [need_true hok]
  rfl

/-- R91: the scale of a column reads. -/
theorem State.succeeds_clScale {r : DrainRec} {n j : Nat} (hp : p < 128) (hw : s.wholeCluster p) (h : scalesIn r n) (hj : j < n) :
    Succeeds (s.clScale p r j) (fun _ => True) := by
  unfold State.clScale
  unfold scalesIn at h
  split
  · rename_i h2
    rw [if_pos h2] at h
    have hin := (clIn_sub (p := p) (i := 2 * j) (k := 2) h (by decide) (by omega)).1
    rw [State.clLe_in hp hw hin]
    exact succeeds_ok trivial
  · rename_i h2
    rw [if_neg h2] at h
    exact succeeds_of_eq (State.clLe_in hp hw (clIn_sub (p := p) (i := 4 * j) (k := 4) h (by decide) (by omega)).1) trivial

/-! ### Weight records (R98, R116) -/

/-- R110: what a whole cluster reads depends on its trays' bytes alone. -/
theorem TraysKept.clRead (h : TraysKept s t) (hp : p < 128) (hs : s.wholeCluster p) (ht : t.wholeCluster p) {a n : Nat} (ha : a < 2 ^ 26)
    (hn : a + n ≤ 2 ^ 26) : t.clRead p a n = s.clRead p a n := by
  have htray : ∀ x : Nat × Nat × Nat, t.tray x.1 x.2.1 x.2.2 = s.tray x.1 x.2.1 x.2.2 := fun x =>
    h.bytes (by rw [trayAddr, Nat.add_assoc]; exact Nat.le_add_right ..) _
  rw [State.clRead_whole hp ht ha hn, State.clRead_whole hp hs ha hn]
  simp only [htray]

/-- A weight record that can be read is the same record where the trays are the same. -/
theorem TraysKept.clWRec (h : TraysKept s t) (hp : p < 128) (hs : s.wholeCluster p) (ht : t.wholeCluster p) {a : Nat} {w : WRec}
    (hw : s.clWRec p a = .ok w) : t.clWRec p a = .ok w := by
  by_cases hin : a < 2 ^ 26 ∧ a + 32 ≤ 2 ^ 26
  · obtain ⟨ha, hn⟩ := hin
    have hread := State.clRead_whole hp hs ha hn
    unfold State.clWRec at hw ⊢
    rw [h.clRead hp hs ht ha hn]
    rw [hread, ok_bind] at hw ⊢
    generalize List.flatten _ = bs at hw ⊢
    dsimp only at hw ⊢
    generalize (decide (bitsOf (ofLe ((bs.drop 0).take 1)) 0 5 ≤ 16) && _) = ok at hw ⊢
    cases ok with
    | false => cases hw
    | true =>
      rw [need_true rfl, ok_bind] at hw ⊢
      split at hw
      · cases hw
      · rename_i hbad
        rw [if_neg hbad]
        exact hw
  · have hout : s.clRead p a 32 = faultWith s stCmdInvalid := by
      rw [State.clRead, State.clusterRead, if_pos (by omega)]
    rw [State.clWRec, hout] at hw
    cases hw

theorem TraysKept.weightIn (h : TraysKept s t) {w : WRec} {i j : Nat} (hw : s.weightIn p w i j) : t.weightIn p w i j := by
  unfold State.weightIn at hw ⊢
  obtain ⟨hcol, htrit, hmult⟩ := hw
  exact ⟨hcol, fun h0 => by rw [h.le (trayBase_le_clAt ..)]; exact htrit h0, hmult⟩

/-- The bytes of a packed code lie in its column record. -/
theorem packedCode_in {r fmt rows : Nat} (hr : r < rows) (hf : 1 ≤ fmt) :
    1 ≤ ceilDiv ((r + 1) * fmt) 8 - r * fmt / 8 ∧ r * fmt / 8 + (ceilDiv ((r + 1) * fmt) 8 - r * fmt / 8) ≤ ceilDiv (rows * fmt) 8 := by
  have hle : (r + 1) * fmt ≤ rows * fmt := Nat.mul_le_mul_right fmt hr
  rw [Nat.succ_mul] at hle ⊢
  generalize r * fmt = x at *
  generalize rows * fmt = y at *
  unfold ceilDiv
  omega

/-- R116: a weight whose record lies whole in its window reads. -/
theorem State.succeeds_clWeight {w : WRec} {i j : Nat} (hp : p < 128) (hw : s.wholeCluster p) (h : s.weightIn p w i j) :
    Succeeds (s.clWeight p w i j) (fun _ => True) := by
  obtain ⟨hcol, htrit, hmult⟩ := h
  unfold State.clWeight
  extract_lets rows tile r col lo hi
  have hr : r < rows := Nat.mod_lt _ (by show 0 < ite _ _ _; split <;> decide)
  have hread : ∀ o k, 1 ≤ k → o + k ≤ colBytesRead w.fmt w.plane rows → Succeeds (s.clLe p (col + o) k) (· = s.le (clAt p (col + o)) k) :=
    fun o k hk ho => succeeds_of_eq (State.clLe_in hp hw (clIn_sub (p := p) hcol hk ho).1) rfl
  have htrit : w.fmt = 0 → t5Invalid (s.le (clAt p (col + r / 5)) 1) = false := htrit
  have hmult : w.grouped = true → Succeeds (s.clLe p (w.gmult + tile * w.gmultTile + j * w.gmultStride + r / w.gsize) 1) (fun _ => True) :=
    fun hg => succeeds_of_eq (State.clLe_in hp hw (hmult hg)) trivial
  have hpack : 1 ≤ w.fmt → 1 ≤ hi - lo ∧ lo + (hi - lo) ≤ ceilDiv (rows * w.fmt) 8 := packedCode_in hr
  clear_value rows tile r col lo hi
  refine Succeeds.bind (P := fun _ => True) ?_ (fun q _ => Succeeds.bind (P := fun _ => True) ?_ (fun g _ => succeeds_ok trivial))
  · unfold colBytesRead at hread
    split
    next h0 =>
      rw [if_pos h0] at hread
      refine (hread _ 1 (Nat.le_refl 1) (by unfold ceilDiv; omega)).bind fun v hv => ?_
      rw [hv, htrit h0]
      exact succeeds_ok trivial
    next h0 =>
      rw [if_neg h0] at hread
      split
      next h1 =>
        rw [if_pos h1] at hread
        exact (hread _ 1 (Nat.le_refl 1) (by unfold ceilDiv; omega)).bind fun v _ => succeeds_ok trivial
      next h1 =>
        rw [if_neg h1] at hread
        split
        next hplane =>
          rw [if_pos hplane] at hread
          refine (succeeds_mapM fun b hb => ?_).bind fun _ _ => succeeds_ok trivial
          have hb := List.mem_range.mp hb
          rw [Nat.add_assoc col]
          exact (hread _ 1 (Nat.le_refl 1) (by unfold ceilDiv; omega)).mono fun _ _ => trivial
        next hplane =>
          rw [if_neg hplane] at hread
          obtain ⟨hpos, hend⟩ := hpack (by omega)
          exact (hread _ _ hpos hend).bind fun v _ => succeeds_ok trivial
  · split
    next hg => exact hmult hg
    next => exact succeeds_ok trivial

/-! ### Burn sheets (R121, R122) -/

theorem State.clSheet_in {a : Nat} (hp : p < 128) (hw : s.wholeTray (clusterAddr p a).1) (hin : clIn a 1088)
    (hok : sheetOk (sheetOf (s.bytes (clAt p a) 1088)) = true) : s.clSheet p a = .ok (sheetOf (s.bytes (clAt p a) 1088)) := by
  rw [State.clSheet, State.clRead_in hp hw hin, ok_bind, if_pos hok]

end

theorem State.wholeCluster_begun {s : State} {c : PlateCmd} (hc : c.plate < 128) (h : s.wholeCluster c.plate) : (s.begun c).wholeCluster c.plate :=
  fun q hq => State.wholeTray_begun hc (by omega) (h q hq)

end Sys2Proof.Machine
end

section
/-! SAFE_GEMM (R115): O54. -/

namespace Sys2Proof.Machine

/-- A command whose body does a cluster unit's work runs. -/
theorem State.runs_cluster {s : State} {c : PlateCmd} {Q : State → State → Prop} {V : State → Prop} {dest : Nat → Prop} (i : Instr) {opc : Nat}
    (h : s.ready c) (hr : (i, opc) ∈ plateRows c) (hc : c.opc = opc)
    (hbody : Succeeds (bodyOf c (s.begun c)) (fun t => ClusterWork (s.begun c) t dest ∧ V t))
    (hQ : ∀ t, UnitWork (s.begun c) t dest → V t → Q (s.begun c) t) : Runs i c s Q := by
  obtain ⟨t, ht, hwork, hV⟩ := hbody
  have hplate : t.plate c.plate = (s.begun c).plate c.plate := congrArg (smapGet _ c.plate) hwork.plates
  exact State.runs_intro i h hr hc ht (congrArg Plate.ctx hplate) (congrArg Plate.ended hplate) hwork.parts (hQ t hwork.1 hV)

/-! ### Values stored (R51) -/

theorem leBytes_lt (n v : Nat) : ∀ b ∈ leBytes n v, b < 256 := by
  induction n generalizing v with
  | zero => exact fun b hb => absurd hb List.not_mem_nil
  | succ n ih =>
    intro b hb
    rcases List.mem_cons.mp hb with rfl | hb
    · exact Nat.mod_lt _ (by decide)
    · exact ih _ b hb

theorem outVal_length (k y : Nat) : (outVal k y).length = fmtSize k := leBytes_length _ _

theorem flatten_length {l : List (List Nat)} {n : Nat} (h : ∀ x ∈ l, x.length = n) : l.flatten.length = n * l.length := by
  induction l with
  | nil => rfl
  | cons x l ih =>
    rw [List.flatten_cons, List.length_append, h x (List.mem_cons_self ..), ih (fun y hy => h y (List.mem_cons_of_mem _ hy)),
      List.length_cons, Nat.mul_succ, Nat.add_comm]

/-- A row of results takes the size of its format for each. -/
theorem outVals_length (k : Nat) (ys : List Nat) : ((ys.map (outVal k)).flatten).length = fmtSize k * ys.length := by
  rw [flatten_length (n := fmtSize k), List.length_map]
  intro x hx
  obtain ⟨y, -, rfl⟩ := List.mem_map.mp hx
  exact outVal_length k y

theorem leRow_length (k : Nat) (ys : List Nat) : ((ys.map (leBytes k)).flatten).length = k * ys.length := by
  rw [flatten_length (n := k), List.length_map]
  intro x hx
  obtain ⟨y, -, rfl⟩ := List.mem_map.mp hx
  exact leBytes_length k y

theorem outVals_lt (k : Nat) (ys : List Nat) : ∀ b ∈ (ys.map (outVal k)).flatten, b < 256 := by
  intro b hb
  obtain ⟨x, hx, hbx⟩ := List.mem_flatten.mp hb
  obtain ⟨y, -, rfl⟩ := List.mem_map.mp hx
  exact leBytes_lt _ _ b hbx

theorem State.valsAt_getD (s : State) (a k : Nat) {n j : Nat} (hj : j < n) :
    (s.valsAt a k n).getD j .nan = fdecode (fmtOfCode k) (s.le (a + fmtSize k * j) (fmtSize k)) := by
  rw [State.valsAt, List.getD_eq_getElem?_getD, List.getElem?_map, List.getElem?_range hj]
  rfl

theorem TraysKept.valsAt {s t : State} (h : TraysKept s t) (p a k n : Nat) : t.valsAt (clAt p a) k n = s.valsAt (clAt p a) k n :=
  List.map_congr_left fun j _ => by rw [h.le (Nat.le_trans (trayBase_le_clAt p a) (Nat.le_add_right ..))]

/-! ### Matrix B (R115, R116) -/

/-- R115: the format codes of a B that is not quantised. -/
def gemmFormats : List (Nat × Nat) := [(0x80, 0), (0x81, 2), (0x82, 3), (0x83, 4), (0x84, 1)]

theorem gemmFormats_mem {code f : Nat} (h : (code, f) ∈ gemmFormats) :
    (0x80 ≤ code ∧ code ≤ 0x84) ∧ (if code = 0x80 then 0 else if code = 0x81 then 2 else if code = 0x82 then 3 else if code = 0x83 then 4 else 1) = f := by
  simp only [gemmFormats, List.mem_cons, Prod.mk.injEq, List.not_mem_nil, or_false] at h
  rcases h with ⟨rfl, rfl⟩ | ⟨rfl, rfl⟩ | ⟨rfl, rfl⟩ | ⟨rfl, rfl⟩ | ⟨rfl, rfl⟩ <;> decide

/-- R115: where matrix B of a SAFE_GEMM lies: a weight record whose weights can be read, or packed rows of a format. -/
def State.gemmIn (s : State) (c : PlateCmd) : Prop :=
  (c.le 17 1 = 0 ∧ ∃ w, s.clWRec c.plate (c.le 20 4) = .ok w ∧ ∀ i j, i < c.le 18 2 → j < safeCols c → s.weightIn c.plate w i j) ∨
  ∃ f, (c.le 17 1, f) ∈ gemmFormats ∧ ∀ i, i < c.le 18 2 → clIn (c.le 20 4 + i * safeCols c * fmtSize f) (fmtSize f * safeCols c)

/-- Column `j` of a packed B in format `f`. -/
def State.gemmCol (s : State) (c : PlateCmd) (f j : Nat) : List FVal :=
  (List.range (c.le 18 2)).map (fun e => fdecode (fmtOfCode f)
    (s.le (clAt c.plate (c.le 20 4 + e * safeCols c * fmtSize f) + fmtSize f * j) (fmtSize f)))

theorem TraysKept.gemmCol {s t : State} (h : TraysKept s t) (c : PlateCmd) (f j : Nat) : t.gemmCol c f j = s.gemmCol c f j :=
  List.map_congr_left fun e _ => by rw [h.le (Nat.le_trans (trayBase_le_clAt ..) (Nat.le_add_right ..))]

theorem TraysKept.gemmIn {s t : State} {c : PlateCmd} (h : TraysKept s t) (hp : c.plate < 128) (hs : s.wholeCluster c.plate)
    (ht : t.wholeCluster c.plate) (hB : s.gemmIn c) : t.gemmIn c := by
  rcases hB with ⟨h0, w, hw, hin⟩ | hB
  · exact .inl ⟨h0, w, h.clWRec hp hs ht hw, fun i j hi hj => h.weightIn (hin i j hi hj)⟩
  · exact .inr hB

theorem State.succeeds_gemmB {s : State} {c : PlateCmd} (hp : c.plate < 128) (hw : s.wholeCluster c.plate) (hB : s.gemmIn c) :
    Succeeds (s.gemmB c) (fun b => ∀ f, (c.le 17 1, f) ∈ gemmFormats → b = (List.range (safeCols c)).map (s.gemmCol c f)) := by
  unfold State.gemmB
  extract_lets k b n code f
  rcases hB with ⟨h0, w, hrec, hin⟩ | ⟨f', hf', hin⟩
  · rw [if_pos (show code = 0 from h0), hrec, ok_bind]
    refine (succeeds_mapM fun j hj => succeeds_mapM fun i hi => ?_).mono fun _ _ f' hf' => ?_
    · exact ((State.succeeds_clWeight hp hw (hin i j (List.mem_range.mp hi) (List.mem_range.mp hj))).mono fun _ _ => trivial).map
    · obtain ⟨⟨hlo, -⟩, -⟩ := gemmFormats_mem hf'
      omega
  · obtain ⟨⟨hlo, -⟩, hf⟩ := gemmFormats_mem hf'
    have hrows := mapM_ok (l := List.range k) (f := fun i => s.clVals c.plate (b + i * n * fmtSize f) f n)
      (g := fun i => s.valsAt (clAt c.plate (b + i * n * fmtSize f)) f n)
      (fun i hi => State.clVals_in hp hw (by have h := hin i (List.mem_range.mp hi); rw [← hf] at h; exact h))
    rw [if_neg (show ¬ code = 0 by show ¬ c.le 17 1 = 0; omega), hrows, ok_bind]
    refine succeeds_ok fun f'' hf'' => List.map_congr_left fun j hj => ?_
    obtain ⟨-, hf''⟩ := gemmFormats_mem hf''
    rw [List.map_map, ← hf'']
    exact List.map_congr_left fun e _ => s.valsAt_getD _ f (List.mem_range.mp hj)

/-! ### The command (R115) -/

/-- R91, R115: the drain record of a SAFE_GEMM, and its operands, if one is named. -/
def State.gemmDrainIn (s : State) (c : PlateCmd) : Prop :=
  c.le 28 4 ≠ 0 → s.drainIn c.plate (c.le 28 4) ∧ (c.bits 2 0 1 = 0 → scalesIn (s.drainAt c.plate (c.le 28 4)) (safeCols c)) ∧
    (c.bits 2 1 1 = 1 → ∀ i, i < safeRows c →
      clIn ((s.drainAt c.plate (c.le 28 4)).lr + i * (s.drainAt c.plate (c.le 28 4)).addStride) (4 * safeCols c)) ∧
    (c.bits 2 2 1 = 1 → ∀ i, i < safeRows c → clIn ((s.drainAt c.plate (c.le 28 4)).rowmax + 4 * i) 4)

theorem TraysKept.gemmDrainIn {s t : State} {c : PlateCmd} (h : TraysKept s t) (hd : s.gemmDrainIn c) : t.gemmDrainIn c := by
  unfold State.gemmDrainIn at *
  rw [h.drainAt]
  exact fun h0 => ⟨h.drainIn (hd h0).1, (hd h0).2⟩

/-- The bytes that a SAFE_GEMM writes: its output rows, and the row maxima where it asks for them. -/
def gemmDest (c : PlateCmd) (r : DrainRec) (a : Nat) : Prop := ∃ i, i < safeRows c ∧
  (atCl c.plate (c.le 24 4 + i * stagedStride (c.bits 16 3 3) (safeCols c)) (fmtSize (c.bits 16 3 3) * safeCols c) a ∨
    (c.le 28 4 ≠ 0 ∧ c.bits 2 2 1 = 1 ∧ atCl c.plate (r.rowmax + 4 * i) 4 a))

/-- R109, R115: the output row of a plain product of row `xs` by the columns `col`. -/
def gemmRow (c : PlateCmd) (draw : Nat) (xs : List FVal) (col : Nat → List FVal) : List Nat :=
  ((List.range (safeCols c)).map (fun j => outVal (c.bits 16 3 3) (sumFp32 draw j (products xs (col j))))).flatten

/-- The row that a SAFE_GEMM of one row reads. -/
def State.gemmA (s : State) (c : PlateCmd) : List FVal := s.valsAt (clAt c.plate c.trayAddr) (c.bits 16 0 3) (c.le 18 2)

/-- A bit that is not 1 is 0. -/
theorem bit_zero {c : PlateCmd} {i lo : Nat} (h : c.bits i lo 1 ≠ 1) : c.bits i lo 1 = 0 := by
  have : c.bits i lo 1 < 2 := Nat.mod_lt _ (by decide)
  omega

theorem clIn_part {a n i k : Nat} (h : clIn a n) (hk : 1 ≤ k) (hi : i + k ≤ n) : clIn (a + i) k := (clIn_sub (p := 0) h hk hi).1

/-- R90, R115: an output row written, and its maximum folded where the drain record's command asks for it. -/
theorem State.succeeds_gemmStore {t : State} {c : PlateCmd} {d : Option DrainRec} {bs ys : List Nat} {at_ i m : Nat} {dest : Nat → Prop}
    (hp : c.plate < 128) (ht : t.wholeCluster c.plate) (hlen : bs.length = m) (hin : clIn at_ m) (hdest : ∀ a, atCl c.plate at_ m a → dest a)
    (hmax : ∀ r, d = some r → c.bits 2 2 1 = 1 → clIn (r.rowmax + 4 * i) 4 ∧ ∀ a, atCl c.plate (r.rowmax + 4 * i) 4 a → dest a) :
    Succeeds (t.clPut c.plate at_ bs >>= fun t1 => match d with
      | some r =>
        if c.bits 2 2 1 = 1 then do
          let m ← if c.bits 2 3 1 = 1 then .ok 0 else t1.clLe c.plate (r.rowmax + 4 * i) 4
          t1.clPut c.plate (r.rowmax + 4 * i) (leBytes 4 (foldRowmax r.excl m ys))
        else .ok t1
      | none => .ok t1)
    (fun u => ClusterWork t u dest ∧ (d = none → (∀ b ∈ bs, b < 256) → u.bytes (clAt c.plate at_) m = bs)) := by
  refine (State.succeeds_clPut ht hlen hin).bind fun t1 ⟨h1, hread⟩ => ?_
  have hrow := h1.mono hdest
  cases d with
  | none => exact succeeds_ok ⟨hrow, fun _ => hread⟩
  | some r =>
    by_cases hfold : c.bits 2 2 1 = 1
    · obtain ⟨hin, hdest⟩ := hmax r rfl hfold
      have ht1 := hrow.wholeCluster hp ht
      dsimp -zeta only
      rw [if_pos hfold]
      refine succeeds_ite (P := fun _ => True) (fun _ => succeeds_ok trivial) (fun _ => succeeds_of_eq (State.clLe_in hp ht1 hin) trivial) fun m _ => ?_
      exact (State.succeeds_clPut ht1 (leBytes_length ..) hin).mono fun u ⟨h2, _⟩ => ⟨hrow.trans (h2.mono hdest), nofun⟩
    · dsimp -zeta only
      rw [if_neg hfold]
      exact succeeds_ok ⟨hrow, nofun⟩

/-- R115: without scales, addend and accumulation, the values of the first row are the sums of its products. -/
theorem gemmValues_plain (n draw : Nat) (a : List FVal) (col : Nat → List FVal) :
    (List.range n).map (fun j => gemmValue (sumFp32 draw (0 * n + j) (products a (((List.range n).map col).getD j []))) ([] : List Nat)[j]?
      (([] : List (Option Nat)).getD j none) (([] : List (Option Nat)).getD j none)) =
    (List.range n).map (fun j => sumFp32 draw j (products a (col j))) := by
  refine List.map_congr_left fun j hj => ?_
  rw [Nat.zero_mul, Nat.zero_add, List.getD_eq_getElem?_getD, List.getElem?_map, List.getElem?_range (List.mem_range.mp hj)]
  rfl

/-- R115: a SAFE_GEMM whose operands lie in whole trays completes. -/
theorem State.succeeds_safeGemm {s : State} {c : PlateCmd} (hp : c.plate < 128) (hw : s.wholeCluster c.plate) (htray : c.trayAddr % 16 = 0)
    (hn : 1 ≤ safeCols c) (hn256 : safeCols c ≤ 256) (hb16 : c.le 20 4 % 16 = 0) (hc16 : c.le 24 4 % 16 = 0) (haf : c.bits 16 0 3 ≤ 4)
    (hcf : c.bits 16 3 3 ≤ 4) (hk : 1 ≤ c.le 18 2) (hB : s.gemmIn c)
    (hA : ∀ i, i < safeRows c → clIn (c.trayAddr + i * stagedStride (c.bits 16 0 3) (c.le 18 2)) (fmtSize (c.bits 16 0 3) * c.le 18 2))
    (hC : ∀ i, i < safeRows c → clIn (c.le 24 4 + i * stagedStride (c.bits 16 3 3) (safeCols c)) (fmtSize (c.bits 16 3 3) * safeCols c))
    (hD : s.gemmDrainIn c) :
    Succeeds (safeGemmBody c s) (fun t => ClusterWork s t (gemmDest c (s.drainAt c.plate (c.le 28 4))) ∧
      (safeRows c = 1 → c.bits 2 4 1 = 0 → c.le 28 4 = 0 → ∀ f, (c.le 17 1, f) ∈ gemmFormats →
        t.bytes (clAt c.plate (c.le 24 4)) (fmtSize (c.bits 16 3 3) * safeCols c) = gemmRow c s.free (s.gemmA c) (s.gemmCol c f))) := by
  unfold safeGemmBody
  extract_lets p af cf k cAt dAt n folded draw jp
  have hcode : c.le 17 1 = 0 ∨ 0x80 ≤ c.le 17 1 ∧ c.le 17 1 ≤ 0x84 := by
    rcases hB with ⟨h0, -⟩ | ⟨f, hf, -⟩
    · exact .inl h0
    · exact .inr (gemmFormats_mem hf).1
  have hd16 : c.le 28 4 % 16 = 0 := by
    by_cases h0 : c.le 28 4 = 0
    · rw [h0]
    · obtain ⟨⟨h64, -⟩, -⟩ := hD h0
      omega
  refine succeeds_need (by simp [safeOk, hn, hn256, htray, hb16, hc16, hd16, cAt, dAt]) (succeeds_need (decide_eq_true ⟨haf, hcf, hk, hcode⟩) ?_)
  refine succeeds_ite (P := fun d => ∀ r, d = some r → dAt ≠ 0 ∧ r = s.drainAt p dAt) (fun _ => succeeds_ok nofun) (fun h0 => ?_) (fun d hd => ?_)
  · rw [State.clDrainRec_in hp hw (hD h0).1]
    exact succeeds_ok fun r hr => ⟨h0, (Option.some.inj hr).symm⟩
  dsimp -zeta only [jp]
  extract_lets jpScales
  have hscales : ∀ ks, (d = none → ks = []) → Succeeds (jpScales ks) (fun t => ClusterWork s t (gemmDest c (s.drainAt p dAt)) ∧
      (safeRows c = 1 → c.bits 2 4 1 = 0 → dAt = 0 → ∀ f, (c.le 17 1, f) ∈ gemmFormats →
        t.bytes (clAt p cAt) (fmtSize cf * n) = gemmRow c draw (s.gemmA c) (s.gemmCol c f))) := by
    intro ks hks
    refine (State.succeeds_gemmB hp hw hB).bind fun b hb => ?_
    generalize s.gemmReads c ++ _ = reads
    have h0 := (clusterWork_nextDraw s _).trans (clusterWork_clNotes s.nextDraw hp reads (fun _ => False))
    refine (succeeds_rows (fun t => t) (b := s) (dest := gemmDest c (s.drainAt p dAt)) (V := fun t u => c.bits 2 4 1 = 0 → dAt = 0 →
        ∀ f, (c.le 17 1, f) ∈ gemmFormats → u.bytes (clAt p cAt) (fmtSize cf * n) = gemmRow c draw (t.gemmA c) (s.gemmCol c f))
      (safeRows c) (h0.mono fun _ => False.elim) (fun t i hi hwork => ?_)).mono fun t ⟨hwork, hV⟩ =>
        ⟨hwork, fun h1 hacc hd0 f hf => (hV h1 hacc hd0 f hf).trans (by rw [State.gemmA, h0.kept.valsAt]; rfl)⟩
    have ht := hwork.wholeCluster hp hw
    rw [State.clVals_in hp ht (hA i hi), ok_bind]
    extract_lets noted jpOld
    refine succeeds_ite (P := fun old => c.bits 2 4 1 = 0 → old = []) (fun h1 => ?_) (fun _ => succeeds_ok fun _ => rfl) (fun old hold => ?_)
    · rw [State.clVals_in hp ht (hC i hi)]
      exact succeeds_ok fun h => by omega
    dsimp -zeta only [jpOld]
    extract_lets jpStore
    have hstore : ∀ lrs, (d = none → lrs = []) → Succeeds (jpStore lrs) (fun u => ClusterWork t u (gemmDest c (s.drainAt p dAt)) ∧
        (i = 0 → c.bits 2 4 1 = 0 → dAt = 0 → ∀ f, (c.le 17 1, f) ∈ gemmFormats →
          u.bytes (clAt p cAt) (fmtSize cf * n) = gemmRow c draw (t.gemmA c) (s.gemmCol c f))) := by
      intro lrs hlrs
      dsimp -zeta only [jpStore]
      extract_lets ys
      have hnote := clusterWork_clNotes t hp noted (gemmDest c (s.drainAt p dAt))
      have hlen : ((ys.map (outVal cf)).flatten).length = fmtSize cf * n := by rw [outVals_length, List.length_map, List.length_range]
      refine (State.succeeds_gemmStore (ys := ys) hp (hnote.wholeCluster hp ht) hlen (hC i hi) (fun a ha => ⟨i, hi, .inl ha⟩)
        (fun r hr hfold => ?_)).mono fun u ⟨h1, hread⟩ => ⟨hnote.trans h1, fun hi0 hacc hd0 f hf => ?_⟩
      · obtain ⟨hd0, rfl⟩ := hd r hr
        obtain ⟨-, -, -, hmax⟩ := hD hd0
        exact ⟨hmax hfold i hi, fun a ha => ⟨i, hi, .inr ⟨hd0, hfold, ha⟩⟩⟩
      · have hnone : d = none := Option.eq_none_iff_forall_ne_some.mpr fun r hr => (hd r hr).1 hd0
        have hys : ys = (List.range n).map fun j => sumFp32 draw j (products (t.gemmA c) (s.gemmCol c f j)) := by
          show (List.range n).map _ = _
          rw [hi0, hks hnone, hlrs hnone, hold hacc, hb f hf, Nat.zero_mul (stagedStride _ _), Nat.add_zero]
          exact gemmValues_plain n draw _ _
        have hread := hread hnone (outVals_lt cf ys)
        rw [hi0, Nat.zero_mul, Nat.add_zero, hys, List.map_map] at hread
        exact hread
    clear_value jpStore
    cases d with
    | none => exact (succeeds_ok fun _ => rfl).bind hstore
    | some r =>
      obtain ⟨hd0, rfl⟩ := hd r rfl
      obtain ⟨-, -, hlr, -⟩ := hD hd0
      refine succeeds_ite (P := fun _ => True) (fun h1 => succeeds_mapM fun j hj => ?_) (fun _ => succeeds_ok trivial) (fun lrs _ => hstore lrs nofun)
      exact (succeeds_of_eq (State.clLe_in hp ht (clIn_part (hlr h1 i hi) (by decide) (by have := List.mem_range.mp hj; omega))) trivial).map
  clear_value jpScales
  cases d with
  | none => exact (succeeds_ok fun _ => rfl).bind hscales
  | some r =>
    obtain ⟨hd0, rfl⟩ := hd r rfl
    obtain ⟨-, hsc, -⟩ := hD hd0
    refine succeeds_ite (P := fun _ => True) (fun _ => succeeds_ok trivial) (fun hf => succeeds_mapM fun j hj => ?_) (fun ks _ => hscales ks nofun)
    exact State.succeeds_clScale hp hw (hsc (bit_zero (by simpa [folded] using hf))) (List.mem_range.mp hj)

end Sys2Proof.Machine
end

section
/-! SAFE_ROWOP (R117): O54. -/

namespace Sys2Proof.Machine

/-! ### Rows of a SAFE_ROWOP (R48, R49, R117) -/

theorem g8Group_length (xs : List FVal) (draws : Nat → Option Nat) : (g8Group xs draws).2.1.length = xs.length := by
  unfold g8Group
  split
  · exact List.length_replicate
  · dsimp only
    split
    · exact List.length_replicate
    · simp

theorem foldl_fst_length {f : List Nat × Nat → Nat → List Nat × Nat} {n : Nat} (hf : ∀ a i, (f a i).1.length = a.1.length + n) (m k : Nat) :
    ((List.range m).foldl f ([], k)).1.length = m * n := by
  induction m with
  | zero => exact (Nat.zero_mul n).symm
  | succ m ih => rw [List.range_succ, List.foldl_append, List.foldl_cons, List.foldl_nil, hf, ih, Nat.succ_mul]

/-- R48: every block of 1024 elements takes 1056 bytes. -/
theorem g8Row_length (xs : List FVal) (draw : Nat → Option Nat) : (g8Row xs draw).1.length = g8Bytes xs.length := by
  unfold g8Row
  refine foldl_fst_length (fun a b => ?_) _ 0
  dsimp only
  rw [List.length_append, List.length_append, List.length_map, List.length_map, List.length_range, flatten_length (n := 32), List.length_map,
    List.length_map, List.length_range, Nat.add_assoc]
  intro l hl
  obtain ⟨g, hg, rfl⟩ := List.mem_map.mp hl
  obtain ⟨i, -, rfl⟩ := List.mem_map.mp hg
  rw [g8Group_length, List.length_map, List.length_range]

/-- The bytes of a row of `n` values in format code `f`, where 5 is G8 (R48, R117). -/
def rowBytesOf (f n : Nat) : Nat := if f = 5 then g8Bytes n else fmtSize f * n

/-- R117: a row of the input reads, with one number for each element. -/
theorem State.succeeds_rowIn {s : State} {p a f n : Nat} (hp : p < 128) (hw : s.wholeCluster p) (h : clIn a (rowBytesOf f n)) :
    Succeeds (s.rowIn p a f n) (fun xs => xs.length = n ∧ (f ≠ 5 → xs = (s.valsAt (clAt p a) f n).map (fencode fp32))) := by
  unfold State.rowIn
  unfold rowBytesOf at h
  by_cases h5 : f = 5
  · rw [if_pos h5] at h ⊢
    rw [State.clRead_in hp (hw _ (clusterAddr_plate p a)) h]
    exact succeeds_ok ⟨by simp [g8Vals], fun hf => absurd h5 hf⟩
  · rw [if_neg h5] at h ⊢
    rw [State.clVals_in hp hw h]
    exact succeeds_ok ⟨by simp [State.valsAt], fun _ => rfl⟩

/-- The bytes that a SAFE_ROWOP writes of a row (R48, R117). -/
def rowopBytes (c : PlateCmd) : Nat :=
  if c.le 16 1 = 12 then g8Bytes (rowopLen c) else if c.le 16 1 = 7 ∨ c.le 16 1 = 9 then 4 else fmtSize (c.bits 17 3 3) * rowopLen c

/-- Where a SAFE_ROWOP writes row `i` (R117). -/
def rowopAt (c : PlateCmd) (i : Nat) : Nat := c.le 24 4 + (if c.le 16 1 = 7 ∨ c.le 16 1 = 9 then 4 * i else i * c.le 18 2)

/-- The bytes that a SAFE_ROWOP writes. -/
def rowopDest (c : PlateCmd) (a : Nat) : Prop := ∃ i, i < safeRows c ∧ atCl c.plate (rowopAt c i) (rowopBytes c) a

/-- R117: a reduction gives one FP32 number, every other operation a number for each element. -/
theorem rowopOut_length {op of n : Nat} (draw key eps : Nat) {xs bs gamma : List Nat} (beta : List Nat) (v : Nat) (hx : xs.length = n)
    (hb : op = 1 ∨ op = 2 → bs.length = n) (hg : op = 5 → gamma.length = n) :
    (rowopOut op of draw key eps xs bs gamma beta v).length = if op = 7 ∨ op = 9 then 4 else fmtSize of * n := by
  have hzip : ∀ (f : Nat → Nat → Nat) (ys : List Nat), ys.length = n → (List.zipWith f xs ys).length = n := fun f ys hy => by
    rw [List.length_zipWith, hx, hy, Nat.min_self]
  have hmap : ∀ f : Nat → Nat, (xs.map f).length = n := fun f => (List.length_map f).trans hx
  unfold rowopOut
  extract_lets ys
  rw [outVals_length]
  by_cases hone : op = 7 ∨ op = 9
  · have hys : ys.length = 1 := by rcases hone with rfl | rfl <;> rfl
    rw [if_pos hone, if_pos hone, hys]
    rfl
  · rw [if_neg hone, if_neg hone]
    have hys : ys.length = n := by
      refine iteInduction (motive := fun l : List Nat => l.length = n) (fun h => hzip _ _ (hb (.inl h))) fun _ => ?_
      refine iteInduction (motive := fun l : List Nat => l.length = n) (fun h => hzip _ _ (hb (.inr h))) fun _ => ?_
      refine iteInduction (motive := fun l : List Nat => l.length = n) (fun _ => hmap _) fun _ => ?_
      refine iteInduction (motive := fun l : List Nat => l.length = n) (fun _ => hmap _) fun _ => ?_
      refine iteInduction (motive := fun l : List Nat => l.length = n) (fun h => hzip _ _ (hg h)) fun _ => ?_
      refine iteInduction (motive := fun l : List Nat => l.length = n) (fun _ => (List.length_map _).trans (List.length_range.trans hx)) fun _ => ?_
      refine iteInduction (motive := fun l : List Nat => l.length = n) (fun h => absurd (.inl h) hone) fun _ => ?_
      refine iteInduction (motive := fun l : List Nat => l.length = n) (fun _ => hmap _) fun _ => ?_
      refine iteInduction (motive := fun l : List Nat => l.length = n) (fun h => absurd (.inr h) hone) fun _ => ?_
      refine iteInduction (motive := fun l : List Nat => l.length = n) (fun _ => hmap _) fun _ => ?_
      exact iteInduction (motive := fun l : List Nat => l.length = n) (fun _ => hmap _) fun _ => hx
    rw [hys]

/-! ### Streams and partitions (R62–R64) -/

theorem clusterWork_withParts {s t : State} {dest : Nat → Prop} (h : ClusterWork s t dest) (ps : SMap Part) :
    ClusterWork { s with parts := ps } { t with parts := ps } dest := by
  obtain ⟨⟨hframe, hreg, hmem⟩, hlines, htrays⟩ := h
  exact ⟨⟨by rw [hframe], hreg, hmem⟩, hlines, htrays⟩

theorem clusterWork_log (s : State) (e : Ev) (dest : Nat → Prop) : ClusterWork s (s.log e) dest :=
  clusterWork_of_beside (p := 0) (by decide) (beside_mono (beside_log s e) (List.nil_subset _)) (aboveKept_log s e) dest

theorem clusterWork_dens (s : State) {b : Nat} (hb : b < 187) (ev v : Nat) (dest : Nat → Prop) : ClusterWork s (s.dens b ev v) dest :=
  clusterWork_of_beside (p := 0) (by decide) (beside_mono (beside_dens s b ev v hb) (List.nil_subset _)) (aboveKept_dens s b ev v) dest

/-- R63: an advanced stream changes its counter, and may log its wrap. -/
theorem clusterWork_advanceStream (s : State) (part stream n : Nat) (dest : Nat → Prop) : ClusterWork s (s.advanceStream part stream n) dest := by
  unfold State.advanceStream
  have hset : ∀ m, ClusterWork s { s with streams := m } dest := fun m =>
    ⟨⟨rfl, fun _ _ _ => rfl, fun _ _ _ => rfl⟩, fun _ => .inl rfl, fun _ _ _ => rfl⟩
  split
  · exact clusterWork_refl s dest
  · dsimp only
    split
    · exact hset _
    · exact (hset _).trans (clusterWork_log _ _ dest)

/-- Work of a cluster's unit after a change of partition `n`'s bindings alone. -/
theorem ClusterWork.ofBound {s u t : State} {n : Nat} {dest : Nat → Prop} (hu : u = { s with parts := u.parts }) (hb : onlyBound s u n)
    (h : ClusterWork u t dest) : ClusterWork { s with parts := t.parts } t dest ∧ onlyBound s t n := by
  have hprt : ∀ m, t.prt m = u.prt m := fun m => congrArg (smapGet _ m) h.parts
  refine ⟨?_, ?_⟩
  · rw [h.parts, ← hu]
    exact h
  · unfold onlyBound
    simp only [hprt]
    exact hb

/-- R64: binding a quantiser to a stream changes the partition's bindings, and may log a second one. -/
theorem State.bindStream_frame (s : State) (n stream who : Nat) (e : Ev) (dest : Nat → Prop) :
    ClusterWork { s with parts := (s.bindStream n stream who e).parts } (s.bindStream n stream who e) dest ∧ onlyBound s (s.bindStream n stream who e) n := by
  unfold State.bindStream
  extract_lets x s1
  have hset : onlyBound s s1 n := ⟨fun m hm => State.prt_setPrt_ne s (Ne.symm hm) _, by
    have h : s1.prt n = { x with bound := x.bound ++ [(stream, who)] } := State.prt_setPrt_same s n _
    rw [h]⟩
  split
  · exact ⟨clusterWork_refl s dest, fun _ _ => rfl, rfl⟩
  · split
    · exact ClusterWork.ofBound rfl hset (clusterWork_log s1 _ dest)
    · exact ClusterWork.ofBound rfl hset (clusterWork_refl s1 dest)

end Sys2Proof.Machine
end

section
/-! SAFE_ROWOP's command (R117): O54. -/

namespace Sys2Proof.Machine

/-- R117: the values of an FP32 sum of one row. -/
def State.rowopSum (s : State) (c : PlateCmd) : List Nat :=
  ((List.range (rowopLen c)).map (fun j => outVal 1 (fadd (fencode fp32 (fdecode fp32 (s.le (clAt c.plate c.trayAddr + 4 * j) 4)))
    (fencode fp32 (fdecode fp32 (s.le (clAt c.plate (c.le 20 4) + 4 * j) 4)))))).flatten

theorem TraysKept.rowopSum {s t : State} (h : TraysKept s t) (c : PlateCmd) : t.rowopSum c = s.rowopSum c := by
  have hle : ∀ a j, t.le (clAt c.plate a + 4 * j) 4 = s.le (clAt c.plate a + 4 * j) 4 := fun a j =>
    h.le (Nat.le_trans (trayBase_le_clAt c.plate a) (Nat.le_add_right ..)) 4
  simp only [State.rowopSum, hle]

/-- R117: a sum of a row in FP32, by its operands' values. -/
theorem rowopOut_sum (s : State) (c : PlateCmd) (draw key eps : Nat) (gamma beta : List Nat) (v : Nat) :
    rowopOut 1 1 draw key eps ((s.valsAt (clAt c.plate c.trayAddr) 1 (rowopLen c)).map (fencode fp32))
      ((s.valsAt (clAt c.plate (c.le 20 4)) 1 (rowopLen c)).map (fencode fp32)) gamma beta v = s.rowopSum c := by
  have hys : List.zipWith fadd ((s.valsAt (clAt c.plate c.trayAddr) 1 (rowopLen c)).map (fencode fp32))
      ((s.valsAt (clAt c.plate (c.le 20 4)) 1 (rowopLen c)).map (fencode fp32)) = (List.range (rowopLen c)).map (fun j =>
        fadd (fencode fp32 (fdecode fp32 (s.le (clAt c.plate c.trayAddr + 4 * j) 4)))
          (fencode fp32 (fdecode fp32 (s.le (clAt c.plate (c.le 20 4) + 4 * j) 4)))) := by
    simp only [State.valsAt, List.map_map, List.zipWith_map, List.zipWith_self]
    rfl
  show ((List.zipWith fadd _ _).map (outVal 1)).flatten = _
  rw [hys, List.map_map]
  rfl

/-- R110, R117: where the operands of a SAFE_ROWOP lie. -/
def State.rowopIn (s : State) (c : PlateCmd) (inp : Nat) : Prop :=
  (∀ i, i < safeRows c → clIn (c.trayAddr + i * c.le 18 2) inp ∧ clIn (rowopAt c i) (rowopBytes c)) ∧
  (c.le 16 1 = 1 ∨ c.le 16 1 = 2 → c.le 20 4 % 16 = 0 ∧ ∀ i, i < safeRows c → clIn (c.le 20 4 + i * c.le 18 2) inp) ∧
  (c.le 16 1 = 8 ∨ c.le 16 1 = 10 → c.le 20 4 % 16 = 0 ∧ ∀ i, i < safeRows c → clIn (c.le 20 4 + 4 * i) 4) ∧
  (c.le 16 1 = 5 ∨ c.le 16 1 = 6 ∨ c.le 16 1 = 12 → c.le 28 4 % 16 = 0 ∧ clIn (c.le 28 4) 64) ∧
  (c.le 16 1 = 5 ∨ c.le 16 1 = 6 → clIn (s.le (clAt c.plate (c.le 28 4)) 4) inp) ∧
  (c.le 16 1 = 6 → clIn (s.le (clAt c.plate (c.le 28 4) + 4) 4) inp)

theorem TraysKept.rowopIn {s t : State} {c : PlateCmd} {inp : Nat} (h : TraysKept s t) (hin : s.rowopIn c inp) : t.rowopIn c inp := by
  unfold State.rowopIn at *
  rw [h.le (trayBase_le_clAt ..), h.le (Nat.le_trans (trayBase_le_clAt ..) (Nat.le_add_right ..))]
  exact hin

/-- R117: what a SAFE_ROWOP reads beside its rows stands at multiples of 16. -/
theorem State.rowopIn.aligned {s : State} {c : PlateCmd} {inp : Nat} (h : s.rowopIn c inp) :
    ((!decide (c.le 16 1 = 1 ∨ c.le 16 1 = 2 ∨ c.le 16 1 = 8 ∨ c.le 16 1 = 10) || decide (c.le 20 4 % 16 = 0)) &&
      (!decide (c.le 16 1 = 5 ∨ c.le 16 1 = 6 ∨ c.le 16 1 = 12) || decide (c.le 28 4 % 16 = 0))) = true := by
  obtain ⟨-, hvec, hval, hpar, -, -⟩ := h
  have himp : ∀ (p q : Prop) [Decidable p] [Decidable q], (p → q) → (!decide p || decide q) = true := fun p q _ _ h => by
    by_cases hp : p
    · rw [decide_eq_true (h hp), Bool.or_true]
    · rw [decide_eq_false hp]
      rfl
  rw [himp _ _ fun hb => ?_, himp _ _ fun hp => (hpar hp).1, Bool.and_self]
  rcases hb with h | h | h | h
  exacts [(hvec (.inl h)).1, (hvec (.inr h)).1, (hval (.inl h)).1, (hval (.inr h)).1]

/-- R117: G8 is the format of one operation, and of no other. -/
theorem format_of_op {op k f : Nat} (h : if op = k then f = 5 else f ≤ 4) : (f ≤ 4 ∨ f = 5 ∧ op = k) ∧ (op = k → f = 5) := by
  split at h
  next he => exact ⟨.inr ⟨h, he⟩, fun _ => h⟩
  next he => exact ⟨.inl h, fun h' => absurd h' he⟩

/-- What a SAFE_ROWOP leaves: its rows, and for G8_QUANT the partition's bindings. -/
def RowopWork (c : PlateCmd) (s t : State) : Prop :=
  ClusterWork { s with parts := t.parts } t (rowopDest c) ∧ (c.le 16 1 ≠ 12 → t.parts = s.parts) ∧ onlyBound s t (s.ownerOf c.plate)

theorem onlyBound_of_prt {s t u : State} {n : Nat} (hprt : ∀ m, t.prt m = s.prt m) (h : onlyBound t u n) : onlyBound s u n := by
  unfold onlyBound at h ⊢
  simpa only [hprt] using h

theorem onlyBound_refl {s t : State} (hprt : ∀ m, t.prt m = s.prt m) (n : Nat) : onlyBound s t n :=
  onlyBound_of_prt hprt ⟨fun _ _ => rfl, rfl⟩

theorem rowopWork_of_clusterWork {c : PlateCmd} {s t : State} (h : ClusterWork s t (rowopDest c)) : RowopWork c s t :=
  ⟨by rw [h.parts]; exact h, fun _ => h.parts, onlyBound_refl (fun m => congrArg (smapGet _ m) h.parts) _⟩

/-- R62–R65: after the rows of a SAFE_ROWOP, those of G8_QUANT count their saturations, advance the stream and bind it. -/
theorem rowopWork_end {c : PlateCmd} {s t : State} (hp : c.plate < 128) (h : ClusterWork s t (rowopDest c)) (sats stream m : Nat) :
    RowopWork c s (if c.le 16 1 = 12 then ((t.noteSats c.plate sats).advanceStream (s.ownerOf c.plate) stream m).noteShared c stream else t) := by
  split
  next h12 =>
    have hv := (h.trans (clusterWork_dens t (b := c.plate) (by omega) 9 sats _)).trans
      (clusterWork_advanceStream (t.noteSats c.plate sats) (s.ownerOf c.plate) stream m _)
    generalize ((t.noteSats c.plate sats).advanceStream (s.ownerOf c.plate) stream m) = v at hv ⊢
    obtain ⟨hw, hb⟩ : ClusterWork { v with parts := (v.noteShared c stream).parts } (v.noteShared c stream) (rowopDest c) ∧
      onlyBound v (v.noteShared c stream) (v.ownerOf c.plate) := State.bindStream_frame v _ stream _ _ _
    rw [hv.sameSetup.ownerOf] at hb
    exact ⟨(clusterWork_withParts hv _).trans hw, fun h => absurd h12 h, onlyBound_of_prt (fun m => congrArg (smapGet _ m) hv.parts) hb⟩
  next h12 => exact rowopWork_of_clusterWork h

/-- R117: a SAFE_ROWOP whose operands lie in whole trays completes. -/
theorem State.succeeds_safeRowop {s : State} {c : PlateCmd} (hp : c.plate < 128) (hw : s.wholeCluster c.plate) (htray : c.trayAddr % 16 = 0)
    (hop : c.le 16 1 ≤ 13) (h1 : 1 ≤ rowopLen c) (hlen : rowopLen c ≤ 262144) (hd : c.le 24 4 % 16 = 0)
    (hf : if c.le 16 1 = 13 then c.bits 17 0 3 = 5 else c.bits 17 0 3 ≤ 4) (ho : if c.le 16 1 = 12 then c.bits 17 3 3 = 5 else c.bits 17 3 3 ≤ 4)
    (hconv : convertible (c.le 16 1) (c.bits 17 0 3) (c.bits 17 3 3) = true) (hin : s.rowopIn c (rowBytesOf (c.bits 17 0 3) (rowopLen c))) :
    Succeeds (safeRowopBody c s) (fun t => RowopWork c s t ∧ (safeRows c = 1 → c.le 16 1 = 1 → c.bits 17 0 3 = 1 → c.bits 17 3 3 = 1 →
      t.bytes (clAt c.plate (c.le 24 4)) (4 * rowopLen c) = s.rowopSum c)) := by
  have hneed := hin.aligned
  obtain ⟨hrows, hvec, hval, hpar, hgam, hbet⟩ := hin
  unfold safeRowopBody
  extract_lets p n op f o len stride dest pb usesB usesP key padded draw size jp
  have hf' := format_of_op hf
  have ho' := format_of_op ho
  have hblk64 : usesP = true → clIn pb 64 := fun h => (hpar (of_decide_eq_true h)).2
  refine succeeds_need (by rw [hconv, decide_eq_true ⟨hop, h1, hlen, htray, hd, hf'.1, ho'.1, ho'.2, hf'.2⟩]; rfl) (succeeds_need hneed ?_)
  refine succeeds_ite (P := fun blk => usesP = true → blk = s.bytes (clAt p pb) 64)
    (fun hu => succeeds_of_eq (State.clRead_in hp (hw _ (clusterAddr_plate p pb)) (hblk64 hu)) fun _ => rfl)
    (fun hu => succeeds_ok fun h => absurd h hu) (fun blk hblk => ?_)
  dsimp -zeta only [jp]
  extract_lets pf stream ctr jpGamma
  have hpf : usesP = true → ∀ i k, i + k ≤ 64 → pf i k = s.le (clAt p pb + i) k := fun hu i k hik => by
    show ofLe ((blk.drop i).take k) = _
    rw [hblk hu, State.ofLe_drop_take _ hik]
  refine succeeds_ite (P := fun gamma => op = 5 → gamma.length = len) (fun hu => ?_) (fun hu => succeeds_ok fun h => absurd (.inl h) hu) (fun gamma hgamma => ?_)
  · refine (State.succeeds_rowIn hp hw ?_).mono fun xs h _ => h.1
    rw [hpf (decide_eq_true (hu.imp id .inl)) 0 4 (by decide)]
    exact hgam hu
  dsimp -zeta only [jpGamma]
  extract_lets jpBeta
  refine succeeds_ite (P := fun _ => True) (fun hu => ?_) (fun hu => succeeds_ok trivial) (fun beta _ => ?_)
  · refine (State.succeeds_rowIn hp hw ?_).mono fun _ _ => trivial
    rw [hpf (decide_eq_true (.inr (.inl hu))) 4 4 (by decide)]
    exact hbet hu
  dsimp -zeta only [jpBeta]
  generalize (if usesP = true then [(pb, 64)] else []) ++ _ ++ _ = reads
  have h0 := (clusterWork_nextDraw s _).trans (clusterWork_clNotes s.nextDraw hp reads (fun _ => False))
  refine (succeeds_rows Prod.fst (b := s) (dest := rowopDest c) (V := fun t u => op = 1 → f = 1 → o = 1 →
      u.bytes (clAt p dest) (4 * len) = t.rowopSum c) (safeRows c) (h0.mono fun _ => False.elim) (fun a i hi hwork => ?_)).bind fun r ⟨hr, hV⟩ =>
        succeeds_ok ⟨rowopWork_end hp hr _ _ _, fun hone h1 hf1 ho1 => ?_⟩
  · have ht := hwork.wholeCluster hp hw
    obtain ⟨hA, hC⟩ := hrows i hi
    refine (State.succeeds_rowIn hp ht hA).bind fun xs ⟨hxlen, hxs⟩ => ?_
    extract_lets t q at_ jpRow
    refine succeeds_ite (P := fun bs => op = 1 ∨ op = 2 → bs.length = len ∧ (f ≠ 5 → bs = (a.1.valsAt (clAt p (c.le 20 4 + i * stride)) f len).map (fencode fp32)))
      (fun hu => (State.succeeds_rowIn hp ht ((hvec hu).2 i hi)).mono fun _ h _ => h) (fun hu => succeeds_ok fun h => absurd h hu) (fun bs hbs => ?_)
    dsimp -zeta only [jpRow]
    extract_lets jpVal
    refine succeeds_ite (P := fun _ => True) (fun hu => succeeds_of_eq (State.clLe_in hp ht ((hval hu).2 i hi)) trivial) (fun hu => succeeds_ok trivial)
      (fun v _ => ?_)
    dsimp -zeta only [jpVal]
    have hnote : ClusterWork a.1 t (rowopDest c) := clusterWork_clNotes a.1 hp _ _
    have hput : ∀ bs : List Nat, bs.length = rowopBytes c → Succeeds (t.clPut p (rowopAt c i) bs) (fun u => ClusterWork a.1 u (rowopDest c) ∧
        ((∀ b ∈ bs, b < 256) → u.bytes (clAt p (rowopAt c i)) (rowopBytes c) = bs)) := fun bs hbs =>
      (State.succeeds_clPut (hnote.wholeCluster hp ht) hbs hC).mono fun u ⟨h, hread⟩ => ⟨hnote.trans (h.mono fun x hx => ⟨i, hi, hx⟩), hread⟩
    unfold rowopAt rowopBytes at hput
    split
    next h12 =>
      rw [if_pos (show c.le 16 1 = 12 from h12), if_neg (by omega)] at hput
      exact (hput q.1 (by rw [g8Row_length, List.length_map, hxlen])).bind fun u ⟨h, _⟩ => succeeds_ok ⟨h, fun _ h1 => by omega⟩
    next h12 =>
      rw [if_neg (show ¬ c.le 16 1 = 12 from h12)] at hput
      have hat : at_ = c.le 24 4 + (if c.le 16 1 = 7 ∨ c.le 16 1 = 9 then 4 * i else i * c.le 18 2) := (apply_ite (c.le 24 4 + ·) _ _ _).symm
      rw [← hat] at hput
      refine (hput _ (rowopOut_length draw i _ beta v hxlen (fun h => (hbs h).1) hgamma)).bind fun u ⟨h, hread⟩ => succeeds_ok ⟨h, fun hi0 hop1 hf1 ho1 => ?_⟩
      have hread := hread (outVals_lt _ _)
      have hxs := hxs (by show ¬ f = 5; omega)
      have hbs := (hbs (.inl hop1)).2 (by omega)
      have hat0 : at_ = c.le 24 4 := by rw [hat, if_neg (by show ¬ (op = 7 ∨ op = 9); omega), hi0, Nat.zero_mul, Nat.add_zero]
      rw [hi0, Nat.zero_mul, Nat.add_zero, show c.bits 17 0 3 = 1 from hf1] at hxs
      rw [hi0, Nat.zero_mul, Nat.add_zero, hf1] at hbs
      rw [hat0, if_neg (by show ¬ (op = 7 ∨ op = 9); omega), show c.bits 17 3 3 = 1 from ho1, show c.le 16 1 = 1 from hop1, hxs, hbs] at hread
      exact hread.trans (rowopOut_sum ..)
  · rw [if_neg (by omega)]
    exact (hV hone h1 hf1 ho1).trans (h0.kept.rowopSum c)

end Sys2Proof.Machine
end

section
/-! SAFE_LOWRANK, and the three commands of the Safelight unit (R108–R119): O54. -/

namespace Sys2Proof.Machine

/-! ### SAFE_LOWRANK (R118, R119) -/

/-- Rows written one after the other. -/
theorem succeeds_rowWrites {f : State → Nat → Except Stop State} {b s0 : State} {dest : Nat → Prop} (n : Nat) (h0 : ClusterWork b s0 dest)
    (hf : ∀ t i, i < n → ClusterWork b t dest → Succeeds (f t i) (fun u => ClusterWork t u dest)) :
    Succeeds ((List.range n).foldlM f s0) (fun t => ClusterWork b t dest) :=
  (succeeds_rows (fun t => t) (V := fun _ _ => True) n h0 fun t i hi hwork => (hf t i hi hwork).mono fun _ h => ⟨h, fun _ => trivial⟩).mono fun _ h => h.1

/-- R119: a phase DOWN whose operands lie in whole trays completes. -/
theorem State.succeeds_lowrankDown {s : State} {c : PlateCmd} {rank : Nat} (hp : c.plate < 128) (hw : s.wholeCluster c.plate)
    (hA : ∀ j, j < safeCols c → clIn (c.le 16 4 + 2 * rank * j) (2 * rank))
    (hX : ∀ i, i < safeRows c → clIn (c.trayAddr + i * stagedStride 0 (safeCols c)) (2 * safeCols c))
    (hZ : ∀ i, i < safeRows c → clIn (c.le 20 4 + 4 * rank * i) (4 * rank)) :
    Succeeds (lowrankDown c rank s) (fun t => ClusterWork s t (fun a => ∃ i, i < safeRows c ∧ atCl c.plate (c.le 20 4 + 4 * rank * i) (4 * rank) a)) := by
  unfold lowrankDown
  extract_lets p n draw
  refine (succeeds_mapM fun j hj => succeeds_of_eq (State.clVals_in hp hw (hA j (List.mem_range.mp hj))) trivial).bind fun mat _ => ?_
  refine succeeds_rowWrites (safeRows c) ((clusterWork_nextDraw s _).trans (clusterWork_clNote s.nextDraw hp _ _ _)) fun t i hi hwork => ?_
  have ht := hwork.wholeCluster hp hw
  rw [State.clVals_in hp ht (hX i hi), ok_bind]
  extract_lets z
  have hnote := clusterWork_clNote t hp (c.trayAddr + i * stagedStride 0 n) (2 * n) (atCl p (c.le 20 4 + 4 * rank * i) (4 * rank))
  refine (State.succeeds_clPut (hnote.wholeCluster hp ht) ?_ (hZ i hi)).mono fun u h => (hnote.trans h.1).mono fun a ha => ⟨i, hi, ha⟩
  rw [leRow_length, List.length_map, List.length_range]

/-- R119: a phase UP whose operands lie in whole trays completes. -/
theorem State.succeeds_lowrankUp {s : State} {c : PlateCmd} {rank nsrc : Nat} (hp : c.plate < 128) (hw : s.wholeCluster c.plate)
    (hD : s.drainIn c.plate (c.le 24 4)) (hB : ∀ k, k < rank → clIn (c.le 16 4 + 2 * safeCols c * k) (2 * safeCols c))
    (hZ : ∀ e i, e < nsrc → i < safeRows c → clIn (c.trayAddr + e * roundUp (safeRows c * rank * 4) 64 + 4 * rank * i) (4 * rank))
    (hY : ∀ i, i < safeRows c → clIn ((s.drainAt c.plate (c.le 24 4)).lr + i * (s.drainAt c.plate (c.le 24 4)).addStride) (4 * safeCols c)) :
    Succeeds (lowrankUp c rank nsrc s) (fun t => ClusterWork s t (fun a => ∃ i, i < safeRows c ∧
      atCl c.plate ((s.drainAt c.plate (c.le 24 4)).lr + i * (s.drainAt c.plate (c.le 24 4)).addStride) (4 * safeCols c) a)) := by
  unfold lowrankUp
  extract_lets p n size draw
  rw [State.clDrainRec_in hp hw hD, ok_bind]
  refine (succeeds_mapM fun k hk => succeeds_of_eq (State.clVals_in hp hw (hB k (List.mem_range.mp hk))) trivial).bind fun mat _ => ?_
  refine succeeds_rowWrites (safeRows c) ((clusterWork_nextDraw s _).trans (clusterWork_clNotes s.nextDraw hp _ _)) fun t i hi hwork => ?_
  have ht := hwork.wholeCluster hp hw
  refine (succeeds_mapM fun e he => succeeds_of_eq (State.clVals_in hp ht (hZ e i (List.mem_range.mp he) hi)) trivial).bind fun zs _ => ?_
  extract_lets z ys
  have hnote := clusterWork_clNotes t hp ((List.range nsrc).map (fun a => (c.trayAddr + a * size + 4 * rank * i, 4 * rank)))
    (atCl p ((s.drainAt p (c.le 24 4)).lr + i * (s.drainAt p (c.le 24 4)).addStride) (4 * n))
  refine (State.succeeds_clPut (hnote.wholeCluster hp ht) ?_ (hY i hi)).mono fun u h => (hnote.trans h.1).mono fun a ha => ⟨i, hi, ha⟩
  rw [leRow_length, List.length_map, List.length_range]

/-- R119: the checks of a SAFE_LOWRANK, before its phase. -/
theorem State.succeeds_safeLowrank {s : State} {c : PlateCmd} {Q : State → Prop} (htray : c.trayAddr % 16 = 0) (hn : 1 ≤ safeCols c) (hn256 : safeCols c ≤ 256)
    (hrank : 1 ≤ c.bits 8 21 7) (hrank64 : c.bits 8 21 7 ≤ 64) (hnsrc : 1 ≤ c.bits 2 1 7) (h16 : c.le 16 4 % 16 = 0)
    (hdown : c.bits 2 0 1 = 0 → c.le 20 4 % 16 = 0 ∧ Succeeds (lowrankDown c (c.bits 8 21 7) s) Q)
    (hup : c.bits 2 0 1 = 1 → c.le 24 4 % 16 = 0 ∧ Succeeds (lowrankUp c (c.bits 8 21 7) (c.bits 2 1 7) s) Q) : Succeeds (safeLowrankBody c s) Q := by
  unfold safeLowrankBody
  extract_lets rank nsrc up
  by_cases h : c.bits 2 0 1 = 1
  · obtain ⟨halign, hbody⟩ := hup h
    have hu : up = true := decide_eq_true h
    rw [hu, if_pos rfl, if_pos rfl]
    exact succeeds_need (by simp [safeOk, hn, hn256, htray, h16, halign]) (succeeds_need (decide_eq_true ⟨hrank, hrank64, hnsrc⟩) hbody)
  · obtain ⟨halign, hbody⟩ := hdown (bit_zero h)
    have hu : up = false := decide_eq_false h
    rw [hu, if_neg Bool.false_ne_true, if_neg Bool.false_ne_true]
    exact succeeds_need (by simp [safeOk, hn, hn256, htray, h16, halign]) (succeeds_need (decide_eq_true ⟨hrank, hrank64, hnsrc⟩) hbody)

/-! ### The commands -/

/-- A command whose body is a cluster unit's work runs. -/
theorem State.runs_clusterWork {s : State} {c : PlateCmd} {dest : Nat → Prop} (i : Instr) {opc : Nat} (h : s.ready c) (hr : (i, opc) ∈ plateRows c)
    (hc : c.opc = opc) (hbody : Succeeds (bodyOf c (s.begun c)) (fun t => ClusterWork (s.begun c) t dest)) : Runs i c s (fun b t => UnitWork b t dest) :=
  State.runs_cluster (V := fun _ => True) i h hr hc (hbody.mono fun _ h => ⟨h, trivial⟩) fun _ h _ => h

/-- A body that leaves plates and the voids of partitions as they were leaves its command's program running. -/
theorem stillRuns_of_voided {s t : State} {c : PlateCmd} (h : s.ready c) (hplates : t.plates = (s.begun c).plates)
    (hvoid : ∀ n, (t.prt n).voided = ((s.begun c).prt n).voided) : stillRuns (s.begun c) t c.plate = true := by
  have hplate : t.plate c.plate = (s.begun c).plate c.plate := congrArg (smapGet _ c.plate) hplates
  have hb := stillRuns_begun h
  rw [stillRuns] at hb ⊢
  rw [hplate, hvoid]
  exact hb

/-- A command whose body leaves its plate's program and its partition's exposure as they were runs. -/
theorem State.runs_of_voided {s t : State} {c : PlateCmd} {Q : State → State → Prop} (i : Instr) {opc : Nat} (h : s.ready c)
    (hr : (i, opc) ∈ plateRows c) (hc : c.opc = opc) (ht : bodyOf c (s.begun c) = .ok t) (hplates : t.plates = (s.begun c).plates)
    (hvoid : ∀ n, (t.prt n).voided = ((s.begun c).prt n).voided) (hQ : Q (s.begun c) t) : Runs i c s Q :=
  ⟨t, State.runs_of_body h hr hc ht (stillRuns_of_voided h hplates hvoid), hQ⟩

theorem onlyBound_voided {b t : State} {n : Nat} (h : onlyBound b t n) (m : Nat) : (t.prt m).voided = (b.prt m).voided := by
  obtain ⟨hother, hown⟩ := h
  by_cases hm : m = n
  · rw [hm, hown]
  · rw [hother m hm]

/-- Settles O54: each of the three commands by the lemma on its body, in the cluster's trays as they stand when the unit begins. -/
theorem safelightCommandsRun : Obligations.SafelightCommandsRun := by
  unfold Obligations.SafelightCommandsRun
  intro s c h hw htray
  have hp := h.2.1
  have hkept := traysKept_begun s c
  have hwb : (s.begun c).wholeCluster c.plate := State.wholeCluster_begun hp hw
  refine ⟨fun hopc hn hn256 hb16 hc16 haf hcf hk hB hA hC r hr hD => ?_,
    fun hopc hop h1 hlen hd hf ho hconv inp hinp out hout dest hdest hrows hvec hval hpar hgam hbet => ?_,
    fun hopc hn hn256 hrank hrank64 hnsrc h16 => ⟨fun hdown h20 hA hX hZ => ?_, fun hup hD r hr hB hZ hY => ?_⟩⟩
  · subst hr
    have hbody := State.succeeds_safeGemm (s := s.begun c) hp hwb htray hn hn256 hb16 hc16 haf hcf hk (hkept.gemmIn hp hw hwb hB) hA hC
      (hkept.gemmDrainIn hD)
    have hrec := hkept.drainAt c.plate (c.le 28 4)
    refine State.runs_cluster _ h (by simp [plateRows]) hopc (by rw [bodyOf, hopc]; exact hbody) fun t hwork hV => ⟨?_, ?_⟩
    · rw [hrec] at hwork
      exact hwork
    · intro hone hacc hd0 f hf
      rw [hV hone hacc hd0 f hf]
      simp only [gemmRow, State.gemmA, hkept.valsAt, hkept.gemmCol]
      rfl
  · subst hinp hout
    obtain rfl : dest = rowopAt c := funext hdest
    obtain ⟨t, ht, ⟨hwork, hparts, hbound⟩, hV⟩ := State.succeeds_safeRowop (s := s.begun c) hp hwb htray hop h1 hlen hd hf ho hconv
      (hkept.rowopIn ⟨hrows, hvec, hval, hpar, hgam, hbet⟩)
    have hown : (s.begun c).ownerOf c.plate = s.ownerOf c.plate := (sameSetup_begun s hp).ownerOf _
    rw [hown] at hbound
    refine State.runs_of_voided _ h (by simp [plateRows]) hopc (by rw [bodyOf, hopc]; exact ht) hwork.plates (onlyBound_voided hbound)
      ⟨hwork.1, hparts, hbound, fun hone hop1 hf1 ho1 => ?_⟩
    rw [hV hone hop1 hf1 ho1, hkept.rowopSum]
    rfl
  · refine State.runs_clusterWork _ h (by simp [plateRows]) hopc ?_
    rw [bodyOf, hopc]
    exact State.succeeds_safeLowrank htray hn hn256 hrank hrank64 hnsrc h16 (fun _ => ⟨h20, State.succeeds_lowrankDown hp hwb hA hX hZ⟩)
      fun h1 => by omega
  · subst hr
    have hrec := hkept.drainAt c.plate (c.le 24 4)
    have h24 : c.le 24 4 % 16 = 0 := by have := hD.1; omega
    refine State.runs_clusterWork _ h (by simp [plateRows]) hopc ?_
    rw [bodyOf, hopc]
    refine State.succeeds_safeLowrank htray hn hn256 hrank hrank64 hnsrc h16 (fun h0 => by omega) fun _ => ⟨h24, ?_⟩
    rw [← hrec] at hY ⊢
    exact State.succeeds_lowrankUp hp hwb (hkept.drainIn hD) hB hZ hY

end Sys2Proof.Machine
end

section
/-! BURN_SCAN, BURN_APPLY and BURN_PRODUCT (R120–R123, R127, R128): O55. -/

namespace Sys2Proof.Machine

/-! ### Numbers in written bytes -/

theorem ofLe_leBytes (n v : Nat) : ofLe (leBytes n v) = v % 256 ^ n := by
  induction n generalizing v with
  | zero => exact (Nat.mod_one v).symm
  | succ n ih => rw [leBytes, ofLe, ih, Nat.mod_mod, Nat.pow_succ', ← Nat.mod_mul]

/-- Number `j` of a row of numbers. -/
theorem leRow_drop_take (k : Nat) (ys r : List Nat) {j : Nat} (hj : j < ys.length) :
    (((ys.map (leBytes k)).flatten ++ r).drop (k * j)).take k = leBytes k (ys[j]) := by
  induction ys generalizing j with
  | nil => exact absurd hj (Nat.not_lt_zero j)
  | cons y ys ih =>
    rw [List.map_cons, List.flatten_cons, List.append_assoc]
    cases j with
    | zero => exact List.take_left' (leBytes_length k y)
    | succ j =>
      rw [Nat.mul_succ, Nat.add_comm, ← List.drop_drop, List.drop_left' (leBytes_length k y)]
      exact ih (Nat.lt_of_succ_lt_succ hj)

/-! ### BURN_SCAN (R123) -/

/-- R123: the bytes of a candidate record. -/
def candidateRec (chan n : Nat) (vals : List Nat) : List Nat :=
  leBytes 4 chan ++ leBytes 2 n ++ List.replicate 58 0 ++ ((vals.map (leBytes 2)).flatten ++ List.replicate 512 0).take 512

section
variable (chan n : Nat) {vals : List Nat}

theorem candidateRec_length (vals : List Nat) : (candidateRec chan n vals).length = 576 := by
  simp only [candidateRec, List.length_append, List.length_take, List.length_replicate, leBytes_length]
  omega

theorem candidateRec_lt (vals : List Nat) : ∀ b ∈ candidateRec chan n vals, b < 256 := by
  have hzero : ∀ m, ∀ b ∈ List.replicate m 0, b < 256 := fun m b hb => by rw [List.eq_of_mem_replicate hb]; decide
  intro b hb
  simp only [candidateRec, List.mem_append] at hb
  rcases hb with ((hb | hb) | hb) | hb
  · exact leBytes_lt _ _ b hb
  · exact leBytes_lt _ _ b hb
  · exact hzero _ b hb
  · rcases List.mem_append.mp (List.mem_of_mem_take hb) with hb | hb
    · obtain ⟨x, hx, hbx⟩ := List.mem_flatten.mp hb
      obtain ⟨y, -, rfl⟩ := List.mem_map.mp hx
      exact leBytes_lt _ _ b hbx
    · exact hzero _ b hb

theorem candidateRec_chan (vals : List Nat) : ofLe (((candidateRec chan n vals).drop 0).take 4) = chan % 2 ^ 32 := by
  rw [candidateRec, List.append_assoc, List.append_assoc, List.drop_zero, List.take_left' (leBytes_length 4 chan), ofLe_leBytes]
  rfl

theorem candidateRec_count (vals : List Nat) : ofLe (((candidateRec chan n vals).drop 4).take 2) = n % 2 ^ 16 := by
  rw [candidateRec, List.append_assoc, List.append_assoc, List.drop_left' (leBytes_length 4 chan), List.take_left' (leBytes_length 2 n), ofLe_leBytes]
  rfl

theorem candidateRec_value (hv : vals.length ≤ 256) {j : Nat} (hj : j < vals.length) :
    ofLe (((candidateRec chan n vals).drop (64 + 2 * j)).take 2) = vals[j] % 2 ^ 16 := by
  have hhead : (leBytes 4 chan ++ leBytes 2 n ++ List.replicate 58 0).length = 64 := by
    simp only [List.length_append, List.length_replicate, leBytes_length]
  rw [candidateRec, ← List.drop_drop, List.drop_left' hhead, List.drop_take, List.take_take, Nat.min_eq_left (by omega), leRow_drop_take 2 vals _ hj, ofLe_leBytes]
  rfl

end

/-- R123: the candidate that a BURN_SCAN finds in column `j`. -/
def State.scanValue (s : State) (c : PlateCmd) (x : Sheet) (j : Nat) : Nat :=
  if (x.entries.take x.static).any (fun e => decide (e.1 = c.le 28 3 + j)) = true then 0
  else candidateOf (c.le 24 4) ((List.range (safeRows c)).map (fun i =>
    fdecode bf16 (s.le (clAt c.plate (c.trayAddr + i * stagedStride 0 (safeCols c)) + 2 * j) 2)))

theorem TraysKept.scanValue {s t : State} (h : TraysKept s t) (c : PlateCmd) (x : Sheet) (j : Nat) : t.scanValue c x j = s.scanValue c x j := by
  have hle : ∀ i, t.le (clAt c.plate (c.trayAddr + i * stagedStride 0 (safeCols c)) + 2 * j) 2 =
      s.le (clAt c.plate (c.trayAddr + i * stagedStride 0 (safeCols c)) + 2 * j) 2 := fun i =>
    h.le (Nat.le_trans (trayBase_le_clAt ..) (Nat.le_add_right ..)) 2
  simp only [State.scanValue, hle]

/-- R123: a BURN_SCAN whose operands lie in whole trays completes. -/
theorem State.succeeds_burnScan {s : State} {c : PlateCmd} (hp : c.plate < 128) (hw : s.wholeCluster c.plate) (htray : c.trayAddr % 16 = 0)
    (hn : 1 ≤ safeCols c) (hn256 : safeCols c ≤ 256) (h16 : c.le 16 4 % 16 = 0) (h20 : c.le 20 4 % 16 = 0) {x : Sheet}
    (hx : s.clSheet c.plate (c.le 16 4) = .ok x) (hout : clIn (c.le 20 4) 576)
    (hrows : ∀ i, i < safeRows c → clIn (c.trayAddr + i * stagedStride 0 (safeCols c)) (2 * safeCols c)) :
    Succeeds (burnScanBody c s) (fun t => ClusterWork s t (atCl c.plate (c.le 20 4) 576) ∧
      t.bytes (clAt c.plate (c.le 20 4)) 576 = candidateRec (c.le 28 3) (safeCols c) ((List.range (safeCols c)).map (s.scanValue c x))) := by
  unfold burnScanBody
  extract_lets p n chan s1
  refine succeeds_need (by simp [safeOk, hn, hn256, htray, h16, h20]) ?_
  have hread := mapM_ok (l := List.range (safeRows c)) (f := fun i => s.clVals p (c.trayAddr + i * stagedStride 0 n) 0 n)
    (g := fun i => s.valsAt (clAt p (c.trayAddr + i * stagedStride 0 n)) 0 n)
    (fun i hi => State.clVals_in hp hw (hrows i (List.mem_range.mp hi)))
  rw [hx, ok_bind, hread, ok_bind]
  extract_lets vals
  have hvals : vals = (List.range n).map (s.scanValue c x) := List.map_congr_left fun j hj => by
    have hcol : ((List.range (safeRows c)).map (fun i => s.valsAt (clAt p (c.trayAddr + i * stagedStride 0 n)) 0 n)).map (fun r => r.getD j .nan) =
        (List.range (safeRows c)).map (fun i => fdecode bf16 (s.le (clAt p (c.trayAddr + i * stagedStride 0 n) + 2 * j) 2)) := by
      rw [List.map_map]
      exact List.map_congr_left fun i _ => s.valsAt_getD _ 0 (List.mem_range.mp hj)
    rw [hcol]
    rfl
  have hnote : ClusterWork s s1 (atCl p (c.le 20 4) 576) := clusterWork_clNotes s hp _ _
  rw [← hvals]
  exact (State.succeeds_clPut (hnote.wholeCluster hp hw) (candidateRec_length chan n vals) hout).mono fun t ⟨h, hread⟩ =>
    ⟨hnote.trans h, hread (candidateRec_lt chan n vals)⟩

/-! ### BURN_APPLY (R127) -/

/-- The bytes that a BURN_APPLY writes. -/
def applyDest (c : PlateCmd) (a : Nat) : Prop := ∃ i, i < safeRows c ∧
  (atCl c.plate (c.trayAddr + i * stagedStride 0 (safeCols c)) (2 * safeCols c) a ∨ atCl c.plate (c.le 20 4 + 512 * i) 512 a ∨
    atCl c.plate (c.le 24 4 + 4 * i) 4 a)

/-- R127: a BURN_APPLY whose operands lie in whole trays completes. -/
theorem State.succeeds_burnApply {s : State} {c : PlateCmd} (hp : c.plate < 128) (hw : s.wholeCluster c.plate) (htray : c.trayAddr % 16 = 0)
    (hn : 1 ≤ safeCols c) (hn256 : safeCols c ≤ 256) (h16 : c.le 16 4 % 16 = 0) (h20 : c.le 20 4 % 16 = 0) (h24 : c.le 24 4 % 16 = 0) {x : Sheet}
    (hx : s.clSheet c.plate (c.le 16 4) = .ok x) (hrows : x.decision ≠ 2 → ∀ i, i < safeRows c →
      clIn (c.trayAddr + i * stagedStride 0 (safeCols c)) (2 * safeCols c) ∧ clIn (c.le 20 4 + 512 * i) 512 ∧ clIn (c.le 24 4 + 4 * i) 4) :
    Succeeds (burnApplyBody c s) (fun t => ClusterWork s t (fun a => x.decision ≠ 2 ∧ applyDest c a)) := by
  unfold burnApplyBody
  extract_lets p n
  refine succeeds_need (by simp [safeOk, hn, hn256, htray, h16, h20, h24]) ?_
  rw [hx, ok_bind]
  split
  next => exact succeeds_ok (clusterWork_clNote s hp _ _ _)
  next h2 =>
    refine succeeds_rowWrites _ (clusterWork_clNote s hp _ _ _) fun t i hi hwork => ?_
    have ht := hwork.wholeCluster hp hw
    obtain ⟨hrow, hburn, hmax⟩ := hrows h2 i hi
    extract_lets a
    rw [State.clRead_in hp (ht _ (clusterAddr_plate ..)) hrow, ok_bind]
    extract_lets vals r m
    have hnote := clusterWork_clNote t hp a (2 * n) (fun a => x.decision ≠ 2 ∧ applyDest c a)
    have ht0 := hnote.wholeCluster hp ht
    have hlen1 : ((r.1.map (leBytes 2)).flatten).length = 512 := by
      rw [leRow_length]
      simp [r, burnApplyRow]
    have hlen2 : ((r.2.map (leBytes 2)).flatten).length = 2 * n := by
      rw [leRow_length]
      simp [r, burnApplyRow]
    refine (State.succeeds_clPut ht0 hlen1 hburn).bind fun t1 ⟨h1, _⟩ => ?_
    have h1 := hnote.trans (h1.mono fun a ha => ⟨h2, i, hi, .inr (.inl ha)⟩)
    refine (State.succeeds_clPut (h1.wholeCluster hp ht) hlen2 hrow).bind fun t2 ⟨h2', _⟩ => ?_
    have h2' := h1.trans (h2'.mono fun a ha => ⟨h2, i, hi, .inl ha⟩)
    exact (State.succeeds_clPut (h2'.wholeCluster hp ht) (leBytes_length 4 m) hmax).mono fun u h =>
      h2'.trans (h.1.mono fun a ha => ⟨h2, i, hi, .inr (.inr ha)⟩)

/-! ### BURN_PRODUCT (R128) -/

/-- R128: a BURN_PRODUCT whose operands lie in whole trays completes. -/
theorem State.succeeds_burnProduct {s : State} {c : PlateCmd} (hp : c.plate < 128) (hw : s.wholeCluster c.plate) (htray : c.trayAddr % 16 = 0)
    (hn : 1 ≤ safeCols c) (hn256 : safeCols c ≤ 256) (h16 : c.le 16 4 % 16 = 0) (h20 : c.le 20 4 % 16 = 0) (h24 : c.le 24 4 % 16 = 0)
    (hsrc : 1 ≤ c.bits 2 0 8) (hsrc128 : c.bits 2 0 8 ≤ 128) {x : Sheet} (hx : s.clSheet c.plate (c.le 16 4) = .ok x)
    (hD : s.drainIn c.plate (c.le 28 4)) {w : WRec} (hrec : s.clWRec c.plate (c.le 24 4) = .ok w)
    (hstatic : ∀ e, e < x.entries.length → e < x.static → clIn (c.le 20 4 + e * stagedStride 0 (safeCols c)) (2 * safeCols c))
    (hdyn : ∀ e j, e < x.entries.length → x.static ≤ e → j < safeCols c → s.weightIn c.plate w (x.entries.getD e (0, false)).1 j)
    (hscale : c.bits 3 0 1 = 0 → scalesIn (s.drainAt c.plate (c.le 28 4)) (safeCols c))
    (hrows : ∀ e i, e < c.bits 2 0 8 → i < safeRows c → clIn (c.trayAddr + e * safeRows c * 512 + 512 * i) 512)
    (hout : ∀ i, i < safeRows c → clIn ((s.drainAt c.plate (c.le 28 4)).burn + i * (s.drainAt c.plate (c.le 28 4)).addStride) (4 * safeCols c)) :
    Succeeds (burnProductBody c s) (fun t => ClusterWork s t (fun a => ∃ i, i < safeRows c ∧
      atCl c.plate ((s.drainAt c.plate (c.le 28 4)).burn + i * (s.drainAt c.plate (c.le 28 4)).addStride) (4 * safeCols c) a)) := by
  unfold burnProductBody
  extract_lets p n nsrc folded
  have h28 : c.le 28 4 % 16 = 0 := by have := hD.1; omega
  refine succeeds_need (by simp [safeOk, hn, hn256, htray, h16, h20, h24, h28]) (succeeds_need (decide_eq_true ⟨hsrc, hsrc128⟩) ?_)
  rw [hx, ok_bind, State.clDrainRec_in hp hw hD, ok_bind, hrec, ok_bind]
  generalize hr : s.drainAt c.plate (c.le 28 4) = r at *
  refine Succeeds.bind (P := fun _ => True) (succeeds_mapM fun e he => ?_) fun ws _ => ?_
  · have he := List.mem_range.mp he
    split
    next hs => exact succeeds_of_eq (State.clVals_in hp hw (hstatic e he hs)) trivial
    next hs =>
      refine succeeds_mapM fun j hj => ?_
      have hj := List.mem_range.mp hj
      refine (State.succeeds_clWeight hp hw (hdyn e j he (Nat.not_lt.mp hs) hj)).bind fun q _ => ?_
      exact succeeds_ite (P := fun _ => True) (fun _ => succeeds_ok trivial)
        (fun hf => State.succeeds_clScale hp hw (hscale (bit_zero (by simpa [folded] using hf))) hj) fun k _ => succeeds_ok trivial
  · refine succeeds_rowWrites _ (clusterWork_clNotes s hp _ _) fun t i hi hwork => ?_
    have ht := hwork.wholeCluster hp hw
    refine (succeeds_mapM fun e he => succeeds_of_eq (State.clVals_in hp ht (hrows e i (List.mem_range.mp he) hi)) trivial).bind fun srcs _ => ?_
    extract_lets xs ys
    have hnote := clusterWork_clNotes t hp ((List.range nsrc).map (fun a => (c.trayAddr + a * safeRows c * 512 + 512 * i, 512)))
      (atCl p (r.burn + i * r.addStride) (4 * n))
    refine (State.succeeds_clPut (hnote.wholeCluster hp ht) ?_ (hout i hi)).mono fun u h => (hnote.trans h.1).mono fun a ha => ⟨i, hi, ha⟩
    rw [leRow_length, List.length_map, List.length_range]

end Sys2Proof.Machine
end

section
/-! BURN_DECIDE, and the four commands of the burn path (R120–R128, R131, R153): O55. -/

namespace Sys2Proof.Machine

/-! ### The decision and its sheet (R121, R124) -/

theorem sheetBytes_length (x : Sheet) : (sheetBytes x).length = 1088 := by
  simp only [sheetBytes, List.length_append, List.length_take, List.length_replicate, leBytes_length, List.length_cons, List.length_nil]
  omega

/-- R124: without fallback, the decision is to burn or to clip. -/
theorem burnDecision_le (count cap : Nat) (cands : List (Nat × Nat)) : (burnDecision count cap false cands).2.1 ≤ 1 := by
  unfold burnDecision
  extract_lets sorted
  split
  · exact Nat.zero_le 1
  · exact Nat.le_refl 1

/-! ### What a decision counts and warns (R125, R126, R131) -/

/-- R131: the last decision of a cluster recorded in its registers. -/
def State.putBurnLast (s : State) (cl layer count decision expo : Nat) : State :=
  (((s.put fBURN_LAST_LAYER cl 0 layer).put fBURN_LAST_COUNT cl 0 count).put fBURN_LAST_DECISION cl 0 decision).put fBURN_LAST_EXPO cl 0 (expo % 2 ^ 32)

/-- R131: what a cluster's densitometer counts of a decision. -/
def State.countBurns (s : State) (cl dyn clipped decision : Nat) : State :=
  ((s.dens (128 + cl) 4 dyn).dens (128 + cl) 5 clipped).dens (128 + cl) 6 (if decision = 2 then 1 else 0)

section
variable (s : State) {cl : Nat} (layer count decision expo : Nat)

theorem burnLast_not_log (cl : Nat) : fldAddr fREL_LOG_BASE 0 0 ∉ [fldAddr fBURN_LAST_LAYER cl 0] := by
  simp only [List.mem_singleton, fldAddr, fREL_LOG_BASE, fBURN_LAST_LAYER, blockBase]
  omega

theorem beside_putBurnLast : Beside s (s.putBurnLast cl layer count decision expo) [fldAddr fBURN_LAST_LAYER cl 0] := by
  have h : ∀ t f v, fldAddr f cl 0 = fldAddr fBURN_LAST_LAYER cl 0 → Beside t (State.put t f cl 0 v) [fldAddr fBURN_LAST_LAYER cl 0] :=
    fun t f v e => beside_put t f cl 0 v _ (.inr (by rw [e]; exact List.mem_singleton_self _))
  have hring := burnLast_not_log cl
  unfold State.putBurnLast
  exact beside_trans (beside_trans (beside_trans (h _ fBURN_LAST_LAYER _ rfl) (h _ fBURN_LAST_COUNT _ rfl) hring) (h _ fBURN_LAST_DECISION _ rfl) hring)
    (h _ fBURN_LAST_EXPO _ rfl) hring

theorem putBurnLast_layer : (s.putBurnLast cl layer count decision expo).get fBURN_LAST_LAYER cl 0 = layer % 2 ^ 16 := by
  unfold State.putBurnLast
  rw [State.get_put_ne _ _ _ _ _ _ _ _ (.inr (by decide)), State.get_put_ne _ _ _ _ _ _ _ _ (.inr (by decide)),
    State.get_put_ne _ _ _ _ _ _ _ _ (.inr (by decide)), State.get_put_same _ _ _ _ _ (by decide)]
  rfl

theorem putBurnLast_decision : (s.putBurnLast cl layer count decision expo).get fBURN_LAST_DECISION cl 0 = decision % 2 ^ 2 := by
  unfold State.putBurnLast
  rw [State.get_put_ne _ _ _ _ _ _ _ _ (.inr (by decide)), State.get_put_same _ _ _ _ _ (by decide)]
  rfl

theorem putBurnLast_expo : (s.putBurnLast cl layer count decision expo).get fBURN_LAST_EXPO cl 0 = expo % 2 ^ 32 := by
  unfold State.putBurnLast
  rw [State.get_put_same _ _ _ _ _ (by decide)]
  exact Nat.mod_mod _ _

theorem beside_countBurns (hcl : cl < 16) (dyn clipped : Nat) : Beside s (s.countBurns cl dyn clipped decision) [] :=
  beside_trans (beside_trans (beside_dens s _ _ _ (by omega)) (beside_dens _ _ _ _ (by omega)) List.not_mem_nil) (beside_dens _ _ _ _ (by omega))
    List.not_mem_nil

end

/-- R125, R126, R153: what a partition counts of a decision of its cluster `cl`. -/
def Part.countBurn (y : Part) (cl layer decision : Nat) : Part :=
  { y with burnDecisions := y.burnDecisions + 1,
           burnFallbacks := if decision = 2 then y.burnFallbacks + 1 else y.burnFallbacks,
           burnLayers := if decision = 2 then y.burnLayers ++ [(cl, layer)] else y.burnLayers,
           burnCounts := smapSet (fun _ => 0) cl (smapGet (fun _ => 0) cl y.burnCounts + 1) y.burnCounts }

/-- R125, R126: the warning that a decision gives. -/
def State.warnBurn (s : State) (p decision : Nat) : State :=
  if decision = 1 then s.burnWarn p 0x0202 else if decision = 2 then s.burnWarn p 0x0203 else s

/-- A step changes nothing but partition `n`'s counts of burns and its warnings. -/
def BurnCounted (s t : State) (n decision : Nat) : Prop :=
  t = { s with parts := t.parts } ∧ (∀ m, m ≠ n → t.prt m = s.prt m) ∧ (t.prt n).voided = (s.prt n).voided ∧
  (t.prt n).burnDecisions = (s.prt n).burnDecisions + 1 ∧ (decision ≠ 2 → (t.prt n).burnFallbacks = (s.prt n).burnFallbacks)

theorem State.burnWarn_counted {s t : State} {n p decision : Nat} (h : BurnCounted s t n decision) (hn : t.ownerOf p = n) (code : Nat) :
    BurnCounted s (t.burnWarn p code) n decision := by
  obtain ⟨hframe, hother, hvoid, hcount, hfall⟩ := h
  unfold State.burnWarn
  split
  · rw [hn]
    refine ⟨?_, fun m hm => (State.prt_setPrt_ne _ (Ne.symm hm) _).trans (hother m hm), ?_, ?_, fun hd => ?_⟩
    · conv => lhs; rw [hframe]
      rfl
    · rw [State.prt_setPrt_same]
      exact hvoid
    · rw [State.prt_setPrt_same]
      exact hcount
    · rw [State.prt_setPrt_same]
      exact hfall hd
  · exact ⟨hframe, hother, hvoid, hcount, hfall⟩

theorem State.warnBurn_counted {s t : State} {n p decision : Nat} (h : BurnCounted s t n decision) (hn : t.ownerOf p = n) :
    BurnCounted s (t.warnBurn p decision) n decision := by
  unfold State.warnBurn
  split
  · exact State.burnWarn_counted h hn _
  · split
    · exact State.burnWarn_counted h hn _
    · exact h

theorem burnCounted_setPrt (s : State) (n cl layer decision : Nat) : BurnCounted s (s.setPrt n ((s.prt n).countBurn cl layer decision)) n decision := by
  refine ⟨rfl, fun m hm => State.prt_setPrt_ne _ (Ne.symm hm) _, ?_, ?_, fun hd => ?_⟩
  · rw [State.prt_setPrt_same]
    rfl
  · rw [State.prt_setPrt_same]
    rfl
  · rw [State.prt_setPrt_same]
    exact if_neg hd

/-! ### BURN_DECIDE (R124–R126, R131, R153) -/

theorem ownerOf_congr {s t : State} (hstate : ∀ n, n < 16 → t.get fPART_STAT_STATE n 0 = s.get fPART_STAT_STATE n 0)
    (hlayout : ∀ n, n < 16 → t.get fPART_LAYOUT_CLUSTERS n 0 = s.get fPART_LAYOUT_CLUSTERS n 0) (p : Nat) : t.ownerOf p = s.ownerOf p := by
  unfold State.ownerOf State.partOfPlate State.partOfCluster
  refine congrArg (Option.getD · _) (List.find?_congr fun n hn => ?_)
  have hn := List.mem_range.mp hn
  simp only [State.exists_, State.ownsCluster, hstate n hn, hlayout n hn]

/-- What changes registers of clusters alone leaves each plate its partition. -/
theorem ownerOf_of_beside {s t : State} {cl : Nat} (hcl : cl < 16) (h : Beside s t [fldAddr fBURN_LAST_LAYER cl 0]) (p : Nat) : t.ownerOf p = s.ownerOf p := by
  have hget : ∀ f : Fld, f.blk = .part ∧ f.off < 0x8000 ∧ f.stride = 0 → ∀ n, n < 16 → t.get f n 0 = s.get f n 0 := fun f ⟨hb, ho, hs⟩ n hn => by
    have e : fldAddr f n 0 = 0x0F0090000000 + n * 0x10000 + f.off := by simp [fldAddr, hb, hs, blockBase]
    rw [State.get, State.get, e, h.2.1]
    · rw [bookkeeping, decide_eq_false_iff_not]
      simp only [fldAddr, fREL_LOG_IDX_TAIL, fREL_LOG_STAT_OVERWRITTEN, blockBase]
      omega
    · simp only [List.mem_singleton, fldAddr, fBURN_LAST_LAYER, blockBase]
      omega
  exact ownerOf_congr (hget _ (by decide)) (hget _ (by decide)) p

/-- What a BURN_DECIDE leaves: its sheet, the registers and counts of its cluster, and the counts and warnings of its partition. -/
def DecideWork (c : PlateCmd) (s t : State) : Prop :=
  ∃ u count dyn clipped d, ClusterWork s u (atCl c.plate (c.le 20 4) 1088) ∧
    BurnCounted ((u.putBurnLast (c.plate / 8) (c.le 30 2) count d (s.get fPART_EXPO_NOW_EXPO (s.ownerOf c.plate) 0)).countBurns (c.plate / 8) dyn clipped d) t
      (s.ownerOf c.plate) d ∧ (c.le 28 1 = 0 → d ≤ 1)

/-- R124: a BURN_DECIDE whose operands lie in whole trays, with room for the static list and disjoint candidates, completes. -/
theorem State.succeeds_burnDecide {s : State} {c : PlateCmd} (hp : c.plate < 128) (hw : s.wholeCluster c.plate) (htray : c.trayAddr % 16 = 0)
    (hn : 1 ≤ safeCols c) (hn256 : safeCols c ≤ 256) (h16 : c.le 16 4 % 16 = 0) (h20 : c.le 20 4 % 16 = 0) (hcand : 1 ≤ c.le 24 2)
    (hcand128 : c.le 24 2 ≤ 128) (hcap : c.le 26 2 ≤ 256) (hpol : c.le 28 1 ≤ 1) {x : Sheet} (hx : s.clSheet c.plate (c.le 16 4) = .ok x)
    (hout : clIn (c.le 20 4) 1088) (hrecs : ∀ i, i < c.le 24 2 → clIn (c.trayAddr + 576 * i) 576) (hstatic : x.static ≤ c.le 26 2)
    (hdis : rangesDisjoint ((List.range (c.le 24 2)).map (fun i => (s.le (clAt c.plate (c.trayAddr + 576 * i)) 4,
      s.le (clAt c.plate (c.trayAddr + 576 * i) + 4) 2))) = true) :
    Succeeds (burnDecideBody c s) (DecideWork c s) := by
  unfold burnDecideBody
  extract_lets p cl n ncand cap policy layer f fb expo
  refine succeeds_need (by simp [safeOk, hn, hn256, htray, h16, h20, ncand, cap, policy, hcand, hcand128, hcap, hpol]) ?_
  have hread := mapM_ok (l := List.range ncand) (f := fun i => s.clRead p (c.trayAddr + 576 * i) 576)
    (g := fun i => s.bytes (clAt p (c.trayAddr + 576 * i)) 576)
    (fun i hi => State.clRead_in hp (hw _ (clusterAddr_plate ..)) (hrecs i (List.mem_range.mp hi)))
  rw [hx, ok_bind, hread, ok_bind]
  have hranges : (List.map (fun i => s.bytes (clAt p (c.trayAddr + 576 * i)) 576) (List.range ncand)).map (fun bs => (f bs 0 4, f bs 4 2)) =
      (List.range ncand).map (fun i => (s.le (clAt p (c.trayAddr + 576 * i)) 4, s.le (clAt p (c.trayAddr + 576 * i) + 4) 2)) := by
    have hfield : ∀ a i k, i + k ≤ 576 → f (s.bytes a 576) i k = s.le (a + i) k := fun a i k h => s.ofLe_drop_take h
    rw [List.map_map]
    refine List.map_congr_left fun i _ => ?_
    rw [Function.comp_apply, hfield _ 0 4 (by omega), hfield _ 4 2 (by omega), Nat.add_zero]
  rw [hranges, hdis, decide_eq_false (Nat.not_lt.mpr hstatic), if_neg (by decide)]
  extract_lets cands d dyn sheet
  have hpolicy : c.le 28 1 = 0 → d.2.1 ≤ 1 := fun h0 => by
    have hfb : fb = false := by simp [fb, policy, h0]
    show (burnDecision x.count cap fb cands).2.1 ≤ 1
    rw [hfb]
    exact burnDecision_le ..
  have hnote : ClusterWork s (s.clNotes p [(c.le 16 4, 1088), (c.trayAddr, 576 * ncand)]) (atCl p (c.le 20 4) 1088) := clusterWork_clNotes s hp _ _
  refine (State.succeeds_clPut (hnote.wholeCluster hp hw) (sheetBytes_length sheet) hout).bind fun u ⟨h, _⟩ => ?_
  have hu := hnote.trans h
  extract_lets s2 s3 y s4
  have hcl : cl < 16 := by omega
  have hput : Beside u s2 [fldAddr fBURN_LAST_LAYER cl 0] := beside_putBurnLast u (cl := cl) layer sheet.count d.2.1 expo
  have hcnt : Beside s2 s3 [] := beside_countBurns s2 d.2.1 hcl dyn.length d.2.2
  have hbeside := beside_trans hput (beside_mono hcnt (List.nil_subset _)) (burnLast_not_log cl)
  have hown : s4.ownerOf p = n := (ownerOf_of_beside hcl hbeside p).trans (hu.sameSetup.ownerOf p)
  exact succeeds_ok ⟨u, sheet.count, dyn.length, d.2.2, d.2.1, hu, State.warnBurn_counted (burnCounted_setPrt s3 n cl layer d.2.1) hown, hpolicy⟩

/-- A BURN_DECIDE counts in a state whose plates and partitions are those before it. -/
theorem DecideWork.counted {c : PlateCmd} {s t : State} (hp : c.plate < 128) (h : DecideWork c s t) :
    ∃ w d, BurnCounted w t (s.ownerOf c.plate) d ∧ w.plates = s.plates ∧ ∀ n, w.prt n = s.prt n := by
  obtain ⟨u, count, dyn, clipped, d, hu, hcounted, -⟩ := h
  have hput := beside_putBurnLast u (cl := c.plate / 8) (c.le 30 2) count d (s.get fPART_EXPO_NOW_EXPO (s.ownerOf c.plate) 0)
  generalize u.putBurnLast _ _ _ _ _ = v at *
  have hcnt := beside_countBurns v (cl := c.plate / 8) d (by omega) dyn clipped
  generalize v.countBurns _ _ _ _ = w at *
  have hparts : w.parts = s.parts := by rw [hcnt.1, hput.1, hu.parts]
  exact ⟨w, d, hcounted, by rw [hcnt.1, hput.1, hu.plates], fun n => congrArg (smapGet _ n) hparts⟩

theorem DecideWork.plates {c : PlateCmd} {s t : State} (hp : c.plate < 128) (h : DecideWork c s t) : t.plates = s.plates := by
  obtain ⟨w, d, ⟨hframe, -⟩, hplates, -⟩ := h.counted hp
  rw [hframe]
  exact hplates

theorem DecideWork.voided {c : PlateCmd} {s t : State} (hp : c.plate < 128) (h : DecideWork c s t) (n : Nat) : (t.prt n).voided = (s.prt n).voided := by
  obtain ⟨w, d, ⟨-, hother, hvoid, -⟩, -, hprt⟩ := h.counted hp
  rw [← hprt]
  by_cases hn : n = s.ownerOf c.plate
  · rw [hn]
    exact hvoid
  · rw [hother n hn]

theorem plateCmd_le_lt (c : PlateCmd) (i n : Nat) : c.le i n < 2 ^ (8 * n) := Nat.mod_lt _ (Nat.two_pow_pos _)

/-- R125, R126, R131, R153: what a BURN_DECIDE leaves of memory, of registers and of partitions. -/
theorem DecideWork.spec {c : PlateCmd} {s t : State} (hp : c.plate < 128) (h : DecideWork c s t) :
    UnitWork { s with parts := t.parts, regs := t.regs } t (atCl c.plate (c.le 20 4) 1088) ∧
    (∀ a, bookkeeping a = false → (∀ q, q < 128 → a ≠ fldAddr fTRAY_ECC_STAT_CE q 0) → a ≠ fldAddr fBURN_LAST_LAYER (c.plate / 8) 0 → t.reg a = s.reg a) ∧
    t.get fBURN_LAST_LAYER (c.plate / 8) 0 = c.le 30 2 ∧
    t.get fBURN_LAST_EXPO (c.plate / 8) 0 = s.get fPART_EXPO_NOW_EXPO (s.ownerOf c.plate) 0 % 2 ^ 32 ∧
    (∀ m, m ≠ s.ownerOf c.plate → t.prt m = s.prt m) ∧
    (t.prt (s.ownerOf c.plate)).burnDecisions = (s.prt (s.ownerOf c.plate)).burnDecisions + 1 ∧
    (c.le 28 1 = 0 → t.get fBURN_LAST_DECISION (c.plate / 8) 0 ≠ 2 ∧
      (t.prt (s.ownerOf c.plate)).burnFallbacks = (s.prt (s.ownerOf c.plate)).burnFallbacks) := by
  obtain ⟨u, count, dyn, clipped, d, hu, ⟨hframe, hother, -, hcount, hfall⟩, hpolicy⟩ := h
  have hcl : c.plate / 8 < 16 := by omega
  have hput := beside_putBurnLast u (cl := c.plate / 8) (c.le 30 2) count d (s.get fPART_EXPO_NOW_EXPO (s.ownerOf c.plate) 0)
  have hlayer := putBurnLast_layer u (cl := c.plate / 8) (c.le 30 2) count d (s.get fPART_EXPO_NOW_EXPO (s.ownerOf c.plate) 0)
  have hdecision := putBurnLast_decision u (cl := c.plate / 8) (c.le 30 2) count d (s.get fPART_EXPO_NOW_EXPO (s.ownerOf c.plate) 0)
  have hexpo := putBurnLast_expo u (cl := c.plate / 8) (c.le 30 2) count d (s.get fPART_EXPO_NOW_EXPO (s.ownerOf c.plate) 0)
  generalize u.putBurnLast _ _ _ _ _ = v at *
  have hcnt := beside_countBurns v (cl := c.plate / 8) d hcl dyn clipped
  generalize v.countBurns _ _ _ _ = w at *
  have hring := unitWork_ring hu.1
  obtain ⟨⟨huframe, hureg, humem⟩, -, -⟩ := hu
  have hne : ∀ a, a ≠ fldAddr fBURN_LAST_LAYER (c.plate / 8) 0 → a ∉ [fldAddr fBURN_LAST_LAYER (c.plate / 8) 0] := fun a ha hm => ha (List.mem_singleton.mp hm)
  have hregs : ∀ a, bookkeeping a = false → (∀ q, q < 128 → a ≠ fldAddr fTRAY_ECC_STAT_CE q 0) → a ≠ fldAddr fBURN_LAST_LAYER (c.plate / 8) 0 →
      t.reg a = s.reg a := fun a hb hce ha => by
    have htw : t.reg a = w.reg a := by rw [hframe]; rfl
    rw [htw, hcnt.2.1 a hb List.not_mem_nil, hput.2.1 a hb (hne a ha), hureg a hb hce]
  have hlast : ∀ f : Fld, fldAddr f (c.plate / 8) 0 = fldAddr fBURN_LAST_LAYER (c.plate / 8) 0 → t.get f (c.plate / 8) 0 = v.get f (c.plate / 8) 0 := fun f hf => by
    have htw : t.reg (fldAddr f (c.plate / 8) 0) = w.reg (fldAddr f (c.plate / 8) 0) := by rw [hframe]; rfl
    have hbook : bookkeeping (fldAddr f (c.plate / 8) 0) = false := by
      rw [hf, bookkeeping, decide_eq_false_iff_not]
      simp only [fldAddr, fBURN_LAST_LAYER, fREL_LOG_IDX_TAIL, fREL_LOG_STAT_OVERWRITTEN, blockBase]
      omega
    rw [State.get, State.get, htw, hcnt.2.1 _ hbook List.not_mem_nil]
  have hprt : ∀ m, w.prt m = s.prt m := fun m => by
    have hp : w.parts = s.parts := by rw [hcnt.1, hput.1, huframe]
    exact congrArg (smapGet _ m) hp
  refine ⟨⟨?_, fun _ _ _ => rfl, fun a ha hd => ?_⟩, hregs, ?_, ?_, fun m hm => (hother m hm).trans (hprt m), by rw [hcount, hprt], fun h0 => ⟨?_, ?_⟩⟩
  · rw [hframe, hcnt.1, hput.1, huframe]
  · have hat : t.inLogRing a = false := ha
    have htw : t.inLogRing a = w.inLogRing a := by rw [hframe]; rfl
    have hmem : t.mem = w.mem := by rw [hframe]
    have hwv := beside_ring hcnt List.not_mem_nil a
    have hvu := beside_ring hput (burnLast_not_log _) a
    rw [hmem, hcnt.2.2.1 a (by rw [← hwv, ← htw, hat]), hput.2.2.1 a (by rw [← hvu, ← hwv, ← htw, hat])]
    exact humem a (by rw [← hring, ← hvu, ← hwv, ← htw, hat]) hd
  · rw [hlast fBURN_LAST_LAYER rfl, hlayer, Nat.mod_eq_of_lt (plateCmd_le_lt c 30 2)]
  · rw [hlast fBURN_LAST_EXPO rfl, hexpo]
  · rw [hlast fBURN_LAST_DECISION rfl, hdecision]
    have := hpolicy h0
    omega
  · rw [hfall (by have := hpolicy h0; omega), hprt]

/-! ### The commands -/

/-- A number read from written bytes. -/
theorem State.le_of_bytes {t : State} {a n i k : Nat} {bs : List Nat} (h : t.bytes a n = bs) (hi : i + k ≤ n) : t.le (a + i) k = ofLe ((bs.drop i).take k) := by
  rw [← h, t.ofLe_drop_take hi]

/-- Settles O55: each of the four commands by the lemma on its body, in the cluster's trays as they stand when the unit begins. -/
theorem burnCommandsRun : Obligations.BurnCommandsRun := by
  unfold Obligations.BurnCommandsRun
  intro s c h hw htray h16 hsheet hn hn256 x hx hok
  subst hx
  have hp := h.2.1
  have hkept := traysKept_begun s c
  have hset := sameSetup_begun s hp
  have hwb : (s.begun c).wholeCluster c.plate := State.wholeCluster_begun hp hw
  have hbytes := hkept.clBytes c.plate (c.le 16 4) 1088
  have hx : (s.begun c).clSheet c.plate (c.le 16 4) = .ok (sheetOf (s.bytes (clAt c.plate (c.le 16 4)) 1088)) := by
    rw [State.clSheet_in hp (hwb _ (clusterAddr_plate ..)) hsheet (by rw [hbytes]; exact hok), hbytes]
  generalize sheetOf _ = x at *
  refine ⟨fun hopc h20 hout hrows => ?_, fun hopc h20 hcand hcand128 hcap hpol hout hrecs hstatic hdis => ?_, fun hopc h20 h24 => ⟨fun h2 => ?_, fun h2 hrows => ?_⟩,
    fun hopc h20 h24 hsrc hsrc128 hD r hr w hrec hstatic hdyn hscale hrows hout => ?_⟩
  · have hbody := State.succeeds_burnScan hp hwb htray hn hn256 h16 h20 hx hout hrows
    refine State.runs_cluster _ h (by simp [plateRows]) hopc (by rw [bodyOf, hopc]; exact hbody) fun t hwork hV => ⟨hwork, ?_, ?_, fun j hj => ?_⟩
    · rw [← Nat.add_zero (clAt ..), State.le_of_bytes hV (by decide), candidateRec_chan]
      exact Nat.mod_eq_of_lt (Nat.lt_trans (plateCmd_le_lt c 28 3) (by decide))
    · rw [State.le_of_bytes hV (by decide), candidateRec_count]
      exact Nat.mod_eq_of_lt (by omega)
    · have hlen : ((List.range (safeCols c)).map ((s.begun c).scanValue c x)).length = safeCols c := by rw [List.length_map, List.length_range]
      rw [Nat.add_assoc, State.le_of_bytes hV (by omega), candidateRec_value _ _ (by rw [hlen]; exact hn256) (by rw [hlen]; exact hj), List.getElem_map,
        List.getElem_range, hkept.scanValue, State.scanValue, apply_ite (· % 2 ^ 16), Nat.zero_mod]
  · have hown := hset.ownerOf c.plate
    have hprt := (begins_begun s hp).prt
    have hexpo : ∀ n, n < 16 → (s.begun c).get fPART_EXPO_NOW_EXPO n 0 = s.get fPART_EXPO_NOW_EXPO n 0 := fun n hn => hset.partGet (by decide) hn
    have hle : ∀ i k, (s.begun c).le (clAt c.plate (c.trayAddr + 576 * i) + k) = s.le (clAt c.plate (c.trayAddr + 576 * i) + k) := fun i k =>
      funext fun m => hkept.le (Nat.le_trans (trayBase_le_clAt ..) (Nat.le_add_right ..)) m
    obtain ⟨t, ht, hwork⟩ := State.succeeds_burnDecide hp hwb htray hn hn256 h16 h20 hcand hcand128 hcap hpol hx hout hrecs hstatic
      (by simpa only [hle, hkept.le (trayBase_le_clAt ..)] using hdis)
    refine State.runs_of_voided _ h (by simp [plateRows]) hopc (by rw [bodyOf, hopc]; exact ht) (hwork.plates hp) (hwork.voided hp) ?_
    have hspec := hwork.spec hp
    rw [hown, hexpo _ h.2.2.1, hprt] at hspec
    exact hspec
  · have hbody := State.succeeds_burnApply hp hwb htray hn hn256 h16 h20 h24 hx (fun h => absurd h2 h)
    refine State.runs_clusterWork _ h (by simp [plateRows]) hopc ?_
    rw [bodyOf, hopc]
    exact hbody.mono fun t h => h.mono fun a ha => ha.1 h2
  · have hbody := State.succeeds_burnApply hp hwb htray hn hn256 h16 h20 h24 hx (fun _ => hrows)
    refine State.runs_clusterWork _ h (by simp [plateRows]) hopc ?_
    rw [bodyOf, hopc]
    exact hbody.mono fun t h => h.mono fun a ha => ha.2
  · subst hr
    have hdrain := hkept.drainAt c.plate (c.le 28 4)
    refine State.runs_clusterWork _ h (by simp [plateRows]) hopc ?_
    rw [bodyOf, hopc]
    rw [← hdrain] at hscale hout ⊢
    exact State.succeeds_burnProduct hp hwb htray hn hn256 h16 h20 h24 hsrc hsrc128 hx (hkept.drainIn hD) (hkept.clWRec hp hw hwb hrec) hstatic
      (fun e j he hs hj => hkept.weightIn (hdyn e j he hs hj)) hscale hrows hout

end Sys2Proof.Machine
end

section
/-! What a context's record leaves of partitions, and what the state in which a sequencer command begins keeps (R261, R263, R266, R268, R499): O51. -/

namespace Sys2Proof.Machine

/-! ### Partitions left alone by a context's record (R261, R313, R397, R499) -/

theorem parts_foldl {β : Type} (f : State → β → State) (bs : List β) (hf : ∀ t b, (f t b).parts = t.parts) (s : State) : (bs.foldl f s).parts = s.parts := by
  induction bs generalizing s with
  | nil => rfl
  | cons b bs ih => exact (ih _).trans (hf s b)

theorem State.parts_noteUeAs (s : State) (n addr kind : Nat) : (s.noteUeAs n addr kind).parts = s.parts := by
  unfold State.noteUeAs
  refine (parts_of_beside (beside_log _ _)).trans ?_
  dsimp only
  have hput : ∀ (t : State) f i v, (t.put f i 0 v).parts = t.parts := fun t f i v => t.put_parts f i 0 v
  split
  · exact (hput ..).trans ((hput ..).trans ((hput ..).trans (State.parts_bump ..)))
  · split
    · exact (hput ..).trans ((hput ..).trans (State.parts_bump ..))
    · exact (hput ..).trans ((hput ..).trans (State.parts_bump ..))

theorem State.parts_replyOn (s : State) (p : UciePort) (h : UcieHdr) (data : List Byte) : (s.replyOn p h data).parts = s.parts := by
  rw [State.replyOn, State.ucieSend_frame]

theorem State.parts_setWcb (s : State) (h : Nat) (es : List WcbEntry) : (s.setWcb h es).parts = s.parts := State.put_parts ..

theorem State.parts_freeEntry (s : State) (h line : Nat) : (s.freeEntry h line).parts = s.parts := by
  unfold State.freeEntry
  exact State.parts_setWcb ..

theorem State.parts_dropAck (s : State) (a : UcieHdr × UciePort) : (s.dropAck a).parts = s.parts := by
  refine parts_foldl _ _ (fun t h => ?_) s
  split
  · exact State.parts_setWcb ..
  · rfl

theorem State.parts_ackEntry (s : State) (e : WcbEntry) (fail : Bool) : (s.ackEntry e fail).parts = s.parts := by
  refine parts_foldl _ _ (fun t a => ?_) s
  split
  · exact (State.parts_replyOn ..).trans (State.parts_dropAck t a)
  · split
    · rfl
    · exact State.parts_replyOn ..

theorem State.parts_countFill (s : State) {h : Nat} (hh : h < 8) (line : Nat) : ((s.freeEntry h line).dens (162 + h) 4 1).parts = s.parts := by
  have hb : 162 + h < 187 := by omega
  exact (State.parts_dens _ hb 4 1).trans (State.parts_freeEntry s h line)

theorem State.parts_fillEntry (s : State) {h : Nat} (hh : h < 8) (e : WcbEntry) : (s.fillEntry h e).parts = s.parts := by
  have h1 := s.parts_countFill hh e.line
  unfold State.fillEntry
  generalize (s.freeEntry h e.line).dens (162 + h) 4 1 = s1 at *
  dsimp only
  split
  · exact (State.parts_ackEntry ..).trans ((State.parts_noteUeAs ..).trans h1)
  · refine (State.parts_ackEntry ..).trans ((State.setLineErr_parts ..).trans ?_)
    split
    · exact (State.parts_noteCorrected ..).trans ((State.bump_parts ..).trans h1)
    · exact h1

theorem State.parts_settleLines (s : State) (a n : Nat) : (s.settleLines a n).parts = s.parts := by
  unfold State.settleLines
  split
  · rfl
  · refine parts_foldl _ _ (fun t l => ?_) s
    split
    · unfold State.overwriteEntry
      dsimp only
      split
      · exact (State.parts_ackEntry ..).trans (State.parts_freeEntry ..)
      · rfl
    · dsimp only
      split
      · exact State.parts_fillEntry t (t.stackOf_lt l) _
      · rfl

theorem State.parts_writeCtxRec (s : State) (id : Nat) (expo : Option Nat) : (s.writeCtxRec id expo).parts = s.parts := by
  unfold State.writeCtxRec
  extract_lets x a fs
  split
  · refine (parts_foldl _ _ (fun t f => ?_) _).trans (parts_foldl _ _ (fun t l => State.parts_noteUeAs t _ _ _) s)
    split
    · rfl
    · exact (clusterWork_write (t.settleLines f.1 f.2.length) f.1 f.2).parts.trans (State.parts_settleLines ..)
  · rfl

theorem State.putCtx_parts (s : State) (id : Nat) (x : Ctx) : (s.putCtx id x).parts = s.parts :=
  (State.parts_writeCtxRec ..).trans (State.setCtx_parts ..)

theorem State.putCtx_plates (s : State) (id : Nat) (x : Ctx) : (s.putCtx id x).plates = s.plates := (sideWork_putCtx s id x).1

theorem State.putCtx_ctx_same (s : State) (id : Nat) (x : Ctx) : (s.putCtx id x).ctx id = x :=
  ((sideWork_putCtx s id x).ctx id).trans (State.ctx_setCtx_same ..)

theorem State.putCtx_ctx_ne (s : State) {id d : Nat} (h : id ≠ d) (x : Ctx) : (s.putCtx id x).ctx d = s.ctx d :=
  ((sideWork_putCtx s id x).ctx d).trans (State.ctx_setCtx_ne s h x)

/-! ### The state in which a command begins (R149, R261) -/

section
variable (s : State) {c : PlateCmd} (hp : c.plate < 128)
include hp

theorem State.begun_ctx (id : Nat) : (s.begun c).ctx id = s.ctx id := congrArg (smapGet _ id) (begins_begun s hp).ctxs

theorem State.begun_plateCtx : ((s.begun c).plate c.plate).ctx = (s.plate c.plate).ctx := by
  obtain ⟨-, -, hx⟩ := begins_begun s hp
  injection hx

theorem State.begun_ended : ((s.begun c).plate c.plate).ended = (s.plate c.plate).ended := by
  obtain ⟨-, -, hx⟩ := begins_begun s hp
  injection hx

theorem State.begun_bars (q : Nat) : ((s.begun c).plate q).bars = (s.plate q).bars := by
  obtain ⟨-, hother, hx⟩ := begins_begun s hp
  by_cases hq : q = c.plate
  · subst hq
    injection hx
  · rw [hother q hq]

theorem State.begun_cycles : (s.begun c).cycles c.plate = s.cycles c.plate := by
  obtain ⟨-, -, hx⟩ := begins_begun s hp
  have hclock : ((s.begun c).plate c.plate).clock = (s.plate c.plate).clock := by injection hx
  rw [State.cycles, State.cycles, hclock]

theorem State.begun_timer : (s.begun c).timer = s.timer := by rw [(begins_begun s hp).1.1]

theorem State.begun_nowDie (d : Nat) : (s.begun c).nowDie d = s.nowDie d := by rw [State.nowDie, State.nowDie, s.begun_timer hp]

/-- The command waits alone on its plate. -/
theorem State.begun_waiting : ((s.begun c).plate c.plate).waiting = [waiterOf c] := by
  obtain ⟨g, hq⟩ := s.queued_plate hp
  have hw : ((s.queued c).plate c.plate).waiting = [waiterOf c] := by rw [hq]; rfl
  rw [State.begun_eq]
  split
  · have hset : ∀ v, (((s.queued c).setSem c.plate c.waitIdx v).plate c.plate).waiting = ((s.queued c).plate c.plate).waiting := fun v => by
      rw [State.setSem, State.plate_setPlate_same]
    exact (hset _).trans hw
  · exact hw

end

/-- Registers of a partition's block, of any number, are no bookkeeping below the counters. -/
theorem SameSetup.layout {s t : State} (h : SameSetup s t) (n : Nat) : t.get fPART_LAYOUT_CLUSTERS n 0 = s.get fPART_LAYOUT_CLUSTERS n 0 := by
  by_cases hn : n < 16
  · exact h.partGet (by decide) hn
  · rw [State.get, State.get, h]
    · rw [bookkeeping, decide_eq_false_iff_not]
      simp only [fldAddr, fPART_LAYOUT_CLUSTERS, fREL_LOG_IDX_TAIL, fREL_LOG_STAT_OVERWRITTEN, blockBase]
      omega
    · intro q hq
      simp only [fldAddr, fPART_LAYOUT_CLUSTERS, fTRAY_ECC_STAT_CE, blockBase]
      omega
    · simp only [fldAddr, fPART_LAYOUT_CLUSTERS, fDENS_STAT_SAMPLES_DROPPED, blockBase]
      omega

theorem SameSetup.homeDie {s t : State} (h : SameSetup s t) (n : Nat) : t.homeDie n = s.homeDie n := by
  have hcl : t.clusters n = s.clusters n := List.filter_congr fun q _ => by rw [State.ownsCluster, State.ownsCluster, h.layout]
  rw [State.homeDie, State.homeDie, hcl]

/-- R266: the windows of a partition where a command begins. -/
theorem State.begun_windowAt (s : State) {c : PlateCmd} (hp : c.plate < 128) {n : Nat} (hn : n < 16) (w : Nat) : (s.begun c).windowAt n w = s.windowAt n w := by
  have hset := sameSetup_begun s hp
  have horigin : (s.begun c).origin n = s.origin n := by rw [State.origin, State.origin, (begins_begun s hp).prt]
  have hget : ∀ f : Fld, f.blk = .part ∧ f.off < 0x8000 ∧ f.stride = 0 → (s.begun c).get f n 0 = s.get f n 0 := fun f hf => hset.partGet hf hn
  rw [State.windowAt, State.windowAt, horigin, State.windowOff, State.windowOff, hget fPART_EXPO_WIN0_DISPATCH (by decide),
    hget fPART_EXPO_WIN0_COMBINE (by decide), hget fPART_EXPO_WIN1_DRAIN (by decide), hget fPART_EXPO_WIN1_COMMIT (by decide)]

theorem State.begun_partNow (s : State) {c : PlateCmd} (hp : c.plate < 128) (n : Nat) : (s.begun c).partNow n = s.partNow n := by
  rw [State.partNow, State.partNow, (sameSetup_begun s hp).homeDie, s.begun_nowDie hp]

end Sys2Proof.Machine
end

section
/-! SEQ_END, and the commands of the plate sequencer that wait (R149, R151, R263, R266, R268, R270): O51. -/

namespace Sys2Proof.Machine

/-! ### SEQ_END (R263) -/

/-- R97, R151: a plate whose program has ended holds no groups and no semaphores. -/
theorem State.endPlate_empty (s : State) (p : Nat) : ((s.endPlate p).plate p).groups = [] ∧ ((s.endPlate p).plate p).sems = [] := by
  unfold State.endPlate State.clearSems
  rw [State.plate_setPlate_same, State.plate_setPlate_same]
  exact ⟨rfl, rfl⟩

/-- R482: a command that has completed loses its tag, and nothing else of plates and contexts changes. -/
theorem State.untag_places (s : State) (c : PlateCmd) : (s.untag c).ctxs = s.ctxs ∧ ∃ g, (s.untag c).plate c.plate = { s.plate c.plate with tagged := g } := by
  unfold State.untag
  extract_lets x
  split
  · extract_lets s1
    exact ⟨(sideWork_sample s ..).2.1, _, State.plate_setPlate_same ..⟩
  · exact ⟨rfl, x.tagged, rfl⟩

/-- A program goes on, on plate `p`: neither contexts nor the plate's own have changed, and it has not ended. -/
def GoesOn (s t : State) (p : Nat) : Prop := t.ctxs = s.ctxs ∧ (t.plate p).ctx = (s.plate p).ctx ∧ (t.plate p).ended = false

/-- R149: the signal of a command is given, or its count of 0 is a fault. -/
theorem State.signalOf_goesOn {s t : State} {c : PlateCmd} (h : GoesOn s t c.plate) :
    GoesOn s (t.signalOf c) c.plate ∨ t.signalOf c = t.plateFault c c.opc stCmdInvalid stCmdInvalid 0 0 0 := by
  obtain ⟨hctxs, hctx, hended⟩ := h
  unfold State.signalOf
  split
  · exact .inl ⟨hctxs, hctx, hended⟩
  · split
    · exact .inr rfl
    · have hset : ∀ k, GoesOn s (t.setSem c.plate c.sigIdx k) c.plate := fun k => by
        refine ⟨hctxs, ?_, ?_⟩
        · rw [State.setSem, State.plate_setPlate_same]
          exact hctx
        · rw [State.setSem, State.plate_setPlate_same]
          exact hended
      have hlog : ∀ u e, GoesOn s u c.plate → GoesOn s (State.log u e) c.plate := fun u e ⟨h1, h2, h3⟩ => by
        have hw := sideWork_log u e
        exact ⟨hw.2.1.trans h1, by rw [hw.plate]; exact h2, by rw [hw.plate]; exact h3⟩
      unfold State.signal
      split
      · exact .inl (hlog _ _ (hset _))
      · exact .inl (hset _)

/-- What a SEQ_END leaves where plate `p` runs no context, or context `id` on that plate alone. -/
def ProgramOver (s t : State) (p : Nat) : Prop :=
  ((s.plate p).ctx = none → (t.plate p).ended = true ∧ (t.plate p).waiting = [] ∧ (t.plate p).groups = [] ∧ (t.plate p).sems = []) ∧
  ∀ id, (s.plate p).ctx = some id → lanePlates (s.ctx id) = [p] → (t.ctx id).run = .done ∧ (t.plate p).ctx = none ∧ (t.plate p).ended = true

/-- R263: the end of a plate's program is its context's where it runs on that plate alone. -/
theorem State.endProgram_over {s t : State} {p : Nat} (h : GoesOn s t p) : ProgramOver s (t.endProgram p) p := by
  obtain ⟨hctxs, hctx, -⟩ := h
  unfold State.endProgram
  extract_lets open_ s1 who s2 src s3
  have h1 : SideWork t s1 := by
    refine iteInduction (motive := fun u : State => SideWork t u) (fun _ => sideWork_refl t) fun _ => sideWork_log ..
  have h2 : SideWork s1 (s1.logSems p (s1.plate p).sems) := sideWork_logSems ..
  have h3ctxs : s3.ctxs = s.ctxs := h2.2.1.trans (h1.2.1.trans hctxs)
  have hplate3 : s3.plate p = { s2.plate p with groups := [], waiting := [], ended := true, boundary := true, active := none,
                                                shadow := none, reload := none, skip := 0, fetched := [] } := State.plate_setPlate_same ..
  have hplate2 : s2.plate p = { s1.plate p with sems := [] } := (State.plate_setPlate_same ..).trans (by rw [h2.plate])
  have hctx3 : (s3.plate p).ctx = (s.plate p).ctx := by rw [hplate3, hplate2, ← hctx, ← h1.plate]
  clear_value s3
  refine ⟨fun hnone => ?_, fun id hid hlane => ?_⟩
  · have hwho : who = none := hctx.trans hnone
    rw [hwho, hplate3, hplate2]
    exact ⟨rfl, rfl, rfl, rfl⟩
  · have hwho : who = some id := hctx.trans hid
    have hx : s3.ctx id = s.ctx id := congrArg (smapGet _ id) h3ctxs
    have hall : (lanePlates (s3.ctx id)).all (fun q => decide ((s3.plate q).ctx = some id) && (s3.plate q).ended) = true := by
      rw [hx, hlane, List.all_cons, List.all_nil, hctx3, hid, hplate3]
      simp
    rw [hwho]
    dsimp only
    unfold State.checkDone
    extract_lets x u
    rw [if_pos hall]
    refine ⟨by rw [State.putCtx_ctx_same], ?_⟩
    have hu : u = s3.setPlate p { s3.plate p with ctx := none } := by
      show (lanePlates (s3.ctx id)).foldl _ s3 = _
      rw [hx, hlane]
      rfl
    rw [(sideWork_putCtx u id _).plate, State.plate_setCtx, hu, State.plate_setPlate_same, hplate3]
    exact ⟨rfl, rfl⟩

/-- R97: a fault ends the program too. -/
theorem State.plateFault_over {s t : State} {c : PlateCmd} (h : GoesOn s t c.plate) (hp : c.plate < 128) (opc code status extra off addr : Nat) :
    ProgramOver s (t.plateFault c opc code status extra off addr) c.plate := by
  obtain ⟨hctxs, hctx, -⟩ := h
  obtain ⟨u, hu, he⟩ := t.faultOf_ends (t.plate c.plate).ctx c opc code status extra off addr (.inl hp)
  obtain ⟨hrplates, hrctxs⟩ := t.recordFault_places c opc status extra off
  have hplate : u.plate c.plate = t.plate c.plate := congrArg (smapGet _ c.plate) (hu.1.trans hrplates)
  have hctxs : ∀ id, u.ctx id = s.ctx id := fun id => congrArg (smapGet _ id) ((hu.2.1.trans hrctxs).trans hctxs)
  rw [State.plateFault, he, hctx]
  refine ⟨fun hnone => ?_, fun id hid hlane => ?_⟩
  · rw [hnone]
    obtain ⟨-, -, hwait, hend, -⟩ := u.endPlate_frame c.plate
    exact ⟨hend, hwait, u.endPlate_empty c.plate⟩
  · rw [hid]
    obtain ⟨hrun, -, hplates, -⟩ := u.endContext_frame id code
    obtain ⟨-, hend, hover⟩ := (hplates c.plate).1 (by rw [hctxs, hlane]; exact List.mem_singleton_self _) (by rw [hplate, hctx, hid])
    exact ⟨hrun, hover, hend⟩

/-- R149, R263: what the completion of a SEQ_END comes to, whether its signal is given or faults. -/
theorem State.succeed_seqEnd {s : State} {c : PlateCmd} (hp : c.plate < 128) (hopc : c.opc = 0x01) (hended : (s.plate c.plate).ended = false) :
    ProgramOver s (s.succeed c 0) c.plate := by
  have hunit : unitOf c.opc = 0 := by rw [hopc]; rfl
  have hserved : ∀ t : State, t.noteServed c = t := fun t => by simp [State.noteServed, State.serverOf, hunit]
  have hgive : ∀ t : State, t.giveSignal c = t.signalOf c := fun t => by simp [State.giveSignal, State.signalWaits, signalsInOrder, hopc]
  let u := (s.dropWaiter c.plate 0).untag c
  have hsucceed : s.succeed c 0 = if !((u.signalOf c).plate c.plate).ended then (u.signalOf c).endProgram c.plate else u.signalOf c := by
    simp [State.succeed, State.finishCmd, unitOf, hopc, hserved, hgive, u]
  have hu : GoesOn s u c.plate := by
    obtain ⟨hctxs, g, hplate⟩ := (s.dropWaiter c.plate 0).untag_places c
    have hdrop : (s.dropWaiter c.plate 0).plate c.plate = { s.plate c.plate with waiting := (s.plate c.plate).waiting.eraseIdx 0 } :=
      State.plate_setPlate_same ..
    rw [hdrop] at hplate
    exact ⟨hctxs, by rw [hplate], by rw [hplate]; exact hended⟩
  rw [hsucceed]
  rcases State.signalOf_goesOn hu with hgo | hfault
  · rw [hgo.2.2]
    exact State.endProgram_over hgo
  · have hover := State.plateFault_over hu hp c.opc stCmdInvalid stCmdInvalid 0 0 0
    rw [← hfault] at hover
    refine ⟨fun hnone => ?_, fun id hid hlane => ?_⟩
    · rw [(hover.1 hnone).1]
      exact hover.1 hnone
    · rw [(hover.2 id hid hlane).2.2]
      exact hover.2 id hid hlane

end Sys2Proof.Machine
end

section
/-! The plate sequencer's own commands (R129, R263, R268, R270, R271): O51. -/

namespace Sys2Proof.Machine

section
variable {s : State} {c : PlateCmd}

/-- A command whose body has nothing to do yet waits. -/
theorem State.waits_intro {why : WaitWhy} (i : Instr) {opc : Nat} (h : s.ready c) (hr : (i, opc) ∈ plateRows c) (hc : c.opc = opc)
    (ht : bodyOf c (s.begun c) = .error (.wait (s.begun c) why)) (hunit : why ≠ .unit) (hstack : why ≠ .stack) : Waits i c s why := by
  refine State.waits_of_body h hr hc (t := s.begun c) ?_ hunit (stillRuns_begun h)
  rw [ht]
  exact heldWhole_of_ne fun u e => hstack (Stop.wait.inj (Except.error.inj e)).2

/-- A command whose body changes nothing runs. -/
theorem State.runs_same (i : Instr) {opc : Nat} (h : s.ready c) (hr : (i, opc) ∈ plateRows c) (hc : c.opc = opc)
    (ht : bodyOf c (s.begun c) = .ok (s.begun c)) : Runs i c s (fun b t => t = b) :=
  State.runs_of_voided i h hr hc ht rfl (fun _ => rfl) rfl

/-! ### SEQ_AT and SEQ_WINDOW (R266, R270) -/

theorem State.seqAt_runs (h : s.ready c) (hopc : c.opc = 0x02) (hat : c.le 16 8 ≤ s.cycles c.plate) :
    Runs (.seqAt c) c s (fun b t => Beside b t [] ∧ (c.le 16 8 = s.cycles c.plate → t = b)) := by
  have hclk := s.begun_cycles h.2.1
  obtain ⟨yes, hyes, hbody⟩ : ∃ yes : Bool, (yes = true → c.le 16 8 < s.cycles c.plate) ∧
      bodyOf c (s.begun c) = .ok (if yes then (s.begun c).dens c.plate 22 1 else s.begun c) := by
    rw [bodyOf, hopc]
    show ∃ yes : Bool, _ ∧ seqAtBody c (s.begun c) = _
    unfold seqAtBody
    extract_lets clk waited
    rw [if_neg (show ¬ clk < c.le 16 8 by show ¬ (s.begun c).cycles c.plate < _; rw [hclk]; omega)]
    refine ⟨_, fun hy => ?_, rfl⟩
    have hy := (Bool.and_eq_true_iff.mp hy).1
    rw [← hclk]
    exact of_decide_eq_true hy
  have hb : Beside (s.begun c) (if yes then (s.begun c).dens c.plate 22 1 else s.begun c) [] :=
    iteInduction (motive := fun t => Beside (s.begun c) t []) (fun _ => beside_dens _ _ _ _ (by have := h.2.1; omega)) fun _ => beside_refl _ _
  refine State.runs_of_voided _ h (by simp [plateRows]) hopc hbody (beside_plates hb) (fun n => ?_) ⟨hb, fun he => if_neg fun hy => ?_⟩
  · exact congrArg Part.voided (congrArg (smapGet _ n) (parts_of_beside hb))
  · exact Nat.lt_irrefl _ (he ▸ hyes hy)

theorem State.seqAt_waits (h : s.ready c) (hopc : c.opc = 0x02) (hat : s.cycles c.plate < c.le 16 8) : Waits (.seqAt c) c s .clock := by
  refine State.waits_intro _ h (by simp [plateRows]) hopc ?_ (by decide) (by decide)
  rw [bodyOf, hopc]
  exact if_pos (by rw [s.begun_cycles h.2.1]; exact hat)

/-- R270: a SEQ_WINDOW at a tile boundary waits until its window opens. -/
theorem State.seqWindowBody_eq (h : s.ready c) (hwin : c.le 16 1 ≤ 3) (hbound : (s.plate c.plate).boundary = true) : seqWindowBody c (s.begun c) =
    if s.nowDie (dieOfPlate c.plate) < s.windowAt (s.ownerOf c.plate) (c.le 16 1) then .error (.wait (s.begun c) .window) else .ok (s.begun c) := by
  obtain ⟨-, hp, hn, -⟩ := h
  obtain ⟨-, -, hb, -⟩ := s.begun_plate hp
  rw [seqWindowBody, hb, hbound, decide_eq_true hwin, Bool.and_self, need_true rfl, ok_bind, s.begun_nowDie hp, (sameSetup_begun s hp).ownerOf, s.begun_windowAt hp hn]

/-! ### SEQ_BARRIER (R270) -/

/-- R270: a plate that has issued its SEQ_BARRIER. -/
def State.atBarrier (s : State) (c : PlateCmd) : State :=
  let x := s.plate c.plate
  if c.le 16 1 ∈ x.bars then s else s.setPlate c.plate { x with bars := x.bars ++ [c.le 16 1] }

theorem seqBarrierBody_eq (c : PlateCmd) (s : State) : seqBarrierBody c s =
    if (s.atBarrier c).barrierMet c.plate (c.le 16 1) then .ok (s.atBarrier c) else .error (.wait (s.atBarrier c) .barrier) := rfl

theorem State.atBarrier_frame (s : State) (c : PlateCmd) : s.atBarrier c = { s with plates := (s.atBarrier c).plates } ∧
    (∀ q, q ≠ c.plate → (s.atBarrier c).plate q = s.plate q) ∧ c.le 16 1 ∈ ((s.atBarrier c).plate c.plate).bars ∧
    ∃ bs, (s.atBarrier c).plate c.plate = { s.plate c.plate with bars := bs } := by
  unfold State.atBarrier
  extract_lets x
  split
  next hin => exact ⟨rfl, fun _ _ => rfl, hin, x.bars, rfl⟩
  next hin =>
    refine ⟨rfl, fun q hq => State.plate_setPlate_ne s (Ne.symm hq) _, ?_, x.bars ++ [c.le 16 1], State.plate_setPlate_same ..⟩
    rw [State.plate_setPlate_same]
    exact List.mem_append_right _ (List.mem_singleton_self _)

/-- R270: the barrier is met where every other lane plate of the context has come to it. -/
theorem State.begun_barrierMet (h : s.ready c) : ((s.begun c).atBarrier c).barrierMet c.plate (c.le 16 1) = true ↔
    ∀ id, (s.plate c.plate).ctx = some id → ∀ q ∈ lanePlates (s.ctx id), q ≠ c.plate → c.le 16 1 ∈ (s.plate q).bars := by
  have hp := h.2.1
  obtain ⟨hframe, hother, hin, bs, hplate⟩ := (s.begun c).atBarrier_frame c
  have hctx : (((s.begun c).atBarrier c).plate c.plate).ctx = (s.plate c.plate).ctx := by rw [hplate]; exact s.begun_plateCtx hp
  have hctxs : ∀ id, ((s.begun c).atBarrier c).ctx id = s.ctx id := fun id => by rw [hframe]; exact s.begun_ctx hp id
  have hbars : ∀ q, q ≠ c.plate → (((s.begun c).atBarrier c).plate q).bars = (s.plate q).bars := fun q hq => by rw [hother q hq, s.begun_bars hp]
  rw [State.barrierMet, hctx]
  cases hc : (s.plate c.plate).ctx with
  | none => simp
  | some id =>
    simp only [hctxs, List.all_eq_true, decide_eq_true_eq, Option.some.injEq]
    refine ⟨fun hall id' he q hq hne => ?_, fun hall q hq => ?_⟩
    · rw [← hbars q hne]
      exact hall q (he ▸ hq)
    · by_cases hne : q = c.plate
      · rw [hne]
        exact hin
      · rw [hbars q hne]
        exact hall id rfl q hq hne

theorem State.atBarrier_stillRuns (h : s.ready c) : stillRuns (s.begun c) ((s.begun c).atBarrier c) c.plate = true := by
  obtain ⟨hframe, -, -, bs, hplate⟩ := (s.begun c).atBarrier_frame c
  have hprt : ∀ n, ((s.begun c).atBarrier c).prt n = (s.begun c).prt n := fun n => by rw [hframe]; rfl
  have hb := stillRuns_begun h
  rw [stillRuns] at hb ⊢
  rw [hplate, hprt]
  exact hb

/-! ### SEQ_SKIPIF and BURN_BRANCH (R129, R270) -/

/-- R129: passing over commands, while only the command itself waits, sets where its plate goes on. -/
theorem State.skipNext_plate {t : State} (hw : (t.plate c.plate).waiting = [waiterOf c]) (n : Nat) :
    (t.skipNext c n).plate c.plate = { t.plate c.plate with skip := c.index + 1 + n } ∧ ∀ q, q ≠ c.plate → (t.skipNext c n).plate q = t.plate q := by
  refine ⟨?_, fun q hq => State.plate_setPlate_ne t (Ne.symm hq) _⟩
  have hkeep : ((t.plate c.plate).waiting.filter (fun w => !decide (c.index < w.cmd.index ∧ w.cmd.index < c.index + 1 + n))) = (t.plate c.plate).waiting := by
    rw [hw]
    simp [waiterOf]
  exact (State.plate_setPlate_same ..).trans (by rw [hkeep])

/-- A command that reads, and passes over commands where `yes` says so. -/
theorem State.runs_skip (i : Instr) {opc n : Nat} {yes : Bool} {u : State} (h : s.ready c) (hr : (i, opc) ∈ plateRows c) (hc : c.opc = opc)
    (hbody : bodyOf c (s.begun c) = .ok (if yes then u.skipNext c n else u)) (hu : ClusterWork (s.begun c) u (fun _ => False)) :
    Runs i c s (fun b t => UnitWork { b with plates := t.plates } t (fun _ => False) ∧ (∀ q, q ≠ c.plate → t.plate q = b.plate q) ∧
      (yes = true → t.plate c.plate = { b.plate c.plate with skip := c.index + 1 + n }) ∧ (yes ≠ true → t.plate c.plate = b.plate c.plate)) := by
  have hplate : ∀ q, u.plate q = (s.begun c).plate q := fun q => congrArg (smapGet _ q) hu.plates
  obtain ⟨hskip, hother⟩ := State.skipNext_plate (t := u) (by rw [hplate]; exact s.begun_waiting h.2.1) n
  rw [hplate] at hskip
  obtain ⟨⟨hframe, hreg, hmem⟩, -, -⟩ := id hu
  cases yes with
  | true =>
    have hctx : ((u.skipNext c n).plate c.plate).ctx = ((s.begun c).plate c.plate).ctx := by rw [hskip]
    have hended : ((u.skipNext c n).plate c.plate).ended = ((s.begun c).plate c.plate).ended := by rw [hskip]
    refine State.runs_intro i h hr hc hbody hctx hended hu.parts ⟨⟨?_, hreg, hmem⟩, fun q hq => ?_, fun _ => ?_, fun hn => absurd rfl hn⟩
    · show u.skipNext c n = _
      rw [State.skipNext, hframe]
      rfl
    · exact (hother q hq).trans (hplate q)
    · exact hskip
  | false =>
    refine State.runs_of_voided i h hr hc hbody hu.plates (fun m => congrArg Part.voided (congrArg (smapGet _ m) hu.parts))
      ⟨?_, fun q _ => hplate q, nofun, fun _ => hplate _⟩
    show UnitWork { s.begun c with plates := u.plates } u _
    rw [hu.plates]
    exact hu.1

end

end Sys2Proof.Machine
end

section
/-! Progress of contexts and the plate sequencer's commands together (R129, R263, R268, R270, R271): O51. -/

namespace Sys2Proof.Machine

section
variable {s : State} {c : PlateCmd}

/-! ### CTX_POST (R268) -/

theorem State.ctxPost_runs (h : s.ready c) (hopc : c.opc = 0x07) (hval : c.le 16 8 ≠ 0) {id : Nat} (hid : (s.plate c.plate).ctx = some id) :
    Runs (.ctxPost c) c s (fun b t => t.ctx id = { s.ctx id with progress := ((s.ctx id).progress + c.le 16 8) % 2 ^ 64 } ∧
      (∀ d, d ≠ id → t.ctx d = b.ctx d) ∧ t.plates = b.plates ∧ t.parts = b.parts) := by
  have hp := h.2.1
  have hbody : bodyOf c (s.begun c) = .ok ((s.begun c).putCtx id { (s.begun c).ctx id with progress := (((s.begun c).ctx id).progress + c.le 16 8) % 2 ^ 64 }) := by
    rw [bodyOf, hopc]
    show ctxPostBody c (s.begun c) = _
    rw [ctxPostBody, need_true (decide_eq_true hval), ok_bind, s.begun_plateCtx hp, hid]
  refine State.runs_of_voided _ h (by simp [plateRows]) hopc hbody (State.putCtx_plates ..) (fun n => ?_)
    ⟨?_, fun d hd => State.putCtx_ctx_ne _ (Ne.symm hd) _, State.putCtx_plates .., State.putCtx_parts ..⟩
  · exact congrArg Part.voided (congrArg (smapGet _ n) (State.putCtx_parts ..))
  · rw [State.putCtx_ctx_same, s.begun_ctx hp]

/-! ### CTX_WAIT (R268) -/

/-- R268: a CTX_WAIT may await the context that it names. -/
def State.mayAwait (s : State) (c : PlateCmd) : Prop :=
  (s.plate c.plate).boundary = true ∧ (s.ctx (waitCtxOf c)).part = s.ownerOf c.plate ∧ (s.ctx (waitCtxOf c)).takesPart = true ∧
  s.get fPART_LAYOUT_CTX_FIRST (s.ownerOf c.plate) 0 ≤ waitCtxOf c ∧
  waitCtxOf c < s.get fPART_LAYOUT_CTX_FIRST (s.ownerOf c.plate) 0 + s.get fPART_LAYOUT_CTX_COUNT (s.ownerOf c.plate) 0

/-- R268: context `id` blocked by its CTX_WAIT. -/
def State.blockedBy (s : State) (c : PlateCmd) (id : Nat) : State :=
  (s.setCtx id { s.ctx id with waitCtx := some (waitCtxOf c), waitVal := waitValOf c }).block id

/-- R267: a blocked context whose awaited one is not resident offers it its place. -/
def State.offersPlace (s : State) (c : PlateCmd) (id : Nat) : State :=
  let s1 := s.blockedBy c id
  let n := s.ownerOf c.plate
  if (s.ctx (waitCtxOf c)).residency = 0 ∧ (s.ctx id).run = .running then s1.setPrt n { s1.prt n with exchange := (s1.prt n).exchange ++ [id] } else s1

/-- R268: what a CTX_WAIT does before it waits, where the context that it awaits is not DONE and does not wait for its own. -/
def State.awaits (s : State) (c : PlateCmd) : State :=
  match (s.plate c.plate).ctx with
  | none => s
  | some id => s.offersPlace c id

theorem State.ctxWaitBody_eq (h : s.ready c) (hm : s.mayAwait c) (hrun : (s.ctx (waitCtxOf c)).progress < waitValOf c → (s.ctx (waitCtxOf c)).run ≠ .done)
    (hpath : (s.ctx (waitCtxOf c)).progress < waitValOf c → ∀ id, (s.plate c.plate).ctx = some id →
      (s.begun c).waitPath id (s.ctxs.length + 1) (waitCtxOf c) = none) :
    ctxWaitBody c (s.begun c) = if waitValOf c ≤ (s.ctx (waitCtxOf c)).progress then .ok (s.begun c) else .error (.wait ((s.begun c).awaits c) .progress) := by
  have hp := h.2.1
  have hn := h.2.2.1
  obtain ⟨hbound, hpart, htakes, hfirst, hcount⟩ := hm
  have hset := sameSetup_begun s hp
  obtain ⟨-, -, hb, -⟩ := s.begun_plate hp
  have hctxs := (begins_begun s hp).ctxs
  unfold ctxWaitBody
  extract_lets n t
  rw [hb, hbound, need_true rfl, ok_bind, need_true, ok_bind]
  · by_cases hmet : waitValOf c ≤ (s.ctx (waitCtxOf c)).progress
    · rw [if_pos hmet, if_pos]
      rw [State.waitMet, s.begun_ctx hp, decide_eq_true hmet]
    · rw [if_neg hmet, if_neg, if_neg]
      · unfold State.awaits
        rw [s.begun_plateCtx hp]
        cases hid : (s.plate c.plate).ctx with
        | none => rfl
        | some id =>
          dsimp only
          rw [hctxs, hpath (Nat.not_le.mp hmet) id hid]
          rfl
      · show ¬ ((s.begun c).ctx (waitCtxOf c)).run = .done
        rw [s.begun_ctx hp]
        exact hrun (Nat.not_le.mp hmet)
      · rw [State.waitMet, s.begun_ctx hp, decide_eq_false hmet]
        decide
  · have howner : n = s.ownerOf c.plate := hset.ownerOf _
    show (decide (((s.begun c).ctx (waitCtxOf c)).part = n) && ((s.begun c).ctx (waitCtxOf c)).takesPart && decide _) = true
    rw [howner, s.begun_ctx hp, hset.partGet (f := fPART_LAYOUT_CTX_FIRST) (by decide) hn, hset.partGet (f := fPART_LAYOUT_CTX_COUNT) (by decide) hn,
      hpart, htakes, decide_eq_true (show _ ∧ _ from ⟨hfirst, hcount⟩), decide_eq_true rfl]
    rfl

/-- R263, R268: a running context that blocks keeps plates and voids as they are. -/
theorem State.offersPlace_frame {id : Nat} (s : State) (c : PlateCmd) (hrun : (s.ctx id).run = .running) : (s.offersPlace c id).plates = s.plates ∧
    (∀ n, ((s.offersPlace c id).prt n).voided = (s.prt n).voided) ∧
    (s.offersPlace c id).ctx id = { s.ctx id with run := .blocked, leaving := true, waitCtx := some (waitCtxOf c), waitVal := waitValOf c,
                                                   blockT64 := s.partNow (s.ctx id).part } := by
  unfold State.offersPlace
  extract_lets s1 n
  have hset : ∀ x, (s.setCtx id x).ctx id = x := fun x => State.ctx_setCtx_same ..
  obtain ⟨u, x, hs1, hplates, hparts, hx⟩ : ∃ u x, s1 = State.putCtx u id x ∧ u.plates = s.plates ∧ u.parts = s.parts ∧ x = { s.ctx id with
      run := .blocked, leaving := true, waitCtx := some (waitCtxOf c), waitVal := waitValOf c, blockT64 := s.partNow (s.ctx id).part } := by
    refine ⟨s.setCtx id { s.ctx id with waitCtx := some (waitCtxOf c), waitVal := waitValOf c }, _, ?_, rfl, rfl, rfl⟩
    show State.block _ id = _
    unfold State.block
    extract_lets y
    have hy : y = { s.ctx id with waitCtx := some (waitCtxOf c), waitVal := waitValOf c } := hset _
    rw [hy, if_pos hrun]
    rfl
  have h1plates : s1.plates = s.plates := by rw [hs1, State.putCtx_plates, hplates]
  have h1prt : ∀ m, s1.prt m = s.prt m := fun m => congrArg (smapGet _ m) (by rw [hs1, State.putCtx_parts, hparts])
  have h1ctx : s1.ctx id = x := by rw [hs1, State.putCtx_ctx_same]
  clear_value s1
  split
  · refine ⟨h1plates, fun m => ?_, h1ctx.trans hx⟩
    by_cases hm : m = n
    · rw [hm, State.prt_setPrt_same, ← h1prt]
    · rw [State.prt_setPrt_ne _ (Ne.symm hm), h1prt]
  · exact ⟨h1plates, fun m => by rw [h1prt], h1ctx.trans hx⟩

/-! ### SEQ_FLIP (R271) -/

theorem State.seqFlip_runs (h : s.ready c) (hopc : c.opc = 0x09) : Runs (.seqFlip c) c s (fun b t => t = { b with parts := t.parts } ∧
    (s.get fPART_LAYOUT_KIND (s.ownerOf c.plate) 0 = 1 → t.prt (s.ownerOf c.plate) = { b.prt (s.ownerOf c.plate) with flip := true }) ∧
    (s.get fPART_LAYOUT_KIND (s.ownerOf c.plate) 0 ≠ 1 → t = b)) := by
  have hset := sameSetup_begun s h.2.1
  have hkind := hset.partGet (f := fPART_LAYOUT_KIND) (by decide) h.2.2.1
  generalize hn : s.ownerOf c.plate = n at *
  have hbody : bodyOf c (s.begun c) = .ok (if s.get fPART_LAYOUT_KIND n 0 = 1 then (s.begun c).setPrt n { (s.begun c).prt n with flip := true } else s.begun c) := by
    rw [bodyOf, hopc]
    show seqFlipBody c (s.begun c) = _
    unfold seqFlipBody
    have hm : (s.begun c).ownerOf c.plate = n := (hset.ownerOf _).trans hn
    rw [hm]
    show Except.ok (if (s.begun c).get fPART_LAYOUT_KIND n 0 = 1 then _ else _) = _
    rw [hkind]
  by_cases hk : s.get fPART_LAYOUT_KIND n 0 = 1
  · rw [if_pos hk] at hbody
    refine State.runs_of_voided _ h (by simp [plateRows]) hopc hbody rfl (fun m => ?_) ⟨rfl, fun _ => State.prt_setPrt_same .., fun hne => absurd hk hne⟩
    by_cases hm : m = n
    · rw [hm, State.prt_setPrt_same]
    · rw [State.prt_setPrt_ne _ (Ne.symm hm)]
  · rw [if_neg hk] at hbody
    exact State.runs_of_voided _ h (by simp [plateRows]) hopc hbody rfl (fun _ => rfl) ⟨rfl, fun he => absurd he hk, fun _ => rfl⟩

end

end Sys2Proof.Machine
end

section
/-! The plate sequencer's commands settled (R129, R263, R268, R270, R271): O51. -/

namespace Sys2Proof.Machine

/-- Two yes-or-no answers that are equal. -/
theorem decide_beq_decide {p q : Prop} [Decidable p] [Decidable q] : (decide p == decide q) = true ↔ (p ↔ q) := by
  rw [beq_iff_eq, decide_eq_decide]

section
variable {s : State} {c : PlateCmd}

/-- R268: a CTX_WAIT whose awaited progress is not there waits, in the state in which it has blocked its context. -/
theorem State.ctxWait_waits (h : s.ready c) (hopc : c.opc = 0x08) (hm : s.mayAwait c) (hlate : (s.ctx (waitCtxOf c)).progress < waitValOf c)
    (hrun : (s.ctx (waitCtxOf c)).run ≠ .done)
    (hpath : ∀ id, (s.plate c.plate).ctx = some id → (s.begun c).waitPath id (s.ctxs.length + 1) (waitCtxOf c) = none) :
    bodyOf c (s.begun c) = .error (.wait ((s.begun c).awaits c) .progress) := by
  rw [bodyOf, hopc]
  exact (State.ctxWaitBody_eq h hm (fun _ => hrun) fun _ => hpath).trans (if_neg (Nat.not_le.mpr hlate))

theorem State.ctxWait_blocks (h : s.ready c) (hopc : c.opc = 0x08) (hm : s.mayAwait c) (hlate : (s.ctx (waitCtxOf c)).progress < waitValOf c)
    (hrun : (s.ctx (waitCtxOf c)).run ≠ .done) {id : Nat} (hid : (s.plate c.plate).ctx = some id) (hrunning : (s.ctx id).run = .running)
    (hpath : (s.begun c).waitPath id (s.ctxs.length + 1) (waitCtxOf c) = none) :
    ∃ t : State, exec (.ctxWait c) s = .next ((t.wake (s.ownerOf c.plate)).settle) ∧
      (t.plate c.plate).waiting = [{ cmd := c, why := .progress, begun := false, mask := 0 }] ∧
      t.ctx id = { s.ctx id with run := .blocked, leaving := true, waitCtx := some (waitCtxOf c), waitVal := waitValOf c,
                                 blockT64 := s.partNow (s.ctx id).part } := by
  have hp := h.2.1
  have hbody := State.ctxWait_waits h hopc hm hlate hrun (fun d hd => by rw [hid] at hd; cases hd; exact hpath)
  have hawaits : (s.begun c).awaits c = (s.begun c).offersPlace c id := by rw [State.awaits, s.begun_plateCtx hp, hid]
  have hctx := s.begun_ctx hp
  obtain ⟨hplates, hvoid, hblocked⟩ := (s.begun c).offersPlace_frame (id := id) c (by rw [hctx]; exact hrunning)
  rw [hawaits] at hbody
  refine ⟨_, State.waits_of_body h (r := (.ctxWait c, 0x08)) (by simp [plateRows]) hopc ?_ (why := .progress) (by decide) (stillRuns_of_voided h hplates hvoid), ?_, ?_⟩
  · rw [hbody]
    rfl
  · have hwait : (((s.begun c).offersPlace c id).plate c.plate).waiting = [waiterOf c] :=
      (congrArg (fun ps => (smapGet (fun _ => Plate.init) c.plate ps).waiting) hplates).trans (s.begun_waiting hp)
    rw [State.setWaiter, State.plate_setPlate_same]
    show List.set _ 0 _ = _
    rw [hwait]
    rfl
  · refine (State.ctx_setPlate ..).trans ?_
    rw [hblocked, hctx, s.begun_partNow hp]

end

/-- Settles O51: each of the sequencer's commands by what its body comes to where it begins. -/
theorem sequencerCommandsRun : Obligations.SequencerCommandsRun := by
  unfold Obligations.SequencerCommandsRun
  intro s c h
  have hp := h.2.1
  have hkept := traysKept_begun s c
  refine ⟨⟨fun hopc => ?_, fun hopc => ?_⟩, fun hopc => ?_, fun hopc => ⟨State.seqAt_runs h hopc, State.seqAt_waits h hopc⟩,
    fun hopc hwin hbound => ⟨fun hopen => ?_, fun hshut => ?_⟩, fun hopc hbars => ?_, fun hopc id q hid hq hne hbar => ?_,
    fun hopc hcond hskip htray hw htop => ?_, fun hopc hcond hskip h16 hw hin hok => ?_,
    fun hopc hval => ⟨fun hnone => ?_, fun id => State.ctxPost_runs h hopc hval⟩,
    fun hopc hbound hpart htakes hfirst hcount => ?_, State.seqFlip_runs h⟩
  · exact State.runs_same _ h (by simp [plateRows]) hopc (by rw [bodyOf, hopc]; rfl)
  · exact State.runs_same _ h (by simp [plateRows]) hopc (by rw [bodyOf, hopc]; rfl)
  · have hover := State.succeed_seqEnd (s := s.begun c) hp hopc (by rw [s.begun_ended hp]; exact h.2.2.2.2.1)
    refine ⟨(s.begun c).succeed c 0, State.runs_of_body h (r := (.seqEnd c, 0x01)) (by simp [plateRows]) hopc (by rw [bodyOf, hopc]; rfl) (stillRuns_begun h),
      fun hnone => hover.1 (by rw [s.begun_plateCtx hp, hnone]), fun id hid hlane => ?_⟩
    obtain ⟨hrun, hctx, -⟩ := hover.2 id (by rw [s.begun_plateCtx hp, hid]) (by rw [s.begun_ctx hp, hlane])
    exact ⟨hrun, hctx⟩
  · refine State.runs_same _ h (by simp [plateRows]) hopc ?_
    rw [bodyOf, hopc]
    exact (State.seqWindowBody_eq h hwin hbound).trans (if_neg (Nat.not_lt.mpr hopen))
  · refine State.waits_intro _ h (by simp [plateRows]) hopc ?_ (by decide) (by decide)
    rw [bodyOf, hopc]
    exact (State.seqWindowBody_eq h hwin hbound).trans (if_pos hshut)
  · obtain ⟨hframe, hother, hin, -⟩ := (s.begun c).atBarrier_frame c
    have hbody : bodyOf c (s.begun c) = .ok ((s.begun c).atBarrier c) := by
      rw [bodyOf, hopc]
      exact (seqBarrierBody_eq c _).trans (if_pos ((State.begun_barrierMet h).mpr hbars))
    exact ⟨_, State.runs_of_body h (r := (.seqBarrier c, 0x05)) (by simp [plateRows]) hopc hbody (State.atBarrier_stillRuns h), hin, hother, hframe⟩
  · obtain ⟨hframe, hother, hin, bs, hplate⟩ := (s.begun c).atBarrier_frame c
    have hbody : bodyOf c (s.begun c) = .error (.wait ((s.begun c).atBarrier c) .barrier) := by
      rw [bodyOf, hopc]
      exact (seqBarrierBody_eq c _).trans (if_neg fun hmet => hbar ((State.begun_barrierMet h).mp hmet id hid q hq hne))
    refine ⟨_, State.waits_of_body h (r := (.seqBarrier c, 0x05)) (by simp [plateRows]) hopc (why := .barrier) (by rw [hbody]; rfl) (by decide)
      (State.atBarrier_stillRuns h), ?_, ?_⟩
    · rw [State.setWaiter, State.plate_setPlate_same]
      exact hin
    · rw [State.setWaiter, State.plate_setPlate_same, hplate]
      show List.set ((s.begun c).plate c.plate).waiting 0 _ = _
      rw [s.begun_waiting hp]
      rfl
  · have hread := State.begun_trayRead (c := c) hp hp hw htop
    have hbody : bodyOf c (s.begun c) = .ok (if decide (ofLe (s.tray c.plate c.trayAddr 4) = 0) == decide (c.le 16 1 = 0) then
        ((s.begun c).noteRead c.plate c.trayAddr 4).skipNext c (c.le 18 2) else (s.begun c).noteRead c.plate c.trayAddr 4) := by
      rw [bodyOf, hopc]
      show seqSkipifBody c (s.begun c) = _
      rw [seqSkipifBody, need_true (decide_eq_true ⟨hcond, hskip, htray⟩), ok_bind, State.trayLe, hread]
      rfl
    obtain ⟨t, hexec, hwork, hother, hyes, hno⟩ := State.runs_skip (.seqSkipif c) h (by simp [plateRows]) hopc hbody (clusterWork_noteRead _ hp _ _ _)
    exact ⟨t, hexec, hwork, hother, fun he => hyes (decide_beq_decide.mpr he), fun hn => hno (mt decide_beq_decide.mp hn)⟩
  · have hbytes := hkept.clBytes c.plate (c.le 16 4) 1088
    have hsheet := State.clSheet_in (s := s.begun c) hp (State.wholeTray_begun hp (by have := clusterAddr_plate c.plate (c.le 16 4); omega) hw) hin
      (by rw [hbytes]; exact hok)
    rw [hbytes] at hsheet
    have hbody : bodyOf c (s.begun c) = .ok (if decide ((sheetOf (s.bytes (clAt c.plate (c.le 16 4)) 1088)).decision = 2) == decide (c.le 20 1 = 0) then
        ((s.begun c).clNote c.plate (c.le 16 4) 1088).skipNext c (c.le 22 2) else (s.begun c).clNote c.plate (c.le 16 4) 1088) := by
      rw [bodyOf, hopc]
      show burnBranchBody c (s.begun c) = _
      rw [burnBranchBody, need_true (decide_eq_true ⟨hcond, hskip, h16⟩), ok_bind, hsheet]
      rfl
    obtain ⟨t, hexec, hwork, hother, hyes, hno⟩ := State.runs_skip (.burnBranch c) h (by simp [plateRows]) hopc hbody (clusterWork_clNote _ hp _ _ _)
    exact ⟨t, hexec, hwork, hother, fun he => hyes (decide_beq_decide.mpr he), fun hn => hno (mt decide_beq_decide.mp hn)⟩
  · refine State.runs_same _ h (by simp [plateRows]) hopc ?_
    rw [bodyOf, hopc]
    show ctxPostBody c (s.begun c) = _
    rw [ctxPostBody, need_true (decide_eq_true hval), ok_bind, s.begun_plateCtx hp, hnone]
  · have hm : s.mayAwait c := ⟨hbound, hpart, htakes, hfirst, hcount⟩
    refine ⟨fun hmet => ?_, fun hlate hrun => ⟨fun hnone => ?_, fun id hid hrunning hpath => State.ctxWait_blocks h hopc hm hlate hrun hid hrunning hpath⟩⟩
    · refine State.runs_same _ h (by simp [plateRows]) hopc ?_
      rw [bodyOf, hopc]
      exact (State.ctxWaitBody_eq h hm (fun hlate => absurd hmet (Nat.not_le.mpr hlate)) fun hlate => absurd hmet (Nat.not_le.mpr hlate)).trans (if_pos hmet)
    · have hbody := State.ctxWait_waits h hopc hm hlate hrun (fun id hid => by rw [hnone] at hid; cases hid)
      have hawaits : (s.begun c).awaits c = s.begun c := by rw [State.awaits, s.begun_plateCtx hp, hnone]
      rw [hawaits] at hbody
      exact State.waits_intro _ h (by simp [plateRows]) hopc hbody (by decide) (by decide)

end Sys2Proof.Machine
end

section
/-! DMA into a tray: TRAY_FILL (R155, R160, R169): O57. -/

namespace Sys2Proof.Machine

/-! ### Ranges of one tray window -/

/-- No address of a tray is one of HBM or of the Drawer. -/
theorem not_hbm_drawer_of_tray {a : Nat} (h : trayBase ≤ a) : isHbm a = false ∧ isDrawer a = false := by
  rw [trayBase] at h
  rw [isHbm, isDrawer, decide_eq_false_iff_not, decide_eq_false_iff_not, drawerBase]
  omega

/-- Lines and blocks that a range of a tray touches lie in trays. -/
theorem linesOf_ge {a n l : Nat} (ha : trayBase ≤ a) (h : l ∈ linesOf a n) : trayBase ≤ l := by
  rw [trayBase] at *
  unfold linesOf at h
  split at h
  · cases h
  · obtain ⟨i, -, rfl⟩ := List.mem_map.mp h
    omega

theorem blocksOf_ge {a n b : Nat} (ha : trayBase ≤ a) (h : b ∈ blocksOf a n) : trayBase ≤ b := by
  rw [trayBase] at *
  unfold blocksOf at h
  split at h
  · cases h
  · obtain ⟨i, -, rfl⟩ := List.mem_map.mp h
    omega

theorem trayBase_le_trayAddr (p o : Nat) : trayBase ≤ trayAddr p o := by
  rw [trayAddr, Nat.add_assoc]
  exact Nat.le_add_right ..

section
variable {s t : State} {a n p : Nat}

/-- R316: no stack holds an access of a tray. -/
theorem State.held_tray (ha : trayBase ≤ a) : s.held a n = false :=
  List.any_eq_false.mpr fun b hb => by simp [State.stackHolds, (not_hbm_drawer_of_tray (blocksOf_ge ha hb)).1]

/-- R162: every line of a tray takes a write. -/
theorem State.badWriteLine_tray (ha : trayBase ≤ a) : s.badWriteLine a n = none :=
  List.find?_eq_none.mpr fun l hl => by simp [State.stackOffline, (not_hbm_drawer_of_tray (linesOf_ge ha hl)).1]

/-- A write that lands in a tray passes no buffer of a stack, and is not counted. -/
theorem State.land_tray (ha : trayBase ≤ a) (bs : List Nat) : s.land a bs = s.write a bs := by
  obtain ⟨hh, hd⟩ := not_hbm_drawer_of_tray ha
  simp [State.land, State.noteFills, State.settleLines, State.noteWritten, hh, hd]

/-- R169: tags set change nothing but tags. -/
theorem State.validTags_frame (s : State) (a n : Nat) : s.validTags a n = { s with tags := (s.validTags a n).tags } := by
  unfold State.validTags
  split
  · generalize (wholeBlocks a n).filter s.tagged = bs
    induction bs generalizing s with
    | nil => rfl
    | cons b bs ih =>
      rw [List.foldl_cons, ih]
      rfl
  · rfl

/-! ### The checks of a DMA write where its unit begins (R11, R157, R163, R271) -/

theorem SameSetup.exists_ (h : SameSetup s t) (hn : n < 16) : t.exists_ n = s.exists_ n := by
  rw [State.exists_, State.exists_, h.partGet (f := fPART_STAT_STATE) (by decide) hn]

theorem SameSetup.ownsCluster (h : SameSetup s t) (n c : Nat) : t.ownsCluster n c = s.ownsCluster n c := by
  rw [State.ownsCluster, State.ownsCluster, h.layout]

theorem SameSetup.reserved (h : SameSetup s t) : t.reserved = s.reserved := by
  have e : t.reg (fldAddr fGLOBAL_ZD_RSV_RSV_GIB 0 0) = s.reg (fldAddr fGLOBAL_ZD_RSV_RSV_GIB 0 0) :=
    h _ (by decide) (fun q _ => by
      simp only [fldAddr, fGLOBAL_ZD_RSV_RSV_GIB, fTRAY_ECC_STAT_CE, blockBase]
      omega) (by simp [fldAddr, fGLOBAL_ZD_RSV_RSV_GIB, fDENS_STAT_SAMPLES_DROPPED, blockBase])
  rw [State.reserved, State.reserved, State.g, State.g, State.get, State.get, e]

theorem SameSetup.hitsTagStore (h : SameSetup s t) (a len : Nat) : t.hitsTagStore a len = s.hitsTagStore a len := by
  have htag : t.tagStore = s.tagStore := congrArg (fun r => drawerBase + r - 2 ^ 29) h.reserved
  unfold State.hitsTagStore
  rw [h.reserved, htag]

theorem SameSetup.inHbm (h : SameSetup s t) (hn : n < 16) (a len : Nat) : t.inHbm n a len = s.inHbm n a len := by
  rw [State.inHbm, State.inHbm, State.hbmLo, State.hbmLo, State.hbmSize, State.hbmSize, h.partGet (f := fPART_HBM_BASE_2M) (by decide) hn,
    h.partGet (f := fPART_HBM_SIZE_2M) (by decide) hn]

theorem SameSetup.inTrays (h : SameSetup s t) (a len : Nat) : t.inTrays n a len = s.inTrays n a len := by
  simp only [State.inTrays, h.ownsCluster]

theorem SameSetup.inDrw (h : SameSetup s t) (hn : n < 16) (a len : Nat) : t.inDrw n a len = s.inDrw n a len := by
  rw [State.inDrw, State.inDrw, h.exists_ hn, State.drwLo, State.drwLo, State.drwSize, State.drwSize, h.reserved,
    h.partGet (f := fPART_DRW_CFG_OFFSET_4K) (by decide) hn, h.partGet (f := fPART_DRW_CFG_SIZE_4K) (by decide) hn]

/-- R11: the range check of a plate command. -/
theorem SameSetup.granted (h : SameSetup s t) (hn : n < 16) (a len : Nat) (isRead : Bool) : t.granted n a len isRead = s.granted n a len isRead := by
  rw [State.granted, State.granted, h.exists_ hn, h.inHbm hn, h.inTrays, h.hitsTagStore, h.partGet (f := fPART_STEP_ADDR) (by decide) hn]

/-- R11, R157: the range check of a DMA command. -/
theorem SameSetup.dmaGranted (h : SameSetup s t) (hn : n < 16) (a len : Nat) (isRead : Bool) : t.dmaGranted n a len isRead = s.dmaGranted n a len isRead := by
  rw [State.dmaGranted, State.dmaGranted, h.granted hn, h.inDrw hn]

/-- An array setting of a partition reads the same. -/
theorem SameSetup.partGetAt (h : SameSetup s t) {f : Fld} {j : Nat} (hb : f.blk = .part) (ho : f.off + f.stride * j < 0x8000) (hn : n < 16) :
    t.get f n j = s.get f n j := by
  have e : fldAddr f n j = 0x0F0090000000 + n * 0x10000 + (f.off + f.stride * j) := by simp [fldAddr, hb, blockBase, Nat.add_assoc]
  rw [State.get, State.get, e, h.reg_of_place ho (.inr ⟨rfl, hn⟩)]

/-- R271: the active generation of a partition. -/
theorem SameSetup.hitsActiveGen (h : SameSetup s t) (hn : n < 16) (a len : Nat) : t.hitsActiveGen n a len = s.hitsActiveGen n a len := by
  have hgen : t.get fPART_STAT_GEN n 0 = s.get fPART_STAT_GEN n 0 := h.partGet (by decide) hn
  have hlt : s.get fPART_STAT_GEN n 0 < 2 := fieldOf_lt _ _ 1
  have hbase : t.get fPART_TRAIN_BASE_2M n (s.get fPART_STAT_GEN n 0) = s.get fPART_TRAIN_BASE_2M n (s.get fPART_STAT_GEN n 0) :=
    h.partGetAt rfl (show 0x68 + 8 * _ < 0x8000 by omega) hn
  have hsize : t.get fPART_TRAIN_SIZE_2M n (s.get fPART_STAT_GEN n 0) = s.get fPART_TRAIN_SIZE_2M n (s.get fPART_STAT_GEN n 0) :=
    h.partGetAt rfl (show 0x68 + 8 * _ < 0x8000 by omega) hn
  simp only [State.hitsActiveGen, hgen, hbase, hsize, h.partGet (f := fPART_LAYOUT_KIND) (by decide) hn]

theorem SameSetup.hashMode (h : SameSetup s t) (p : Nat) : t.hashMode p = s.hashMode p := by
  rw [State.hashMode, State.hashMode, h.partOfPlate]
  cases e : s.partOfPlate p with
  | none => rfl
  | some n => exact congrArg (decide <| · = 1) (h.partGet (f := fPART_TRAY_CFG_HASH) (by decide) (State.partOfPlate_lt e))

/-- R163: which banks of one window sleep. -/
theorem SameSetup.sleepAt (h : SameSetup s t) (hp : p < 128) {o len : Nat} (ho : o + len ≤ trayWin) :
    t.sleepAt (trayAddr p o) len = s.sleepAt (trayAddr p o) len := by
  unfold State.sleepAt
  split
  · refine List.find?_congr fun l hl => ?_
    rw [(linesOf_tray hp ho hl).2, h.hashMode, State.bankAwake, State.bankAwake, h.plateGet (f := fTRAY_PWR_AWAKE_AWAKE) (by decide) hp]
  · rfl

/-- R155–R160, R169: a DMA write that passes its checks lands in its tray, whole blocks tagged VALID. -/
theorem State.dmaLand_tray {bs : List Nat} (ha : trayBase ≤ a) (hg : s.dmaGranted n a bs.length false = true) (hgen : s.hitsActiveGen n a bs.length = false)
    (hsleep : s.sleepAt a bs.length = none) : s.dmaLand n a bs = .ok ((s.write a bs).validTags a bs.length) := by
  rw [State.dmaLand, hg, State.held_tray ha, hgen, hsleep, State.badWriteLine_tray ha, State.land_tray ha]
  rfl

end

/-! ### TRAY_FILL (R160) -/

/-- The bytes that TRAY_FILL writes. -/
def fillBytes (c : PlateCmd) : List Nat := (List.range (dmaLen c)).map (fun i => c.le (16 + i % 4) 1)

theorem fillBytes_length (c : PlateCmd) : (fillBytes c).length = dmaLen c := by simp [fillBytes]

/-- Byte `i % 4` of PATTERN. -/
theorem pattern_byte (c : PlateCmd) {k : Nat} (hk : k < 4) : c.le (16 + k) 1 = c.le 16 4 / 256 ^ k % 256 := by
  rw [PlateCmd.le, PlateCmd.le, bitsOf, bitsOf, Nat.mul_add, Nat.shiftRight_add]
  generalize c.word.toNat >>> (8 * 16) = v
  rw [Nat.shiftRight_eq_div_pow]
  match k, hk with
  | 0, _ => omega
  | 1, _ => omega
  | 2, _ => omega
  | 3, _ => omega

/-- Bytes written change memory, lines and tags alone. -/
theorem State.write_frame (s : State) (a : Nat) (bs : List Nat) :
    s.write a bs = { s with mem := (s.write a bs).mem, lineErr := (s.write a bs).lineErr, tags := (s.write a bs).tags } := by
  have hw : s.write a bs = { (s.healLines a bs.length).staleTags a bs.length with mem := (s.write a bs).mem } := rfl
  rw [hw, State.staleTags_frame, State.healLines_frame]

theorem UnitWork.withTags {s t : State} {dest : Nat → Prop} (h : UnitWork s t dest) (tags : SMap BlockTag) : UnitWork s { t with tags := tags } dest := by
  obtain ⟨hframe, hreg, hmem⟩ := h
  exact ⟨by rw [hframe], hreg, hmem⟩

/-- R160: what TRAY_FILL leaves. -/
def State.filled (s : State) (c : PlateCmd) : State :=
  ((s.write (trayAddr c.plate c.trayAddr) (fillBytes c)).validTags (trayAddr c.plate c.trayAddr) (dmaLen c)).staleTags
    (trayAddr c.plate c.trayAddr) (dmaLen c)

theorem State.fillTags_frame (s : State) (a n : Nat) : (s.validTags a n).staleTags a n = { s with tags := ((s.validTags a n).staleTags a n).tags } := by
  have hv := s.validTags_frame a n
  generalize s.validTags a n = v at hv ⊢
  rw [v.staleTags_frame, hv]

theorem State.filled_eq (s : State) (c : PlateCmd) : s.filled c = { s.write (trayAddr c.plate c.trayAddr) (fillBytes c) with tags := (s.filled c).tags } :=
  State.fillTags_frame _ _ _

theorem State.filled_places (s : State) (c : PlateCmd) : (s.filled c).regs = s.regs ∧ (s.filled c).plates = s.plates ∧ (s.filled c).parts = s.parts := by
  rw [State.filled_eq, State.write_frame]
  exact ⟨rfl, rfl, rfl⟩

theorem State.filled_byte (s : State) (c : PlateCmd) {i : Nat} (hi : i < dmaLen c) :
    (s.filled c).byte (trayAddr c.plate c.trayAddr + i) = c.le 16 4 / 256 ^ (i % 4) % 256 := by
  have hlen : i < (fillBytes c).length := by rwa [fillBytes_length]
  have hb : (fillBytes c).getD i 0 = c.le (16 + i % 4) 1 := by simp [fillBytes, hi]
  rw [State.filled_eq]
  show ((s.write _ _).mem.get _).toNat = _
  rw [State.write_mem, Memory.get_write_in _ _ _ _ hlen, hb, pattern_byte c (Nat.mod_lt _ (by decide)), BitVec.toNat_ofNat]
  exact Nat.mod_mod _ _

theorem State.trayFillBody_ok {s : State} {c : PlateCmd} (h : s.ready c) (hok : dmaOk c c.trayAddr = true)
    (hw : s.dmaWritable (s.ownerOf c.plate) (trayAddr c.plate c.trayAddr) (dmaLen c)) : trayFillBody c (s.begun c) = .ok ((s.begun c).filled c) := by
  obtain ⟨-, hp, hn, -⟩ := h
  obtain ⟨hg, -, hgen, hsleep, -⟩ := hw
  have hset := sameSetup_begun s hp
  have ho : c.trayAddr + dmaLen c ≤ trayWin := (of_decide_eq_true hok).2.2.2.2
  rw [← hset.dmaGranted hn, ← fillBytes_length] at hg
  rw [← hset.hitsActiveGen hn, ← fillBytes_length] at hgen
  rw [← hset.sleepAt hp ho, ← fillBytes_length] at hsleep
  have hland := State.dmaLand_tray (trayBase_le_trayAddr ..) hg hgen hsleep
  rw [trayFillBody, need_true hok, ok_bind, hset.ownerOf]
  show (State.dmaLand _ _ _ (fillBytes c) >>= _) = _
  rw [hland, fillBytes_length]
  rfl

/-- Settles O57: the pattern's bytes land whole in the plate's tray, and nothing else changes but lines and tags. -/
theorem trayFillRepeatsItsPattern : Obligations.TrayFillRepeatsItsPattern := by
  unfold Obligations.TrayFillRepeatsItsPattern
  intro s c len h hopc hlen h16 hmax hmod htray hend hw
  subst hlen
  have hok : dmaOk c c.trayAddr = true := decide_eq_true ⟨h16, hmax, hmod, htray, hend⟩
  obtain ⟨hregs, hplates, hparts⟩ := (s.begun c).filled_places c
  have hplate : ((s.begun c).filled c).plate c.plate = (s.begun c).plate c.plate := congrArg (smapGet _ c.plate) hplates
  have hwork : UnitWork (s.begun c) ((s.begun c).filled c) (fun a => trayAddr c.plate c.trayAddr ≤ a ∧ a < trayAddr c.plate c.trayAddr + dmaLen c) := by
    have hwrite := (clusterWork_write (s.begun c) (trayAddr c.plate c.trayAddr) (fillBytes c)).1
    rw [fillBytes_length] at hwrite
    rw [State.filled_eq]
    exact hwrite.withTags _
  refine State.runs_intro _ h (by simp [plateRows]) hopc ?_ (congrArg Plate.ctx hplate) (congrArg Plate.ended hplate) hparts
    ⟨fun i hi => State.filled_byte _ c hi, hregs, hwork⟩
  rw [bodyOf, hopc]
  exact State.trayFillBody_ok h hok hw

end Sys2Proof.Machine
end

section
/-! Semaphores at the gate and at the completion of a plate command (R149–R151, R153): O50. -/

namespace Sys2Proof.Machine

/-! ### Where nothing fails (R405) -/

/-- R405, R406: where no weight repair has failed and partitions are as before, nothing is taken offline. -/
theorem State.settle_of_parts {s t : State} (hs : s.settled) (ht : t.parts = s.parts) : t.settle = t := by
  have hnone : (List.range 16).filter (fun n => (t.prt n).repairFailed) = [] := List.filter_eq_nil_iff.mpr fun n hn => by
    rw [State.prt, ht]
    exact Bool.eq_false_iff.mp (hs n (List.mem_range.mp hn))
  rw [State.settle, hnone]
  rfl

/-! ### Semaphores (R149) -/

section
variable (s : State)

@[simp] theorem State.sem_setSem_same (p i v : Nat) : (s.setSem p i v).sem p i = v := by
  rw [State.sem, State.setSem, State.plate_setPlate_same]
  exact smapGet_set_same ..

theorem State.sem_setSem_ne {p i j : Nat} (h : i ≠ j) (v : Nat) : (s.setSem p i v).sem p j = s.sem p j := by
  rw [State.sem, State.setSem, State.plate_setPlate_same]
  exact smapGet_set_ne _ h _ _

/-- A semaphore that is set leaves what waits. -/
@[simp] theorem State.waiting_setSem (p i v : Nat) : ((s.setSem p i v).plate p).waiting = (s.plate p).waiting := by
  rw [State.setSem, State.plate_setPlate_same]

/-- Logging leaves plates alone. -/
theorem State.plate_log (e : Ev) (p : Nat) : (s.log e).plate p = s.plate p := congrArg (smapGet _ p) (beside_plates (beside_log s e))

/-- R149: a signal raises its semaphore, which sticks at 65,535, and leaves the others and what waits. -/
theorem State.signal_raises (p i k : Nat) : (s.signal p i k).sem p i = min (s.sem p i + k) 65535 ∧ (∀ j, j ≠ i → (s.signal p i k).sem p j = s.sem p j) ∧
    ((s.signal p i k).plate p).waiting = (s.plate p).waiting := by
  unfold State.signal
  split
  · rename_i hsat
    refine ⟨?_, fun j hj => ?_, ?_⟩
    · rw [State.sem, State.plate_log, ← State.sem, State.sem_setSem_same]
      omega
    · rw [State.sem, State.plate_log, ← State.sem, State.sem_setSem_ne _ (Ne.symm hj)]
    · rw [State.plate_log, State.waiting_setSem]
  · rename_i hroom
    refine ⟨?_, fun j hj => State.sem_setSem_ne _ (Ne.symm hj) _, State.waiting_setSem ..⟩
    rw [State.sem_setSem_same]
    omega

end

section
variable {s : State} {c : PlateCmd}

/-! ### A command that has no effect (R129, R261) -/

theorem wfPlateCmd_of_opc {opc : Nat} (hp : c.plate < 128) (hc : c.opc = opc) : wfPlateCmd opc c = true := by
  have hopc : c.word.toNat % 256 = opc := by rw [← hc]; simp [PlateCmd.opc, PlateCmd.le, bitsOf]
  simp [wfPlateCmd, hp, hopc]

/-- A row's command is issued with the row's body. -/
theorem exec_issues (i : Instr) {opc : Nat} (hl : s.live = true) (hp : c.plate < 128) (hr : (i, opc) ∈ plateRows c) (hc : c.opc = opc) :
    ∃ body, exec i s = .next ((s.issue c body).settle) := by
  obtain ⟨m, body, he, -⟩ := exec_plateRow hr s
  exact ⟨_, he.trans (State.answer_live _ _ _ _ hl (wfPlateCmd_of_opc hp hc))⟩

/-- R261: a command of a plate in no partition has no effect. -/
theorem State.issue_unowned (h : 16 ≤ s.ownerOf c.plate) (body : PlateCmd → State → Except Stop State) : s.issue c body = s := by
  simp [State.issue, h]

/-- R129: a command that a branch passes over is no longer among the fetched ones. -/
theorem State.issue_skipped (hn : s.ownerOf c.plate < 16) (hended : (s.plate c.plate).ended = false)
    (hv : (s.prt (s.ownerOf c.plate)).voided = false) (hskip : c.index < (s.plate c.plate).skip) (body : PlateCmd → State → Except Stop State) :
    s.issue c body = s.setPlate c.plate { s.plate c.plate with
      fetched := (s.plate c.plate).fetched.filter (fun f => decide (f.1 ≠ c.index)) } := by
  simp [State.issue, Nat.not_le.mpr hn, hended, hv, hskip]

/-! ### The gate (R149) -/

/-- R149: a command that could begin but for its semaphore comes to its gate at once. -/
theorem State.issue_atGate (h : s.ready { c with word := 0 }) (body : PlateCmd → State → Except Stop State) :
    s.issue c body = (((s.queued c).tried c.plate 0 (waiterOf c) (((s.queued c).gate c []).bind fun t => heldWhole t (body c t))).getD (s.queued c)).wake
      (s.ownerOf c.plate) := by
  obtain ⟨-, hp, hn, hv, hended, hw, hskip, hissue, -⟩ := h
  have hp : c.plate < 128 := hp
  have hskip : (s.plate c.plate).skip ≤ c.index := hskip
  have hrun : (decide (16 ≤ s.ownerOf c.plate) || (s.plate c.plate).ended || (s.prt (s.ownerOf c.plate)).voided) = false := by
    simp [show (s.prt (s.ownerOf c.plate)).voided = false from hv, show (s.plate c.plate).ended = false from hended, show s.ownerOf c.plate < 16 from hn]
  have hmay : (s.queued c).mayIssue c.plate = true := (begins_queued s hp).mayIssue.trans hissue
  obtain ⟨g, e⟩ := s.queued_plate hp
  have hwait : ((s.queued c).plate c.plate).waiting = [waiterOf c] := by rw [e]; rfl
  have htry : (s.queued c).tryWaiter c.plate 0 body =
      (s.queued c).tried c.plate 0 (waiterOf c) (((s.queued c).gate c []).bind fun t => heldWhole t (body c t)) := by
    rw [State.tryWaiter, hwait]
    simp only [List.getElem?_cons_zero, List.take_zero, hmay, waiterOf, atGate]
    rfl
  rw [← htry]
  simp only [State.issue, hrun, Nat.not_lt.mpr hskip, show (s.plate c.plate).waiting = [] from hw, if_false, Bool.false_eq_true]
  rfl

/-- R149: a semaphore whose count is too small holds the command at its gate. -/
theorem State.gate_short (hp : c.plate < 128) (hs : s.staticMode c.plate = false) (hw : c.waitSem = true) (hcnt : c.waitCnt ≠ 0)
    (hshort : s.sem c.plate c.waitIdx < c.waitCnt) : (s.queued c).gate c [] = .error (.wait (s.queued c) .sem) := by
  have hstatic : (s.queued c).staticMode c.plate = false := ((begins_queued s hp).sameSetup.staticMode c.plate).trans hs
  have hsem : (s.queued c).sem c.plate c.waitIdx = s.sem c.plate c.waitIdx := by
    obtain ⟨g, e⟩ := s.queued_plate hp
    rw [State.sem, e]
    rfl
  have hgroup : (s.queued c).groupGate c [] = .ok (s.queued c) := by simp [State.groupGate, waitsOnGroups]
  simp only [State.gate, issueHeld, unitBusy, List.any_nil, List.filter_nil, List.isEmpty_nil, List.length_nil, hgroup, Bool.or_self,
    Bool.not_true, Bool.and_false, Bool.false_eq_true, if_false, show ¬ 4 ≤ 0 by decide, decide_false, ite_self, ok_bind]
  simp [State.semGate, hstatic, hw, hcnt, hsem, hshort]

theorem stillRuns_same (h : (s.plate c.plate).ended = false) : stillRuns s s c.plate = true := by simp [stillRuns, h]

/-! ### The state in which a command without a tag begins, and its completion (R149, R482) -/

theorem State.queued_untagged (ht : c.tag = false) : s.queued c = s.setPlate c.plate ((s.plate c.plate).issued c) := by
  simp [State.queued, ht]

/-- Only its plate knows of a command without a tag. -/
theorem State.begun_untagged (ht : c.tag = false) : s.begun c = { s with plates := (s.begun c).plates } ∧
    ((s.begun c).plate c.plate).tagged = (s.plate c.plate).tagged ∧ ((s.begun c).plate c.plate).waiting = [waiterOf c] := by
  have hplate : (s.queued c).plate c.plate = (s.plate c.plate).issued c := by rw [State.queued_untagged ht, State.plate_setPlate_same]
  have hq : s.queued c = { s with plates := (s.queued c).plates } := by rw [State.queued_untagged ht]; rfl
  rw [State.begun_eq]
  split
  · refine ⟨?_, ?_, ?_⟩
    · generalize s.queued c = q at hq ⊢
      rw [hq]
      rfl
    · rw [State.setSem, State.plate_setPlate_same, hplate]
      rfl
    · rw [State.waiting_setSem, hplate]
      rfl
  · exact ⟨hq, by rw [hplate]; rfl, by rw [hplate]; rfl⟩

theorem State.queued_sem (ht : c.tag = false) (i : Nat) : (s.queued c).sem c.plate i = s.sem c.plate i := by
  rw [State.queued_untagged ht, State.sem, State.plate_setPlate_same]
  rfl

/-- R149: a command that waits for a semaphore takes its count. -/
theorem State.begun_takes (ht : c.tag = false) (hw : c.waitSem = true) (hs : s.staticMode c.plate = false) :
    (s.begun c).sem c.plate c.waitIdx = s.sem c.plate c.waitIdx - c.waitCnt ∧ ∀ i, i ≠ c.waitIdx → (s.begun c).sem c.plate i = s.sem c.plate i := by
  rw [State.begun_eq, hw, hs, if_pos (by decide)]
  exact ⟨by rw [State.sem_setSem_same, State.queued_sem ht], fun i hi => by rw [State.sem_setSem_ne _ (Ne.symm hi), State.queued_sem ht]⟩

/-- R149, R153: without a wait, or in STATIC mode, no semaphore changes. -/
theorem State.begun_keepsSems (ht : c.tag = false) (h : (c.waitSem && !s.staticMode c.plate) = false) (i : Nat) :
    (s.begun c).sem c.plate i = s.sem c.plate i := by
  rw [State.begun_eq, h, if_neg (by decide), State.queued_sem ht]

/-- The waiting command leaves its plate's queue. -/
theorem State.dropWaiter_plate (s : State) (p i : Nat) : (s.dropWaiter p i).plate p = { s.plate p with waiting := (s.plate p).waiting.eraseIdx i } :=
  State.plate_setPlate_same ..

theorem State.dropWaiter_sem (s : State) (p i j : Nat) : (s.dropWaiter p i).sem p j = s.sem p j := by
  rw [State.sem, State.dropWaiter_plate]
  rfl

/-- R149: a SEQ_NOP whose position no tag follows completes with its signal. -/
theorem State.succeed_seqNop (hopc : c.opc = 0x00) (htag : ∀ g ∈ (s.plate c.plate).tagged, g.index ≠ c.index) :
    s.succeed c 0 = (s.dropWaiter c.plate 0).signalOf c := by
  have hserved : ∀ t : State, t.noteServed c = t := fun t => by simp [State.noteServed, State.serverOf, unitOf, hopc]
  have hgive : ∀ t : State, t.giveSignal c = t.signalOf c := fun t => by simp [State.giveSignal, State.signalWaits, signalsInOrder, hopc]
  have hfind : ((s.dropWaiter c.plate 0).plate c.plate).tagged.find? (fun g => decide (g.index = c.index)) = none := by
    rw [State.dropWaiter_plate]
    exact List.find?_eq_none.mpr fun g hg => by simpa using htag g hg
  have huntag : (s.dropWaiter c.plate 0).untag c = s.dropWaiter c.plate 0 := by
    unfold State.untag
    dsimp only
    rw [hfind]
  simp [State.succeed, State.finishCmd, unitOf, hopc, hserved, hgive, huntag]

/-- R149: a SEQ_NOP that is ready runs; nothing follows it but its signal. -/
theorem State.seqNop_runs (h : s.ready c) (hopc : c.opc = 0x00) (ht : c.tag = false) (htag : ∀ g ∈ (s.plate c.plate).tagged, g.index ≠ c.index) :
    exec (.seqNop c) s = .next ((((((s.begun c).dropWaiter c.plate 0).signalOf c).wake (s.ownerOf c.plate))).settle) := by
  obtain ⟨-, htagged, -⟩ := State.begun_untagged (s := s) ht
  rw [← State.succeed_seqNop hopc (by rw [htagged]; exact htag)]
  exact State.runs_of_body h (r := (.seqNop c, 0x00)) (by simp [plateRows]) hopc (by rw [bodyOf, hopc]; rfl) (stillRuns_begun h)

/-! ### SEQ_NOP at its semaphores -/

/-- R149: a command that could begin but for its semaphore waits for it, and takes nothing. -/
theorem State.seqNop_short (h : s.ready { c with word := 0 }) (hopc : c.opc = 0x00) (ht : c.tag = false) (hs : s.staticMode c.plate = false)
    (hw : c.waitSem = true) (hcnt : c.waitCnt ≠ 0) (hshort : s.sem c.plate c.waitIdx < c.waitCnt) :
    ∃ t : State, exec (.seqNop c) s = .next ((t.wake (s.ownerOf c.plate)).settle) ∧
      (t.plate c.plate).waiting = [{ cmd := c, why := .sem, begun := false, mask := 0 }] ∧ ∀ i, t.sem c.plate i = s.sem c.plate i := by
  have hl := h.1
  have hp : c.plate < 128 := h.2.1
  have hended : (s.plate c.plate).ended = false := h.2.2.2.2.1
  obtain ⟨body, hexec⟩ := exec_issues (s := s) (.seqNop c) hl hp (by simp [plateRows]) hopc
  have hplate : (s.queued c).plate c.plate = (s.plate c.plate).issued c := by rw [State.queued_untagged ht, State.plate_setPlate_same]
  have hst : stillRuns (s.queued c) (s.queued c) c.plate = true := stillRuns_same (by rw [hplate]; exact hended)
  have htry : (s.queued c).tried c.plate 0 (waiterOf c) (((s.queued c).gate c []).bind fun t => heldWhole t (body c t)) =
      some ((s.queued c).setWaiter c.plate 0 { waiterOf c with why := .sem }) := by
    rw [State.gate_short hp hs hw hcnt hshort]
    show (if WaitWhy.sem = (waiterOf c).why then none else some (if stillRuns (s.queued c) (s.queued c) c.plate then _ else _)) = _
    rw [if_neg (by exact nofun), hst]
    rfl
  rw [State.issue_atGate h, htry, Option.getD_some] at hexec
  refine ⟨_, hexec, ?_, fun i => ?_⟩
  · rw [State.setWaiter, State.plate_setPlate_same, hplate]
    rfl
  · rw [State.sem, State.setWaiter, State.plate_setPlate_same]
    exact State.queued_sem ht i

/-- What waited alone has left its plate's queue. -/
theorem State.begun_left (ht : c.tag = false) : (((s.begun c).dropWaiter c.plate 0).plate c.plate).waiting = [] := by
  obtain ⟨-, -, hwait⟩ := State.begun_untagged (s := s) ht
  rw [State.dropWaiter_plate, hwait]
  rfl

theorem State.begun_left_frame (ht : c.tag = false) :
    (s.begun c).dropWaiter c.plate 0 = { s with plates := ((s.begun c).dropWaiter c.plate 0).plates } := by
  obtain ⟨hframe, -⟩ := State.begun_untagged (s := s) ht
  generalize s.begun c = b at hframe ⊢
  rw [hframe]
  rfl

/-- R149, R153: a SEQ_NOP that gives no signal changes its plate alone. -/
theorem State.seqNop_noSignal (h : s.ready c) (hopc : c.opc = 0x00) (ht : c.tag = false) (htag : ∀ g ∈ (s.plate c.plate).tagged, g.index ≠ c.index)
    (hsig : c.signalSem = false ∨ s.staticMode c.plate = true) :
    ∃ t : State, exec (.seqNop c) s = .next ((t.wake (s.ownerOf c.plate)).settle) ∧ (∀ i, t.sem c.plate i = (s.begun c).sem c.plate i) ∧
      (t.plate c.plate).waiting = [] ∧ t = { s with plates := t.plates } := by
  have hexec := State.seqNop_runs h hopc ht htag
  have hstatic : ((s.begun c).dropWaiter c.plate 0).staticMode c.plate = s.staticMode c.plate := (sameSetup_begun s h.2.1).staticMode c.plate
  have hquiet : ((s.begun c).dropWaiter c.plate 0).signalOf c = (s.begun c).dropWaiter c.plate 0 := by
    rcases hsig with hsig | hsig
    · simp [State.signalOf, hsig]
    · simp [State.signalOf, hstatic, hsig]
  rw [hquiet] at hexec
  exact ⟨_, hexec, fun i => State.dropWaiter_sem .., State.begun_left ht, State.begun_left_frame ht⟩

/-- R149: a SEQ_NOP that waits for nothing signals its semaphore. -/
theorem State.seqNop_signals (h : s.ready c) (hopc : c.opc = 0x00) (ht : c.tag = false) (htag : ∀ g ∈ (s.plate c.plate).tagged, g.index ≠ c.index)
    (hs : s.staticMode c.plate = false) (hw : c.waitSem = false) (hsig : c.signalSem = true) (hcnt : c.sigCnt ≠ 0) :
    ∃ t : State, exec (.seqNop c) s = .next ((t.wake (s.ownerOf c.plate)).settle) ∧
      t.sem c.plate c.sigIdx = min (s.sem c.plate c.sigIdx + c.sigCnt) 65535 ∧ (t.plate c.plate).waiting = [] ∧
      ∀ i, i ≠ c.sigIdx → t.sem c.plate i = s.sem c.plate i := by
  have hexec := State.seqNop_runs h hopc ht htag
  have hstatic : ((s.begun c).dropWaiter c.plate 0).staticMode c.plate = s.staticMode c.plate := (sameSetup_begun s h.2.1).staticMode c.plate
  have hkeep : ∀ i, ((s.begun c).dropWaiter c.plate 0).sem c.plate i = s.sem c.plate i := fun i => by
    rw [State.dropWaiter_sem, State.begun_keepsSems ht (by rw [hw]; rfl)]
  have hsignal : ((s.begun c).dropWaiter c.plate 0).signalOf c = ((s.begun c).dropWaiter c.plate 0).signal c.plate c.sigIdx c.sigCnt := by
    simp [State.signalOf, hsig, hstatic, hs, hopc, hcnt]
  rw [hsignal] at hexec
  obtain ⟨hraised, hothers, hwaiting⟩ := ((s.begun c).dropWaiter c.plate 0).signal_raises c.plate c.sigIdx c.sigCnt
  exact ⟨_, hexec, by rw [hraised, hkeep], hwaiting.trans (State.begun_left ht), fun i hi => (hothers i hi).trans (hkeep i)⟩

/-- A command that could begin but for its semaphore, and finds its count there, is ready. -/
theorem State.ready_of_count (h : s.ready { c with word := 0 }) (hsem : c.waitSem = true → s.staticMode c.plate = true ∨
    (0 < c.waitCnt ∧ c.waitCnt ≤ s.sem c.plate c.waitIdx)) : s.ready c := by
  obtain ⟨hl, hp, hn, hv, hended, hw, hskip, hissue, -⟩ := h
  exact ⟨hl, hp, hn, hv, hended, hw, hskip, hissue, hsem⟩

end

/-- Settles O50: a command without effect by how it is issued, the others by what their gate lets through and what their signal does. -/
theorem semaphoresGateCommands : Obligations.SemaphoresGateCommands := by
  unfold Obligations.SemaphoresGateCommands
  intro s c hl hp hopc
  obtain ⟨body, hexec⟩ := exec_issues (s := s) (.seqNop c) hl hp (by simp [plateRows]) hopc
  refine ⟨fun hout hset => ?_, fun hn hended hv hskip hset => ?_, fun h ht htag hs => ⟨State.seqNop_short h hopc ht hs,
    fun hw hcnt hthere hsig => ?_, fun hw hsig hcnt => ?_⟩, fun h ht htag hs => ?_⟩
  · rw [hexec, State.issue_unowned hout, State.settle_of_parts hset rfl]
  · rw [hexec, State.issue_skipped hn hended hv hskip, State.settle_of_parts hset (State.setPlate_parts ..)]
  · have hready := State.ready_of_count h fun _ => .inr ⟨Nat.pos_of_ne_zero hcnt, hthere⟩
    obtain ⟨htaken, hothers⟩ := State.begun_takes ht hw hs
    obtain ⟨t, he, hsems, hwaiting, hframe⟩ := State.seqNop_noSignal hready hopc ht htag (.inl hsig)
    exact ⟨t, he, (hsems _).trans htaken, hwaiting, fun i hi => (hsems i).trans (hothers i hi), hframe⟩
  · exact State.seqNop_signals (State.ready_of_count h fun hwait => absurd hwait (by rw [hw]; exact nofun)) hopc ht htag hs hw hsig hcnt
  · obtain ⟨t, he, hsems, hwaiting, hframe⟩ := State.seqNop_noSignal h hopc ht htag (.inr hs)
    exact ⟨t, he, fun i => (hsems i).trans (State.begun_keepsSems ht (by rw [hs, Bool.not_true, Bool.and_false]) i), hwaiting, hframe⟩

end Sys2Proof.Machine
end

section
/-! Banks of a tray: their power bits, requests and contents (R161, R163–R166): O42. -/

namespace Sys2Proof.Machine

/-! ### One bit of a mask -/

theorem testBit_add_two_pow {m k : Nat} (h : m.testBit k = false) (j : Nat) : (m + 2 ^ k).testBit j = (m.testBit j || decide (j = k)) := by
  induction k generalizing m j with
  | zero =>
    have hm : m % 2 = 0 := by
      rw [Nat.testBit_zero, decide_eq_false_iff_not] at h
      omega
    cases j with
    | zero =>
      have h1 : (m + 1) % 2 = 1 := by omega
      simp [Nat.testBit_zero, h1]
    | succ j =>
      have h2 : (m + 2 ^ 0) / 2 = m / 2 := by omega
      rw [Nat.testBit_succ, Nat.testBit_succ, h2]
      simp
  | succ k ih =>
    have h2 : (m + 2 ^ (k + 1)) / 2 = m / 2 + 2 ^ k := by
      rw [Nat.pow_succ]
      omega
    have h0 : (m + 2 ^ (k + 1)) % 2 = m % 2 := by
      rw [Nat.pow_succ]
      omega
    rw [Nat.testBit_succ] at h
    cases j with
    | zero => simp [Nat.testBit_zero, h0]
    | succ j => rw [Nat.testBit_succ, h2, ih h, Nat.testBit_succ]; simp

/-- A bit put leaves the others. -/
theorem testBit_putBits (m b : Nat) (v : Bool) (j : Nat) : (putBits m b 1 (if v then 1 else 0)).testBit j = if j = b then v else m.testBit j := by
  have hclear : m - bitsOf m b 1 <<< b = clearBit m b := by
    unfold clearBit bitsOf
    rw [Nat.shiftLeft_eq, Nat.shiftRight_eq_div_pow, Nat.testBit_eq_decide_div_mod_eq]
    rcases Nat.mod_two_eq_zero_or_one (m / 2 ^ b) with h | h
    · simp [h]
    · simp [h]
  have hself : (clearBit m b).testBit b = false := by simp [testBit_clearBit]
  rw [putBits, hclear]
  cases v with
  | false =>
    by_cases hj : j = b
    · simp [hj, testBit_clearBit]
    · simp [hj, testBit_clearBit]
  | true =>
    have h1 : (1 % 2 ^ 1) <<< b = 2 ^ b := by rw [Nat.shiftLeft_eq]; simp
    rw [if_pos rfl, h1, testBit_add_two_pow hself, testBit_clearBit]
    by_cases hj : j = b
    · simp [hj]
    · simp [hj]

/-- The mask of one bank names that bank. -/
theorem banksOf_two_pow {b : Nat} (hb : b < 64) : banksOf (2 ^ b) = [b] := by
  have h : ∀ n : Fin 64, banksOf (2 ^ n.val) = [n.val] := by decide
  exact h ⟨b, hb⟩

theorem toNat_bankBit {b : Nat} (hb : b < 64) : (BitVec.ofNat 64 (2 ^ b)).toNat = 2 ^ b := by
  rw [BitVec.toNat_ofNat, Nat.mod_eq_of_lt (Nat.pow_lt_pow_right (by decide) hb)]

/-! ### Power bits and transitions of banks (R163) -/

section
variable (s : State) {p b : Nat}

/-- A bit set in a mask register. -/
theorem State.testBit_put_mask {f : Fld} (hf : f.lo = 0 ∧ f.w = 64) (hb : b < 64) (v : Bool) (c : Nat) :
    ((s.put f p 0 (putBits (s.get f p 0) b 1 (if v then 1 else 0))).get f p 0).testBit c = if c = b then v else (s.get f p 0).testBit c := by
  obtain ⟨hlo, hw⟩ := hf
  have hlt : s.get f p 0 < 2 ^ 64 := by
    rw [State.get, hw]
    exact fieldOf_lt _ _ 64
  rw [State.get_put_same _ _ _ _ _ (by omega), hw, Nat.testBit_mod_two_pow, testBit_putBits]
  by_cases hc : c < 64
  · simp [hc]
  · have hhigh : (s.get f p 0).testBit c = false := Nat.testBit_lt_two_pow (Nat.lt_of_lt_of_le hlt (Nat.pow_le_pow_right (by decide) (by omega)))
    have hne : c ≠ b := by omega
    simp [hc, hhigh, hne]

theorem State.bankAwake_setAwake (hb : b < 64) (v : Bool) (c : Nat) : (s.setAwake p b v).bankAwake p c = if c = b then v else s.bankAwake p c :=
  s.testBit_put_mask (f := fTRAY_PWR_AWAKE_AWAKE) ⟨rfl, rfl⟩ hb v c

theorem State.bankAsleep_setAsleep (hb : b < 64) (v : Bool) (c : Nat) : (s.setAsleep p b v).bankAsleep p c = if c = b then v else s.bankAsleep p c :=
  s.testBit_put_mask (f := fTRAY_PWR_ASLEEP_ASLEEP) ⟨rfl, rfl⟩ hb v c

theorem State.reg_setAwake {a : Nat} (v : Bool) (h : a ≠ fldAddr fTRAY_PWR_AWAKE_AWAKE p 0) : (s.setAwake p b v).reg a = s.reg a :=
  State.reg_setReg_ne s (Ne.symm h) _

theorem State.reg_setAsleep {a : Nat} (v : Bool) (h : a ≠ fldAddr fTRAY_PWR_ASLEEP_ASLEEP p 0) : (s.setAsleep p b v).reg a = s.reg a :=
  State.reg_setReg_ne s (Ne.symm h) _

@[simp] theorem State.bankMove_setBankMove_same (p b : Nat) (m : Option BankMove) : (s.setBankMove p b m).bankMove p b = m := smapGet_set_same _ _ _ _

theorem State.bankMove_setBankMove_ne {c : Nat} (h : c ≠ b) (m : Option BankMove) : (s.setBankMove p b m).bankMove p c = s.bankMove p c :=
  smapGet_set_ne _ (by omega) _ _

theorem State.reg_setBankMove (p b : Nat) (m : Option BankMove) (a : Nat) : (s.setBankMove p b m).reg a = s.reg a := rfl

theorem State.bankAwake_setBankMove (p b : Nat) (m : Option BankMove) (q c : Nat) : (s.setBankMove p b m).bankAwake q c = s.bankAwake q c := rfl

theorem State.bankAwake_congr {t u : State} (h : t.regs = u.regs) (p c : Nat) : t.bankAwake p c = u.bankAwake p c := by
  rw [State.bankAwake, State.get, State.reg, h, ← State.reg, ← State.get, ← State.bankAwake]

theorem State.bankAsleep_congr {t u : State} (h : t.regs = u.regs) (p c : Nat) : t.bankAsleep p c = u.bankAsleep p c := by
  rw [State.bankAsleep, State.get, State.reg, h, ← State.reg, ← State.get, ← State.bankAsleep]

theorem State.bankAsleep_setBankMove (p b : Nat) (m : Option BankMove) (q c : Nat) : (s.setBankMove p b m).bankAsleep q c = s.bankAsleep q c := rfl

theorem State.setReg_frame (a : Nat) (v : Word64) : s.setReg a v = { s with regs := (s.setReg a v).regs } := rfl

theorem State.setAwake_frame (v : Bool) : s.setAwake p b v = { s with regs := (s.setAwake p b v).regs } := s.setReg_frame _ _

theorem State.setAsleep_frame (v : Bool) : s.setAsleep p b v = { s with regs := (s.setAsleep p b v).regs } := s.setReg_frame _ _

theorem State.bankMove_setAwake (v : Bool) (c : Nat) : (s.setAwake p b v).bankMove p c = s.bankMove p c := by
  rw [State.setAwake_frame, State.bankMove, State.bankMove]

theorem State.bankMove_setAsleep (v : Bool) (c : Nat) : (s.setAsleep p b v).bankMove p c = s.bankMove p c := by
  rw [State.setAsleep_frame, State.bankMove, State.bankMove]

/-- Registers changed first, a transition of a bank after that: nothing else has changed. -/
theorem State.setBankMove_frame {s u : State} (hu : u = { s with regs := u.regs }) (p b : Nat) (m : Option BankMove) :
    u.setBankMove p b m = { s with regs := (u.setBankMove p b m).regs, banks := (u.setBankMove p b m).banks } :=
  congrArg (fun v : State => { v with banks := (u.setBankMove p b m).banks }) hu

/-- R161: what counts as done for waiting commands stands on their plate. -/
theorem State.bankDone_frame (p b : Nat) (f : Waiter → Bool) : s.bankDone p b f = { s with plates := (s.bankDone p b f).plates } := by
  unfold State.bankDone
  dsimp only
  split
  · rfl
  · rfl

theorem State.bankDone_fields (p b : Nat) (f : Waiter → Bool) :
    (s.bankDone p b f).regs = s.regs ∧ (s.bankDone p b f).mem = s.mem ∧ (s.bankDone p b f).banks = s.banks := by
  rw [s.bankDone_frame p b f]
  exact ⟨rfl, rfl, rfl⟩

/-! ### Requests (R163–R166) -/

/-- A bank that a SLEEP request takes out of service. -/
def State.closeBank (s : State) (p b : Nat) : State := (s.setAwake p b false).setBankMove p b (some { closing := true, held := none })

/-- A bank that a WAKE request begins to wake. -/
def State.openBank (s : State) (p b : Nat) : State := (s.setAsleep p b false).setBankMove p b (some { closing := false, held := none })

/-- R166: what a SLEEP request for a pinned bank logs. -/
def pinnedEvent (s : State) (p b : Nat) : Ev :=
  { code := 0x8304, die := dieOfPlate p, unit := 1, inst := p, part := s.ownerOf p, detail := [b] }

/-- R166: a pinned bank takes no SLEEP request. -/
theorem State.bankRequest_pinned (h : s.pinned p b = true) : s.bankRequest p true b = s.log (pinnedEvent s p b) := by
  rw [State.bankRequest, h]
  rfl

theorem State.bankRequest_sleep (hm : s.bankMove p b = none) (hp : s.pinned p b = false) (ha : s.bankAwake p b = true) :
    s.bankRequest p true b = s.closeBank p b := by
  simp [State.bankRequest, hm, hp, ha, State.closeBank]

theorem State.bankRequest_wake (hm : s.bankMove p b = none) (ha : s.bankAsleep p b = true) : s.bankRequest p false b = s.openBank p b := by
  simp [State.bankRequest, hm, ha, State.openBank]

/-- R164: only the bank's AWAKE bit and its transition have changed. -/
theorem State.closeBank_frame (hb : b < 64) : (s.closeBank p b).bankAwake p b = false ∧
    (s.closeBank p b).bankMove p b = some { closing := true, held := none } ∧
    s.closeBank p b = { s with regs := (s.closeBank p b).regs, banks := (s.closeBank p b).banks } ∧
    (∀ c, c ≠ b → (s.closeBank p b).bankAwake p c = s.bankAwake p c ∧ (s.closeBank p b).bankMove p c = s.bankMove p c) ∧
    ∀ a, a ≠ fldAddr fTRAY_PWR_AWAKE_AWAKE p 0 → (s.closeBank p b).reg a = s.reg a := by
  have hawake : ∀ c, (s.closeBank p b).bankAwake p c = if c = b then false else s.bankAwake p c := fun c => by
    rw [State.closeBank, State.bankAwake_setBankMove, State.bankAwake_setAwake s hb]
  refine ⟨(hawake b).trans (if_pos rfl), State.bankMove_setBankMove_same .., ?_, fun c hc => ⟨(hawake c).trans (if_neg hc), ?_⟩, fun a ha => ?_⟩
  · rw [State.closeBank]
    exact State.setBankMove_frame (s.setAwake_frame false) p b _
  · rw [State.closeBank, State.bankMove_setBankMove_ne _ hc, State.bankMove_setAwake]
  · rw [State.closeBank, State.reg_setBankMove, State.reg_setAwake s false ha]

/-- R165: only the bank's ASLEEP bit and its transition have changed. -/
theorem State.openBank_frame (hb : b < 64) : (s.openBank p b).bankAsleep p b = false ∧
    (s.openBank p b).bankMove p b = some { closing := false, held := none } ∧
    s.openBank p b = { s with regs := (s.openBank p b).regs, banks := (s.openBank p b).banks } ∧
    (∀ c, c ≠ b → (s.openBank p b).bankAsleep p c = s.bankAsleep p c ∧ (s.openBank p b).bankMove p c = s.bankMove p c) ∧
    ∀ a, a ≠ fldAddr fTRAY_PWR_ASLEEP_ASLEEP p 0 → (s.openBank p b).reg a = s.reg a := by
  have hasleep : ∀ c, (s.openBank p b).bankAsleep p c = if c = b then false else s.bankAsleep p c := fun c => by
    rw [State.openBank, State.bankAsleep_setBankMove, State.bankAsleep_setAsleep s hb]
  refine ⟨(hasleep b).trans (if_pos rfl), State.bankMove_setBankMove_same .., ?_, fun c hc => ⟨(hasleep c).trans (if_neg hc), ?_⟩, fun a ha => ?_⟩
  · rw [State.openBank]
    exact State.setBankMove_frame (s.setAsleep_frame false) p b _
  · rw [State.openBank, State.bankMove_setBankMove_ne _ hc, State.bankMove_setAsleep]
  · rw [State.openBank, State.reg_setBankMove, State.reg_setAsleep s false ha]

end

/-! ### A bank cleared (R164, R165) -/

/-- A key taken out of a map with every other one that satisfies `P` reads as what an unlisted one does. -/
theorem smapGet_filter_not {α : Type} (d : Nat → α) (P : Nat → Bool) (k : Nat) (m : SMap α) :
    smapGet d k (m.filter (fun e => !P e.1)) = if P k = true then d k else smapGet d k m := by
  induction m with
  | nil => simp
  | cons e m ih =>
    obtain ⟨j, v⟩ := e
    by_cases hj : j = k
    · subst hj
      cases hP : P j with
      | true => rw [hP, if_pos rfl] at ih; simpa [hP] using ih
      | false => simp [hP, smapGet]
    · cases hP : P j with
      | true => simpa [hP, smapGet, hj] using ih
      | false => simpa [hP, smapGet, hj] using ih

/-- Bytes zeroed one by one. -/
theorem Memory.get_foldl_zero (P : Nat → Bool) (lo : Nat) (is : List Nat) (m : Memory) (a : Nat) :
    (is.foldl (fun m i => if P (lo + i) = true then m.set (lo + i) 0 else m) m).get a =
      if P a = true ∧ ∃ i ∈ is, lo + i = a then 0 else m.get a := by
  induction is generalizing m with
  | nil => simp
  | cons i is ih =>
    rw [List.foldl_cons, ih]
    by_cases hi : lo + i = a
    · subst hi
      by_cases hP : P (lo + i) = true
      · simp [hP]
      · simp [hP]
    · have hm : (if P (lo + i) = true then m.set (lo + i) 0 else m).get a = m.get a := by
        split
        · exact Memory.get_set_ne m hi 0
        · rfl
      rw [hm]
      simp [hi]

/-- Within a stripe of 8 banks the lower bits of the offset choose (R140, R141). -/
theorem bankOf_low (hash : Bool) (o : Nat) : bankOf hash o < 8 * bitsOf o 20 3 + 8 := by
  have hx : ∀ x y, x < 8 → y < 8 → xorNat x y < 8 := fun x y hx hy => Nat.xor_lt_two_pow (n := 3) hx hy
  have hb : ∀ lo, bitsOf o lo 3 < 8 := fun lo => Nat.mod_lt _ (by decide)
  unfold bankOf
  have hh : (if hash then xorNat (xorNat (xorNat (bitsOf o 6 3) (bitsOf o 9 3)) (bitsOf o 12 3)) (bitsOf o 15 3) else bitsOf o 6 3) < 8 := by
    split
    · exact hx _ _ (hx _ _ (hx _ _ (hb 6) (hb 9)) (hb 12)) (hb 15)
    · exact hb 6
  exact Nat.add_lt_add_left hh _

/-- A bank lies within 1 MiB of its tray's window (R140). -/
theorem inBank_range {hash : Bool} {p b a : Nat} (h : inBank hash p b a = true) :
    trayAddr p (b / 8 * 2 ^ 20) ≤ a ∧ a < trayAddr p (b / 8 * 2 ^ 20) + 2 ^ 20 := by
  simp only [inBank, Bool.and_eq_true, decide_eq_true_eq, isTray] at h
  obtain ⟨⟨htray, hplate⟩, hbank⟩ := h
  have hoff : b / 8 = bitsOf (trayOff a) 20 3 := by
    have hlt := bankOf_low hash (trayOff a)
    have hge : 8 * bitsOf (trayOff a) 20 3 ≤ bankOf hash (trayOff a) := by
      rw [bankOf]
      omega
    omega
  rw [bitsOf, Nat.shiftRight_eq_div_pow] at hoff
  simp only [trayPlate, trayOff, trayAddr, trayBase, trayWin] at *
  omega

section
variable (s : State) {p b : Nat}

/-- Every byte of a cleared bank is zero, listed or in a range whose contents are not preserved. -/
theorem State.clearBank_byte (p b a : Nat) : (s.clearBank p b).mem.get a = if inBank (s.hashMode p) p b a = true then 0 else s.mem.get a := by
  have hcells : ({ s.mem with cells := s.mem.cells.filter (fun c => !inBank (s.hashMode p) p b c.1) } : Memory).get a =
      if inBank (s.hashMode p) p b a = true then memDefault s.mem.opened a else s.mem.get a := smapGet_filter_not _ _ a _
  unfold State.clearBank
  dsimp only
  split
  next =>
    rw [Memory.get_foldl_zero (inBank (s.hashMode p) p b), hcells]
    by_cases ha : inBank (s.hashMode p) p b a = true
    · obtain ⟨hlo, hhi⟩ := inBank_range ha
      rw [if_pos ⟨ha, a - trayAddr p (b / 8 * 2 ^ 20), List.mem_range.mpr (by omega), by omega⟩, if_pos ha]
    · simp [ha]
  next hany =>
    rw [hcells]
    by_cases ha : inBank (s.hashMode p) p b a = true
    · obtain ⟨hlo, hhi⟩ := inBank_range ha
      have hnone : s.mem.opened.find? (fun r => decide (r.lo ≤ a ∧ a < r.lo + r.size)) = none := by
        refine List.find?_eq_none.mpr (fun r hr hin => hany (List.any_eq_true.mpr ⟨r, hr, ?_⟩))
        rw [decide_eq_true_eq] at hin ⊢
        omega
      rw [if_pos ha, if_pos ha, memDefault, hnone]
    · rw [if_neg ha, if_neg ha]

theorem State.clearBank_line (p b l : Nat) :
    (s.clearBank p b).lineErrOf l = if inBank (s.hashMode p) p b l = true then .good else s.lineErrOf l :=
  smapGet_filter_not _ _ l _

end

/-! ### Banks that settle (R164, R165) -/

/-- What holds once bank `b` has settled with its contents discarded, of the registers none but `r` changed. -/
def State.Cleared (s t : State) (p b r : Nat) : Prop :=
  (∀ a, t.mem.get a = if inBank (s.hashMode p) p b a then 0 else s.mem.get a) ∧
  (∀ l, t.lineErrOf l = if inBank (s.hashMode p) p b l then .good else s.lineErrOf l) ∧
  ∀ a, a ≠ r → t.reg a = s.reg a

/-- A bank out of its transition, its contents discarded. -/
def State.restBank (s : State) (p b : Nat) : State := (s.setBankMove p b none).clearBank p b

/-- R164: the bank off, and done for the commands that wait for it. -/
def State.bankOff (s : State) (p b : Nat) : State := ((s.restBank p b).setAsleep p b true).bankDone p b (fun w => w.sleeps)

/-- R165: the bank on, and done for the commands that wait for it. -/
def State.bankOn (s : State) (p b : Nat) : State := ((s.restBank p b).setAwake p b true).bankDone p b (fun w => !w.sleeps)

section
variable (s : State) {p b : Nat}

theorem State.restBank_move (p b : Nat) : (s.restBank p b).bankMove p b = none := s.bankMove_setBankMove_same p b none

/-- A bank at rest, then one register set and the commands that waited told: its contents are discarded. -/
theorem State.cleared_of_frame {t u : State} {f : Waiter → Bool} {r : Nat} (hu : u = { s.restBank p b with regs := u.regs })
    (hr : ∀ a, a ≠ r → u.reg a = s.reg a) (ht : t = u.bankDone p b f) : s.Cleared t p b r ∧ t.bankMove p b = none ∧ t.regs = u.regs := by
  have hf := u.bankDone_frame p b f
  rw [← ht] at hf
  have hregs : t.regs = u.regs := by rw [hf]
  have hmem : t.mem = (s.clearBank p b).mem := by
    rw [hf]
    exact (congrArg (fun v : State => v.mem) hu).trans rfl
  have hline : t.lineErr = (s.clearBank p b).lineErr := by
    rw [hf]
    exact (congrArg (fun v : State => v.lineErr) hu).trans rfl
  have hbanks : t.banks = (s.restBank p b).banks := by
    rw [hf]
    exact (congrArg (fun v : State => v.banks) hu).trans rfl
  refine ⟨⟨fun a => ?_, fun l => ?_, fun a ha => ?_⟩, ?_, hregs⟩
  · rw [hmem]
    exact s.clearBank_byte p b a
  · rw [State.lineErrOf, hline]
    exact s.clearBank_line p b l
  · rw [State.reg, hregs]
    exact hr a ha
  · rw [State.bankMove, hbanks]
    exact s.restBank_move p b

theorem State.bankOff_settles (hb : b < 64) : s.Cleared (s.bankOff p b) p b (fldAddr fTRAY_PWR_ASLEEP_ASLEEP p 0) ∧
    (s.bankOff p b).bankMove p b = none ∧ (s.bankOff p b).bankAsleep p b = true := by
  obtain ⟨hclear, hmove, hregs⟩ := s.cleared_of_frame (t := s.bankOff p b) (r := fldAddr fTRAY_PWR_ASLEEP_ASLEEP p 0)
    ((s.restBank p b).setAsleep_frame true) (fun a ha => (s.restBank p b).reg_setAsleep true ha) rfl
  refine ⟨hclear, hmove, ?_⟩
  rw [State.bankAsleep_congr hregs, State.bankAsleep_setAsleep _ hb, if_pos rfl]

theorem State.bankOn_settles (hb : b < 64) : s.Cleared (s.bankOn p b) p b (fldAddr fTRAY_PWR_AWAKE_AWAKE p 0) ∧
    (s.bankOn p b).bankMove p b = none ∧ (s.bankOn p b).bankAwake p b = true := by
  obtain ⟨hclear, hmove, hregs⟩ := s.cleared_of_frame (t := s.bankOn p b) (r := fldAddr fTRAY_PWR_AWAKE_AWAKE p 0)
    ((s.restBank p b).setAwake_frame true) (fun a ha => (s.restBank p b).reg_setAwake true ha) rfl
  refine ⟨hclear, hmove, ?_⟩
  rw [State.bankAwake_congr hregs, State.bankAwake_setAwake _ hb, if_pos rfl]

/-- A state that differs from a cleared one in its registers and transitions alone is cleared too. -/
theorem State.Cleared.of_frame {s t u : State} {r : Nat} (h : s.Cleared t p b r) (hu : u = { t with regs := u.regs, banks := u.banks })
    (hr : ∀ a, a ≠ r → u.reg a = t.reg a) : s.Cleared u p b r := by
  obtain ⟨hmem, hline, hreg⟩ := h
  refine ⟨fun a => ?_, fun l => ?_, fun a ha => (hr a ha).trans (hreg a ha)⟩
  · rw [hu]
    exact hmem a
  · rw [hu]
    exact hline l

theorem State.bankIsolate_eq {held : Option Bool} (h : s.bankMove p b = some { closing := true, held := held }) :
    s.bankIsolate p b = (s.bankOff p b).startHeld p b held := by
  rw [State.bankIsolate, h]
  rfl

theorem State.bankWoken_eq {held : Option Bool} (h : s.bankMove p b = some { closing := false, held := held }) :
    s.bankWoken p b = { (s.bankOn p b).startHeld p b held with
      washFrom := smapSet (fun _ => 0) (64 * p + b) s.now ((s.bankOn p b).startHeld p b held).washFrom } := by
  rw [State.bankWoken, h]
  rfl

end

/-! ### Requests held, powers-down given up, events -/

/-- R394: an event of a die whose link is up goes out as it is logged. -/
theorem State.log_emits (s : State) (e : Ev) (h : s.linkDown e.die = false) :
    ∃ v, Out.event v ∈ (s.log e).out ∧ v.code = e.code ∧ v.inst = e.inst ∧ v.detail = e.detail := by
  simp only [State.log, h, Bool.and_false, Bool.false_eq_true, if_false, State.logWrite]
  exact ⟨_, List.mem_append_right _ (List.mem_singleton.mpr rfl), rfl, rfl, rfl⟩

/-- The settings of a tray's banks are no bookkeeping, and none of them places the log ring. -/
theorem trayPwr_apart {f : Fld} (hf : f = fTRAY_PWR_AWAKE_AWAKE ∨ f = fTRAY_PWR_ASLEEP_ASLEEP) {p : Nat} (hp : p < 128) :
    bookkeeping (fldAddr f p 0) = false ∧ fldAddr fREL_LOG_BASE 0 0 ≠ fldAddr f p 0 ∧ fldAddr fTRAY_PIN_PINNED p 0 ≠ fldAddr f p 0 := by
  rcases hf with rfl | rfl
  · refine ⟨(plateOffset_apart rfl hp (by decide) (by decide)).1, ?_, ?_⟩
    · simp only [fldAddr, fREL_LOG_BASE, fTRAY_PWR_AWAKE_AWAKE, blockBase]
      omega
    · simp only [fldAddr, fTRAY_PIN_PINNED, fTRAY_PWR_AWAKE_AWAKE, blockBase]
      omega
  · refine ⟨(plateOffset_apart rfl hp (by decide) (by decide)).1, ?_, ?_⟩
    · simp only [fldAddr, fREL_LOG_BASE, fTRAY_PWR_ASLEEP_ASLEEP, blockBase]
      omega
    · simp only [fldAddr, fTRAY_PIN_PINNED, fTRAY_PWR_ASLEEP_ASLEEP, blockBase]
      omega

theorem State.inLogRing_congr {s t : State} (h : t.reg (fldAddr fREL_LOG_BASE 0 0) = s.reg (fldAddr fREL_LOG_BASE 0 0)) (a : Nat) :
    t.inLogRing a = s.inLogRing a := by
  have hsize : fldAddr fREL_LOG_LOG2 0 0 = fldAddr fREL_LOG_BASE 0 0 := rfl
  simp only [State.inLogRing, State.g, State.get, hsize, h]

section
variable (s : State) {p b : Nat}

/-- R164: the bank back in service. -/
def State.bankKept (s : State) (p b : Nat) : State := ((s.setBankMove p b none).setAwake p b true).bankDone p b (fun _ => true)

theorem State.bankKept_settles (hb : b < 64) : (s.bankKept p b).bankMove p b = none ∧ (s.bankKept p b).bankAwake p b = true ∧
    (s.bankKept p b).mem = s.mem ∧ ∀ a, a ≠ fldAddr fTRAY_PWR_AWAKE_AWAKE p 0 → (s.bankKept p b).reg a = s.reg a := by
  obtain ⟨hregs, hmem, hbanks⟩ := ((s.setBankMove p b none).setAwake p b true).bankDone_fields p b (fun _ => true)
  rw [← State.bankKept] at hregs hmem hbanks
  rw [State.setAwake_frame] at hmem hbanks
  dsimp only at hmem hbanks
  refine ⟨?_, ?_, ?_, fun a ha => ?_⟩
  · rw [State.bankMove, hbanks, ← State.bankMove, State.bankMove_setBankMove_same]
  · rw [State.bankAwake_congr hregs, State.bankAwake_setAwake _ hb, if_pos rfl]
  · rw [hmem, State.setBankMove]
  · rw [State.reg, hregs, ← State.reg, State.reg_setAwake _ true ha, State.reg_setBankMove]

theorem State.bankAbort_eq {held : Option Bool} (h : s.bankMove p b = some { closing := true, held := held }) :
    s.bankAbort p b = (s.bankKept p b).log
      { code := 0x8303, die := dieOfPlate p, unit := 1, inst := p, part := s.ownerOf p, detail := [b] } := by
  rw [State.bankAbort, h]
  rfl

theorem State.bankAbort_spec {held : Option Bool} (hp : p < 128) (hb : b < 64) (h : s.bankMove p b = some { closing := true, held := held }) :
    (s.bankAbort p b).bankAwake p b = true ∧ (s.bankAbort p b).bankMove p b = none ∧
    (∀ a, s.inLogRing a = false → (s.bankAbort p b).mem.get a = s.mem.get a) ∧
    ∀ a, bookkeeping a = false → a ≠ fldAddr fTRAY_PWR_AWAKE_AWAKE p 0 → (s.bankAbort p b).reg a = s.reg a := by
  obtain ⟨hbk, hring, -⟩ := trayPwr_apart (f := fTRAY_PWR_AWAKE_AWAKE) (.inl rfl) hp
  obtain ⟨hmove, hawake, hmem, hreg⟩ := s.bankKept_settles (p := p) hb
  rw [s.bankAbort_eq h]
  obtain ⟨hframe, hregLog, hmemLog, -, -⟩ := beside_log (s.bankKept p b)
    { code := 0x8303, die := dieOfPlate p, unit := 1, inst := p, part := s.ownerOf p, detail := [b] }
  generalize (s.bankKept p b).log _ = t at *
  refine ⟨?_, ?_, fun a ha => ?_, fun a ha hne => ?_⟩
  · rw [State.bankAwake, State.get, hregLog _ hbk (by simp), ← State.get, ← State.bankAwake, hawake]
  · rw [hframe]
    exact hmove
  · rw [hmemLog a (by rw [State.inLogRing_congr (hreg _ hring), ha]), hmem]
  · rw [hregLog a ha (by simp), hreg a hne]

theorem State.bankIsolate_spec {held : Option Bool} (hb : b < 64) (h : s.bankMove p b = some { closing := true, held := held }) (hheld : held ≠ some true) :
    (held ≠ some false → (s.bankIsolate p b).bankAsleep p b = true ∧ (s.bankIsolate p b).bankMove p b = none) ∧
    (held = some false → (s.bankIsolate p b).bankAsleep p b = false ∧
      (s.bankIsolate p b).bankMove p b = some { closing := false, held := none }) ∧
    s.Cleared (s.bankIsolate p b) p b (fldAddr fTRAY_PWR_ASLEEP_ASLEEP p 0) := by
  obtain ⟨hclear, hmove, hasleep⟩ := s.bankOff_settles (p := p) hb
  rw [s.bankIsolate_eq h]
  match held, hheld with
  | none, _ => exact ⟨fun _ => ⟨hasleep, hmove⟩, (nomatch ·), hclear⟩
  | some false, _ =>
    have hstart : (s.bankOff p b).startHeld p b (some false) = (s.bankOff p b).openBank p b := State.bankRequest_wake _ hmove hasleep
    obtain ⟨hoff, hwaking, hframe, -, hreg⟩ := (s.bankOff p b).openBank_frame (p := p) hb
    rw [hstart]
    exact ⟨fun hne => absurd rfl hne, fun _ => ⟨hoff, hwaking⟩, hclear.of_frame hframe hreg⟩

/-- R166: a bank's pin is not of its power. -/
theorem State.bankOn_pinned (hp : p < 128) (hb : b < 64) : (s.bankOn p b).pinned p b = s.pinned p b := by
  obtain ⟨-, -, hpin⟩ := trayPwr_apart (f := fTRAY_PWR_AWAKE_AWAKE) (.inl rfl) hp
  obtain ⟨⟨-, -, hreg⟩, -, -⟩ := s.bankOn_settles (p := p) hb
  rw [State.pinned, State.get, hreg _ hpin, ← State.get, ← State.pinned]

theorem State.bankStarts_spec {held : Option Bool} (hp : p < 128) (hb : b < 64) (hheld : held ≠ some false) (hpin : held = some true → s.pinned p b = false) :
    (held ≠ some true → ((s.bankOn p b).startHeld p b held).bankAwake p b = true ∧ ((s.bankOn p b).startHeld p b held).bankMove p b = none) ∧
    (held = some true → ((s.bankOn p b).startHeld p b held).bankAwake p b = false ∧
      ((s.bankOn p b).startHeld p b held).bankMove p b = some { closing := true, held := none }) ∧
    s.Cleared ((s.bankOn p b).startHeld p b held) p b (fldAddr fTRAY_PWR_AWAKE_AWAKE p 0) := by
  obtain ⟨hclear, hmove, hawake⟩ := s.bankOn_settles (p := p) hb
  match held, hheld with
  | none, _ => exact ⟨fun _ => ⟨hawake, hmove⟩, (nomatch ·), hclear⟩
  | some true, _ =>
    have hfree : (s.bankOn p b).pinned p b = false := (s.bankOn_pinned hp hb).trans (hpin rfl)
    have hstart : (s.bankOn p b).startHeld p b (some true) = (s.bankOn p b).closeBank p b := by
      rw [State.startHeld, hfree, Bool.and_false, if_neg Bool.false_ne_true, State.bankRequest_sleep _ hmove hfree hawake]
    obtain ⟨hoff, hclosing, hframe, -, hreg⟩ := (s.bankOn p b).closeBank_frame (p := p) hb
    rw [hstart]
    exact ⟨fun hne => absurd rfl hne, fun _ => ⟨hoff, hclosing⟩, hclear.of_frame hframe hreg⟩

end

/-! ### The commands -/

section
variable {s : State} {p b : Nat}

theorem exec_sleepOne (hl : s.live = true) (hp : p < 128) (hb : b < 64) :
    exec (.trayPwrSleep p (BitVec.ofNat 64 (2 ^ b))) s = .next ((s.bankRequest p true b).wakePlate p) := by
  have hreq : s.pwrSleep p (BitVec.ofNat 64 (2 ^ b)).toNat = s.bankRequest p true b := by
    rw [toNat_bankBit hb, State.pwrSleep, State.bankRequests, banksOf_two_pow hb, List.foldl_cons, List.foldl_nil]
  rw [← hreq]
  exact s.answer_live _ _ _ hl (decide_eq_true hp)

theorem exec_wakeOne (hl : s.live = true) (hp : p < 128) (hb : b < 64) :
    exec (.trayPwrWake p (BitVec.ofNat 64 (2 ^ b))) s = .next ((s.bankRequest p false b).wakePlate p) := by
  have hreq : s.pwrWake p (BitVec.ofNat 64 (2 ^ b)).toNat = s.bankRequest p false b := by
    rw [toNat_bankBit hb, State.pwrWake, State.bankRequests, banksOf_two_pow hb, List.foldl_cons, List.foldl_nil]
  rw [← hreq]
  exact s.answer_live _ _ _ hl (decide_eq_true hp)

theorem exec_bankIsolated (hl : s.live = true) (hp : p < 128) (hb : b < 64) : exec (.bankIsolated p b) s = .next ((s.bankIsolate p b).wakePlate p) :=
  s.answer_live _ _ _ hl (decide_eq_true ⟨hp, hb⟩)

theorem exec_trayPdAbort (hl : s.live = true) (hp : p < 128) (hb : b < 64) : exec (.trayPdAbort p b) s = .next ((s.bankAbort p b).wakePlate p) :=
  s.answer_live _ _ _ hl (decide_eq_true ⟨hp, hb⟩)

theorem exec_bankAwake (hl : s.live = true) (hp : p < 128) (hb : b < 64) : exec (.bankAwake p b) s = .next ((s.bankWoken p b).wakePlate p) :=
  s.answer_live _ _ _ hl (decide_eq_true ⟨hp, hb⟩)

/-- A bank without a transition has none to end. -/
theorem State.noMove (h : s.bankMove p b = none) : s.bankIsolate p b = s ∧ s.bankAbort p b = s ∧ s.bankWoken p b = s := by
  simp only [State.bankIsolate, State.bankAbort, State.bankWoken, h, and_self]

end

/-- Settles O42: each request and each end of a transition by what it does to the bank's bits and contents; the plates' commands come after. -/
theorem trayBanksSleepAndWake : Obligations.TrayBanksSleepAndWake := by
  unfold Obligations.TrayBanksSleepAndWake
  intro s p b hl hp hb
  refine ⟨fun hmove hpin hawake => ?_, fun hmove hasleep => ?_, fun hpin => ?_, fun held hmove hheld => ⟨?_, ?_⟩, fun held hmove hheld hpin => ?_,
    fun hmove => ?_⟩
  · exact ⟨s.closeBank p b, by rw [exec_sleepOne hl hp hb, s.bankRequest_sleep hmove hpin hawake], s.closeBank_frame hb⟩
  · exact ⟨s.openBank p b, by rw [exec_wakeOne hl hp hb, s.bankRequest_wake hmove hasleep], s.openBank_frame hb⟩
  · exact ⟨s.log (pinnedEvent s p b), by rw [exec_sleepOne hl hp hb, s.bankRequest_pinned hpin], beside_log s _, s.log_emits (pinnedEvent s p b)⟩
  · obtain ⟨hrest, hstarts, hclear⟩ := s.bankIsolate_spec hb hmove hheld
    exact ⟨s.bankIsolate p b, exec_bankIsolated hl hp hb, hrest, hstarts, hclear⟩
  · exact ⟨s.bankAbort p b, exec_trayPdAbort hl hp hb, s.bankAbort_spec hp hb hmove⟩
  · obtain ⟨hrest, hstarts, hclear⟩ := s.bankStarts_spec hp hb hheld hpin
    refine ⟨s.bankWoken p b, exec_bankAwake hl hp hb, ?_⟩
    rw [s.bankWoken_eq hmove]
    exact ⟨hrest, hstarts, hclear⟩
  · obtain ⟨hisolate, habort, hwoken⟩ := State.noMove hmove
    rw [exec_bankIsolated hl hp hb, exec_trayPdAbort hl hp hb, exec_bankAwake hl hp hb, hisolate, habort, hwoken]
    exact ⟨rfl, rfl, rfl⟩

end Sys2Proof.Machine
end

section
/-! Wash reads of a tray (R167, R168, R403, R419): O43. -/

namespace Sys2Proof.Machine

/-! ### Lines above the Drawer: neither counting nor logging heals one (R393) -/

/-- No line above the Drawer has changed. -/
def LinesKept (s t : State) : Prop := ∀ l, 0x014000000000 ≤ l → t.lineErrOf l = s.lineErrOf l

theorem linesKept_of_lineErr {s t : State} (h : t.lineErr = s.lineErr) : LinesKept s t := fun _ _ => by rw [State.lineErrOf, h, ← State.lineErrOf]

theorem LinesKept.trans {s t u : State} (h : LinesKept s t) (h' : LinesKept t u) : LinesKept s u := fun l hl => (h' l hl).trans (h l hl)

theorem linesKept_foldl {β : Type} (f : State → β → State) (bs : List β) (hf : ∀ t, ∀ b ∈ bs, LinesKept t (f t b)) (s : State) :
    LinesKept s (bs.foldl f s) := by
  induction bs generalizing s with
  | nil => exact fun _ _ => rfl
  | cons b bs ih => exact (hf s b (List.mem_cons_self ..)).trans (ih (fun t c hc => hf t c (List.mem_cons_of_mem _ hc)) _)

theorem linesOf_lt {a n l : Nat} (h : l ∈ linesOf a n) : l < a + n := by
  unfold linesOf at h
  split at h
  · cases h
  · obtain ⟨i, hi, rfl⟩ := List.mem_map.mp h
    have hi := List.mem_range.mp hi
    omega

theorem State.staleTags_lineErr (s : State) (a n : Nat) : (s.staleTags a n).lineErr = s.lineErr := by
  unfold State.staleTags
  split
  · generalize (blocksOf a n).filter s.tagged = bs
    induction bs generalizing s with
    | nil => rfl
    | cons b bs ih => rw [List.foldl_cons, ih, State.setTag_lineErr]
  · rfl

theorem linesKept_write (s : State) {a : Nat} (bs : List Nat) (h : a + bs.length ≤ 0x014000000000) : LinesKept s (s.write a bs) := by
  have hheal : LinesKept s (s.healLines a bs.length) := linesKept_foldl _ _ (fun t k hk l hl => by
    have hlt := linesOf_lt hk
    split
    · exact State.lineErrOf_set_ne t (by omega) .good
    · rfl) s
  exact hheal.trans (linesKept_of_lineErr (State.staleTags_lineErr ..))

theorem linesKept_densQuiet (s : State) (b ev v : Nat) : LinesKept s (s.densQuiet b ev v) :=
  linesKept_foldl _ _ (fun t n _ => by
    dsimp only
    split
    · exact linesKept_of_lineErr (State.setReg_lineErr ..)
    · exact fun _ _ => rfl) s

theorem linesKept_logWrite (s : State) (e : LogEntry) : LinesKept s (s.logWrite e) := by
  unfold State.logWrite
  extract_lets tail head size a s0 s1 s2 s3
  have h0 : LinesKept s s0 := linesKept_densQuiet s _ _ _
  have h1 : LinesKept s s1 := by
    show LinesKept s (if _ then _ else _)
    split
    next hr => exact h0.trans (linesKept_write s0 _ (by rw [logBytes_length]; exact State.inReserved_le hr))
    next => exact h0
  refine h1.trans (linesKept_of_lineErr ?_)
  show (if _ then _ else _ : State).lineErr = s1.lineErr
  split
  · rfl
  · rfl

theorem linesKept_log (s : State) (e : Ev) : LinesKept s (s.log e) := by
  unfold State.log
  extract_lets k q t ent s1
  have h1 : LinesKept s s1 := fun _ _ => rfl
  split
  · split
    · exact h1
    · exact h1.trans (linesKept_of_lineErr (State.bump_lineErr ..))
  · exact h1.trans (linesKept_logWrite s1 ent)

theorem linesKept_dens (s : State) (b ev v : Nat) : LinesKept s (s.dens b ev v) := by
  unfold State.dens
  split
  · exact fun _ _ => rfl
  · refine linesKept_foldl _ _ (fun t n _ => ?_) s
    extract_lets sel w w' t1
    have h1 : LinesKept t t1 := linesKept_of_lineErr (State.setReg_lineErr t _ _)
    by_cases he : fieldOf sel 0 8 = ev
    · rw [if_pos he]
      split
      · exact h1.trans (linesKept_log t1 _)
      · exact h1
    · rw [if_neg he]
      exact fun _ _ => rfl

theorem linesKept_noteCorrected (s : State) (die unit inst n : Nat) : LinesKept s (s.noteCorrected die unit inst n) := by
  unfold State.noteCorrected
  extract_lets k c t
  have h : ∀ cs, LinesKept s { s with corrected := cs } := fun _ => linesKept_of_lineErr rfl
  split
  · exact (h _).trans (linesKept_log _ _)
  · exact h _

/-! ### What stands beside a line set, and beside the books of background work -/

/-- A line set in both states leaves them as they were beside each other. -/
theorem Beside.setLineErr {s t : State} {A : List Nat} (h : Beside s t A) (l : Nat) (e : LineErr) : Beside (s.setLineErr l e) (t.setLineErr l e) A := by
  obtain ⟨hframe, hreg, hmem, hline, hout⟩ := h
  refine ⟨?_, hreg, hmem, fun k => ?_, hout⟩
  · rw [hframe]
    rfl
  · by_cases hk : l = k
    · subst hk
      exact .inl (by rw [State.lineErrOf_set_same, State.lineErrOf_set_same])
    · rw [State.lineErrOf_set_ne _ hk, State.lineErrOf_set_ne _ hk]
      exact hline k

/-- The record of a tray's errors is no bookkeeping, places no log ring and holds no state of a partition. -/
theorem trayEcc_apart {f : Fld} (hf : f.blk = .plate ∧ f.stride = 0 ∧ (f.off = 0x228 ∨ f.off = 0x230)) {p : Nat} (hp : p < 128) :
    bookkeeping (fldAddr f p 0) = false ∧ fldAddr fREL_LOG_BASE 0 0 ≠ fldAddr f p 0 ∧ ∀ n, fldAddr fPART_STAT_STATE n 0 ≠ fldAddr f p 0 := by
  obtain ⟨hb, hs, ho⟩ := hf
  rw [fldAddr_plate ⟨hb, hs⟩, bookkeeping, decide_eq_false_iff_not]
  simp only [fldAddr, fREL_LOG_IDX_TAIL, fREL_LOG_STAT_OVERWRITTEN, fREL_LOG_BASE, fPART_STAT_STATE, blockBase]
  exact ⟨by omega, by omega, fun n => by omega⟩

/-! ### Addresses of a washed line -/

section
variable {p off : Nat}

theorem lineOf_trayAddr (p off : Nat) : lineOf (trayAddr p (lineOf off)) = trayAddr p (lineOf off) := by
  simp only [lineOf, trayAddr, trayBase, trayWin]
  omega

theorem trayAddr_line (hp : p < 128) (ho : off < trayWin) : isTray (trayAddr p (lineOf off)) = true ∧
    trayPlate (trayAddr p (lineOf off)) = p ∧ trayOff (trayAddr p (lineOf off)) = lineOf off := by
  simp only [trayWin] at ho
  refine ⟨decide_eq_true ?_, ?_, ?_⟩ <;> simp only [trayPlate, trayOff, lineOf, trayAddr, trayBase, trayWin] <;> omega

/-- R140, R141: a bank holds whole lines. -/
theorem bankOf_lineOf (hash : Bool) (off : Nat) : bankOf hash (lineOf off) = bankOf hash off := by
  have hbits : ∀ lo, 6 ≤ lo → bitsOf (lineOf off) lo 3 = bitsOf off lo 3 := fun lo hlo => by
    obtain ⟨k, rfl⟩ := Nat.exists_eq_add_of_le hlo
    have hline : off / 64 * 64 / 64 = off / 64 := Nat.mul_div_cancel _ (by decide)
    rw [bitsOf, bitsOf, Nat.shiftRight_eq_div_pow, Nat.shiftRight_eq_div_pow, Nat.pow_add, ← Nat.div_div_eq_div_mul, ← Nat.div_div_eq_div_mul, lineOf, hline]
  simp only [bankOf, hbits 6 (by decide), hbits 9 (by decide), hbits 12 (by decide), hbits 15 (by decide), hbits 20 (by decide)]

end

/-! ### A line that wash has read (R168) -/

section
variable {s : State} {p off : Nat}

theorem State.washLine_good (h : s.lineErrOf (trayAddr p (lineOf off)) = .good) : s.washLine p off .clean = s := by
  simp [State.washLine, h]

theorem State.washLine_corrected (hp : p < 128) (h : s.lineErrOf (trayAddr p (lineOf off)) ≠ .bad) :
    (s.washLine p off .corrected).lineErrOf (trayAddr p (lineOf off)) = .corrected ∧
    (s.washLine p off .corrected).get fTRAY_ECC_STAT_CE p 0 = satAdd (s.get fTRAY_ECC_STAT_CE p 0) 1 (2 ^ fTRAY_ECC_STAT_CE.w - 1) ∧
    Beside (s.setLineErr (trayAddr p (lineOf off)) .corrected) (s.washLine p off .corrected) [fldAddr fTRAY_ECC_STAT_CE p 0] := by
  obtain ⟨hbk, hring, -⟩ := trayEcc_apart (f := fTRAY_ECC_STAT_CE) ⟨rfl, rfl, .inl rfl⟩ hp
  have hline : s.washLine p off .corrected = (((s.setLineErr (trayAddr p (lineOf off)) .corrected).bump fTRAY_ECC_STAT_CE p 0 1).dens p 18 1).noteCorrected
      (dieOfPlate p) 1 p 1 := by
    simp [State.washLine, h]
  have hlater : ∀ t : State, Beside t ((t.dens p 18 1).noteCorrected (dieOfPlate p) 1 p 1) [] := fun t =>
    beside_trans (beside_dens t p 18 1 (by omega)) (beside_noteCorrected _ _ _ _ _) (by simp)
  rw [hline]
  refine ⟨?_, ?_, ?_⟩
  · rw [linesKept_noteCorrected _ _ _ _ _ _ (trayBase_above (trayBase_le_trayAddr ..)), linesKept_dens _ _ _ _ _ (trayBase_above (trayBase_le_trayAddr ..)),
      State.lineErrOf, State.bump_lineErr]
    exact s.lineErrOf_set_same _ .corrected
  · rw [beside_get (hlater _) _ _ _ hbk (by simp), State.get_bump_same _ fTRAY_ECC_STAT_CE p 0 1 (by decide) (fieldOf_lt _ _ 32)]
    rfl
  · exact beside_trans (beside_bump _ _ _ _ _ _ (.inr (List.mem_singleton.mpr rfl))) (beside_mono (hlater _) (by simp)) (List.mem_singleton.not.mpr hring)

/-- R403, R404: without partitions no weight line stands to be reloaded. -/
theorem State.queueReload_bare (h : s.bare) (a : Nat) : s.queueReload a = s := by
  have hnone : s.goldPart a = none := List.find?_eq_none.mpr fun n hn => by simp [h n (List.mem_range.mp hn)]
  rw [State.queueReload, hnone]

/-- R168: an uncorrectable line of a tray counted and recorded, before it is logged. -/
def State.recordTrayUe (s : State) (p o : Nat) : State :=
  (((s.bump fTRAY_ECC_STAT_UE p 0 1).put fTRAY_ECC_STAT_UE_BANK p 0 (bankOf (s.hashMode p) o)).put fTRAY_ECC_ADDR_OFFSET p 0 o).put fTRAY_ECC_ADDR_VALID p 0 1

theorem State.recordTrayUe_fields (o : Nat) :
    (s.recordTrayUe p o).get fTRAY_ECC_STAT_UE p 0 = satAdd (s.get fTRAY_ECC_STAT_UE p 0) 1 (2 ^ fTRAY_ECC_STAT_UE.w - 1) ∧
    (s.recordTrayUe p o).get fTRAY_ECC_STAT_UE_BANK p 0 = bankOf (s.hashMode p) o ∧
    (s.recordTrayUe p o).get fTRAY_ECC_ADDR_OFFSET p 0 = o % 2 ^ 23 ∧ (s.recordTrayUe p o).get fTRAY_ECC_ADDR_VALID p 0 = 1 := by
  have hstat : ∀ f g : Fld, f.blk = .plate ∧ f.stride = 0 → g.blk = .plate ∧ g.stride = 0 → f.off ≠ g.off → fldAddr f p 0 ≠ fldAddr g p 0 :=
    fun f g hf hg hne => by
      rw [fldAddr_plate hf, fldAddr_plate hg]
      omega
  unfold State.recordTrayUe
  refine ⟨?_, ?_, ?_, ?_⟩
  · rw [State.get_put_ne _ _ _ _ _ _ _ _ (.inl (hstat _ _ (by decide) (by decide) (by decide))),
      State.get_put_ne _ _ _ _ _ _ _ _ (.inl (hstat _ _ (by decide) (by decide) (by decide))),
      State.get_put_ne _ _ _ _ _ _ _ _ (.inr (by decide)), State.get_bump_same _ fTRAY_ECC_STAT_UE p 0 1 (by decide) (fieldOf_lt _ _ 16)]
  · rw [State.get_put_ne _ _ _ _ _ _ _ _ (.inl (hstat _ _ (by decide) (by decide) (by decide))),
      State.get_put_ne _ _ _ _ _ _ _ _ (.inl (hstat _ _ (by decide) (by decide) (by decide))), State.get_put_same _ _ _ _ _ (by decide)]
    exact Nat.mod_eq_of_lt (bankOf_lt ..)
  · rw [State.get_put_ne _ _ _ _ _ _ _ _ (.inr (by decide)), State.get_put_same _ _ _ _ _ (by decide)]
    rfl
  · rw [State.get_put_same _ _ _ _ _ (by decide)]
    rfl

/-- Registers in which an uncorrectable line of a tray is recorded. -/
def trayUeRegs (p : Nat) : List Nat := [fldAddr fTRAY_ECC_STAT_UE p 0, fldAddr fTRAY_ECC_ADDR_OFFSET p 0]

theorem trayUeRegs_apart {a : Nat} (hp : p < 128) (ha : a ∈ trayUeRegs p) :
    fldAddr fREL_LOG_BASE 0 0 ≠ a ∧ ∀ n, fldAddr fPART_STAT_STATE n 0 ≠ a := by
  rcases List.mem_pair.mp ha with rfl | rfl
  · exact (trayEcc_apart (f := fTRAY_ECC_STAT_UE) ⟨rfl, rfl, .inl rfl⟩ hp).2
  · exact (trayEcc_apart (f := fTRAY_ECC_ADDR_OFFSET) ⟨rfl, rfl, .inr rfl⟩ hp).2

theorem beside_recordTrayUe (s : State) (hp : p < 128) (o : Nat) : Beside s (s.recordTrayUe p o) (trayUeRegs p) := by
  have hring : fldAddr fREL_LOG_BASE 0 0 ∉ trayUeRegs p := fun h => (trayUeRegs_apart hp h).1 rfl
  refine beside_trans (beside_trans (beside_trans (beside_bump _ _ _ _ _ _ (.inr ?_)) (beside_put _ _ _ _ _ _ (.inr ?_)) hring)
    (beside_put _ _ _ _ _ _ (.inr ?_)) hring) (beside_put _ _ _ _ _ _ (.inr ?_)) hring
  · exact List.mem_cons_self ..
  · exact List.mem_cons_self ..
  · exact List.mem_cons_of_mem _ (List.mem_cons_self ..)
  · exact List.mem_cons_of_mem _ (List.mem_cons_self ..)

theorem State.recordTrayUe_lineErr (o : Nat) : (s.recordTrayUe p o).lineErr = s.lineErr := by
  simp only [State.recordTrayUe, State.put_lineErr, State.bump_lineErr]

/-- R397: what MEM_UE says of a line of a tray. -/
def trayUeEvent (s : State) (n a kind : Nat) : Ev :=
  { code := 0x8404, kind := kind, die := dieOfPlate (trayPlate a), unit := 1, inst := trayPlate a, part := if n < 16 then n else 0xFF,
    expo := s.get fPART_EXPO_NOW_EXPO n 0, addr := a }

theorem State.noteUeAs_tray {a : Nat} (ht : isTray a = true) (hl : lineOf a = a) (n kind : Nat) :
    s.noteUeAs n a kind = (s.recordTrayUe (trayPlate a) (trayOff a)).log (trayUeEvent s n a kind) := by
  unfold State.noteUeAs
  simp only [hl, ht, if_true]
  rfl

/-- R168, R397: an uncorrectable line of a tray is counted, recorded and logged, and stays damaged. -/
theorem State.washLine_bad (hp : p < 128) (ho : off < trayWin) (hbare : s.bare) :
    (s.washLine p off .bad).lineErrOf (trayAddr p (lineOf off)) = .bad ∧
    (s.washLine p off .bad).get fTRAY_ECC_STAT_UE p 0 = satAdd (s.get fTRAY_ECC_STAT_UE p 0) 1 (2 ^ fTRAY_ECC_STAT_UE.w - 1) ∧
    (s.washLine p off .bad).get fTRAY_ECC_STAT_UE_BANK p 0 = bankOf (s.hashMode p) off ∧
    (s.washLine p off .bad).get fTRAY_ECC_ADDR_OFFSET p 0 = lineOf off ∧ (s.washLine p off .bad).get fTRAY_ECC_ADDR_VALID p 0 = 1 ∧
    Beside (s.setLineErr (trayAddr p (lineOf off)) .bad) (s.washLine p off .bad) (trayUeRegs p) := by
  obtain ⟨htray, hplate, hoff⟩ := trayAddr_line hp ho
  have hring : fldAddr fREL_LOG_BASE 0 0 ∉ trayUeRegs p := fun h => (trayUeRegs_apart hp h).1 rfl
  have hstate : ∀ n, fldAddr fPART_STAT_STATE n 0 ∉ trayUeRegs p := fun n h => (trayUeRegs_apart hp h).2 n rfl
  have hline : s.washLine p off .bad =
      (((s.setLineErr (trayAddr p (lineOf off)) .bad).recordTrayUe p (lineOf off)).log
        (trayUeEvent (s.setLineErr (trayAddr p (lineOf off)) .bad) (s.ownerOf p) (trayAddr p (lineOf off)) 1)).queueReload (trayAddr p (lineOf off)) := by
    rw [State.washLine, if_pos (.inl rfl), State.noteUeAs_tray htray (lineOf_trayAddr ..), hplate, hoff]
  generalize hev : trayUeEvent (s.setLineErr (trayAddr p (lineOf off)) .bad) (s.ownerOf p) (trayAddr p (lineOf off)) 1 = ev at hline
  generalize hrec : (s.setLineErr (trayAddr p (lineOf off)) .bad).recordTrayUe p (lineOf off) = r at hline
  have hr : Beside (s.setLineErr (trayAddr p (lineOf off)) .bad) r (trayUeRegs p) := hrec ▸ beside_recordTrayUe _ hp _
  have hbeside : Beside (s.setLineErr (trayAddr p (lineOf off)) .bad) (r.log ev) (trayUeRegs p) :=
    beside_trans hr (beside_mono (beside_log r ev) (by simp)) hring
  have hbareLog : (r.log ev).bare := fun n hn => by
    rw [State.exists_, beside_get hbeside _ _ _ (by revert n; decide) (hstate n)]
    exact hbare n hn
  rw [hline, State.queueReload_bare hbareLog]
  obtain ⟨hue, hbank, haddr, hvalid⟩ := (s.setLineErr (trayAddr p (lineOf off)) .bad).recordTrayUe_fields (p := p) (lineOf off)
  rw [hrec] at hue hbank haddr hvalid
  have hkept : ∀ f : Fld, f.blk = .plate ∧ f.stride = 0 ∧ (f.off = 0x228 ∨ f.off = 0x230) → (r.log ev).get f p 0 = r.get f p 0 :=
    fun f hf => beside_get (beside_log r ev) f p 0 (trayEcc_apart hf hp).1 (by simp)
  refine ⟨?_, ?_, ?_, ?_, ?_, hbeside⟩
  · rw [linesKept_log _ _ _ (trayBase_above (trayBase_le_trayAddr ..)), ← hrec, State.lineErrOf, State.recordTrayUe_lineErr]
    exact s.lineErrOf_set_same _ .bad
  · rw [hkept fTRAY_ECC_STAT_UE (by decide), hue]
    rfl
  · rw [hkept fTRAY_ECC_STAT_UE_BANK (by decide), hbank, bankOf_lineOf]
    rfl
  · rw [hkept fTRAY_ECC_ADDR_OFFSET (by decide), haddr]
    refine Nat.mod_eq_of_lt ?_
    rw [lineOf]
    rw [trayWin] at ho
    omega
  · rw [hkept fTRAY_ECC_ADDR_VALID (by decide), hvalid]

/-! ### A read admitted, deferred or skipped (R167, R419) -/

theorem State.washRead_asleep (h : s.bankAwake p (bankOf (s.hashMode p) off) = false) (e : Ecc) (forced : Bool) : s.washRead p off e forced = s := by
  simp [State.washRead, h]

theorem State.washWriteBack_asleep (h : s.bankAwake p (bankOf (s.hashMode p) off) = false) : s.washWriteBack p off = s := by
  simp [State.washWriteBack, h]

theorem State.washRead_deferred (h : s.bankAwake p (bankOf (s.hashMode p) off) = true) (hroom : s.bgRoom p 1 trayCap = false) (e : Ecc) (forced : Bool) :
    s.washRead p off e forced = { s.dens 186 5 1 with washHeld := (s.dens 186 5 1).washHeld ++ [(p, lineOf off, s.washEnd p off)] } := by
  simp [State.washRead, h, State.bgAdmit, hroom]

/-- R419: the books of a read that its tray has room for. -/
def State.washBegun (s : State) (p off : Nat) : State :=
  { s.bgUse p 1 with washHeld := s.washHeld.filter (fun e => !decide (e.1 = p ∧ e.2.1 = lineOf off)) }

theorem State.washRead_admitted (h : s.bankAwake p (bankOf (s.hashMode p) off) = true) (hroom : s.bgRoom p 1 trayCap = true) (e : Ecc) (forced : Bool) :
    s.washRead p off e forced = (if forced then (s.washBegun p off).dens p 17 1 else s.washBegun p off).washLine p off e := by
  simp only [State.washRead, h, State.bgAdmit, hroom]
  rfl

/-- What a state in which a wash read stands has of the one before: nothing has changed but the books of the read and what counts. -/
def State.Washing (s t : State) : Prop := Beside { s with bgWork := t.bgWork, washHeld := t.washHeld } t [] ∧ LinesKept s t

theorem State.washing_begun (s : State) {p : Nat} (hp : p < 128) (off : Nat) (forced : Bool) :
    s.Washing (if forced then (s.washBegun p off).dens p 17 1 else s.washBegun p off) := by
  have hb : Beside (s.washBegun p off) ((s.washBegun p off).dens p 17 1) [] := beside_dens _ p 17 1 (by omega)
  cases forced with
  | false => exact ⟨beside_refl (s.washBegun p off) [], fun _ _ => rfl⟩
  | true =>
    refine ⟨?_, fun l hl => (linesKept_dens (s.washBegun p off) p 17 1 l hl).trans rfl⟩
    have hwork : ((s.washBegun p off).dens p 17 1).bgWork = (s.washBegun p off).bgWork := by rw [hb.1]
    have hheld : ((s.washBegun p off).dens p 17 1).washHeld = (s.washBegun p off).washHeld := by rw [hb.1]
    rw [if_pos rfl, hwork, hheld]
    exact hb

/-- A step from a washing state that keeps its books, seen from the state before. -/
theorem State.Washing.after {s t u : State} {A : List Nat} (h : s.Washing t) (l : Nat) (e : LineErr) (hu : Beside (t.setLineErr l e) u A)
    (hA : fldAddr fREL_LOG_BASE 0 0 ∉ A) : Beside { s.setLineErr l e with bgWork := u.bgWork, washHeld := u.washHeld } u A := by
  obtain ⟨hb, -⟩ := h
  have hwork : u.bgWork = t.bgWork := by rw [hu.1]; rfl
  have hheld : u.washHeld = t.washHeld := by rw [hu.1]; rfl
  rw [hwork, hheld]
  exact beside_trans (beside_mono (hb.setLineErr l e) (by simp)) hu hA

theorem State.Washing.parts {s t : State} (h : s.Washing t) : t.parts = s.parts := by
  rw [h.1.1]

theorem State.Washing.get {s t : State} (h : s.Washing t) {f : Fld} (hf : f.blk = .plate ∧ f.stride = 0 ∧ (f.off = 0x228 ∨ f.off = 0x230)) (hp : p < 128) :
    t.get f p 0 = s.get f p 0 :=
  beside_get h.1 f p 0 (trayEcc_apart hf hp).1 (by simp)

theorem State.Washing.sameSetup {s t : State} (h : s.Washing t) : SameSetup s t := fun a ha _ _ => h.1.2.1 a ha (by simp)

end

/-! ### The commands -/

section
variable {s : State} {p off : Nat}

theorem exec_washTrayRead (hl : s.live = true) (hp : p < 128) (ho : off < trayWin) (e : Ecc) :
    exec (.washTrayRead p off e) s = .next (s.washRead p off e false).settle :=
  s.answer_live _ _ _ hl (decide_eq_true (p := p < 128 ∧ off < 0x800000) ⟨hp, ho⟩)

theorem exec_washForced (hl : s.live = true) (hp : p < 128) (ho : off < trayWin) (e : Ecc) :
    exec (.washForced p off e) s = .next (s.washRead p off e true).settle :=
  s.answer_live _ _ _ hl (decide_eq_true (p := p < 128 ∧ off < 0x800000) ⟨hp, ho⟩)

theorem exec_washWriteBack (hl : s.live = true) (hp : p < 128) (ho : off < trayWin) : exec (.washWriteBack p off) s = .next (s.washWriteBack p off) :=
  s.answer_live _ _ _ hl (decide_eq_true (p := p < 128 ∧ off < 0x800000) ⟨hp, ho⟩)

/-- Both commands that read a line of a tray, by whether the read is forced. -/
theorem exec_washRead (hl : s.live = true) (hp : p < 128) (ho : off < trayWin) {e : Ecc} {i : Instr} (hi : i ∈ [Instr.washTrayRead p off e, .washForced p off e]) :
    ∃ forced, exec i s = .next (s.washRead p off e forced).settle := by
  rcases List.mem_pair.mp hi with rfl | rfl
  · exact ⟨false, exec_washTrayRead hl hp ho e⟩
  · exact ⟨true, exec_washForced hl hp ho e⟩

/-- A read of either kind that its tray has room for: the line is read in a state in which the read stands. -/
theorem exec_washRead_admitted (hl : s.live = true) (hset : s.settled) (hp : p < 128) (ho : off < trayWin)
    (hawake : s.bankAwake p (bankOf (s.hashMode p) off) = true) (hroom : s.bgRoom p 1 trayCap = true) {e : Ecc} {i : Instr}
    (hi : i ∈ [Instr.washTrayRead p off e, .washForced p off e]) :
    ∃ t, s.Washing t ∧ ((t.washLine p off e).parts = t.parts → exec i s = .next (t.washLine p off e)) := by
  obtain ⟨forced, hexec⟩ := exec_washRead hl hp ho hi
  have hw := s.washing_begun hp off forced
  refine ⟨_, hw, fun hparts => ?_⟩
  rw [hexec, State.washRead_admitted hawake hroom, State.settle_of_parts hset (hparts.trans hw.parts)]

theorem washRead_defers (hl : s.live = true) (hset : s.settled) (hp : p < 128) (ho : off < trayWin)
    (hawake : s.bankAwake p (bankOf (s.hashMode p) off) = true) (hroom : s.bgRoom p 1 trayCap = false) (e : Ecc) :
    ∀ i ∈ [Instr.washTrayRead p off e, .washForced p off e], Completes i s (fun t =>
      t.washHeld = s.washHeld ++ [(p, lineOf off, s.washEnd p off)] ∧ Beside { s with washHeld := t.washHeld } t []) := by
  intro i hi
  obtain ⟨forced, hexec⟩ := exec_washRead hl hp ho hi
  rw [State.washRead_deferred hawake hroom] at hexec
  obtain ⟨hframe, hreg, hmem, hline, hout⟩ := beside_dens s 186 5 1 (by decide)
  generalize s.dens 186 5 1 = d at *
  have hheld : d.washHeld = s.washHeld := by rw [hframe]
  have hparts : d.parts = s.parts := by rw [hframe]
  have hsettle : ∀ w, ({ d with washHeld := w } : State).settle = { d with washHeld := w } := fun w => State.settle_of_parts hset hparts
  rw [hsettle, hheld] at hexec
  exact ⟨_, hexec, rfl, by rw [hframe], hreg, hmem, hline, hout⟩

theorem washWriteBack_defers (hroom : s.bgRoom p 1 trayCap = false) : Beside s (s.washWriteBack p off) [] := by
  unfold State.washWriteBack
  dsimp only
  split
  · simp only [State.bgAdmit, hroom, Bool.false_eq_true, if_false]
    exact beside_dens s 186 5 1 (by decide)
  · exact beside_refl s []

theorem washRead_clean (hl : s.live = true) (hset : s.settled) (hp : p < 128) (ho : off < trayWin)
    (hawake : s.bankAwake p (bankOf (s.hashMode p) off) = true) (hroom : s.bgRoom p 1 trayCap = true) (hgood : s.lineErrOf (trayAddr p (lineOf off)) = .good) :
    exec (.washTrayRead p off .clean) s = .next (s.washBegun p off) ∧
    Completes (.washForced p off .clean) s (fun t => Beside { s with bgWork := t.bgWork, washHeld := t.washHeld } t []) := by
  have hread : ∀ t, s.Washing t → t.washLine p off .clean = t := fun t ht =>
    State.washLine_good ((ht.2 _ (trayBase_above (trayBase_le_trayAddr ..))).trans hgood)
  refine ⟨?_, ?_⟩
  · rw [exec_washTrayRead hl hp ho, State.washRead_admitted hawake hroom, if_neg Bool.false_ne_true, hread (s.washBegun p off) (s.washing_begun hp off false),
      State.settle_of_parts (t := s.washBegun p off) hset rfl]
  · obtain ⟨t, hw, hexec⟩ := exec_washRead_admitted hl hset hp ho hawake hroom (e := .clean) (i := .washForced p off .clean) (by simp)
    rw [hread t hw] at hexec
    exact ⟨t, hexec rfl, hw.1⟩

theorem washRead_corrected (hl : s.live = true) (hset : s.settled) (hp : p < 128) (ho : off < trayWin)
    (hawake : s.bankAwake p (bankOf (s.hashMode p) off) = true) (hroom : s.bgRoom p 1 trayCap = true) (hline : s.lineErrOf (trayAddr p (lineOf off)) ≠ .bad) :
    ∀ i ∈ [Instr.washTrayRead p off .corrected, .washForced p off .corrected], Completes i s (fun t =>
      t.lineErrOf (trayAddr p (lineOf off)) = .corrected ∧
      t.get fTRAY_ECC_STAT_CE p 0 = satAdd (s.get fTRAY_ECC_STAT_CE p 0) 1 (2 ^ fTRAY_ECC_STAT_CE.w - 1) ∧
      Beside { s.setLineErr (trayAddr p (lineOf off)) .corrected with bgWork := t.bgWork, washHeld := t.washHeld } t
        [fldAddr fTRAY_ECC_STAT_CE p 0]) := by
  intro i hi
  obtain ⟨t, hw, hexec⟩ := exec_washRead_admitted hl hset hp ho hawake hroom hi
  have hbad : t.lineErrOf (trayAddr p (lineOf off)) ≠ .bad := by rwa [hw.2 _ (trayBase_above (trayBase_le_trayAddr ..))]
  obtain ⟨hcorrected, hce, hb⟩ := State.washLine_corrected hp hbad
  have hring := (trayEcc_apart (f := fTRAY_ECC_STAT_CE) ⟨rfl, rfl, .inl rfl⟩ hp).2.1
  refine ⟨_, hexec (by rw [hb.1]; rfl), hcorrected, ?_, hw.after _ _ hb (List.mem_singleton.not.mpr hring)⟩
  rw [hce, hw.get (f := fTRAY_ECC_STAT_CE) (by decide) hp]

theorem washRead_bad (hl : s.live = true) (hset : s.settled) (hp : p < 128) (ho : off < trayWin)
    (hawake : s.bankAwake p (bankOf (s.hashMode p) off) = true) (hroom : s.bgRoom p 1 trayCap = true) (hbare : s.bare) :
    ∀ i ∈ [Instr.washTrayRead p off .bad, .washForced p off .bad], Completes i s (fun t =>
      t.lineErrOf (trayAddr p (lineOf off)) = .bad ∧
      t.get fTRAY_ECC_STAT_UE p 0 = satAdd (s.get fTRAY_ECC_STAT_UE p 0) 1 (2 ^ fTRAY_ECC_STAT_UE.w - 1) ∧
      t.get fTRAY_ECC_STAT_UE_BANK p 0 = bankOf (s.hashMode p) off ∧
      t.get fTRAY_ECC_ADDR_OFFSET p 0 = lineOf off ∧ t.get fTRAY_ECC_ADDR_VALID p 0 = 1 ∧
      (∀ a, s.inLogRing a = false → t.mem.get a = s.mem.get a)) := by
  intro i hi
  obtain ⟨t, hw, hexec⟩ := exec_washRead_admitted hl hset hp ho hawake hroom hi
  have hbareT : t.bare := fun n hn => (hw.sameSetup.exists_ hn).trans (hbare n hn)
  obtain ⟨hbad, hue, hbank, haddr, hvalid, hb⟩ := State.washLine_bad hp ho hbareT
  have hring : fldAddr fREL_LOG_BASE 0 0 ∉ trayUeRegs p := fun h => (trayUeRegs_apart hp h).1 rfl
  obtain ⟨-, -, hmem, -, -⟩ := hw.after _ _ hb hring
  refine ⟨_, hexec (by rw [hb.1]; rfl), hbad, ?_, ?_, haddr, hvalid, hmem⟩
  · rw [hue, hw.get (f := fTRAY_ECC_STAT_UE) (by decide) hp]
  · rw [hbank, hw.sameSetup.hashMode]

theorem State.washWriteBack_good (h : s.lineErrOf (trayAddr p (lineOf off)) = .good) : s.washWriteBack p off = s := by
  simp [State.washWriteBack, h]

theorem State.washWriteBack_heals (hawake : s.bankAwake p (bankOf (s.hashMode p) off) = true) (hroom : s.bgRoom p 1 trayCap = true)
    (h : s.lineErrOf (trayAddr p (lineOf off)) = .corrected) : s.washWriteBack p off = (s.bgUse p 1).setLineErr (trayAddr p (lineOf off)) .good := by
  simp [State.washWriteBack, h, hawake, State.bgAdmit, hroom]

end

/-- Settles O43: a bank that is not AWAKE, a tray without room, and with room each state of the line. -/
theorem washReadsTrayLines : Obligations.WashReadsTrayLines := by
  unfold Obligations.WashReadsTrayLines
  intro s p off hl hset hp ho
  have hback := exec_washWriteBack hl hp ho
  refine ⟨fun hasleep => ⟨fun e => ⟨?_, ?_⟩, ?_⟩, fun hawake hroom => ⟨?_, ?_⟩, fun hawake hroom => ⟨fun hgood => ?_, ?_, fun hline => ?_, ?_⟩⟩
  · rw [exec_washTrayRead hl hp ho, State.washRead_asleep hasleep, State.settle_of_parts hset rfl]
  · rw [exec_washForced hl hp ho, State.washRead_asleep hasleep, State.settle_of_parts hset rfl]
  · rw [hback, State.washWriteBack_asleep hasleep]
  · exact washRead_defers hl hset hp ho hawake hroom
  · exact ⟨_, hback, washWriteBack_defers hroom⟩
  · obtain ⟨hread, hforced⟩ := washRead_clean hl hset hp ho hawake hroom hgood
    exact ⟨hread, by rw [hback, State.washWriteBack_good hgood], hforced⟩
  · exact washRead_corrected hl hset hp ho hawake hroom
  · rw [hback, State.washWriteBack_heals hawake hroom hline]
  · exact washRead_bad hl hset hp ho hawake hroom

end Sys2Proof.Machine
end

section
/-! O56 refuted: TRAY_COPY of a tagged command whose count makes the log write an entry over the bytes it carries (R157, R393, R477, R482). -/

namespace Sys2Proof.Machine

/-! ### A completed DMA command without a signal (R155, R482) -/

section
variable {s t : State} {c : PlateCmd}

/-- R105, R155: what the completion of a TRAY_COPY without a signal comes to. -/
theorem succeed_trayCopy (s : State) (hc : c.opc = 0x58) (hsig : c.signalSem = false) :
    s.succeed c 0 = ((s.dropWaiter c.plate 0).noteWork c false).untag c := by
  have hserver : ∀ t : State, t.serverOf c = none := fun t => by simp [State.serverOf, unitOf, hc]
  have hserved : ∀ t : State, t.noteServed c = t := fun t => by rw [State.noteServed, hserver]
  have hgive : ∀ t : State, t.giveSignal c = t := fun t => by simp [State.giveSignal, State.signalWaits, State.signalOf, hsig]
  simp [State.succeed, State.finishCmd, unitOf, hc, hserved, hgive]

theorem State.dropWaiter_other (s : State) {p q : Nat} (h : q ≠ p) (i : Nat) : (s.dropWaiter p i).plate q = s.plate q :=
  State.plate_setPlate_ne s (Ne.symm h) _

/-- The only command that waited has left its plate. -/
theorem Still.of_dropWaiter {p : Nat} (ha : Alone s p) : Still (s.dropWaiter p 0) := by
  intro q
  by_cases hq : q = p
  · subst hq
    have hlast : (s.plate q).waiting.eraseIdx 0 = [] := by
      rw [← List.length_eq_zero_iff, List.length_eraseIdx]
      have := ha.2
      split <;> omega
    rw [State.dropWaiter_plate]
    exact ⟨hlast, (ha.1 q).1⟩
  · rw [s.dropWaiter_other hq]
    exact ⟨(ha.1 q).2 hq, (ha.1 q).1⟩

theorem Idle.dropWaiter (h : Idle s) (p : Nat) : Idle (s.dropWaiter p 0) := by
  refine h.of_kept (fun q => ?_) (fun _ _ _ => rfl)
  by_cases hq : q = p
  · rw [hq, State.dropWaiter_plate]
  · rw [s.dropWaiter_other hq]

/-- What the tag leaves behind wakes nothing. -/
theorem Still.of_untag (hs : Still s) (hi : Idle s) (hbase : s.g fDENS_SAMPLE_BASE = 0) :
    Still (s.untag c) ∧ Idle (s.untag c) ∧ (s.untag c).ctxs = s.ctxs ∧ (s.untag c).mem = s.mem := by
  obtain ⟨hmem, hctxs, hplates, hregs⟩ := s.untag_frame (c := c) hbase
  refine ⟨fun q => ?_, hi.of_kept (fun q => ?_) hregs, hctxs, hmem⟩
  · obtain ⟨g, hg⟩ := hplates q
    rw [hg]
    exact hs q
  · obtain ⟨g, hg⟩ := hplates q
    rw [hg]

/-- A TRAY_COPY that completes alone on idle plates lets nothing write memory. -/
theorem trayCopy_leaves (hc : c.opc = 0x58) (hsig : c.signalSem = false) (hbase : t.g fDENS_SAMPLE_BASE = 0) (hi : Idle t) (ha : Alone t c.plate)
    (hctxs : t.ctxs = []) (n : Nat) : ((t.succeed c 0).wake n).settle.mem = t.mem := by
  have hstill : Still ((t.dropWaiter c.plate 0).noteWork c false) := Still.of_dropWaiter ha
  have hidle : Idle ((t.dropWaiter c.plate 0).noteWork c false) := hi.dropWaiter c.plate
  obtain ⟨hs, hi', hkept, hmem⟩ := Still.of_untag (c := c) hstill hidle hbase
  rw [succeed_trayCopy t hc hsig]
  exact ((hs.wake_settle hi' n).2 (hkept.trans hctxs)).2.trans hmem

/-- A command issued on plates as at reset waits alone where its unit begins, and no plate runs a context. -/
theorem State.begun_alone (hp : c.plate < 128) (hw : c.waitSem = false) (hplates : s.plates = []) (hoff : ∀ n, n < 16 → s.get fPART_REL_STAT_OFFLINE n 0 = 1) :
    Alone (s.begun c) c.plate ∧ Idle (s.begun c) := by
  have hb : Begins s (s.begun c) c.plate := begins_begun s hp
  have hinit : ∀ q, s.plate q = Plate.init := fun q => by rw [State.plate, hplates]; rfl
  obtain ⟨g, hg⟩ := s.queued_plate hp
  have hown : (s.begun c).plate c.plate = { Plate.init.issued c with tagged := g } := by
    rw [State.begun_eq, hw, ← hinit c.plate]
    exact hg
  have hother : ∀ q, q ≠ c.plate → (s.begun c).plate q = Plate.init := fun q hq => (hb.2.1 q hq).trans (hinit q)
  refine ⟨⟨fun q => ?_, ?_⟩, ⟨fun q => ?_, fun n hn => ?_⟩⟩
  · by_cases hq : q = c.plate
    · rw [hq, hown]
      exact ⟨rfl, fun h => absurd rfl h⟩
    · rw [hother q hq]
      exact ⟨rfl, fun _ => rfl⟩
  · rw [hown]
    exact Nat.le_refl 1
  · by_cases hq : q = c.plate
    · rw [hq, hown]
      rfl
    · rw [hother q hq]
      rfl
  · rw [hb.sameSetup.partGet (f := fPART_REL_STAT_OFFLINE) (by decide) hn]
    exact hoff n hn

theorem State.begun_sampleBase (s : State) (hp : c.plate < 128) : (s.begun c).g fDENS_SAMPLE_BASE = s.g fDENS_SAMPLE_BASE := by
  have hreg : (s.begun c).reg (fldAddr fDENS_SAMPLE_BASE 0 0) = s.reg (fldAddr fDENS_SAMPLE_BASE 0 0) := by
    refine (begins_begun s hp).sameSetup _ (by decide) (fun q hq => ?_) (by decide)
    simp only [fldAddr, fDENS_SAMPLE_BASE, fTRAY_ECC_STAT_CE, blockBase]
    omega
  rw [State.g, State.get, hreg]
  rfl

set_option maxRecDepth 10000 in
theorem settings_notMemRegs : fldAddr fDENS_SAMPLE_BASE 0 0 ∉ memRegs ∧ ∀ n, n < 16 → fldAddr fPART_REL_STAT_OFFLINE n 0 ∉ memRegs := by decide

/-- Work on memory that changes nothing of the plates but semaphores leaves a command that was alone so. -/
theorem MemWork.alone {b : State} {dest : Nat → Prop} (h : MemWork { b with plates := t.plates } t dest) (hs : onlySems b t)
    {p : Nat} (ha : Alone b p) (hi : Idle b) :
    Alone t p ∧ Idle t ∧ t.ctxs = b.ctxs ∧ t.g fDENS_SAMPLE_BASE = b.g fDENS_SAMPLE_BASE := by
  obtain ⟨hframe, hreg, -⟩ := h
  obtain ⟨hbase, hoff⟩ := settings_notMemRegs
  have hfields : ∀ q, (t.plate q).waiting = (b.plate q).waiting ∧ (t.plate q).unsent = (b.plate q).unsent ∧ (t.plate q).ctx = (b.plate q).ctx := fun q => by
    have hq := hs q
    injection hq with _ _ _ _ _ hwaiting hctx _ _ _ _ _ _ _ _ hunsent
    exact ⟨hwaiting, hunsent, hctx⟩
  refine ⟨⟨fun q => ?_, ?_⟩, ⟨fun q => (hfields q).2.2.trans (hi.1 q), fun n hn => ?_⟩, by rw [hframe], ?_⟩
  · obtain ⟨hwaiting, hunsent, -⟩ := hfields q
    rw [hwaiting, hunsent]
    exact ha.1 q
  · rw [(hfields p).1]
    exact ha.2
  · rw [State.get, hreg _ (offlineAddr_apart n).1 (hoff n hn)]
    exact hi.2 n hn
  · rw [State.g, State.get, hreg _ (by decide) hbase]
    rfl

end

/-! ### The state that refutes O56 -/

/-- Partition 0 runs on cluster 0, its step word stands in the log ring of one entry at the start of the Drawer, and counter 0 of plate 0, which
counts tagged commands and logs when it saturates, stands at its maximum. All partitions are OFFLINE. -/
def wStepInRing : State :=
  ((State.reset.putAll ([(fPART_STAT_STATE, 0, 2), (fPART_LAYOUT_CLUSTERS, 0, 1), (fGLOBAL_ZD_RSV_RSV_GIB, 0, 1), (fREL_LOG_BASE, 0, drawerBase),
    (fPART_STEP_ADDR, 0, drawerBase)] ++ (List.range 16).map (fun n => (fPART_REL_STAT_OFFLINE, n, 1)))).setReg (densSelAddr 0 0) (28 + 1024)).setReg
    (densCtrAddr 0 0) (BitVec.ofNat 64 (2 ^ 48 - 1))

/-- A tagged TRAY_COPY of the 16 bytes of the step word to tray offset 0. -/
def wCopy : PlateCmd := { plate := 0, index := 0, word := BitVec.ofNat 256 (0x58 + 2 ^ 11 + 16 * 2 ^ 64 + 2 ^ 128 * drawerBase) }

theorem wCopy_fields : wCopy.opc = 0x58 ∧ wCopy.signalSem = false ∧ wCopy.waitSem = false ∧ dmaOk wCopy wCopy.trayAddr = true ∧
    wCopy.le 16 6 = drawerBase ∧ dmaLen wCopy = 16 ∧ wCopy.trayAddr = 0 ∧ wCopy.bits 22 0 1 = 0 ∧ wCopy.bits 22 1 1 = 0 := by decide

set_option maxRecDepth 10000 in
theorem wStepInRing_ready : wStepInRing.ready wCopy := by decide

set_option maxRecDepth 10000 in
theorem wStepInRing_readable : wStepInRing.dmaReadable (wStepInRing.ownerOf 0) drawerBase 16 := by decide

set_option maxRecDepth 10000 in
theorem wStepInRing_writable : wStepInRing.dmaWritable (wStepInRing.ownerOf 0) (trayAddr 0 0) 16 ∧ wStepInRing.offLog (trayAddr 0 0) 16 ∧
    wStepInRing.staticMode 0 = false := by decide

set_option maxRecDepth 10000 in
theorem wStepInRing_settings : (∀ n, n < 16 → wStepInRing.get fPART_REL_STAT_OFFLINE n 0 = 1) ∧ wStepInRing.g fDENS_SAMPLE_BASE = 0 ∧
    wStepInRing.plates = [] ∧ wStepInRing.ctxs = [] ∧ wStepInRing.byte drawerBase = 0 := by decide

/-- A byte of memory after a command that answers a next state. -/
def byteAfter (o : Host.Outcome State Fault Refusal) (a : Nat) : Option Nat :=
  match o with
  | .next t => some (t.byte a)
  | _ => none

set_option maxRecDepth 10000 in
/-- The copy carries the entry that the count of its own tag logged. -/
theorem wStepInRing_copies : byteAfter (exec (.trayCopy wCopy) wStepInRing) (trayAddr 0 0) = some 1 := by decide

/-- Refutes O56: the tag that a TRAY_COPY carries is counted before its unit begins, and a counter that saturates there logs DENS_OVF into the log
ring, so that a copy out of the ring (here the step word, a range granted to be read) leaves other bytes than its source held at the command's issue. -/
theorem not_dmaCommandsRun : ¬ Obligations.DmaCommandsRun := by
  unfold Obligations.DmaCommandsRun
  intro h
  obtain ⟨hopc, hsig, hnowait, hok, hremote, hlen, hoff, hin, hen⟩ := wCopy_fields
  obtain ⟨hwritable, hdst, hstatic⟩ := wStepInRing_writable
  obtain ⟨hoffline, hbase, hplates, hctxs, hsrc⟩ := wStepInRing_settings
  obtain ⟨hcopy, -⟩ := h wStepInRing wCopy wStepInRing_ready
  obtain ⟨t, hexec, hbytes, hmem, hsems, -⟩ := hcopy hopc hok (by rw [hremote]; decide) drawerBase (trayAddr 0 0)
    (by rw [hin, hremote, hoff]; rfl) (by rw [hlen]; exact wStepInRing_readable) (by rw [hlen]; exact hwritable) (by rw [hlen]; exact hdst)
    (by rw [hen]; exact nofun) (fun hs => absurd hs (by rw [show wCopy.plate = 0 from rfl, hstatic]; exact Bool.false_ne_true))
  obtain ⟨ha, hi⟩ := wStepInRing.begun_alone (c := wCopy) (by decide) hnowait hplates hoffline
  obtain ⟨ha', hi', hctxs', hbase'⟩ := hmem.alone hsems ha hi
  have hleft := trayCopy_leaves hopc hsig (hbase'.trans ((wStepInRing.begun_sampleBase (by decide)).trans hbase)) hi' ha'
    (hctxs'.trans ((begins_begun wStepInRing (by decide)).ctxs.trans hctxs)) (wStepInRing.ownerOf wCopy.plate)
  have hfirst : t.byte (trayAddr 0 0) = wStepInRing.byte drawerBase := by
    rw [hlen] at hbytes
    exact congrArg (fun l => l.getD 0 0) hbytes
  have hlogged := wStepInRing_copies
  rw [hexec, byteAfter, State.byte, hleft, ← State.byte, hfirst, hsrc] at hlogged
  cases hlogged

end Sys2Proof.Machine
end

section
/-! What a cluster's Enlarger reads and writes where no tray is in SPLIT mode, and rows that read back (R110, R144, R194): O58. -/

namespace Sys2Proof.Machine

/-! ### Clusters without SPLIT mode -/

/-- Every tray of the cluster of plate `p` is whole, and none is in SPLIT mode. -/
def State.openCluster (s : State) (p : Nat) : Prop := ∀ q, q / 8 = p / 8 → s.wholeTray q ∧ s.splitMode q = false

section
variable {s t : State} {p : Nat}

theorem State.openCluster_whole (h : s.openCluster p) : s.wholeCluster p := fun q hq => (h q hq).1

theorem ClusterWork.openCluster {dest : Nat → Prop} (h : ClusterWork s t dest) (hp : p < 128) (hw : s.openCluster p) : t.openCluster p := fun q hq =>
  ⟨h.wholeCluster hp (State.openCluster_whole hw) q hq, (h.sameSetup.splitMode q).trans (hw q hq).2⟩

theorem State.openCluster_begun {c : PlateCmd} (hp : c.plate < 128) (h : s.openCluster c.plate) : (s.begun c).openCluster c.plate := fun q hq =>
  ⟨State.wholeCluster_begun hp (State.openCluster_whole h) q hq, ((sameSetup_begun s hp).splitMode q).trans (h q hq).2⟩

theorem State.grainTop_unsplit {q : Nat} (h : s.splitMode q = false) : s.grainTop q = trayWin := if_neg (by rw [h]; exact Bool.false_ne_true)

/-- R144: outside SPLIT mode the grain side writes where a cluster unit does. -/
theorem State.trayPut_unsplit {q : Nat} (h : s.splitMode q = false) (o : Nat) (bs : List Nat) : s.trayPut .grain q o bs = s.trayPut .cluster q o bs := by
  simp [State.trayPut, State.trayBar, splitShut, h]

/-- A range of one window of a cluster reads whole by the Enlarger. -/
theorem State.enRead_in {a n : Nat} (hp : p < 128) (hw : s.openCluster p) (h : clIn a n) : s.enRead p a n = .ok (s.bytes (clAt p a) n) := by
  have hend := clIn_end h
  have hreads := mapM_ok (f := fun x : Nat × Nat × Nat => s.trayRead .grain x.1 x.2.1 x.2.2) (l := clusterPieces p a n)
    (g := fun x => s.tray x.1 x.2.1 x.2.2) (fun x hx => by
      obtain ⟨hdiv, htop⟩ := clusterPieces_mem hx
      exact State.trayRead_whole (hw _ hdiv).1 (by omega) (by rw [State.grainTop_unsplit (hw _ hdiv).2]; exact htop))
  rw [← State.clRead_in hp (hw _ (clusterAddr_plate p a)).1 h, State.clRead_whole hp (State.openCluster_whole hw) h.1 hend, State.enRead,
    State.clusterRead, if_neg (by omega), hreads]
  rfl

/-- The Enlarger's write within one window is that of any cluster unit. -/
theorem State.enPut_in {a : Nat} {bs : List Nat} (hw : s.openCluster p) (h : clIn a bs.length) : s.enPut p a bs = s.clPut p a bs := by
  rw [State.enPut, State.clPut, State.clusterPut, State.clusterPut]
  by_cases hn : bs.length = 0
  · rw [List.length_eq_zero_iff.mp hn, List.length_nil, clusterPieces_none]
    rfl
  · rw [clusterPieces_in h (by omega), List.foldlM_cons, List.foldlM_cons]
    dsimp only
    rw [State.trayPut_unsplit (hw _ (clusterAddr_plate p a)).2]
    rfl

/-- The Enlarger's write within one window: only the bytes named have changed, and they read as written. -/
theorem State.succeeds_enPut {a n : Nat} {bs : List Nat} (hw : s.openCluster p) (hlen : bs.length = n) (h : clIn a n) :
    Succeeds (s.enPut p a bs) (fun t => ClusterWork s t (atCl p a n) ∧ ((∀ b ∈ bs, b < 256) → t.bytes (clAt p a) n = bs)) := by
  rw [State.enPut_in hw (by rw [hlen]; exact h)]
  exact State.succeeds_clPut (State.openCluster_whole hw) hlen h

/-! ### Bytes apart from a write -/

theorem clAt_eq {a : Nat} (h : a < 2 ^ 26) : clAt p a = trayBase + p / 8 * 2 ^ 26 + a := by
  rw [clAt, (clusterAddr_div h).1, show (clusterAddr p a).2 = a % 2 ^ 23 from rfl, trayAddr, trayWin]
  omega

/-- A write leaves the bytes of another range of the cluster. -/
theorem ClusterWork.bytes_apart {a b m n : Nat} (h : ClusterWork s t (atCl p b n)) (ha : a < 2 ^ 26) (hb : b < 2 ^ 26) (hab : a + m ≤ b ∨ b + n ≤ a) :
    t.bytes (clAt p a) m = s.bytes (clAt p a) m := by
  refine List.map_congr_left fun i hi => ?_
  have hi := List.mem_range.mp hi
  rw [State.byte, State.byte, h.2.2 _ (Nat.le_trans (trayBase_le_clAt p a) (Nat.le_add_right ..))]
  rw [atCl, clAt_eq ha, clAt_eq hb]
  omega

/-- Counting changes no byte of a tray. -/
theorem traysKept_dens (s : State) (b ev v : Nat) : TraysKept s (s.dens b ev v) := fun a ha => aboveKept_dens s b ev v a (trayBase_above ha)

end

/-- Entry `j` of a list that is given by a function. -/
theorem getD_map_range {α : Type} {f : Nat → α} {n j : Nat} {d : α} (hj : j < n) : ((List.range n).map f).getD j d = f j := by
  rw [List.getD_eq_getElem _ _ (by simpa using hj), List.getElem_map, List.getElem_range]

/-- Rows written one after the other, each in its place apart from the others': at the end all of them read as written. -/
theorem succeeds_rowsKept {α : Type} (st : α → State) {f : α → Nat → Except Stop α} {b : State} {p len : Nat} {place : Nat → Nat}
    {row : Nat → List Nat} {dest : Nat → Prop} {a0 : α} (n : Nat) (h0 : ClusterWork b (st a0) dest) (hin : ∀ i, i < n → clIn (place i) len)
    (hapart : ∀ i j, i < j → j < n → place i + len ≤ place j) (hdest : ∀ i, i < n → ∀ a, atCl p (place i) len a → dest a)
    (hf : ∀ a i, i < n → ClusterWork b (st a) dest → Succeeds (f a i) (fun a' =>
      ClusterWork (st a) (st a') (atCl p (place i) len) ∧ (st a').bytes (clAt p (place i)) len = row i)) :
    Succeeds ((List.range n).foldlM f a0) (fun a => ClusterWork b (st a) dest ∧ ∀ i, i < n → (st a).bytes (clAt p (place i)) len = row i) := by
  suffices ∀ m, m ≤ n → Succeeds ((List.range m).foldlM f a0)
      (fun a => ClusterWork b (st a) dest ∧ ∀ i, i < m → (st a).bytes (clAt p (place i)) len = row i) from this n (Nat.le_refl n)
  intro m
  induction m with
  | zero => exact fun _ => ⟨a0, rfl, h0, fun i hi => absurd hi (Nat.not_lt_zero i)⟩
  | succ m ih =>
    intro hm
    rw [List.range_succ, List.foldlM_append]
    refine (ih (by omega)).bind fun a ⟨hwork, hrows⟩ => ?_
    rw [List.foldlM_cons]
    refine (hf a m (by omega) hwork).bind fun a' ⟨hwork', hrow⟩ => ⟨a', rfl, hwork.trans (hwork'.mono (hdest m (by omega))), fun i hi => ?_⟩
    by_cases him : i = m
    · rw [him]
      exact hrow
    · rw [hwork'.bytes_apart (hin i (by omega)).1 (hin m (by omega)).1 (.inl (hapart i m (by omega) (by omega)))]
      exact hrows i (by omega)

end Sys2Proof.Machine
end

section
/-! ENL_MERGE (R204, R209): O58. -/

namespace Sys2Proof.Machine

/-- R204: a merged row has as many values as its chunks' outputs. -/
theorem mergeRow_length (tau cols : Nat) (chunks : List (Nat × Nat × List Nat)) : (mergeRow tau cols chunks).1.length = cols := by
  unfold mergeRow
  extract_lets bad big r
  have hr : r.2.length = cols := by
    refine List.foldlRecOn (motive := fun a : Nat × List Nat => a.2.length = cols) _ _ List.length_replicate fun a ha c _ => ?_
    dsimp only
    split
    · exact ha
    · rw [List.length_map, List.length_range]
  split
  · exact List.length_replicate
  · split
    · exact List.length_replicate
    · rw [List.length_map, hr]

/-- R204, R209: what chunk `k` holds of row `i`: its maximum, its sum, and its partial output. -/
def State.mergeChunk (s : State) (c : PlateCmd) (i k : Nat) : Nat × Nat × List Nat :=
  (s.le (clAt c.plate (c.le 16 4 + 4096 * k + 16 * i) + 4) 4, s.le (clAt c.plate (c.le 16 4 + 4096 * k + 16 * i) + 8) 4,
    (List.range (c.bits 8 9 9)).map (fun j => s.le (clAt c.plate (c.trayAddr + k * c.le 20 4 + i * roundUp (4 * c.bits 8 9 9) 64) + 4 * j) 4))

/-- R204, R209: the bytes of row `i` of the output. -/
def State.mergedRow (s : State) (c : PlateCmd) (i : Nat) : List Nat :=
  ((mergeRow (c.le 28 4) (c.bits 8 9 9) ((List.range (c.bits 2 0 4)).map (s.mergeChunk c i))).1.map (outVal (c.bits 2 4 2))).flatten

theorem TraysKept.mergedRow {s t : State} (h : TraysKept s t) (c : PlateCmd) (i : Nat) : t.mergedRow c i = s.mergedRow c i := by
  have hle : ∀ a k n, t.le (clAt c.plate a + k) n = s.le (clAt c.plate a + k) n := fun a k n =>
    h.le (Nat.le_trans (trayBase_le_clAt ..) (Nat.le_add_right ..)) n
  have hchunk : t.mergeChunk c i = s.mergeChunk c i := funext fun k => by simp only [State.mergeChunk, hle]
  rw [State.mergedRow, State.mergedRow, hchunk]

/-- R209: the place of row `i` of the output. -/
def mergeDest (c : PlateCmd) (i : Nat) : Nat := c.le 24 4 + i * stagedStride (c.bits 2 4 2) (c.bits 8 9 9)

theorem le_roundUp (x : Nat) {m : Nat} (hm : 1 ≤ m) : x ≤ roundUp x m := by
  rw [roundUp, ceilDiv]
  have := Nat.div_add_mod (x + m - 1) m
  have := Nat.mod_lt (x + m - 1) (show 0 < m by omega)
  rw [Nat.mul_comm]
  omega

/-- Rows at a stride no shorter than themselves lie apart. -/
theorem stride_apart {a len st i j : Nat} (hlen : len ≤ st) (hij : i < j) : a + i * st + len ≤ a + j * st := by
  have h := Nat.mul_le_mul_right st (Nat.succ_le_of_lt hij)
  rw [Nat.succ_mul] at h
  omega

/-- R204: an ENL_MERGE whose operands lie in whole trays of a cluster without SPLIT mode completes. -/
theorem State.succeeds_enlMerge {s : State} {c : PlateCmd} (hp : c.plate < 128) (hw : s.openCluster c.plate) (hrows : 1 ≤ c.bits 8 0 9)
    (hrows256 : c.bits 8 0 9 ≤ 256) (hcols : 1 ≤ c.bits 8 9 9) (hcols256 : c.bits 8 9 9 ≤ 256) (hnch : 2 ≤ c.bits 2 0 4) (hnch8 : c.bits 2 0 4 ≤ 8)
    (hofmt : c.bits 2 4 2 ≤ 2) (htray : c.trayAddr % 16 = 0) (h16 : c.le 16 4 % 16 = 0) (h20 : c.le 20 4 % 16 = 0) (h24 : c.le 24 4 % 16 = 0)
    (htau : tauOk (c.le 28 4) = true)
    (hin : ∀ k i, k < c.bits 2 0 4 → i < c.bits 8 0 9 → clIn (c.le 16 4 + 4096 * k + 16 * i) 16 ∧
      clIn (c.trayAddr + k * c.le 20 4 + i * roundUp (4 * c.bits 8 9 9) 64) (4 * c.bits 8 9 9))
    (hout : ∀ i, i < c.bits 8 0 9 → clIn (mergeDest c i) (fmtSize (c.bits 2 4 2) * c.bits 8 9 9)) :
    Succeeds (enlMergeBody c s) (fun t =>
      ClusterWork s t (fun a => ∃ i, i < c.bits 8 0 9 ∧ atCl c.plate (mergeDest c i) (fmtSize (c.bits 2 4 2) * c.bits 8 9 9) a) ∧
      ∀ i, i < c.bits 8 0 9 → t.bytes (clAt c.plate (mergeDest c i)) (fmtSize (c.bits 2 4 2) * c.bits 8 9 9) = s.mergedRow c i) := by
  unfold enlMergeBody
  extract_lets p rows cols nch ofmt stAt ostr dest tau reads
  refine succeeds_need (by rw [htau, Bool.and_true]; exact decide_eq_true ⟨hrows, hrows256, hcols, hcols256, hnch, hnch8, hofmt, htray, h16, h20, h24⟩) ?_
  refine (succeeds_rowsKept (p := p) (len := fmtSize ofmt * cols) (place := mergeDest c) (row := s.mergedRow c)
    (dest := fun a => ∃ i, i < rows ∧ atCl p (mergeDest c i) (fmtSize ofmt * cols) a) Prod.fst rows (clusterWork_clNotes s hp reads _) hout
    (fun i j hij _ => stride_apart (le_roundUp _ (by decide)) hij) (fun i hi a ha => ⟨i, hi, ha⟩) fun a i hi hwork => ?_).bind fun r ⟨hwork, hkept⟩ => ?_
  · have hchunks := mapM_ok (l := List.range nch) (g := s.mergeChunk c i) (f := fun k => do
        let st ← s.enRead p (stAt + 4096 * k + 16 * i) 16
        let os ← s.enRead p (c.trayAddr + k * ostr + i * roundUp (4 * cols) 64) (4 * cols)
        .ok (ofLe ((st.drop 4).take 4), ofLe ((st.drop 8).take 4), (List.range cols).map (fun j => ofLe ((os.drop (4 * j)).take 4)))) (fun k hk => by
      obtain ⟨hst, hos⟩ := hin k i (List.mem_range.mp hk) hi
      have houts : (List.range cols).map (fun j => ofLe (((s.bytes (clAt p (c.trayAddr + k * ostr + i * roundUp (4 * cols) 64)) (4 * cols)).drop (4 * j)).take 4)) =
          (List.range cols).map (fun j => s.le (clAt p (c.trayAddr + k * ostr + i * roundUp (4 * cols) 64) + 4 * j) 4) :=
        List.map_congr_left fun j hj => s.ofLe_drop_take (by have := List.mem_range.mp hj; omega)
      rw [State.enRead_in hp hw hst, ok_bind, State.enRead_in hp hw hos, ok_bind, houts, s.ofLe_drop_take (by decide), s.ofLe_drop_take (by decide)]
      rfl)
    rw [hchunks, ok_bind]
    extract_lets m
    have hlen : ((m.1.map (outVal ofmt)).flatten).length = fmtSize ofmt * cols := by rw [outVals_length, mergeRow_length]
    exact (State.succeeds_enPut (hwork.openCluster hp hw) hlen (hout i hi)).bind fun t ⟨ht, hrow⟩ => succeeds_ok ⟨ht, hrow (outVals_lt ofmt m.1)⟩
  · have hd := clusterWork_dens r.1 (b := 128 + p / 8) (by omega) 21 r.2
    refine succeeds_ok ⟨hwork.trans (hd _), fun i hi => ?_⟩
    rw [(traysKept_dens r.1 _ 21 r.2).clBytes]
    exact hkept i hi

end Sys2Proof.Machine
end

section
/-! ENL_DEVELOP (R200–R202, R208): O58. -/

namespace Sys2Proof.Machine

theorem le_foldl_max {l : List Nat} {a x : Nat} (h : x ≤ a ∨ x ∈ l) : x ≤ l.foldl max a := by
  induction l generalizing a with
  | nil => exact h.resolve_right List.not_mem_nil
  | cons y l ih =>
    refine ih ?_
    rcases h with h | h
    · exact .inl (Nat.le_trans h (Nat.le_max_left a y))
    · refine (List.mem_cons.mp h).imp (fun e => ?_) id
      rw [e]
      exact Nat.le_max_right a y

/-- A row that is read in blocks of `m`. -/
theorem blocks_flatten {α : Type} (f : Nat → Nat → α) {m : Nat} (hm : 1 ≤ m) (n : Nat) :
    ((List.range (ceilDiv n m)).map (fun q => (List.range (min m (n - m * q))).map (f q))).flatten = (List.range n).map (fun k => f (k / m) (k % m)) := by
  have hblocks : ∀ b, ((List.range b).map (fun q => (List.range (min m (n - m * q))).map (f q))).flatten =
      (List.range (min n (m * b))).map (fun k => f (k / m) (k % m)) := by
    intro b
    induction b with
    | zero => simp
    | succ b ih =>
      rw [List.range_succ, List.map_append, List.flatten_append, ih, List.map_singleton, List.flatten_singleton]
      by_cases hb : m * b ≤ n
      · have hlast : (List.range (min m (n - m * b))).map (f b) =
            ((List.range (min m (n - m * b))).map (fun k => m * b + k)).map (fun k => f (k / m) (k % m)) := by
          rw [List.map_map]
          refine List.map_congr_left fun k hk => ?_
          have hk : k < m := Nat.lt_of_lt_of_le (List.mem_range.mp hk) (Nat.min_le_left ..)
          rw [Function.comp_apply, Nat.mul_add_div (by omega), Nat.div_eq_of_lt hk, Nat.mul_add_mod, Nat.mod_eq_of_lt hk, Nat.add_zero]
        rw [hlast, ← List.map_append, Nat.min_eq_right hb, ← List.range_add, Nat.mul_succ]
        congr 2
        omega
      · have h0 : n - m * b = 0 := by omega
        rw [h0, Nat.min_zero, List.range_zero, List.map_nil, List.append_nil, Nat.mul_succ, Nat.min_eq_left (by omega), Nat.min_eq_left (by omega)]
  have hn : n ≤ m * ceilDiv n m := by
    rw [Nat.mul_comm]
    exact le_roundUp n hm
  rw [hblocks, Nat.min_eq_left hn]

theorem clIn_le {a n k : Nat} (h : clIn a n) (hk : k ≤ n) : clIn a k := ⟨h.1, Nat.le_trans (Nat.add_le_add_left hk _) h.2⟩

/-- The blocks of a row begin before its end. -/
theorem block_lt {n m q : Nat} (hm : 1 ≤ m) (hq : q < ceilDiv n m) : m * q < n := by
  rw [ceilDiv, Nat.lt_div_iff_mul_lt hm] at hq
  rw [Nat.mul_comm]
  omega

/-! ### What the command reads -/

/-- R201: the keys of row `i` that are valid in the chunk. -/
def State.validKeys (s : State) (c : PlateCmd) (i : Nat) : Nat :=
  min (s.le (clAt c.plate (c.le 24 4) + 16 * i) 4 - 32768 * c.bits 2 0 3) (c.bits 8 9 16)

/-- The most valid keys of a row. -/
def State.topKeys (s : State) (c : PlateCmd) : Nat := ((List.range (c.bits 8 0 9)).map (s.validKeys c)).foldl max 0

/-- R199, R208: entry `q` of the sheet table. -/
def State.sheetAt (s : State) (c : PlateCmd) (q : Nat) : Nat := s.le (clAt c.plate c.trayAddr + 4 * q) 4

/-- R202, R208: entry `q` of the print table. -/
def State.printAt (s : State) (c : PlateCmd) (q : Nat) : Nat := s.le (clAt c.plate (c.le 20 4) + 4 * q) 4

/-- R201: the score of key `k` of row `i`. -/
def State.scoreAt (s : State) (c : PlateCmd) (i k : Nat) : Nat := s.le (clAt c.plate (s.sheetAt c (k / 256) + 1024 * i) + 4 * (k % 256)) 4

/-- R201: what the command makes of row `i`. -/
def State.developed (s : State) (c : PlateCmd) (i : Nat) : Developed :=
  developRow (c.le 28 4) (decide (c.bits 2 3 1 = 1)) ((List.range (s.validKeys c i)).map (s.scoreAt c i))
    ((List.range (s.validKeys c i)).map (fun k => fconv bf16 fp32 (s.le (clAt c.plate (c.le 16 4) + 2 * k) 2)))

section
variable {s t : State}

theorem TraysKept.clLe (h : TraysKept s t) (p a k n : Nat) : t.le (clAt p a + k) n = s.le (clAt p a + k) n :=
  h.le (Nat.le_trans (trayBase_le_clAt ..) (Nat.le_add_right ..)) n

theorem TraysKept.validKeys (h : TraysKept s t) (c : PlateCmd) : t.validKeys c = s.validKeys c :=
  funext fun i => by rw [State.validKeys, State.validKeys, h.clLe]

theorem TraysKept.topKeys (h : TraysKept s t) (c : PlateCmd) : t.topKeys c = s.topKeys c := by rw [State.topKeys, State.topKeys, h.validKeys]

theorem TraysKept.sheetAt (h : TraysKept s t) (c : PlateCmd) : t.sheetAt c = s.sheetAt c := funext fun _ => h.clLe ..

theorem TraysKept.printAt (h : TraysKept s t) (c : PlateCmd) : t.printAt c = s.printAt c := funext fun _ => h.clLe ..

theorem TraysKept.developed (h : TraysKept s t) (c : PlateCmd) (i : Nat) : t.developed c i = s.developed c i := by
  have hscore : t.scoreAt c i = s.scoreAt c i := funext fun k => by rw [State.scoreAt, State.scoreAt, h.sheetAt, h.clLe]
  simp only [State.developed, h.validKeys, hscore, h.clLe]

theorem State.validKeys_le (s : State) (c : PlateCmd) {i : Nat} (hi : i < c.bits 8 0 9) : s.validKeys c i ≤ s.topKeys c :=
  le_foldl_max (.inr (List.mem_map.mpr ⟨i, List.mem_range.mpr hi, rfl⟩))

/-- The numbers of a table that is read whole. -/
theorem State.table_read (s : State) (a k n : Nat) : (List.range n).map (fun i => ofLe (((s.bytes a (k * n)).drop (k * i)).take k)) =
    (List.range n).map (fun i => s.le (a + k * i) k) := by
  refine List.map_congr_left fun i hi => s.ofLe_drop_take ?_
  have h := Nat.mul_le_mul_left k (Nat.succ_le_of_lt (List.mem_range.mp hi))
  rwa [Nat.mul_succ] at h

end

/-! ### What it writes -/

/-- R202: row of a print block. -/
def printRow (d : Developed) (q : Nat) : List Nat := ((d.codes.drop (160 * q)).take 160 ++ List.replicate 160 0).take 160

theorem printBlock_length (ds : List Developed) (q : Nat) : ((ds.map (fun d => printRow d q)).flatten).length = 160 * ds.length := by
  rw [flatten_length (n := 160), List.length_map]
  intro x hx
  obtain ⟨d, -, rfl⟩ := List.mem_map.mp hx
  rw [printRow, List.length_take, List.length_append, List.length_replicate]
  omega

/-- R200: the bytes of a row state that the command writes. -/
def stateRow (d : Developed) : List Nat := leBytes 4 d.m ++ leBytes 4 d.l ++ leBytes 4 d.sp

theorem stateRow_length (d : Developed) : (stateRow d).length = 12 := by simp [stateRow, leBytes_length]

theorem stateRow_lt (d : Developed) : ∀ b ∈ stateRow d, b < 256 := by
  intro b hb
  rw [stateRow, List.mem_append, List.mem_append] at hb
  rcases hb with (hb | hb) | hb
  · exact leBytes_lt _ _ b hb
  · exact leBytes_lt _ _ b hb
  · exact leBytes_lt _ _ b hb

/-- R200: M, L and SP of a written row state. -/
theorem stateRow_fields (d : Developed) : ofLe (((stateRow d).drop 0).take 4) = d.m % 2 ^ 32 ∧ ofLe (((stateRow d).drop 4).take 4) = d.l % 2 ^ 32 ∧
    ofLe (((stateRow d).drop 8).take 4) = d.sp % 2 ^ 32 := by
  have hdrop : ∀ x r : List Nat, ∀ y : Nat, x.length = 4 → (x ++ r).drop (4 + y) = r.drop y := fun x r y hx => by
    rw [← List.drop_drop, List.drop_left' hx]
  have hlen := leBytes_length 4
  have hpow : 256 ^ 4 = 2 ^ 32 := by decide
  refine ⟨?_, ?_, ?_⟩
  · rw [stateRow, List.append_assoc, List.drop_zero, List.take_left' (hlen _), ofLe_leBytes, hpow]
  · rw [stateRow, List.append_assoc, hdrop _ _ 0 (hlen _), List.drop_zero, List.take_left' (hlen _), ofLe_leBytes, hpow]
  · rw [stateRow, List.append_assoc, hdrop _ _ 4 (hlen _), hdrop _ _ 0 (hlen _), List.drop_zero, List.take_of_length_le (by rw [hlen]), ofLe_leBytes, hpow]

/-- R201: the bytes that an ENL_DEVELOP writes: the print blocks, and M, L and SP of each row. -/
def State.developDest (s : State) (c : PlateCmd) (a : Nat) : Prop :=
  (∃ q, q < ceilDiv (c.bits 8 9 16) 160 ∧ atCl c.plate (s.printAt c q) (160 * c.bits 8 0 9) a) ∨
  ∃ i, i < c.bits 8 0 9 ∧ atCl c.plate (c.le 24 4 + 16 * i + 4) 12 a

/-- The operands of an ENL_DEVELOP lie whole in windows of the cluster, its tables' entries at multiples of 16. -/
structure State.DevelopIn (s : State) (c : PlateCmd) : Prop where
  states : clIn (c.le 24 4) (16 * c.bits 8 0 9)
  sheets : clIn c.trayAddr (4 * ceilDiv (s.topKeys c) 256)
  scales : clIn (c.le 16 4) (2 * s.topKeys c)
  prints : clIn (c.le 20 4) (4 * ceilDiv (c.bits 8 9 16) 160)
  sheet : ∀ q, q < ceilDiv (s.topKeys c) 256 → s.sheetAt c q % 16 = 0 ∧
    ∀ i, i < c.bits 8 0 9 → clIn (s.sheetAt c q + 1024 * i) (4 * min 256 (s.topKeys c - 256 * q))
  print : ∀ q, q < ceilDiv (c.bits 8 9 16) 160 → s.printAt c q % 16 = 0 ∧ clIn (s.printAt c q) (160 * c.bits 8 0 9)

theorem TraysKept.developIn {s t : State} (h : TraysKept s t) {c : PlateCmd} (hin : s.DevelopIn c) : t.DevelopIn c := by
  obtain ⟨hst, hsh, hsc, hpr, hsheet, hprint⟩ := hin
  refine ⟨hst, ?_, ?_, hpr, ?_, ?_⟩
  · rw [h.topKeys]
    exact hsh
  · rw [h.topKeys]
    exact hsc
  · rw [h.topKeys, h.sheetAt]
    exact hsheet
  · rw [h.printAt]
    exact hprint

section
variable {s : State} {c : PlateCmd}

/-- R201: the scores of a row, read sheet by sheet. -/
theorem State.scores_read (hp : c.plate < 128) (hw : s.openCluster c.plate) (hin : s.DevelopIn c) {i : Nat} (hi : i < c.bits 8 0 9) :
    ∃ blocks, (List.range (ceilDiv (s.validKeys c i) 256)).mapM (fun q => do
      let bs ← s.enRead c.plate (((List.range (ceilDiv (s.topKeys c) 256)).map (s.sheetAt c)).getD q 0 + 1024 * i) (4 * min 256 (s.validKeys c i - 256 * q))
      Except.ok ((List.range (min 256 (s.validKeys c i - 256 * q))).map (fun k => ofLe ((bs.drop (4 * k)).take 4)))) = .ok blocks ∧
    blocks.flatten = (List.range (s.validKeys c i)).map (s.scoreAt c i) := by
  have hle := s.validKeys_le c hi
  have hread := mapM_ok (l := List.range (ceilDiv (s.validKeys c i) 256)) (f := fun q => do
      let bs ← s.enRead c.plate (((List.range (ceilDiv (s.topKeys c) 256)).map (s.sheetAt c)).getD q 0 + 1024 * i) (4 * min 256 (s.validKeys c i - 256 * q))
      Except.ok ((List.range (min 256 (s.validKeys c i - 256 * q))).map (fun k => ofLe ((bs.drop (4 * k)).take 4))))
    (g := fun q => (List.range (min 256 (s.validKeys c i - 256 * q))).map (fun k => s.le (clAt c.plate (s.sheetAt c q + 1024 * i) + 4 * k) 4))
    (fun q hq => by
      have hlt := block_lt (by decide) (List.mem_range.mp hq)
      have hq : q < ceilDiv (s.topKeys c) 256 := by
        have := List.mem_range.mp hq
        rw [ceilDiv] at this ⊢
        omega
      have hrow := clIn_le ((hin.sheet q hq).2 i hi) (show 4 * min 256 (s.validKeys c i - 256 * q) ≤ _ by omega)
      rw [getD_map_range hq, State.enRead_in hp hw hrow, ok_bind, s.table_read])
  exact ⟨_, hread, blocks_flatten (fun q k => s.le (clAt c.plate (s.sheetAt c q + 1024 * i) + 4 * k) 4) (by decide) _⟩

/-- R201: row `i`, developed from what is read of it. -/
theorem State.develop_read (hp : c.plate < 128) (hw : s.openCluster c.plate) (hin : s.DevelopIn c) {i : Nat} (hi : i < c.bits 8 0 9) :
    (do
      let scores ← (List.range (ceilDiv (((List.range (c.bits 8 0 9)).map (s.validKeys c)).getD i 0) 256)).mapM (fun q => do
        let bs ← s.enRead c.plate (((List.range (ceilDiv (s.topKeys c) 256)).map (s.sheetAt c)).getD q 0 + 1024 * i)
          (4 * min 256 (((List.range (c.bits 8 0 9)).map (s.validKeys c)).getD i 0 - 256 * q))
        Except.ok ((List.range (min 256 (((List.range (c.bits 8 0 9)).map (s.validKeys c)).getD i 0 - 256 * q))).map
          (fun k => ofLe ((bs.drop (4 * k)).take 4))))
      Except.ok (developRow (c.le 28 4) (decide (c.bits 2 3 1 = 1)) scores.flatten
        (((List.range (s.topKeys c)).map (fun k => fconv bf16 fp32 (s.le (clAt c.plate (c.le 16 4) + 2 * k) 2))).take
          (((List.range (c.bits 8 0 9)).map (s.validKeys c)).getD i 0)))) = .ok (s.developed c i) := by
  obtain ⟨blocks, hblocks, hflat⟩ := State.scores_read hp hw hin hi
  rw [getD_map_range hi, hblocks, ok_bind, hflat, ← List.map_take, List.take_range, Nat.min_eq_left (s.validKeys_le c hi)]
  rfl

/-- R202: the print blocks are written, each in its place. -/
theorem State.succeeds_printWrites {s0 : State} {ptab : List Nat} (hp : c.plate < 128) (hw : s.openCluster c.plate) (hin : s.DevelopIn c)
    (hptab : ptab = (List.range (ceilDiv (c.bits 8 9 16) 160)).map (s.printAt c)) (h0 : ClusterWork s s0 (s.developDest c)) :
    Succeeds ((List.range ptab.length).foldlM (fun t q => t.enPut c.plate (ptab.getD q 0)
      ((((List.range (c.bits 8 0 9)).map (s.developed c)).map (fun d => printRow d q)).flatten)) s0) (fun t => ClusterWork s t (s.developDest c)) := by
  subst hptab
  rw [List.length_map, List.length_range]
  refine succeeds_rowWrites _ h0 fun t q hq hwork => ?_
  have hlen := printBlock_length ((List.range (c.bits 8 0 9)).map (s.developed c)) q
  rw [List.length_map, List.length_range] at hlen
  rw [getD_map_range hq]
  exact (State.succeeds_enPut (hwork.openCluster hp hw) hlen (hin.print q hq).2).mono fun u hu => hu.1.mono fun a ha => .inl ⟨q, hq, ha⟩

/-- R200: the row states are written, each in its place. -/
theorem State.succeeds_stateWrites {s0 : State} (hp : c.plate < 128) (hw : s.openCluster c.plate) (hin : s.DevelopIn c)
    (h0 : ClusterWork s s0 (s.developDest c)) :
    Succeeds ((List.range (c.bits 8 0 9)).foldlM (fun t i => t.enPut c.plate (c.le 24 4 + 16 * i + 4)
      (stateRow (((List.range (c.bits 8 0 9)).map (s.developed c)).getD i ⟨0, 0, 0, [], false⟩))) s0)
    (fun t => ClusterWork s t (s.developDest c) ∧
      ∀ i, i < c.bits 8 0 9 → t.bytes (clAt c.plate (c.le 24 4 + 16 * i + 4)) 12 = stateRow (s.developed c i)) := by
  have hplace : ∀ i, i < c.bits 8 0 9 → clIn (c.le 24 4 + 16 * i + 4) 12 := fun i hi => by
    rw [Nat.add_assoc]
    exact clIn_part hin.states (by omega) (by omega)
  refine succeeds_rowsKept (p := c.plate) (row := fun i => stateRow (s.developed c i)) (fun t => t) _ h0 hplace (fun i j hij _ => by omega)
    (fun i hi a ha => .inr ⟨i, hi, ha⟩) fun t i hi hwork => ?_
  rw [getD_map_range hi]
  exact (State.succeeds_enPut (hwork.openCluster hp hw) (stateRow_length _) (hplace i hi)).mono fun u hu => ⟨hu.1, hu.2 (stateRow_lt _)⟩

/-- R201: an ENL_DEVELOP whose operands lie in whole trays of a cluster without SPLIT mode completes. -/
theorem State.succeeds_enlDevelop (hp : c.plate < 128) (hw : s.openCluster c.plate) (hrows : 1 ≤ c.bits 8 0 9) (hrows256 : c.bits 8 0 9 ≤ 256)
    (hkeys : 1 ≤ c.bits 8 9 16) (hkeysMax : c.bits 8 9 16 ≤ 32768) (htray : c.trayAddr % 16 = 0) (h16 : c.le 16 4 % 16 = 0) (h20 : c.le 20 4 % 16 = 0)
    (h24 : c.le 24 4 % 16 = 0) (htau : tauOk (c.le 28 4) = true) (hin : s.DevelopIn c) :
    Succeeds (enlDevelopBody c s) (fun t => ClusterWork s t (s.developDest c) ∧
      ∀ i, i < c.bits 8 0 9 → t.bytes (clAt c.plate (c.le 24 4 + 16 * i + 4)) 12 = stateRow (s.developed c i)) := by
  unfold enlDevelopBody
  extract_lets p rows nkeys k0 split vsAt ptAt stAt tau
  refine succeeds_need (by rw [htau, Bool.and_true]; exact decide_eq_true ⟨hrows, hrows256, hkeys, hkeysMax, htray, h16, h20, h24⟩) ?_
  rw [State.enRead_in hp hw hin.states, ok_bind]
  extract_lets ns top masked empty
  have hns : ns = (List.range rows).map (s.validKeys c) := List.map_congr_left fun i hi => by
    have hi := List.mem_range.mp hi
    rw [s.ofLe_drop_take (by omega)]
    rfl
  have htop : top = s.topKeys c := congrArg (List.foldl max 0) hns
  clear_value ns top
  subst hns htop
  rw [State.enRead_in hp hw hin.sheets, ok_bind, s.table_read]
  extract_lets sheets reads
  refine succeeds_need (List.all_eq_true.mpr fun a ha => ?_) ?_
  · obtain ⟨q, hq, rfl⟩ := List.mem_map.mp ha
    exact decide_eq_true (hin.sheet q (List.mem_range.mp hq)).1
  rw [State.enRead_in hp hw hin.scales, ok_bind, State.enRead_in hp hw hin.prints, ok_bind, s.table_read]
  extract_lets ptab vs
  refine succeeds_need (List.all_eq_true.mpr fun a ha => ?_) ?_
  · obtain ⟨q, hq, rfl⟩ := List.mem_map.mp ha
    exact decide_eq_true (hin.print q (List.mem_range.mp hq)).1
  have hvs : vs = (List.range (s.topKeys c)).map (fun k => fconv bf16 fp32 (s.le (clAt p vsAt + 2 * k) 2)) := List.map_congr_left fun k hk => by
    rw [s.ofLe_drop_take (by have := List.mem_range.mp hk; omega)]
  clear_value vs
  subst hvs
  have hrow := mapM_ok (l := List.range rows) (g := s.developed c) (fun i hi => State.develop_read hp hw hin (List.mem_range.mp hi))
  refine Succeeds.bind (P := fun ds => ds = (List.range rows).map (s.developed c)) ⟨_, hrow, rfl⟩ fun ds hds => ?_
  subst hds
  have hnote := clusterWork_clNotes s hp reads (s.developDest c)
  generalize s.clNotes p reads = s0 at hnote ⊢
  refine (State.succeeds_printWrites (ptab := ptab) hp hw hin rfl hnote).bind fun s1 h1 => ?_
  refine (State.succeeds_stateWrites hp hw hin h1).bind fun s2 ⟨h2, hkept⟩ => ?_
  extract_lets poison
  have hb : 128 + p / 8 < 187 := by omega
  have hd := (clusterWork_dens s2 hb 19 masked (s.developDest c)).trans ((clusterWork_dens _ hb 20 empty _).trans (clusterWork_dens _ hb 21 poison _))
  refine succeeds_ok ⟨h2.trans hd, fun i hi => ?_⟩
  rw [(traysKept_dens _ _ 21 poison).clBytes, (traysKept_dens _ _ 20 empty).clBytes, (traysKept_dens s2 _ 19 masked).clBytes]
  exact hkept i hi

end

end Sys2Proof.Machine
end

section
/-! Reads of pages in HBM, and what they count (R162, R168, R195, R317, R325): O58. -/

namespace Sys2Proof.Machine

/-! ### Settings that work on memory leaves alone -/

/-- Registers read the same, but those that count and log by themselves and those in which errors of memory are recorded. -/
def SameSettings (s t : State) : Prop := ∀ a, bookkeeping a = false → errorReg a = false → t.reg a = s.reg a

section
variable {s t : State} (h : SameSettings s t)
include h

theorem SameSettings.partGet {f : Fld} (hf : f.blk = .part ∧ f.off < 0x8000 ∧ f.stride = 0) {n : Nat} (hn : n < 16) : t.get f n 0 = s.get f n 0 := by
  obtain ⟨hb, ho, hs⟩ := hf
  have e : fldAddr f n 0 = 0x0F0090000000 + n * 0x10000 + f.off := by simp [fldAddr, hb, hs, blockBase]
  rw [State.get, State.get, e, h]
  · rw [bookkeeping, decide_eq_false_iff_not]
    simp only [fldAddr, fREL_LOG_IDX_TAIL, fREL_LOG_STAT_OVERWRITTEN, blockBase]
    omega
  · rw [errorReg, decide_eq_false_iff_not]
    omega

theorem SameSettings.stackGet {f : Fld} (hf : f.blk = .hbm ∧ f.off = 0 ∧ f.stride = 0) {k : Nat} (hk : k < 8) : t.get f k 0 = s.get f k 0 := by
  obtain ⟨hb, ho, hs⟩ := hf
  have e : fldAddr f k 0 = 0x0F0030000000 + k * 0x100000 := by simp [fldAddr, hb, ho, hs, blockBase]
  rw [State.get, State.get, e, h]
  · rw [bookkeeping, decide_eq_false_iff_not]
    simp only [fldAddr, fREL_LOG_IDX_TAIL, fREL_LOG_STAT_OVERWRITTEN, blockBase]
    omega
  · rw [errorReg, decide_eq_false_iff_not]
    omega

theorem SameSettings.bankAwake {p : Nat} (hp : p < 128) (b : Nat) : t.bankAwake p b = s.bankAwake p b := by
  have e : fldAddr fTRAY_PWR_AWAKE_AWAKE p 0 = 0x0F0010000000 + p * 0x10000 + fTRAY_PWR_AWAKE_AWAKE.off := rfl
  rw [State.bankAwake, State.bankAwake, State.get, State.get, e, h]
  · rw [bookkeeping, decide_eq_false_iff_not]
    simp only [fldAddr, fREL_LOG_IDX_TAIL, fREL_LOG_STAT_OVERWRITTEN, fTRAY_PWR_AWAKE_AWAKE, blockBase]
    omega
  · rw [errorReg, decide_eq_false_iff_not, fTRAY_PWR_AWAKE_AWAKE]
    dsimp only
    omega

theorem SameSettings.exists_ {n : Nat} (hn : n < 16) : t.exists_ n = s.exists_ n := by
  rw [State.exists_, State.exists_, h.partGet (f := fPART_STAT_STATE) (by decide) hn]

theorem SameSettings.ownsCluster {n : Nat} (hn : n < 16) (k : Nat) : t.ownsCluster n k = s.ownsCluster n k := by
  rw [State.ownsCluster, State.ownsCluster, h.partGet (f := fPART_LAYOUT_CLUSTERS) (by decide) hn]

theorem SameSettings.partOfPlate (p : Nat) : t.partOfPlate p = s.partOfPlate p := by
  unfold State.partOfPlate State.partOfCluster
  exact List.find?_congr fun n hn => by rw [h.exists_ (List.mem_range.mp hn), h.ownsCluster (List.mem_range.mp hn)]

theorem SameSettings.splitMode (p : Nat) : t.splitMode p = s.splitMode p := by
  rw [State.splitMode, State.splitMode, h.partOfPlate]
  cases e : s.partOfPlate p with
  | none => rfl
  | some n => exact congrArg (decide <| · = 1) (h.partGet (f := fPART_TRAY_CFG_MODE) (by decide) (State.partOfPlate_lt e))

theorem SameSettings.staticMode (p : Nat) : t.staticMode p = s.staticMode p := by
  rw [State.staticMode, State.staticMode, h.partOfPlate]
  cases e : s.partOfPlate p with
  | none => rfl
  | some n => exact congrArg (decide <| · = 1) (h.partGet (f := fPART_TRAY_CFG_SYNC) (by decide) (State.partOfPlate_lt e))

theorem SameSettings.inLogRing (a : Nat) : t.inLogRing a = s.inLogRing a := by
  have e : t.reg (fldAddr fREL_LOG_BASE 0 0) = s.reg (fldAddr fREL_LOG_BASE 0 0) := h _ (by decide) (by decide)
  have e2 : fldAddr fREL_LOG_LOG2 0 0 = fldAddr fREL_LOG_BASE 0 0 := rfl
  simp only [State.inLogRing, State.g, State.get, e2, e]

theorem SameSettings.hitsTagStore (a len : Nat) : t.hitsTagStore a len = s.hitsTagStore a len := by
  have e : t.reg (fldAddr fGLOBAL_ZD_RSV_RSV_GIB 0 0) = s.reg (fldAddr fGLOBAL_ZD_RSV_RSV_GIB 0 0) := h _ (by decide) (by decide)
  have hrsv : t.reserved = s.reserved := by rw [State.reserved, State.reserved, State.g, State.g, State.get, State.get, e]
  unfold State.hitsTagStore State.tagStore
  rw [hrsv]

/-- R11: the range check of a plate command. -/
theorem SameSettings.granted {n : Nat} (hn : n < 16) (a len : Nat) (isRead : Bool) : t.granted n a len isRead = s.granted n a len isRead := by
  have hhbm : t.inHbm n a len = s.inHbm n a len := by
    rw [State.inHbm, State.inHbm, State.hbmLo, State.hbmLo, State.hbmSize, State.hbmSize, h.partGet (f := fPART_HBM_BASE_2M) (by decide) hn,
      h.partGet (f := fPART_HBM_SIZE_2M) (by decide) hn]
  have htrays : t.inTrays n a len = s.inTrays n a len := by simp only [State.inTrays, h.ownsCluster hn]
  rw [State.granted, State.granted, h.exists_ hn, hhbm, htrays, h.hitsTagStore, h.partGet (f := fPART_STEP_ADDR) (by decide) hn]

end

/-! ### Work on memory that spares the trays -/

/-- Work on memory: beside what `MemWork` says, no line is uncorrectable that was not, and no byte of a tray outside `dest` has changed. -/
def SparingWork (s t : State) (dest : Nat → Prop) : Prop :=
  MemWork s t dest ∧ (∀ l, t.lineErrOf l = s.lineErrOf l ∨ t.lineErrOf l = .good) ∧ ∀ a, trayBase ≤ a → ¬ dest a → t.mem.get a = s.mem.get a

set_option maxRecDepth 10000 in
theorem errorReg_of_memRegs : ∀ a ∈ memRegs, errorReg a = true := by decide

theorem trayEcc_memRegs {q : Nat} (hq : q < 128) : fldAddr fTRAY_ECC_STAT_CE q 0 ∈ memRegs :=
  List.mem_append_left _ (List.mem_append_left _ (List.mem_flatMap.mpr ⟨q, List.mem_range.mpr hq, List.mem_cons_self ..⟩))

theorem stackEcc_memRegs {k : Nat} (hk : k < 8) : fldAddr fHBM_ECC_STAT_CE k 0 ∈ memRegs :=
  List.mem_append_left _ (List.mem_append_right _ (List.mem_flatMap.mpr ⟨k, List.mem_range.mpr hk, List.mem_cons_self ..⟩))

theorem drawerEcc_memRegs : fldAddr fDRW_ECC_STAT_LINK_CE 0 0 ∈ memRegs := List.mem_append_right _ (List.mem_cons_self ..)

theorem memRegs_sparing {a : Nat} (he : errorReg a = false) : a ∉ memRegs := fun hm => by
  rw [errorReg_of_memRegs a hm] at he
  cases he

section
variable {s t u : State} {dest : Nat → Prop}

theorem SparingWork.settings (h : SparingWork s t dest) : SameSettings s t := fun a hb he => h.1.2.1 a hb (memRegs_sparing he)

theorem sparingWork_refl (s : State) (dest : Nat → Prop) : SparingWork s s dest :=
  ⟨⟨rfl, fun _ _ _ => rfl, fun _ _ _ => rfl⟩, fun _ => .inl rfl, fun _ _ _ => rfl⟩

theorem SparingWork.trans (h : SparingWork s t dest) (h' : SparingWork t u dest) : SparingWork s u dest := by
  have hring := h.settings.inLogRing
  obtain ⟨⟨hframe, hreg, hmem⟩, hl, hm⟩ := h
  obtain ⟨⟨hframe', hreg', hmem'⟩, hl', hm'⟩ := h'
  refine ⟨⟨by rw [hframe', hframe], fun a hb hc => (hreg' a hb hc).trans (hreg a hb hc), fun a ha hd => ?_⟩, fun l => ?_,
    fun a ha hd => (hm' a ha hd).trans (hm a ha hd)⟩
  · rw [hmem' a (by rw [hring]; exact ha) hd, hmem a ha hd]
  · rcases hl' l with e | e
    · rw [e]
      exact hl l
    · exact .inr e

/-- A cluster unit's work is such work. -/
theorem ClusterWork.sparing (h : ClusterWork s t dest) : SparingWork s t dest := by
  obtain ⟨⟨hframe, hreg, hmem⟩, hlines, htrays⟩ := h
  have hwcb : t.wcb = s.wcb := by rw [hframe]
  have hucie : t.ucie = s.ucie := by rw [hframe]
  refine ⟨⟨?_, fun a hb ha => hreg a hb fun q hq e => ha (e ▸ trayEcc_memRegs hq), hmem⟩, hlines, htrays⟩
  rw [hwcb, hucie]
  exact hframe

theorem SparingWork.openCluster {p : Nat} (h : SparingWork s t dest) (hp : p < 128) (hw : s.openCluster p) : t.openCluster p := by
  intro q hq
  obtain ⟨⟨hawake, hlines⟩, hsplit⟩ := hw q hq
  refine ⟨⟨fun b hb => (h.settings.bankAwake (by omega) b).trans (hawake b hb), fun l ht hl => ?_⟩, (h.settings.splitMode q).trans hsplit⟩
  rcases h.2.1 l with e | e
  · rw [e]
    exact hlines l ht hl
  · rw [e]
    exact nofun

end

/-! ### What a read of a page finds -/

/-- What the pages of a partition are read by stands as it did: settings, bands of HBM, lines, and the memory outside the log ring. -/
structure KeepsPages (s t : State) : Prop where
  settings : SameSettings s t
  bands : t.nearBands = s.nearBands
  lines : ∀ l, t.lineErrOf l = s.lineErrOf l ∨ t.lineErrOf l = .good
  mem : ∀ a, s.inLogRing a = false → t.mem.get a = s.mem.get a

section
variable {s t u : State}

theorem SparingWork.keepsPages (h : SparingWork s t (fun _ => False)) : KeepsPages s t :=
  ⟨h.settings, by rw [h.1.1], h.2.1, fun a ha => h.1.2.2 a ha not_false⟩

theorem keepsPages_begun (s : State) {c : PlateCmd} (hp : c.plate < 128) : KeepsPages s (s.begun c) := by
  obtain ⟨⟨hframe, hreg, hmem, hlines, -⟩, -⟩ := begins_begun s hp
  refine ⟨fun a hb he => hreg a hb fun hm => ?_, by rw [hframe], hlines, hmem⟩
  rw [List.mem_singleton.mp hm] at he
  revert he
  decide

theorem KeepsPages.trans (h : KeepsPages s t) (h' : KeepsPages t u) : KeepsPages s u := by
  refine ⟨fun a hb he => (h'.settings a hb he).trans (h.settings a hb he), h'.bands.trans h.bands, fun l => ?_,
    fun a ha => (h'.mem a ((h.settings.inLogRing a).trans ha)).trans (h.mem a ha)⟩
  rcases h'.lines l with e | e
  · rw [e]
    exact h.lines l
  · exact .inr e

theorem KeepsPages.stackOf (h : KeepsPages s t) (a : Nat) : t.stackOf a = s.stackOf a := by
  rw [State.stackOf, State.stackOf, State.nearOnly, State.nearOnly, h.bands]

/-- R316: a stack that holds no access goes on holding none. -/
theorem KeepsPages.held (h : KeepsPages s t) (a n : Nat) : t.held a n = s.held a n := by
  refine List.any_congr rfl fun b => ?_
  rw [State.stackHolds, State.stackHolds, h.stackOf, h.settings.stackGet (f := fHBM_STAT_LEVEL) (by decide) (s.stackOf_lt b),
    h.settings.stackGet (f := fHBM_STAT_OFFLINE) (by decide) (s.stackOf_lt b)]

/-- Lines that read whole go on doing so. -/
theorem KeepsPages.badLine (h : KeepsPages s t) {a n : Nat} (hb : s.badLine a n = none) : t.badLine a n = none := by
  refine List.find?_eq_none.mpr fun l hl => ?_
  have hl := List.find?_eq_none.mp hb l hl
  have hoff : t.stackOffline l = s.stackOffline l := by
    rw [State.stackOffline, State.stackOffline, h.stackOf, h.settings.stackGet (f := fHBM_STAT_OFFLINE) (by decide) (s.stackOf_lt l)]
  rw [hoff]
  rcases h.lines l with e | e
  · rw [e]
    exact hl
  · rw [Bool.or_eq_true] at hl ⊢
    exact fun hor => hl (.inr (hor.resolve_left (by rw [e]; decide)))

/-- Numbers outside the log ring read the same. -/
theorem KeepsPages.le (h : KeepsPages s t) {a n : Nat} (ha : s.offLog a n) : t.le a n = s.le a n :=
  congrArg ofLe (List.map_congr_left fun i hi => by rw [State.byte, State.byte, h.mem _ (ha i (List.mem_range.mp hi))])

end

/-! ### The counts of a read of memory -/

section
variable {s t : State} {dest : Nat → Prop}

theorem sparingWork_of_beside {A : List Nat} (h : Beside s t A) (hA : ∀ a ∈ A, a ∈ memRegs) (ha : AboveKept s t) (dest : Nat → Prop) : SparingWork s t dest := by
  obtain ⟨hframe, hreg, hmem, hlines, -⟩ := h
  have hfree : t.free = s.free := by rw [hframe]
  have hstreams : t.streams = s.streams := by rw [hframe]
  have hwcb : t.wcb = s.wcb := by rw [hframe]
  have hucie : t.ucie = s.ucie := by rw [hframe]
  refine ⟨⟨?_, fun a hb hm => hreg a hb fun hA' => hm (hA a hA'), fun a hl _ => hmem a hl⟩, hlines, fun a hb _ => ha a (trayBase_above hb)⟩
  rw [hfree, hstreams, hwcb, hucie]
  exact hframe

theorem sparingWork_foldl {β : Type} (f : State → β → State) (bs : List β) (hf : ∀ t b, SparingWork t (f t b) dest) (s : State) :
    SparingWork s (bs.foldl f s) dest := by
  induction bs generalizing s with
  | nil => exact sparingWork_refl s dest
  | cons b bs ih => exact (hf s b).trans (ih _)

/-- R168, R317, R319: a corrected word counted in its register, and noted. -/
theorem sparingWork_corrected (s : State) (f : Fld) {k : Nat} (hf : fldAddr f k 0 ∈ memRegs) (die unit inst n : Nat) (dest : Nat → Prop) :
    SparingWork s ((s.bump f k 0 1).noteCorrected die unit inst n) dest :=
  (sparingWork_of_beside (beside_bump s f k 0 1 [fldAddr f k 0] (.inr (List.mem_singleton.mpr rfl))) (by simpa using hf)
    (aboveKept_of_mem (State.bump_mem s f k 0 1)) dest).trans
    (sparingWork_of_beside (beside_noteCorrected ..) nofun (aboveKept_noteCorrected _ _ _ _ _) dest)

theorem sparingWork_dens (s : State) {b : Nat} (hb : b < 187) (ev v : Nat) (dest : Nat → Prop) : SparingWork s (s.dens b ev v) dest :=
  (clusterWork_dens s hb ev v dest).sparing

/-- R168, R317, R325: a read of memory changes nothing but what counts it. -/
theorem sparingWork_noteRemote (s : State) (p a n : Nat) (dest : Nat → Prop) : SparingWork s (s.noteRemote p a n) dest := by
  unfold State.noteRemote
  split
  · rename_i ht
    exact (clusterWork_noteRead s (trayPlate_lt ht) _ _ dest).sparing
  · split
    · refine sparingWork_foldl _ _ (fun t l => ?_) s
      extract_lets k t1
      have hk : k < 8 := t.stackOf_lt l
      have h1 : SparingWork t t1 dest := (sparingWork_dens t (by omega) 1 _ dest).trans (sparingWork_dens _ (by omega) 3 _ dest)
      split
      · exact h1.trans (sparingWork_corrected t1 _ (stackEcc_memRegs hk) _ _ _ _ dest)
      · exact h1
    · refine (sparingWork_dens s (by decide) 1 n dest).trans (sparingWork_foldl _ _ (fun t l => ?_) _)
      split
      · exact sparingWork_corrected t _ drawerEcc_memRegs _ _ _ _ dest
      · exact sparingWork_refl t dest

end

end Sys2Proof.Machine
end

section
/-! ENL_FETCH (R195–R197, R207): O58. -/

namespace Sys2Proof.Machine

/-! ### The tokens of a page (R195) -/

/-- What is fetched of a page: `cnt` tokens of `dim` codes, with scale 0 if the page is absent. -/
structure TokensOf (toks : List TokenCodes) (cnt dim : Nat) (absent : Prop) : Prop where
  count : toks.length = cnt
  codes : ∀ t ∈ toks, t.1.length = dim
  scale : absent → ∀ t ∈ toks, t.2 = 0

theorem tokensOf_pad (cnt dim : Nat) (absent : Prop) : TokensOf (List.replicate cnt (padToken dim)) cnt dim absent :=
  ⟨List.length_replicate, fun t ht => by rw [List.eq_of_mem_replicate ht]; exact List.length_replicate,
    fun _ t ht => by rw [List.eq_of_mem_replicate ht]; rfl⟩

theorem TokensOf.append {xs ys : List TokenCodes} {n m dim : Nat} {absent absent' all : Prop} (h : TokensOf xs n dim absent) (h' : TokensOf ys m dim absent')
    (ha : all → absent ∧ absent') : TokensOf (xs ++ ys) (n + m) dim all := by
  refine ⟨by rw [List.length_append, h.count, h'.count], fun t ht => ?_, fun hall t ht => ?_⟩
  · exact (List.mem_append.mp ht).elim (h.codes t) (h'.codes t)
  · exact (List.mem_append.mp ht).elim (h.scale (ha hall).1 t) (h'.scale (ha hall).2 t)

section
variable {s u : State} {n : Nat}

theorem SameSettings.ptAddr (h : SameSettings s u) (hn : n < 16) (page : Nat) : u.ptAddr n page = s.ptAddr n page := by
  rw [State.ptAddr, State.ptAddr, h.partGet (f := fPART_LAT_PT_PT_ADDR) (by decide) hn, h.partGet (f := fPART_LAT_RANGE_FIRST) (by decide) hn]

/-- R214–R216: the places of a head's codes and scales. -/
theorem SameSettings.headPlaces (h : SameSettings s u) (hn : n < 16) (page head : Nat) (kind : Bool) :
    u.kstr n = s.kstr n ∧ u.vstr n = s.vstr n ∧ u.headAt n page head kind = s.headAt n page head kind := by
  have hget : ∀ f : Fld, f.blk = .part ∧ f.off < 0x8000 ∧ f.stride = 0 → u.get f n 0 = s.get f n 0 := fun f hf => h.partGet hf hn
  have hk : u.kstr n = s.kstr n := by rw [State.kstr, State.kstr, hget fPART_LAT_CFG_DIM (by decide), hget fPART_LAT_CFG_K4 (by decide)]
  have hv : u.vstr n = s.vstr n := by rw [State.vstr, State.vstr, hget fPART_LAT_CFG_DIM (by decide), hget fPART_LAT_CFG_V4 (by decide)]
  have hsz : u.hsz n = s.hsz n := by rw [State.hsz, State.hsz, hk, hv]
  have hpage : u.pageAddr n page = s.pageAddr n page := by
    rw [State.pageAddr, State.pageAddr, State.pageBytes, State.pageBytes, hget fPART_LAT_POOL_BASE_4K (by decide),
      hget fPART_LAT_RANGE_FIRST (by decide), hget fPART_LAT_CFG_KVHEADS (by decide), hsz]
  exact ⟨hk, hv, by rw [State.headAt, State.headAt, hpage, hsz, hk, hv]⟩

/-- R195, R217: an entry of a page list that a fetch takes, read where its unit is at work: absent, or a page of the partition in the format named,
whose codes and scales are granted, held back by no stack, and whole. -/
def State.PageReads (s : State) (n page head : Nat) (kind four : Bool) : Prop :=
  page = none32 ∨
  (s.get fPART_LAT_RANGE_FIRST n 0 ≤ page ∧ page < s.get fPART_LAT_RANGE_FIRST n 0 + s.get fPART_LAT_RANGE_PAGES n 0 ∧
    bitsOf (s.le (s.ptAddr n page + 1) 1) (if kind then 1 else 0) 1 = (if four then 1 else 0) ∧
    ∀ r ∈ [((s.headAt n page head kind).1, 64 * if kind then s.vstr n else s.kstr n), ((s.headAt n page head kind).2, 128)],
      s.granted n r.1 r.2 true = true ∧ s.held r.1 r.2 = false ∧ s.badLine r.1 r.2 = none)

theorem KeepsPages.pageReads (h : KeepsPages s u) (hn : n < 16) {page head : Nat} {kind four : Bool} (hp : s.pageIn n page head kind four) :
    u.PageReads n page head kind four := by
  have hset := h.settings
  obtain ⟨hk, hv, hat⟩ := hset.headPlaces hn page head kind
  refine hp.imp id fun ⟨hfirst, hlast, hwidth, hoff, hcodes, hscales⟩ => ?_
  rw [hset.partGet (f := fPART_LAT_RANGE_FIRST) (by decide) hn, hset.partGet (f := fPART_LAT_RANGE_PAGES) (by decide) hn, hset.ptAddr hn, h.le hoff,
    hat, hk, hv]
  refine ⟨hfirst, hlast, hwidth, fun r hr => ?_⟩
  have hread : s.canRead n r.1 r.2 := by
    rcases List.mem_cons.mp hr with e | hr
    · rw [e]
      exact hcodes
    · rw [List.mem_singleton.mp hr]
      exact hscales
  obtain ⟨hg, hheld, -, hbad⟩ := hread
  exact ⟨(hset.granted hn _ _ true).trans hg, (h.held _ _).trans hheld, h.badLine hbad⟩

theorem bit_ne_iff {x : Nat} {four : Bool} (h : x = if four then 1 else 0) : ¬ (x = 1) ≠ (four = true) := by
  cases four
  · simp [h]
  · simp [h]

/-- Lines of a range that reads whole. -/
theorem badLine_filter {a m : Nat} (h : s.badLine a m = none) :
    (linesOf a m).filter (fun l => decide (s.lineErrOf l = .bad) || s.stackOffline l) = [] :=
  List.filter_eq_nil_iff.mpr (List.find?_eq_none.mp h)

/-- R195: a page that may be taken is fetched, and its reads are counted. -/
theorem State.succeeds_fetchPage (p dim cnt : Nat) {page head : Nat} {kind four : Bool} (hp : s.PageReads n page head kind four) :
    Succeeds (s.fetchPage p n page head dim cnt kind four) (fun r => TokensOf r.1 cnt dim (page = none32) ∧ SparingWork s r.2 (fun _ => False)) := by
  unfold State.fetchPage
  split
  · exact succeeds_ok ⟨tokensOf_pad .., sparingWork_refl s _⟩
  · rename_i hpage
    obtain ⟨hfirst, hlast, hwidth, hreads⟩ := hp.resolve_left hpage
    rw [if_neg (by omega), if_neg (bit_ne_iff hwidth)]
    extract_lets base stride codes scales bad tok
    have hstride : (if kind then s.vstr n else s.kstr n) = stride := rfl
    have hat : s.headAt n page head kind = (codes, scales) := by
      cases kind
      · rfl
      · rfl
    rw [hat, hstride] at hreads
    obtain ⟨hgc, hhc, hbc⟩ := hreads (codes, 64 * stride) (List.mem_cons_self ..)
    obtain ⟨hgs, hhs, hbs⟩ := hreads (scales, 128) (List.mem_cons_of_mem _ (List.mem_cons_self ..))
    have hbad : bad = [] := (List.filter_append ..).trans (by rw [badLine_filter hbc, badLine_filter hbs, List.append_nil])
    dsimp only at hgc hhc hgs hhs
    rw [hgc, hgs, hhc, hhs, hbad]
    refine succeeds_ok ⟨⟨by rw [List.length_map, List.length_range], fun t ht => ?_, fun h => absurd h hpage⟩,
      (sparingWork_noteRemote s p codes _ _).trans (sparingWork_noteRemote _ p scales 128 _)⟩
    obtain ⟨j, -, rfl⟩ := List.mem_map.mp ht
    rw [List.length_map, List.length_range]

end

/-! ### The bytes that land (R196, R197) -/

/-- R196, R197: the tokens that a fetch of `ntok` tokens lands, padding included. -/
def fetchPad (kind : Bool) (ntok : Nat) : Nat := roundUp ntok (if kind then 160 else 256)

/-- R196, R197: the bytes of the codes that it lands. -/
def fetchSize (kind four : Bool) (dim ntok : Nat) : Nat :=
  if kind then fetchPad true ntok / 160 * (dim * ((if four then 4 else 8) * 20)) else fetchPad false ntok * codeStride dim four

theorem vtileColumn_length (b : Nat) (toks : List TokenCodes) (i d : Nat) : (vtileColumn b toks i d).length = b * 20 := by
  rw [vtileColumn, flatten_length (n := 20), List.length_map, List.length_range, Nat.mul_comm]
  intro x hx
  obtain ⟨pl, -, rfl⟩ := List.mem_map.mp hx
  rw [List.length_map, List.length_range]

theorem fetchBytes_length (kind four : Bool) (dim : Nat) (toks : List TokenCodes) :
    (fetchBytes kind four dim toks).length = fetchSize kind four dim toks.length := by
  unfold fetchBytes fetchSize
  split
  · extract_lets b
    have htile : ∀ i, (((List.range dim).map (vtileColumn b toks i)).flatten).length = b * 20 * dim := fun i => by
      rw [flatten_length (n := b * 20), List.length_map, List.length_range]
      intro x hx
      obtain ⟨d, -, rfl⟩ := List.mem_map.mp hx
      exact vtileColumn_length b toks i d
    rw [flatten_length (n := b * 20 * dim), List.length_map, List.length_range, fetchPad, if_pos rfl, roundUp, Nat.mul_div_cancel _ (by decide),
      Nat.mul_comm, Nat.mul_comm dim]
    intro x hx
    obtain ⟨i, -, rfl⟩ := List.mem_map.mp hx
    exact htile i
  · extract_lets kstr recs
    have hrecs : recs.flatten.length = kstr * toks.length := by
      rw [flatten_length (n := kstr), List.length_map]
      intro x hx
      obtain ⟨t, -, rfl⟩ := List.mem_map.mp hx
      rw [List.length_take, List.length_append, List.length_replicate]
      omega
    have hpad : toks.length ≤ fetchPad false toks.length := le_roundUp _ (by decide)
    rw [List.length_append, hrecs, List.length_replicate]
    show kstr * toks.length + (fetchPad false toks.length - toks.length) * kstr = fetchPad false toks.length * kstr
    rw [Nat.mul_comm kstr, ← Nat.add_mul, Nat.add_sub_cancel' hpad]

/-- R196, R197: the scales that a fetch lands, padded with 0. -/
def fetchScales (toks : List TokenCodes) (pad : Nat) : List Nat :=
  ((toks.map (fun t : TokenCodes => leBytes 2 t.2)).flatten ++ List.replicate (2 * pad) 0).take (2 * pad)

theorem fetchScales_length (toks : List TokenCodes) (pad : Nat) : (fetchScales toks pad).length = 2 * pad := by
  rw [fetchScales, List.length_take, List.length_append, List.length_replicate]
  omega

/-- Absent pages have scale 0. -/
theorem fetchScales_zero {toks : List TokenCodes} (h : ∀ t ∈ toks, t.2 = 0) (pad : Nat) : ∀ b ∈ fetchScales toks pad, b = 0 := by
  intro b hb
  rcases List.mem_append.mp (List.mem_of_mem_take hb) with hb | hb
  · obtain ⟨x, hx, hbx⟩ := List.mem_flatten.mp hb
    obtain ⟨t, ht, rfl⟩ := List.mem_map.mp hx
    rw [h t ht] at hbx
    simpa [leBytes] using hbx
  · exact List.eq_of_mem_replicate hb

/-! ### The command -/

/-- A loop over a range keeps what each of its steps keeps. -/
theorem succeeds_foldRange {α : Type} {P : Nat → α → Prop} {f : α → Nat → Except Stop α} {a0 : α} (n : Nat) (h0 : P 0 a0)
    (hf : ∀ a i, i < n → P i a → Succeeds (f a i) (P (i + 1))) : Succeeds ((List.range n).foldlM f a0) (P n) := by
  suffices ∀ m, m ≤ n → Succeeds ((List.range m).foldlM f a0) (P m) from this n (Nat.le_refl n)
  intro m
  induction m with
  | zero => exact fun _ => succeeds_ok h0
  | succ m ih =>
    intro hm
    rw [List.range_succ, List.foldlM_append]
    refine (ih (by omega)).bind fun a ha => ?_
    rw [List.foldlM_cons]
    exact (hf a m (by omega) ha).bind fun a' ha' => succeeds_ok ha'

/-- R154: a write that is in time misses no schedule. -/
theorem State.dueCheck_inTime {s : State} {c : PlateCmd} {due dst : Nat} (h : s.inTime c due dst) : s.dueCheck c due dst = s := by
  refine if_neg fun hlate => ?_
  simp only [Bool.and_eq_true, decide_eq_true_eq] at hlate
  exact absurd (h hlate.1.1 hlate.1.2) (Nat.not_le.mpr hlate.2)

section
variable {s : State} {c : PlateCmd}

/-- R195: entry `i` of the page list. -/
def State.pageEntry (s : State) (c : PlateCmd) (i : Nat) : Nat := s.le (clAt c.plate (c.le 16 4) + 4 * i) 4

/-- The bytes that an ENL_FETCH writes: the codes, and the scales. -/
def fetchDest (c : PlateCmd) (a : Nat) : Prop :=
  atCl c.plate c.trayAddr (fetchSize (decide (c.bits 22 0 1 = 1)) (decide (c.bits 22 1 1 = 1)) (c.le 20 2) (c.bits 8 0 16)) a ∨
  atCl c.plate (c.le 24 4) (2 * fetchPad (decide (c.bits 22 0 1 = 1)) (c.bits 8 0 16)) a

/-- R195: the pages listed, entries `e`, are fetched one after the other. -/
theorem State.succeeds_fetchPages {s0 s1 : State} {kind four : Bool} {n head ntok : Nat} {e : Nat → Nat} (p dim : Nat) (hn : n < 16) (hkeep : KeepsPages s0 s)
    (h1 : SparingWork s s1 (fun _ => False)) (hpages : ∀ i, i < ceilDiv ntok 64 → s0.pageIn n (e i) head kind four) :
    Succeeds ((List.range (ceilDiv ntok 64)).foldlM (fun (a : List TokenCodes × State) i => do
      let q ← a.2.fetchPage p n (e i) head dim (min 64 (ntok - 64 * i)) kind four
      Except.ok (a.1 ++ q.1, q.2)) ([], s1))
    (fun a => TokensOf a.1 ntok dim (∀ i, i < ceilDiv ntok 64 → e i = none32) ∧ SparingWork s a.2 (fun _ => False)) := by
  have hall : min ntok (64 * ceilDiv ntok 64) = ntok := Nat.min_eq_left (by
    rw [Nat.mul_comm]
    exact le_roundUp ntok (by decide))
  have htoks0 : TokensOf [] (min ntok (64 * 0)) dim (∀ i, i < 0 → e i = none32) :=
    ⟨(Nat.min_zero ntok).symm, fun _ ht => absurd ht List.not_mem_nil, fun _ _ ht => absurd ht List.not_mem_nil⟩
  refine (succeeds_foldRange (P := fun m (a : List TokenCodes × State) => TokensOf a.1 (min ntok (64 * m)) dim (∀ i, i < m → e i = none32) ∧
    SparingWork s a.2 (fun _ => False)) _ ⟨htoks0, h1⟩ fun a i hi ⟨htoks, hwork⟩ => ?_).mono
    fun a ⟨htoks, hwork⟩ => ⟨by rwa [hall] at htoks, hwork⟩
  refine (State.succeeds_fetchPage p dim (min 64 (ntok - 64 * i)) ((hkeep.trans hwork.keepsPages).pageReads hn (hpages i hi))).bind
    fun q ⟨hq, hqwork⟩ => succeeds_ok ⟨?_, hwork.trans hqwork⟩
  have hcount : min ntok (64 * (i + 1)) = min ntok (64 * i) + min 64 (ntok - 64 * i) := by omega
  rw [hcount]
  exact htoks.append hq fun hall => ⟨fun k hk => hall k (by omega), hall i (by omega)⟩

theorem SparingWork.mono {t : State} {dest dest' : Nat → Prop} (h : SparingWork s t dest) (hd : ∀ a, dest a → dest' a) : SparingWork s t dest' := by
  obtain ⟨⟨hframe, hreg, hmem⟩, hlines, htrays⟩ := h
  exact ⟨⟨hframe, hreg, fun a hl ha => hmem a hl fun h => ha (hd a h)⟩, hlines, fun a hb ha => htrays a hb fun h => ha (hd a h)⟩

theorem SparingWork.inTime {t : State} {dest : Nat → Prop} (h : SparingWork s t dest) {due dst : Nat} (ht : s.inTime c due dst) : t.inTime c due dst := by
  have hplates : t.plates = s.plates := by rw [h.1.1]
  have hcycles : t.cycles c.plate = s.cycles c.plate := congrArg (fun ps => (smapGet (fun _ => Plate.init) c.plate ps).clock / 5) hplates
  rw [State.inTime, h.settings.staticMode, hcycles]
  exact ht

/-- R195–R197: an ENL_FETCH whose operands lie in whole trays of a cluster without SPLIT mode, and whose pages can be taken, completes. -/
theorem State.succeeds_enlFetch {s0 : State} {n : Nat} (hp : c.plate < 128) (hw : s.openCluster c.plate) (hn : n < 16) (hown : s.ownerOf c.plate = n)
    (htok : 1 ≤ c.bits 8 0 16) (htokMax : c.bits 8 0 16 ≤ 32768) (hhead : c.bits 2 0 8 < s.get fPART_LAT_CFG_KVHEADS n 0) (hdim : 1 ≤ c.le 20 2)
    (hdimMax : c.le 20 2 ≤ s.get fPART_LAT_CFG_DIM n 0) (htray : c.trayAddr % 16 = 0) (h16 : c.le 16 4 % 16 = 0) (h24 : c.le 24 4 % 16 = 0)
    (hlist : clIn (c.le 16 4) (4 * ceilDiv (c.bits 8 0 16) 64)) (hkeep : KeepsPages s0 s)
    (hpages : ∀ i, i < ceilDiv (c.bits 8 0 16) 64 → s0.pageIn n (s.pageEntry c i) (c.bits 2 0 8) (decide (c.bits 22 0 1 = 1)) (decide (c.bits 22 1 1 = 1)))
    (hcodes : clIn c.trayAddr (fetchSize (decide (c.bits 22 0 1 = 1)) (decide (c.bits 22 1 1 = 1)) (c.le 20 2) (c.bits 8 0 16)))
    (hscales : clIn (c.le 24 4) (2 * fetchPad (decide (c.bits 22 0 1 = 1)) (c.bits 8 0 16))) (htime : s.inTime c (c.le 28 4) (trayAddr c.plate 0)) :
    Succeeds (enlFetchBody c s) (fun t => SparingWork s t (fetchDest c) ∧ ((∀ i, i < ceilDiv (c.bits 8 0 16) 64 → s.pageEntry c i = none32) →
      ∀ j, j < 2 * fetchPad (decide (c.bits 22 0 1 = 1)) (c.bits 8 0 16) → t.byte (clAt c.plate (c.le 24 4) + j) = 0)) := by
  unfold enlFetchBody
  extract_lets p m ntok head plist dim kind four sdest np pad
  have hm : m = n := hown
  clear_value m
  subst hm
  refine succeeds_need (decide_eq_true ⟨htok, htokMax, hhead, hdim, hdimMax, htray, h16, h24⟩) ?_
  rw [State.enRead_in hp hw hlist, ok_bind]
  have hentry : ∀ i, i < np → ofLe (((s.bytes (clAt p plist) (4 * np)).drop (4 * i)).take 4) = s.pageEntry c i := fun i hi =>
    s.ofLe_drop_take (by omega)
  refine (State.succeeds_fetchPages p dim hn hkeep (clusterWork_clNote s hp plist (4 * np) (fun _ => False)).sparing fun i hi => ?_).bind
    fun r ⟨htoks, hread⟩ => ?_
  · rw [hentry i hi]
    exact hpages i hi
  have hcodesLen : (fetchBytes kind four dim r.1).length = fetchSize kind four dim ntok := by rw [fetchBytes_length, htoks.count]
  refine (State.succeeds_enPut (hread.openCluster hp hw) hcodesLen hcodes).bind fun t1 ⟨hput1, _⟩ => ?_
  have hwork1 := (hread.mono (dest' := fetchDest c) nofun).trans (hput1.sparing.mono fun _ => .inl)
  refine (State.succeeds_enPut (bs := fetchScales r.1 pad) (hwork1.openCluster hp hw) (fetchScales_length r.1 pad) hscales).bind
    fun t2 ⟨hput2, hback⟩ => succeeds_ok ?_
  have hwork2 := hwork1.trans (hput2.sparing.mono fun _ => .inr)
  have hwork : ∀ v, SparingWork s (t2.dens (128 + p / 8) 18 v) (fetchDest c) := fun v => hwork2.trans (sparingWork_dens t2 (by omega) 18 v _)
  rw [State.dueCheck_inTime ((hwork _).inTime htime)]
  refine ⟨hwork _, fun habs j hj => ?_⟩
  have hzero := fetchScales_zero (htoks.scale fun i hi => (hentry i hi).trans (habs i hi)) pad
  have hbytes := hback fun b hb => by
    rw [hzero b hb]
    decide
  have hmem : t2.byte (clAt p sdest + j) ∈ t2.bytes (clAt p sdest) (2 * pad) := List.mem_map.mpr ⟨j, List.mem_range.mpr hj, rfl⟩
  rw [hbytes] at hmem
  rw [State.byte, traysKept_dens t2 _ _ _ _ (Nat.le_trans (trayBase_le_clAt p sdest) (Nat.le_add_right ..))]
  exact hzero _ hmem

end

end Sys2Proof.Machine
end

section
/-! DODGE_CHECK (R178, R190, R191): O58. -/

namespace Sys2Proof.Machine

/-! ### Tiles read by the Dodge engine -/

theorem ifFailed_none {b : Prop} [Decidable b] {f : Failed} {next : Option Failed} : (if b then some f else next) = none ↔ ¬ b ∧ next = none := by
  by_cases h : b
  · simp [h]
  · simp [h]

/-- R178: a tile whose header passes its checks lies within its window. -/
theorem hdrChecks_total {h : TileHdr} {cols klen off : Nat} {dense : Bool} (hpass : hdrChecks h cols klen off dense = none) : off + h.total ≤ trayWin := by
  simp only [hdrChecks, ifFailed_none, decide_eq_true_eq] at hpass
  obtain ⟨-, -, -, -, -, -, -, -, hlast, -⟩ := hpass
  omega

section
variable {s : State} {c : PlateCmd}

/-- R188, R189: what an engine asks of ROWS, COLS and the header's address. -/
theorem dodgeOk_of (hrows : 1 ≤ c.rows) (hrows256 : c.rows ≤ 256) (hcols : 1 ≤ c.cols) (hcols256 : c.cols ≤ 256) (halign : c.trayAddr % 64 = 0) :
    dodgeOk c = true := decide_eq_true ⟨hrows, hrows256, hcols, hcols256, halign⟩

/-- A range of one whole window reads. -/
theorem State.dodgeRead_in {p a n : Nat} (hp : p < 128) (hw : s.wholeCluster p) (h : clIn a n) : s.dodgeRead p a n = .ok (s.bytes (clAt p a) n) := by
  rw [State.dodgeRead, State.clRead_in hp (hw _ (clusterAddr_plate p a)) h]
  rfl

/-! ### The record of a check (R190) -/

/-- The header of a command's tile. -/
def State.tileHdrAt (s : State) (c : PlateCmd) : TileHdr := tileHdr (s.bytes (clAt c.plate c.trayAddr) 64)

/-- R190: the first failed check of the tile, or zeros. -/
def State.firstFailed (s : State) (c : PlateCmd) : Failed :=
  (hdrChecks (s.tileHdrAt c) c.cols (c.le 20 4) (c.trayAddr % 2 ^ 23) true).getD
    (if (s.tileHdrAt c).format = 0 then (0, 0, 0) else
      (bodyChecks (s.tileHdrAt c) (s.bytes (clAt c.plate c.trayAddr) (s.tileHdrAt c).total)).getD (0, 0, 0))

/-- R190: the sixteen bytes that a DODGE_CHECK writes. -/
def checkRecord (f : Failed) (nnz segs : Nat) : List Nat := leBytes 2 f.2.2 ++ [f.1, 0] ++ leBytes 4 f.2.1 ++ leBytes 4 nnz ++ leBytes 4 segs

theorem checkRecord_length (f : Failed) (nnz segs : Nat) : (checkRecord f nnz segs).length = 16 := by
  simp only [checkRecord, List.length_append, leBytes_length, List.length_cons, List.length_nil]

/-- R4: what has been written reads back byte by byte, each as the byte it spells. -/
theorem State.bytes_write_mod (s : State) (a : Nat) (bs : List Nat) : (s.write a bs).bytes a bs.length = bs.map (· % 256) := by
  refine List.ext_getElem (by simp [State.bytes]) fun i h1 h2 => ?_
  have hi : i < bs.length := by simpa using h2
  simp only [State.bytes, List.getElem_map, List.getElem_range, State.byte]
  rw [State.write_mem, Memory.get_write_in _ _ _ _ hi, List.getD_eq_getElem _ _ hi, BitVec.toNat_ofNat]

theorem leBytes_mod (n v : Nat) : (leBytes n v).map (· % 256) = leBytes n v := by
  rw [List.map_congr_left fun b hb => Nat.mod_eq_of_lt (leBytes_lt n v b hb), List.map_id']

theorem checkRecord_mod (f : Failed) (nnz segs : Nat) : (checkRecord f nnz segs).map (· % 256) = checkRecord (f.1 % 256, f.2) nnz segs := by
  simp only [checkRecord, List.map_append, leBytes_mod, List.map_cons, List.map_nil, Nat.zero_mod]

/-- The fields of the record. -/
theorem checkRecord_fields (f : Failed) (nnz segs : Nat) :
    ofLe (((checkRecord f nnz segs).drop 0).take 2) = f.2.2 % 2 ^ 16 ∧ ofLe (((checkRecord f nnz segs).drop 2).take 1) = f.1 % 256 ∧
    ofLe (((checkRecord f nnz segs).drop 4).take 4) = f.2.1 % 2 ^ 32 ∧ ofLe (((checkRecord f nnz segs).drop 8).take 4) = nnz % 2 ^ 32 := by
  refine ⟨?_, ?_, ?_, ?_⟩
  · exact (ofLe_leBytes 2 _).symm ▸ rfl
  · rfl
  · exact ofLe_leBytes 4 f.2.1
  · exact ofLe_leBytes 4 nnz

theorem State.succeeds_checkPut {p dest : Nat} (f : Failed) (nnz segs : Nat) (hw : s.wholeCluster p) (h : clIn dest 16) :
    Succeeds (noCheck (s.clPut p dest (checkRecord f nnz segs)))
      (fun t => ClusterWork s t (atCl p dest 16) ∧ t.bytes (clAt p dest) 16 = checkRecord (f.1 % 256, f.2) nnz segs) := by
  have hlen := checkRecord_length f nnz segs
  rw [State.clPut_in hw (hlen ▸ h)]
  refine ⟨_, rfl, ?_, ?_⟩
  · have hwork := clusterWork_write s (clAt p dest) (checkRecord f nnz segs)
    rwa [hlen] at hwork
  · rw [← checkRecord_mod, ← State.bytes_write_mod s, hlen]

/-- R190: a DODGE_CHECK that can read its tile writes its record. -/
theorem State.succeeds_dodgeCheck (hp : c.plate < 128) (hw : s.wholeCluster c.plate) (hok : dodgeOk c = true) (h16 : c.le 16 4 % 16 = 0)
    (hklen : 1 ≤ c.le 20 4) (hklenMax : c.le 20 4 ≤ 65536) (hhdr : clIn c.trayAddr 64) (hdest : clIn (c.le 16 4) 16) :
    Succeeds (dodgeCheckBody c s) (fun t => ClusterWork s t (atCl c.plate (c.le 16 4) 16) ∧
      ∃ segs, t.bytes (clAt c.plate (c.le 16 4)) 16 = checkRecord ((s.firstFailed c).1 % 256, (s.firstFailed c).2) (s.tileHdrAt c).nnz segs) := by
  have hput : ∀ (f : Failed) (n segs : Nat), f = s.firstFailed c → Succeeds (noCheck ((s.clNote c.plate c.trayAddr n).clPut c.plate (c.le 16 4)
      (checkRecord f (s.tileHdrAt c).nnz segs))) (fun t => ClusterWork s t (atCl c.plate (c.le 16 4) 16) ∧
      ∃ segs, t.bytes (clAt c.plate (c.le 16 4)) 16 = checkRecord ((s.firstFailed c).1 % 256, (s.firstFailed c).2) (s.tileHdrAt c).nnz segs) := by
    rintro f n segs rfl
    have hnote := clusterWork_clNote s hp c.trayAddr n (atCl c.plate (c.le 16 4) 16)
    exact (State.succeeds_checkPut _ _ segs (hnote.wholeCluster hp hw) hdest).mono fun t ⟨hwork, hbytes⟩ => ⟨hnote.trans hwork, segs, hbytes⟩
  unfold dodgeCheckBody
  extract_lets p dest klen
  refine succeeds_need (by rw [hok, decide_eq_true ⟨h16, hklen, hklenMax⟩]; rfl) ?_
  rw [State.dodgeRead_in hp hw hhdr, ok_bind]
  extract_lets h put
  split
  · rename_i f hf
    exact hput f 64 0 (by rw [State.firstFailed, State.tileHdrAt, hf]; rfl)
  · rename_i hpass
    have hfirst : s.firstFailed c = if h.format = 0 then (0, 0, 0) else (bodyChecks h (s.bytes (clAt p c.trayAddr) h.total)).getD (0, 0, 0) := by
      rw [State.firstFailed, State.tileHdrAt, hpass]
      rfl
    split
    · rename_i hformat
      exact hput _ 64 0 (by rw [hfirst, if_pos hformat])
    · rename_i hformat
      rw [State.dodgeRead_in hp hw ⟨hhdr.1, hdrChecks_total hpass⟩, ok_bind]
      rw [if_neg hformat] at hfirst
      split
      · rename_i f hf
        exact hput f _ 0 (by rw [hfirst, hf]; rfl)
      · rename_i hbody
        exact hput _ _ _ (by rw [hfirst, hbody]; rfl)

end

end Sys2Proof.Machine
end

section
/-! DODGE_SPMM (R180, R182, R188, R189): O58. -/

namespace Sys2Proof.Machine

/-! ### A row of sums flushed into a group (R182) -/

/-- R182: sum `j` of a row flushed into its wide entry; beside it, the count of entries that have become special. -/
def flushEntry (slot : Nat) (sums : List Int) (a : Group × Nat) (j : Nat) : Group × Nat :=
  let k := slot * 256 + j
  let old := wideDecode 40 (smapGet (fun _ => 0) k a.1.wide)
  let new := widePromote 40 old (.fin (sums.getD j 0))
  ({ a.1 with wide := smapSet (fun _ => 0) k (wideEncode 40 new) a.1.wide }, if wideSpecial new && decide (new ≠ old) then a.2 + 1 else a.2)

theorem flushRow_eq (g : Group) (slot : Nat) (sums : List Int) : flushRow g slot sums = (List.range sums.length).foldl (flushEntry slot sums) (g, 0) := rfl

/-- A flush leaves all of a group but its wide entries, and of these it changes those of its row and columns, each to its promotion. -/
theorem flushRow_group (g : Group) (slot : Nat) (sums : List Int) :
    (flushRow g slot sums).1.narrow = g.narrow ∧ (flushRow g slot sums).1.strips = g.strips ∧
    ∀ k, smapGet (fun _ => 0) k (flushRow g slot sums).1.wide = if slot * 256 ≤ k ∧ k < slot * 256 + sums.length then
      wideEncode 40 (widePromote 40 (wideDecode 40 (smapGet (fun _ => 0) k g.wide)) (.fin (sums.getD (k - slot * 256) 0)))
      else smapGet (fun _ => 0) k g.wide := by
  rw [flushRow_eq]
  generalize sums.length = n
  induction n with
  | zero => exact ⟨rfl, rfl, fun k => (if_neg (by omega)).symm⟩
  | succ n ih =>
    obtain ⟨hnarrow, hstrips, hwide⟩ := ih
    rw [List.range_succ, List.foldl_append, List.foldl_cons, List.foldl_nil]
    refine ⟨hnarrow, hstrips, fun k => ?_⟩
    refine (smapGet_set ..).trans ?_
    by_cases hk : slot * 256 + n = k
    · subst hk
      rw [if_pos rfl, if_pos (by omega), hwide, if_neg (by omega), Nat.add_sub_cancel_left]
    · rw [if_neg hk, hwide]
      by_cases hin : slot * 256 ≤ k ∧ k < slot * 256 + n
      · rw [if_pos hin, if_pos (by omega)]
      · rw [if_neg hin, if_neg (by omega)]

/-! ### The rows of a command -/

/-- What flushes of rows of `cols` sums leave of a group. -/
def FlushedGroup (cols : Nat) (g g' : Group) : Prop :=
  g'.narrow = g.narrow ∧ g'.strips = g.strips ∧ ∀ slot j, slot < 16 → cols ≤ j → j < 256 →
    smapGet (fun _ => 0) (slot * 256 + j) g'.wide = smapGet (fun _ => 0) (slot * 256 + j) g.wide

theorem flushedGroup_flushRow {cols slot : Nat} {sums : List Int} (g : Group) (hlen : sums.length = cols) : FlushedGroup cols g (flushRow g slot sums).1 := by
  obtain ⟨hnarrow, hstrips, hwide⟩ := flushRow_group g slot sums
  refine ⟨hnarrow, hstrips, fun u j _ hj hj256 => ?_⟩
  rw [hwide, if_neg (by omega)]

theorem FlushedGroup.trans {cols : Nat} {g g' g'' : Group} (h : FlushedGroup cols g g') (h' : FlushedGroup cols g' g'') : FlushedGroup cols g g'' := by
  obtain ⟨hnarrow, hstrips, hwide⟩ := h
  obtain ⟨hnarrow', hstrips', hwide'⟩ := h'
  exact ⟨hnarrow'.trans hnarrow, hstrips'.trans hstrips, fun u j hu hj hj256 => (hwide' u j hu hj hj256).trans (hwide u j hu hj hj256)⟩

/-- R180, R182: row `t` of a command, with sums `sums t`, flushed into its group. -/
def flushStep (first : Nat) (sums : Nat → List Int) (a : Plate × Nat) (t : Nat) : Plate × Nat :=
  let key := groupKey false (first + t / 16)
  match a.1.group key with
  | none => a
  | some g =>
    let q := flushRow g (t % 16) (sums t)
    (a.1.setGroup key (some q.1), a.2 + q.2)

/-- The plate after a command's rows. -/
def flushRows (first : Nat) (sums : Nat → List Int) (rows : Nat) (x : Plate) : Plate × Nat := (List.range rows).foldl (flushStep first sums) (x, 0)

/-- What a command of `rows` rows of `cols` sums leaves of its plate. -/
structure Flushed (first rows cols : Nat) (x y : Plate) : Prop where
  frame : y = { x with groups := y.groups }
  others : ∀ k, k ∉ groupKeys false first rows → y.group k = x.group k
  groups : ∀ k g, x.group k = some g → ∃ g', y.group k = some g' ∧ FlushedGroup cols g g'

theorem mem_groupKeys {first rows t : Nat} (ht : t < rows) : groupKey false (first + t / 16) ∈ groupKeys false first rows :=
  List.mem_map.mpr ⟨t / 16, List.mem_range.mpr (by rw [ceilDiv]; omega), rfl⟩

theorem flushed_flushStep {first rows cols t : Nat} {sums : Nat → List Int} (hlen : ∀ t, (sums t).length = cols) (ht : t < rows) {x : Plate}
    {a : Plate × Nat} (h : Flushed first rows cols x a.1) : Flushed first rows cols x (flushStep first sums a t).1 := by
  unfold flushStep
  extract_lets key
  split
  · exact h
  · rename_i g hg
    obtain ⟨hframe, hothers, hgroups⟩ := h
    refine ⟨?_, fun k hk => ?_, fun k g0 hg0 => ?_⟩
    · dsimp only [Plate.setGroup]
      rw [hframe]
    · have hne : k ≠ key := fun e => hk (e ▸ mem_groupKeys ht)
      rw [← hothers k hk]
      exact Plate.group_setGroup_ne _ hne _
    · obtain ⟨g1, hg1, hflushed⟩ := hgroups k g0 hg0
      by_cases hk : k = key
      · subst hk
        obtain rfl : g1 = g := Option.some.inj (hg1.symm.trans hg)
        exact ⟨_, Plate.group_setGroup_same .., hflushed.trans (flushedGroup_flushRow g1 (hlen t))⟩
      · exact ⟨g1, (Plate.group_setGroup_ne _ hk _).trans hg1, hflushed⟩

theorem flushed_flushRows {first cols : Nat} {sums : Nat → List Int} (hlen : ∀ t, (sums t).length = cols) (rows : Nat) (x : Plate) :
    Flushed first rows cols x (flushRows first sums rows x).1 := by
  refine List.foldlRecOn (motive := fun (a : Plate × Nat) => Flushed first rows cols x a.1) (List.range rows) _ ?_ fun a ha t ht =>
    flushed_flushStep hlen (List.mem_range.mp ht) ha
  exact ⟨rfl, fun _ _ => rfl, fun k g hg => ⟨g, hg, rfl, rfl, fun _ _ _ _ _ => rfl⟩⟩

/-- One row: its group is flushed with its sums. -/
theorem flushRows_one {first : Nat} {sums : Nat → List Int} {x : Plate} {k : Nat} {g : Group} (hk : k ∈ groupKeys false first 1) (hg : x.group k = some g) :
    (flushRows first sums 1 x).1.group k = some (flushRow g 0 (sums 0)).1 := by
  obtain ⟨i, hi, rfl⟩ := List.mem_map.mp hk
  obtain rfl : i = 0 := by
    have := List.mem_range.mp hi
    rw [ceilDiv] at this
    omega
  show (flushStep first sums (x, 0) 0).1.group _ = _
  unfold flushStep
  dsimp only
  rw [Nat.zero_div, hg]
  exact Plate.group_setGroup_same ..

/-! ### The command -/

/-- R180: the sum of column `j` of a tile over a row of activations. -/
def tileSum (h : TileHdr) (bs : List Nat) (codes : List Int) (j : Nat) : Int :=
  (tileRow h bs j).foldl (fun a e => a + tileVal h ((bs.drop h.valOff).take h.valBytes) e.2 * codes.getD e.1 0) 0

section
variable {s t : State} {c : PlateCmd}

/-- R189: bytes of a row of activations. -/
def spmmLen (c : PlateCmd) : Nat := if c.bits 16 0 2 = 0 then c.le 24 4 else ceilDiv (c.le 24 4) 2

/-- R180, R189: the activations of row `t`. -/
def State.spmmCodes (s : State) (c : PlateCmd) (tbl : List Int) (t : Nat) : List Int :=
  rowCodes (c.bits 16 0 2) (c.le 24 4) tbl (s.bytes (clAt c.plate (c.le 20 4 + t * c.le 18 2)) (spmmLen c))

/-- Work of a cluster's unit, with other plates on both sides. -/
theorem ClusterWork.withPlates {dest : Nat → Prop} (h : ClusterWork s t dest) (ps : SMap Plate) :
    ClusterWork { s with plates := ps } { t with plates := ps } dest := by
  obtain ⟨⟨hframe, hreg, hmem⟩, hlines, htrays⟩ := h
  exact ⟨⟨by rw [hframe], hreg, hmem⟩, hlines, htrays⟩

/-- R107, R168, R182: what a DODGE_SPMM leaves beside its plate. -/
theorem State.flushed_frame (b : State) {p : Nat} (hp : p < 128) (rs as : List (Nat × Nat)) (y : Plate) (n1 n2 n3 : Nat) {t : State}
    (ht : t = ((((((b.clNotes p rs).noteReads p as).setPlate p y).dens p 7 n1).dens (128 + p / 8) 12 n2).dens (128 + p / 8) 13 n3)) :
    UnitWork { b with plates := t.plates } t (fun _ => False) ∧ (∀ q, q ≠ p → t.plate q = b.plate q) ∧ t.plate p = y ∧ t.parts = b.parts := by
  have hreads := (clusterWork_clNotes b hp rs (fun _ => False)).trans
    (clusterWork_foldl _ as (fun u r _ => clusterWork_noteRead u hp r.1 r.2 (fun _ => False)) _)
  change ClusterWork b ((b.clNotes p rs).noteReads p as) _ at hreads
  generalize (b.clNotes p rs).noteReads p as = u at hreads ht
  have hdens := ((clusterWork_dens (u.setPlate p y) (b := p) (by omega) 7 n1 (fun _ => False)).trans
    (clusterWork_dens _ (b := 128 + p / 8) (by omega) 12 n2 _)).trans (clusterWork_dens _ (b := 128 + p / 8) (by omega) 13 n3 _)
  rw [← ht] at hdens
  have hplate : ∀ q, t.plate q = (u.setPlate p y).plate q := fun q => congrArg (smapGet _ q) hdens.plates
  refine ⟨?_, fun q hq => ?_, ?_, hdens.parts.trans hreads.parts⟩
  · rw [hdens.plates]
    exact ((hreads.withPlates (u.setPlate p y).plates).trans hdens).1
  · rw [hplate, State.plate_setPlate_ne u (Ne.symm hq)]
    exact congrArg (smapGet _ q) hreads.plates
  · rw [hplate, State.plate_setPlate_same]

/-- What a DODGE_SPMM of the tile `h`, `bs` leaves: it changes its plate's groups, and one row flushes its sums. -/
structure SpmmWork (c : PlateCmd) (h : TileHdr) (bs : List Nat) (codes : List Int) (s t : State) : Prop where
  work : UnitWork { s with plates := t.plates } t (fun _ => False)
  others : ∀ q, q ≠ c.plate → t.plate q = s.plate q
  parts : t.parts = s.parts
  plate : Flushed c.first c.rows c.cols (s.plate c.plate) (t.plate c.plate)
  one : c.rows = 1 → ∀ k ∈ groupKeys false c.first c.rows, ∀ g g', (s.plate c.plate).group k = some g → (t.plate c.plate).group k = some g' →
    ∀ j, j < c.cols → smapGet (fun _ => 0) j g'.wide =
      wideEncode 40 (widePromote 40 (wideDecode 40 (smapGet (fun _ => 0) j g.wide)) (.fin (tileSum h bs codes j)))

theorem spmmWork_flushed (hp : c.plate < 128) {h : TileHdr} {bs : List Nat} {codes : List Int} {sums : Nat → List Int}
    (hlen : ∀ t, (sums t).length = c.cols) (hsum : ∀ j, j < c.cols → (sums 0).getD j 0 = tileSum h bs codes j) (rs as : List (Nat × Nat))
    (n1 n2 n3 : Nat) : SpmmWork c h bs codes s ((((((s.clNotes c.plate rs).noteReads c.plate as).setPlate c.plate
      (flushRows c.first sums c.rows (s.plate c.plate)).1).dens c.plate 7 n1).dens (128 + c.plate / 8) 12 n2).dens (128 + c.plate / 8) 13 n3) := by
  obtain ⟨hwork, hothers, hplate, hparts⟩ := s.flushed_frame hp rs as (flushRows c.first sums c.rows (s.plate c.plate)).1 n1 n2 n3 rfl
  refine ⟨hwork, hothers, hparts, by rw [hplate]; exact flushed_flushRows hlen .., fun hone k hk g g' hg hg' j hj => ?_⟩
  rw [hone] at hk
  rw [hplate, hone, flushRows_one hk hg] at hg'
  obtain rfl := Option.some.inj hg'
  rw [(flushRow_group g 0 (sums 0)).2.2 j, if_pos (by rw [hlen]; omega), Nat.zero_mul, Nat.sub_zero, hsum j hj]

/-- R180, R182, R189: a DODGE_SPMM of a tile that passes every check flushes the sums of its rows. -/
theorem State.succeeds_dodgeSpmm (hp : c.plate < 128) (hw : s.wholeCluster c.plate) (hok : dodgeOk c = true) (hrows : 1 ≤ c.rows) (hrows256 : c.rows ≤ 256)
    (hklen : 1 ≤ c.le 24 4) (hklenMax : c.le 24 4 ≤ 65536) (hfmt : c.bits 16 0 2 ≤ 2) (hstride : c.le 18 2 % 16 = 0) (hact : c.le 20 4 % 16 = 0)
    (hsize : c.rows * c.cols ≤ 16384) (hread : c.rows * c.le 24 4 ≤ 262144) (hpacked : c.packed = false) (hgroups : groupsInRange c = true)
    (hopen : groupsOpen (s.plate c.plate) c = true) (hhdr : clIn c.trayAddr 64)
    (hpass : hdrChecks (s.tileHdrAt c) c.cols (c.le 24 4) (c.trayAddr % 2 ^ 23) false = none) {bs : List Nat}
    (hbs : bs = s.bytes (clAt c.plate c.trayAddr) (s.tileHdrAt c).total) (hbody : bodyChecks (s.tileHdrAt c) bs = none) {tbl : List Int}
    (htbl : c.bits 16 0 2 = 2 → s.a4gTable c.plate (c.bits 16 2 4) = .ok tbl) (htbl0 : c.bits 16 0 2 ≠ 2 → tbl = [])
    (hin : ∀ i, i < c.rows → clIn (c.le 20 4 + i * c.le 18 2) (spmmLen c)) :
    Succeeds (dodgeSpmmBody c s) (SpmmWork c (s.tileHdrAt c) bs (s.spmmCodes c tbl 0) s) := by
  unfold dodgeSpmmBody
  extract_lets p x afmt klen stride act len
  have hlen : len = spmmLen c := by
    obtain h0 | h1 | h2 : c.bits 16 0 2 = 0 ∨ c.bits 16 0 2 = 1 ∨ c.bits 16 0 2 = 2 := by omega
    · simp [len, spmmLen, afmt, klen, h0]
    · simp [len, spmmLen, afmt, klen, h1]
    · simp [len, spmmLen, afmt, klen, h2]
  refine succeeds_need hok (succeeds_need (by
    rw [hpacked, hgroups, hopen, decide_eq_true ⟨hrows, hrows256, hklen, hklenMax, hfmt, hstride, hact, hsize, hread⟩]
    rfl) ?_)
  rw [State.dodgeRead_in hp hw hhdr, ok_bind]
  extract_lets h
  have hreadTile := State.dodgeRead_in hp hw (s := s) ⟨hhdr.1, hdrChecks_total hpass⟩
  change s.dodgeRead p c.trayAddr h.total = _ at hreadTile
  rw [← hbs] at hreadTile
  have hreadRows := mapM_ok (f := fun t => s.dodgeRead p (act + t * stride) len) (l := List.range c.rows)
    (g := fun t => s.bytes (clAt p (act + t * stride)) len) fun t ht => State.dodgeRead_in hp hw (hlen ▸ hin t (List.mem_range.mp ht))
  split
  · rename_i f hf
    exact absurd (hf.symm.trans hpass) nofun
  rw [hreadTile, ok_bind]
  split
  · rename_i f hf
    exact absurd (hf.symm.trans hbody) nofun
  refine succeeds_ite (P := (· = tbl)) (fun h2 => ⟨tbl, by rw [htbl h2]; rfl, rfl⟩) (fun h2 => succeeds_ok (htbl0 h2).symm) ?_
  rintro tbl rfl
  beta_reduce
  rw [hreadRows, ok_bind]
  extract_lets codes vals weights sum r segs s2
  refine succeeds_ok (spmmWork_flushed hp (sums := fun t => (List.range c.cols).map (sum (codes.getD t []))) (fun t => ?_) (fun j hj => ?_) _ _ _ _ _)
  · rw [List.length_map, List.length_range]
  · have hcodes : codes.getD 0 [] = s.spmmCodes c tbl 0 := by
      simp only [codes, List.map_map]
      rw [getD_map_range hrows, hlen]
      rfl
    rw [getD_map_range hj, hcodes]
    show (weights.getD j []).foldl _ 0 = _
    rw [getD_map_range hj, List.foldl_map]
    rfl

end

end Sys2Proof.Machine
end

section
/-! O58: what each command of the sparse engine and of the attention mover comes to. -/

namespace Sys2Proof.Machine

theorem TraysKept.firstFailed {s t : State} (h : TraysKept s t) (c : PlateCmd) : t.tileHdrAt c = s.tileHdrAt c ∧ t.firstFailed c = s.firstFailed c := by
  have hhdr : t.tileHdrAt c = s.tileHdrAt c := congrArg tileHdr (h.clBytes ..)
  exact ⟨hhdr, by rw [State.firstFailed, State.firstFailed, hhdr, h.clBytes]⟩

theorem TraysKept.pageEntry {s t : State} (h : TraysKept s t) (c : PlateCmd) (i : Nat) : t.pageEntry c i = s.pageEntry c i := h.clLe ..

theorem TraysKept.developDest {s t : State} (h : TraysKept s t) (c : PlateCmd) : t.developDest c = s.developDest c :=
  funext fun a => by rw [State.developDest, State.developDest, h.printAt]

/-- R196, R197: the bytes of the codes, as their size is spelled in the format's fields. -/
theorem fetchSize_decide {k f : Prop} [Decidable k] [Decidable f] (dim ntok : Nat) : fetchSize (decide k) (decide f) dim ntok =
    if k then roundUp ntok (if k then 160 else 256) / 160 * (dim * ((if f then 4 else 8) * 20))
      else roundUp ntok (if k then 160 else 256) * codeStride dim (decide f) := by
  by_cases hk : k
  · simp [fetchSize, fetchPad, hk]
  · simp [fetchSize, fetchPad, hk]

/-- Settles O58: each of the five commands by the lemma on its body, in the cluster's trays as they stand when the unit begins. -/
theorem sparseAndAttentionCommandsRun : Obligations.SparseAndAttentionCommandsRun := by
  unfold Obligations.SparseAndAttentionCommandsRun
  intro s c h hw
  have hp := h.2.1
  have hkept := traysKept_begun s c
  have hset := sameSetup_begun s hp
  have hwb : (s.begun c).openCluster c.plate := State.openCluster_begun hp hw
  refine ⟨?_, ?_, ?_, ?_, ?_⟩
  · intro hopc hcols hcols256 halign hrows hrows256 hklen hklenMax hfmt hstride hact hsize hread hpacked hgroups hopen hhdr x hx hpass bs hbs hbody
      htable tbl htbl len hlen hin
    subst hx hbs hlen
    obtain ⟨-, -, -, hgr⟩ := s.begun_plate hp
    have hgroup : ((s.begun c).plate c.plate).group = (s.plate c.plate).group := funext fun k => congrArg (smapGet _ k) hgr
    have hhdrs := (hkept.firstFailed c).1
    have hcodes : (s.begun c).spmmCodes c tbl 0 = s.spmmCodes c tbl 0 := by rw [State.spmmCodes, State.spmmCodes, hkept.clBytes]
    have hbodyOk : bodyChecks ((s.begun c).tileHdrAt c) ((s.begun c).bytes (clAt c.plate c.trayAddr) ((s.begun c).tileHdrAt c).total) = none := by
      rw [hhdrs, hkept.clBytes]
      exact hbody
    have htbl2 : c.bits 16 0 2 = 2 → (s.begun c).a4gTable c.plate (c.bits 16 2 4) = .ok tbl := fun h2 => by
      rw [State.a4gTable_ok hp (hw _ rfl).1 (by rw [State.grainTop_unsplit (hw _ rfl).2]; exact htable h2), htbl, if_neg (not_not_intro h2)]
    obtain ⟨t, ht, hwork, hothers, hparts, ⟨hframe, hout, hflushed⟩, hone⟩ := State.succeeds_dodgeSpmm (tbl := tbl) hp (State.openCluster_whole hwb)
      (dodgeOk_of hrows hrows256 hcols hcols256 halign) hrows hrows256 hklen hklenMax hfmt hstride hact hsize hread hpacked hgroups
      ((groupsOpen_congr hgr c).trans hopen) hhdr (by rw [hhdrs]; exact hpass) rfl hbodyOk htbl2 (fun h2 => htbl.trans (if_pos h2)) hin
    rw [hgroup] at hone
    rw [hhdrs, hkept.clBytes, hcodes] at hone
    refine State.runs_intro _ h (by simp [plateRows]) hopc (by rw [bodyOf, hopc]; exact ht) (by rw [hframe]) (by rw [hframe]) hparts
      ⟨hwork, hothers, fun k hk => ?_, fun k hk g hg => ?_⟩
    · rw [hout k hk, hgroup]
    · obtain ⟨g', hg', hnarrow, hstrips, hwide⟩ := hflushed k g (by rw [hgroup]; exact hg)
      refine ⟨g', hg', hnarrow, hstrips, hwide, fun h1 j hj => ?_⟩
      rw [hone h1 k hk g g' hg hg' j hj, tileSum, State.spmmCodes, Nat.zero_mul, Nat.add_zero]
      rfl
  · intro hopc hrows hrows256 hcols hcols256 halign h16 hklen hklenMax hhdr hdest x hx f hf
    have hbody := State.succeeds_dodgeCheck hp (State.openCluster_whole hwb) (dodgeOk_of hrows hrows256 hcols hcols256 halign) h16 hklen hklenMax hhdr hdest
    refine State.runs_cluster _ h (by simp [plateRows]) hopc (by rw [bodyOf, hopc]; exact hbody) fun t hwork hV => ⟨hwork, ?_⟩
    obtain ⟨segs, hV⟩ := hV
    obtain ⟨hhdrs, hfirst⟩ := hkept.firstFailed c
    obtain rfl : f = s.firstFailed c := by rw [hf, hx]; rfl
    rw [hhdrs, hfirst] at hV
    obtain ⟨hstatus, hcheck, hoff, hnnz⟩ := checkRecord_fields ((s.firstFailed c).1 % 256, (s.firstFailed c).2) (s.tileHdrAt c).nnz segs
    have hle : ∀ i k, i + k ≤ 16 → _ := fun i k hi => State.le_of_bytes hV (i := i) (k := k) hi
    rw [hx, ← Nat.add_zero (clAt c.plate (c.le 16 4)), hle 0 2 (by decide), hle 2 1 (by decide), hle 4 4 (by decide), hle 8 4 (by decide)]
    exact ⟨hstatus, hcheck.trans (Nat.mod_mod ..), hoff, hnnz⟩
  · intro hopc n hn htok htokMax hhead hdim hdimMax htray h16 h24 hlist hpages pad hpad size hsize hcodes hscales htime
    obtain rfl : pad = fetchPad (decide (c.bits 22 0 1 = 1)) (c.bits 8 0 16) := by
      rw [hpad, fetchPad]
      simp only [decide_eq_true_eq]
    rw [hpad, ← fetchSize_decide] at hsize
    subst hsize
    have hn16 : n < 16 := hn ▸ h.2.2.1
    have hget : ∀ f : Fld, f.blk = .part ∧ f.off < 0x8000 ∧ f.stride = 0 → (s.begun c).get f n 0 = s.get f n 0 := fun f hf => hset.partGet hf hn16
    have hentry := hkept.pageEntry c
    have htimeB : (s.begun c).inTime c (c.le 28 4) (trayAddr c.plate 0) := by
      rw [State.inTime, hset.staticMode, s.begun_cycles hp]
      exact htime
    obtain ⟨t, ht, ⟨hwork, -⟩, hzero⟩ := State.succeeds_enlFetch (s0 := s) (n := n) hp hwb hn16 ((hset.ownerOf _).trans hn.symm) htok htokMax
      (by rw [hget _ (by decide)]; exact hhead) hdim (by rw [hget _ (by decide)]; exact hdimMax) htray h16 h24 hlist (keepsPages_begun s hp)
      (fun i hi => by rw [hentry]; exact hpages i hi) hcodes hscales htimeB
    have hplate : t.plate c.plate = (s.begun c).plate c.plate := congrArg (smapGet _ c.plate) (show t.plates = _ by rw [hwork.1])
    refine State.runs_intro _ h (by simp [plateRows]) hopc (by rw [bodyOf, hopc]; exact ht) (congrArg Plate.ctx hplate) (congrArg Plate.ended hplate)
      (by rw [hwork.1]) ⟨fun habs j hj => ?_, hwork⟩
    exact BitVec.eq_of_toNat_eq (hzero (fun i hi => (hentry i).trans (habs i hi)) j hj)
  · intro hopc hrows hrows256 hkeys hkeysMax htray h16 h20 h24 htau hst valid hvalid top htop hsheets hsc hprints sheet tile hsheet htile hsheetIn htileIn
    obtain rfl : valid = s.validKeys c := funext hvalid
    obtain rfl : sheet = s.sheetAt c := funext hsheet
    obtain rfl : tile = s.printAt c := funext htile
    subst htop
    have hin : s.DevelopIn c := ⟨hst, hsheets, hsc, hprints, hsheetIn, htileIn⟩
    have hbody := State.succeeds_enlDevelop hp hwb hrows hrows256 hkeys hkeysMax htray h16 h20 h24 htau (hkept.developIn hin)
    refine State.runs_cluster _ h (by simp [plateRows]) hopc (by rw [bodyOf, hopc]; exact hbody) fun t hwork hV => ⟨?_, fun i d hi hd => ?_⟩
    · rw [hkept.developDest] at hwork
      exact hwork
    · have hrow := hV i hi
      rw [hkept.developed, Nat.add_assoc, (clIn_sub hst (show 1 ≤ 12 by decide) (show 16 * i + 4 + 12 ≤ _ by omega)).2] at hrow
      have hle : ∀ j, j + 4 ≤ 12 → t.le (clAt c.plate (c.le 24 4) + 16 * i + (4 + j)) 4 = ofLe (((stateRow (s.developed c i)).drop j).take 4) := fun j hj => by
        rw [← Nat.add_assoc, Nat.add_assoc (clAt ..)]
        exact State.le_of_bytes hrow hj
      obtain ⟨hm, hl, hsp⟩ := stateRow_fields (s.developed c i)
      obtain rfl : d = s.developed c i := hd
      exact ⟨(hle 0 (by decide)).trans hm, (hle 4 (by decide)).trans hl, (hle 8 (by decide)).trans hsp⟩
  · intro hopc hrows hrows256 hcols hcols256 hnch hnch8 hofmt htray h16 h20 h24 htau hin out hout dest hdest hrowsIn
    obtain rfl : dest = mergeDest c := funext hdest
    subst hout
    have hbody := State.succeeds_enlMerge hp hwb hrows hrows256 hcols hcols256 hnch hnch8 hofmt htray h16 h20 h24 htau hin hrowsIn
    refine State.runs_cluster _ h (by simp [plateRows]) hopc (by rw [bodyOf, hopc]; exact hbody) fun t hwork hV => ⟨hwork, fun i hi => ?_⟩
    rw [hV i hi, hkept.mergedRow]
    rfl

end Sys2Proof.Machine
end
